-- ==== Sys2Proof/Syntax.lean ====
section
/-!
DEFINITION. The commands of the block: the rows of the table of operations and events, with the operands that each
takes from outside (a requester path, an index, a written value, a measured value, an answer of the host).
-/

namespace Sys2Proof

/-- The requester paths of register accesses: the host (PCIe), Apex firmware (R34), and the SMBus target (R35). -/
inductive Path where
  | host
  | apex
  | smbus
  deriving DecidableEq, Repr

/-- The class of a channel's input as its comparator shows it (R95). -/
inductive Class where
  | low | mid | high
  deriving DecidableEq, Repr

/-- What the comparator of a channel sees in one vector: its class at C1 and at C2, and whether it keeps one class from C1
to C2 (R95, R96). -/
structure Seen where
  channel : Nat
  c1      : Class
  c2      : Class
  steady  : Bool
  deriving DecidableEq, Repr

/-- The ECC result of a memory read (R14): no error, a corrected single-bit error, or a double-bit error. -/
inductive Ecc where
  | good | single | double
  deriving DecidableEq, Repr


/-- A memory of Lattice in which an event meets a double-bit ECC error (R238). -/
inductive LatEcc where
  | good | slot | cmap | collector
  deriving DecidableEq, Repr
/-- A command (R26 onward): one constructor per row of the table of operations and events. The first operand of each is the Axis
time, in stamp units of 1/256 tick, that has passed since the command before it. -/
inductive Instr where
  /-- POWER_ON (R434): VDD_AON comes up, island A leaves reset and the whole part takes its power-on reset state. -/
  | powerOn (dt : Nat)
  /-- VDD_AON_LOSS (R435): VDD_AON falls below 1.62 V, giving a power-on reset of the whole part that also clears the shutdown latch, SMB_CFG and THERM_N. -/
  | vddAonLoss (dt : Nat)
  /-- PERST_ASSERT (R70): PERST# has been low for 100 ns; the part enters RESET, supply gates switch off, a running NVM page program completes and an erase is suspended. -/
  | perstAssert (dt : Nat)
  /-- PERST_DEASSERT (R434): PERST# is released; if supplies are already good, release to BOOT follows. -/
  | perstDeassert (dt : Nat) (prof : Nat)
  /-- SUPPLIES_GOOD (R434): All eight monitors have been inside their windows for 1 ms with REFCLK present. -/
  | suppliesGood (dt : Nat) (prof : Nat)
  /-- RAIL_BROWNOUT (R435): A non-AON rail falls below 90 % of nominal; the part enters RESET as at PERST# while island A keeps its state. -/
  | railBrownout (dt : Nat)
  /-- SUPPLY_MONITOR_SAMPLE (R405): A supply monitor takes its 1 MS/s sample; after 16 consecutive samples outside the window it asserts its fault source. -/
  | supplyMonitorSample (dt : Nat) (rail : Nat) (mv : Int)
  /-- REFCLK_LOSS (R435): REFCLK stops and the Axis PLL loses lock, asserting the FATAL source AXIS_PLL. -/
  | refclkLoss (dt : Nat)
  /-- AXIS_PLL_LOCK (R107): The Axis PLL locks and the Axis count starts from zero with a ZERO pulse to every replica. -/
  | axisPllLock (dt : Nat)
  /-- LINK_DOWN (R281): A PCIe Hot Reset or link-down event acts as PERST#. -/
  | linkDown (dt : Nat)
  /-- BOOT_FINISHED (R71): The boot sequence completes and the part enters IDLE, or SAFE when no firmware verified or the escalation latch is set. -/
  | bootFinished (dt : Nat) (ofs : List Int)
  /-- APEX_WATCHDOG_EXPIRY (R404): The core watchdog expires; this acts as REBOOT in BOOT, and otherwise restarts the image and abandons the running mailbox command. -/
  | apexWatchdogExpiry (dt : Nat)
  /-- REGISTER_WRITE (R26): A write to a register field with no behaviour of its own is applied under its access type, width rules, guard and reserved-bit rules. -/
  | registerWrite (dt : Nat) (path : Path) (addr : Nat) (items : List (Nat × Nat))
  /-- UNIMPLEMENTED_ACCESS (R39): An access to an unimplemented address gets Unsupported Request or is discarded with an AER report, and is captured with cause UNIMPL. -/
  | unimplementedAccess (dt : Nat) (path : Path) (bar : Nat) (write : Bool) (addr : Nat) (be : Nat)
  /-- LOW_WORD_READ_LATCH (R36): A full-width read of the low word of a 64-bit RO or CT field latches the high word for that requester path. -/
  | lowWordReadLatch (dt : Nat) (path : Path) (addr : Nat)
  /-- RC_FIELD_READ (R26): A full-width read of an RC field returns the value and then clears the field. -/
  | rcFieldRead (dt : Nat) (path : Path) (addr : Nat) (bes : List Nat)
  /-- GLB_UPDATE_ARM (R29): A GLB_UPDATE write with CANCEL = 0 fixes T_app, clears the masked DONE bits and sets ARMED. -/
  | glbUpdateArm (dt : Nat) (path : Path) (mask : Nat) (timed : Bool)
  /-- GLB_UPDATE_CANCEL (R32): A GLB_UPDATE write with CANCEL = 1 accepted before T_app disarms the pending update. -/
  | glbUpdateCancel (dt : Nat) (path : Path)
  /-- UPDATE_APPLY (R29): At T_app every masked island copies its shadows to the active values, sets DONE, and sources 498 and 499 pend as they apply. -/
  | updateApply (dt : Nat)
  /-- GLB_UNLOCK (R34): A write of the key to GLB_UNLOCK opens the requester path's guard for its next write request. -/
  | glbUnlock (dt : Nat) (path : Path) (key : Nat)
  /-- SITE_TABLE_WRITE (R45): A write to the vertex, chord or die-type table sets DIRTY and ends any running CHECK or COMMIT with EDITED. -/
  | siteTableWrite (dt : Nat) (path : Path) (addr : Nat) (items : List (Nat × Nat))
  /-- SITE_CHECK (R44): A write of 1 to ARC_SITE_CTRL.CHECK starts the consistency checks on the edit copy. -/
  | siteCheck (dt : Nat) (path : Path)
  /-- SITE_COMMIT (R44): A write of 1 to ARC_SITE_CTRL.COMMIT starts the checks followed by a commit, or is refused by mode or a busy contact test. -/
  | siteCommit (dt : Nat) (path : Path)
  /-- SITE_CHECK_END (R57): A CHECK or COMMIT ends and writes ARC_SITE_STAT and ARC_SITE_ERR; source 270 pends. -/
  | siteCheckEnd (dt : Nat)
  /-- CONTACT_TEST (R60): A write of 1 to CONTACT in IDLE starts the contact test, forcing -100 uA on the tested channels. -/
  | contactTest (dt : Nat) (path : Path)
  /-- CONTACT_ABORT (R60): ARC_SITE_CTRL.ABORT ends a running contact test with RESULT = ABORTED. -/
  | contactAbort (dt : Nat) (path : Path)
  /-- CONTACT_TEST_END (R61): The contact readings are classified into ARC_CONTACT_RES, channels park, the RESULT is written and source 271 pends. -/
  | contactTestEnd (dt : Nat) (readings : List (Nat × Int))
  /-- VERTEX_INK (R52): A write of 1 to an ARC_INKED bit inks the vertex from that write onward. -/
  | vertexInk (dt : Nat) (path : Path) (v : Nat)
  /-- WALLCLOCK_WRITE (R55): A 64-bit write to ARC_WALLCLOCK stores the wall time and captures its acceptance stamp in ARC_WALLCLOCK_AT. -/
  | wallclockWrite (dt : Nat) (path : Path) (seconds : Nat)
  /-- STATUS (R81): The STATUS command returns GLB_MODE and APX_SAFE_CAUSE. -/
  | status (dt : Nat) (slot : Nat) (guarded : Bool) (seq : Nat) (args : List Nat)
  /-- GO_IDLE (R66): GO_IDLE drains HOST or AUTO towards IDLE, or wakes the part from DOZE. -/
  | goIdle (dt : Nat) (slot : Nat) (guarded : Bool) (seq : Nat) (args : List Nat)
  /-- GO_HOST (R65): GO_HOST moves the part from IDLE to HOST when VALID = 1. -/
  | goHost (dt : Nat) (slot : Nat) (guarded : Bool) (seq : Nat) (args : List Nat)
  /-- GO_AUTO (R65): GO_AUTO moves the part from IDLE to AUTO when VALID = 1 and the profile has a FLOW. -/
  | goAuto (dt : Nat) (slot : Nat) (guarded : Bool) (seq : Nat) (args : List Nat)
  /-- GO_DOZE (R68): GO_DOZE power-gates the facets and enters DOZE. -/
  | goDoze (dt : Nat) (slot : Nat) (guarded : Bool) (seq : Nat) (args : List Nat)
  /-- ENTER_SAFE (R330): ENTER_SAFE runs escalation steps 2-6 with cause COMMAND, without setting the FCL latch. -/
  | enterSafe (dt : Nat) (slot : Nat) (guarded : Bool) (seq : Nat) (args : List Nat)
  /-- CLEAR_SAFE (R67): CLEAR_SAFE leaves SAFE for IDLE if every recorded cause is gone, and otherwise returns BUSY. -/
  | clearSafe (dt : Nat) (slot : Nat) (guarded : Bool) (seq : Nat) (args : List Nat)
  /-- CLEAR_SHUTDOWN (R348): CLEAR_SHUTDOWN clears the shutdown latch and releases THERM_N when the temperature is below 110 C and the sensor is not frozen. -/
  | clearShutdown (dt : Nat) (slot : Nat) (guarded : Bool) (seq : Nat) (args : List Nat)
  /-- SELECT_PROFILE (R77): SELECT_PROFILE verifies a profile, resets the test-facing blocks and applies the profile's sections in IDLE. -/
  | selectProfile (dt : Nat) (slot : Nat) (guarded : Bool) (seq : Nat) (args : List Nat)
  /-- REBOOT (R70): REBOOT waits for the current NVM page program, then resets to RESET with the link and the Axis count kept. -/
  | reboot (dt : Nat) (slot : Nat) (guarded : Bool) (seq : Nat) (args : List Nat)
  /-- CALIBRATE (R360): CALIBRATE queues a calibration run of the selected facets, PMIs and kinds. -/
  | calibrate (dt : Nat) (slot : Nat) (guarded : Bool) (seq : Nat) (args : List Nat)
  /-- SELFTEST (R366): SELFTEST tests channels through the calibration bus against the electrical limits. -/
  | selftest (dt : Nat) (slot : Nat) (guarded : Bool) (seq : Nat) (args : List Nat)
  /-- LOG_COMPACT (R407): LOG_COMPACT writes the buffered log entries to NVM and erases the oldest sectors. -/
  | logCompact (dt : Nat) (slot : Nat) (guarded : Bool) (seq : Nat) (args : List Nat)
  /-- FW_STAGE_BEGIN (R417): The FW_STAGE BEGIN step erases the target firmware region and starts staging. -/
  | fwStageBegin (dt : Nat) (slot : Nat) (guarded : Bool) (seq : Nat) (slotB : Bool) (len : Nat)
  /-- FW_STAGE_CHUNK (R417): The FW_STAGE CHUNK step programs staged bytes at the next offset of the target slot. -/
  | fwStageChunk (dt : Nat) (slot : Nat) (guarded : Bool) (seq : Nat) (slotB : Bool) (off : Nat) (len : Nat)
  /-- FW_STAGE_COMMIT (R417): The FW_STAGE COMMIT step reads back, verifies the container and writes STAGED. -/
  | fwStageCommit (dt : Nat) (slot : Nat) (guarded : Bool) (seq : Nat) (slotB : Bool)
  /-- TRIM_REFRESH (R367): TRIM_REFRESH reloads the trims from the calibration record that boot would choose. -/
  | trimRefresh (dt : Nat) (slot : Nat) (guarded : Bool) (seq : Nat) (args : List Nat)
  /-- SEAL_OPEN (R423): SEAL op OPEN opens a lot and starts its result chain. -/
  | sealOpen (dt : Nat) (slot : Nat) (guarded : Bool) (seq : Nat) (id : Nat) (every : Nat)
  /-- SEAL (R425): SEAL op SEAL signs the current chain head into a seal container. -/
  | seal (dt : Nat) (slot : Nat) (guarded : Bool) (seq : Nat)
  /-- SEAL_CLOSE (R423): SEAL op CLOSE seals the chain and closes the lot. -/
  | sealClose (dt : Nat) (slot : Nat) (guarded : Bool) (seq : Nat)
  /-- ATTEST (R422): ATTEST writes a signed report that binds the given nonce to the part's state. -/
  | attest (dt : Nat) (slot : Nat) (guarded : Bool) (seq : Nat) (args : List Nat)
  /-- UNASSIGNED_OPCODE (R80): A mailbox submission with an unassigned opcode returns BAD_ARG. -/
  | unassignedOpcode (dt : Nat) (slot : Nat) (guarded : Bool) (opcode : Nat) (seq : Nat) (args : List Nat)
  /-- DRAIN_COMPLETE (R66): When no operation remains in flight during a drain, channels park, gates switch off and the mode becomes IDLE. -/
  | drainComplete (dt : Nat)
  /-- FLOW_RETURN (R66): The AUTO flow returns by itself; the drain runs, source 450 pends and the part enters IDLE. -/
  | flowReturn (dt : Nat)
  /-- FLOW_STOP_TIMEOUT (R420): A flow that has not returned 160,000,000 ticks after STOP is ended by firmware. -/
  | flowStopTimeout (dt : Nat)
  /-- OVERCURRENT_TRIP (R102): Driver current stays above the threshold for OC_FILTER ticks; the channel's OC bit sets and the channel parks. -/
  | overcurrentTrip (dt : Nat) (c : Nat)
  /-- OC_CLEAR (R104): A write of 1 to an FCT_OC_STAT bit clears it, and the channel re-takes its state at the next granule boundary. -/
  | ocClear (dt : Nat) (path : Path) (f : Nat) (word : Nat) (data : Nat)
  /-- CHANNEL_UNPARK (R86): At a granule boundary a released channel takes the state that the R86 table now gives. -/
  | channelUnpark (dt : Nat) (f : Nat)
  /-- PMU_START (R99): A write of 1 to START begins a PMU measurement's settling, or aborts at once outside the PMU state. -/
  | pmuStart (dt : Nat) (path : Path) (c : Nat) (data : Nat)
  /-- PMU_SETTLE_END (R99): The settling time has passed and the measurement joins its ADC's queue. -/
  | pmuSettleEnd (dt : Nat) (c : Nat)
  /-- PMU_MEASUREMENT_COMPLETE (R100): The ADC finishes a measurement's conversions; RESULT, flags and the DONE bit are written. -/
  | pmuMeasurementComplete (dt : Nat) (c : Nat) (conversions : List Int) (clamped : Bool)
  /-- PMU_ABORT (R100): ABORT ends the channel's measurement with ABORTED and sets DONE. -/
  | pmuAbort (dt : Nat) (path : Path) (c : Nat) (data : Nat)
  /-- PMU_CONFIG_WRITE (R98): A write to MODE, RANGE or FORCE takes effect at once and aborts a busy measurement. -/
  | pmuConfigWrite (dt : Nat) (path : Path) (c : Nat) (word : Nat) (data : Nat)
  /-- EPOCH_CHECK_PULSE (R110): At each check pulse every replica measures its error against the master. -/
  | epochCheckPulse (dt : Nat) (errs : List (Int × Bool))
  /-- REPLICA_RESYNC (R110): Once no bus phase runs, a replica with a count error is set to the master count and recalibrated. -/
  | replicaResync (dt : Nat) (k : Nat) (ofs : Int)
  /-- RECAL (R109): AXS_CTRL.RECAL in IDLE starts replica offset calibration. -/
  | recal (dt : Nat) (path : Path)
  /-- RECAL_DONE (R109): Replica offset calibration ends and RECAL_DONE sets. -/
  | recalDone (dt : Nat) (ofs : List Int)
  /-- SYNC_EPOCH_DETECT (R112): SYNC_IN is sampled high after two lows; the epoch is detected and its edge E fixed 128 ticks later. -/
  | syncEpochDetect (dt : Nat)
  /-- EPOCH_ZERO (R113): At E + D an armed epoch in IDLE or DOZE zeroes every count, or else is counted as ignored; source 501 pends. -/
  | epochZero (dt : Nat)
  /-- SYNC_ARM (R113): Setting AXS_SYNC_CFG.ARM lets the next epoch act. -/
  | syncArm (dt : Nat) (path : Path) (outMode : Nat)
  /-- SYNC_FIRE (R114): AXS_SYNC_FIRE in FIRE mode drives SYNC_OUT high for 4 REFCLK periods. -/
  | syncFire (dt : Nat) (path : Path)
  /-- RATE_CHANGE (R119): At the chosen granule boundary the facet switches period with a transition vector and a new origin. -/
  | rateChange (dt : Nat) (f : Nat)
  /-- ANCHOR_APPLY (R120): A deferred ANCHOR comes into use when the last bus phase on the facet ends. -/
  | anchorApply (dt : Nat) (f : Nat)
  /-- VECTOR_PLAY (R132): At each grid point a running ray plays one vector: it places edges, drives, compares and applies generator operations. -/
  | vectorPlay (dt : Nat) (f : Nat) (r : Nat) (seen : List Seen) (ecc : Ecc)
  /-- PHASE_START (R131): A facet takes Arc's phase start, loads parameters and gang, and arms the ray. -/
  | phaseStart (dt : Nat) (f : Nat) (k : Nat)
  /-- START_BOUNDARY (R131): At the start boundary an ARMED ray enters RUN with cleared counters and stacks. -/
  | startBoundary (dt : Nat) (f : Nat) (r : Nat)
  /-- JUMP (R147): An ARC_JREQ write with KIND JUMP stamps and latches a jump request for the chord. -/
  | jump (dt : Nat) (path : Path) (k : Nat) (vec : Nat) (at_ : Option Nat)
  /-- STOP (R147): An ARC_JREQ write with KIND STOP stamps and latches a stop request. -/
  | stop (dt : Nat) (path : Path) (k : Nat) (at_ : Option Nat)
  /-- ABORT (R147): An ARC_JREQ write with KIND ABORT stamps an abort request to every facet of the chord. -/
  | abort (dt : Nat) (path : Path) (k : Nat) (at_ : Option Nat)
  /-- JUMP_TAKEN (R147): At the due segment end the jump clears the stacks and continues at FCT_JVEC. -/
  | jumpTaken (dt : Nat) (f : Nat) (r : Nat)
  /-- STOP_TAKEN (R147): At the due segment end the phase ends with END_CAUSE STOP. -/
  | stopTaken (dt : Nat) (f : Nat) (r : Nat)
  /-- ABORT_TAKEN (R147): At the first granule boundary at or after T_req + 128 the phase ends with END_CAUSE ABORT. -/
  | abortTaken (dt : Nat) (f : Nat) (r : Nat)
  /-- GRANULE_DECISION (R152): At a decision point the availability of the next stream granule is decided, combined across facets. -/
  | granuleDecision (dt : Nat) (k : Nat)
  /-- FILL_END (R157): Fill ends and the ray goes IDLE with END_CAUSE UNDERFLOW or ERROR. -/
  | fillEnd (dt : Nat) (f : Nat) (r : Nat)
  /-- STREAM_PRODUCE (R149): A write to FCT_SQ_PROD makes new stream words available for DMA fetch. -/
  | streamProduce (dt : Nat) (path : Path) (f : Nat) (r : Nat) (prod : Nat)
  /-- STREAM_WORDS_ARRIVE (R149): DMA-fetched stream words land in the ray's queue. -/
  | streamWordsArrive (dt : Nat) (f : Nat) (r : Nat) (words : List Nat)
  /-- SQ_CFG_WRITE (R161): A write to FCT_SQ_CFG empties the queue and zeroes PROD, FETCHED and CONS, or is discarded while the ray is not IDLE. -/
  | sqCfgWrite (dt : Nat) (path : Path) (f : Nat) (r : Nat) (data : Nat)
  /-- MICROCODE_WRITE (R158): A write of doubleword 7 commits a staged microcode word, or the write is discarded while a ray runs. -/
  | microcodeWrite (dt : Nat) (path : Path) (f : Nat) (word : Nat) (dword : Nat) (data : Nat)
  /-- WG_START (R183): WG_CMD START arms the waveform generator for T_start or latches the start. -/
  | wgStart (dt : Nat) (path : Path) (f : Nat) (g : Nat) (timed : Bool)
  /-- WG_STOP (R183): WG_CMD STOP cancels an armed start or latches a stop at the end of the segment iteration. -/
  | wgStop (dt : Nat) (path : Path) (f : Nat) (g : Nat)
  /-- WG_HALT (R183): WG_CMD HALT holds the output at once and discards pending requests. -/
  | wgHalt (dt : Nat) (path : Path) (f : Nat) (g : Nat)
  /-- WG_PLAY_START (R183): At T_start an armed generator enters PLAY and records WG_STARTED_AT. -/
  | wgPlayStart (dt : Nat) (f : Nat) (g : Nat)
  /-- WG_OUTPUT_UPDATE (R184): Every 64 ticks the generator output is interpolated from the sample stream, entering HELD at the end. -/
  | wgOutputUpdate (dt : Nat) (f : Nat) (g : Nat) (ecc : Ecc)
  /-- WG_SEGMENT_END (R183): At the end of a segment iteration a latched START or STOP is taken. -/
  | wgSegmentEnd (dt : Nat) (f : Nat) (g : Nat)
  /-- WG_TS_APPLY (R185): A new TS comes into use when the position reaches the next 64-sample boundary. -/
  | wgTsApply (dt : Nat) (f : Nat) (g : Nat)
  /-- DESCRIPTOR_FETCH (R192): Arc fetches and validates the head descriptor of a command ring. -/
  | descriptorFetch (dt : Nat) (v : Nat) (data : List Byte) (ecc : Ecc)
  /-- NOT_BEFORE_REACHED (R194): Axis time reaches a descriptor's NOT_BEFORE and the vertex may leave WAIT. -/
  | notBeforeReached (dt : Nat) (v : Nat)
  /-- GATHER_CLOSE (R195): At the end of the regang window the gather closes and its vertices form a gang. -/
  | gatherClose (dt : Nat) (v : Nat) (joined : Bool)
  /-- ADMISSION (R194): The power governor grants a first phase's cost and the operation is admitted. -/
  | admission (dt : Nat) (v : Nat)
  /-- OPERATION_URGENT (R197): After 64 passes an operation becomes urgent, ARC_STARVE_COUNT increments and source 261 pends. -/
  | operationUrgent (dt : Nat) (v : Nat)
  /-- PHASE_ISSUE (R196): When the chord's bus is free, Arc issues the chosen phase's start to every facet of the chord. -/
  | phaseIssue (dt : Nat) (k : Nat)
  /-- START_WITHDRAW (R196): A facet not ARMED 64 ticks before the start boundary makes Arc withdraw and reissue the start with LATE_ARM. -/
  | startWithdraw (dt : Nat) (k : Nat)
  /-- HOLD_MAX_EXPIRY (R196): A phase held for template or grid beyond ARC_HOLD_MAX ends its operation with NO_START. -/
  | holdMaxExpiry (dt : Nat) (k : Nat)
  /-- POLL_ROUND_ISSUE (R199): ARC_START_LEAD before the earliest due time Arc issues a poll round for the chord's busy vertices. -/
  | pollRoundIssue (dt : Nat) (k : Nat)
  /-- PHASE_END (R203): Arc receives a phase's end and treats each gang vertex according to the governing END_CAUSE. -/
  | phaseEnd (dt : Nat) (k : Nat)
  /-- COMPARATOR_EDGE (R246): The TDC front end stamps a comparator transition and delivers it to Arc and the TDC units. -/
  | comparatorEdge (dt : Nat) (c : Nat) (edge : Nat)
  /-- BUSY_WINDOW_EXPIRY (R198): With no falling edge within ARC_BUSY_WB, the vertex is ready with NO_BUSY_EDGE. -/
  | busyWindowExpiry (dt : Nat) (v : Nat)
  /-- BUSY_TIMEOUT (R201): The busy deadline passes without ready; the operation completes TIMEOUT and TO_ACTION applies. -/
  | busyTimeout (dt : Nat) (v : Nat)
  /-- POWER_SETTLE_END (R191): A POWER operation completes PARAM1 ticks after its gate switched. -/
  | powerSettleEnd (dt : Nat) (v : Nat)
  /-- PMI_AVERAGE_END (R263): A TARGET 3 MEASURE window ends and the mean PMI value is reported. -/
  | pmiAverageEnd (dt : Nat) (v : Nat)
  /-- ARC_CANCEL (R207): A write of a tag to ARC_CANCEL completes every descriptor with that tag that is not admitted as CANCELLED. -/
  | arcCancel (dt : Nat) (path : Path) (tag : Nat)
  /-- ARC_REPLAY_GO (R204): A write of a chord number releases its waiting replay. -/
  | arcReplayGo (dt : Nat) (path : Path) (k : Nat)
  /-- VHOLD_CLEAR (R201): Clearing an ARC_VHOLD bit returns a HELD vertex to IDLE. -/
  | vholdClear (dt : Nat) (path : Path) (v : Nat)
  /-- RECOVERY_FAIL_CLEAR (R205): Clearing RECOVERY_FAIL makes Arc retry the chord's recovery with a fresh count of attempts. -/
  | recoveryFailClear (dt : Nat) (path : Path) (k : Nat)
  /-- FAIL_EVENT (R216): A fail event reaches the hub merger and, once merged, is accounted to its vertex's slot. -/
  | failEvent (dt : Nat) (f : Nat) (ecc : LatEcc)
  /-- MERGE_WINDOW_EXPIRY (R216): The 64-tick merge window of an event ends; later partners become separate events with SPLIT. -/
  | mergeWindowExpiry (dt : Nat) (ecc : LatEcc)
  /-- END_MARKER (R218): A facet's end-of-phase marker arrives with its per-vertex counts of lost events. -/
  | endMarker (dt : Nat) (f : Nat)
  /-- LATTICE_CLOSE (R224): Arc's close and the last end markers let Lattice form the verdict and write its close records. -/
  | latticeClose (dt : Nat) (v : Nat) (ecc : LatEcc)
  /-- LATTICE_CLOSE_COMPLETE (R237): SUMMARY is handed over and the close completes. -/
  | latticeCloseComplete (dt : Nat) (v : Nat)
  /-- LAT_CLEAR (R227): LAT_CLEAR START clears the column maps and/or bad-block counts of the vertex range. -/
  | latClear (dt : Nat) (path : Path) (columns : Bool) (blocks : Bool)
  /-- LAT_CLEAR_END (R227): The clear ends and source 292 pends. -/
  | latClearEnd (dt : Nat)
  /-- REPAIR_ANALYSIS (R231): LAT_RA_CMD START runs NAND or 2-D repair analysis over the range, or is refused. -/
  | repairAnalysis (dt : Nat) (path : Path) (kind : Nat) (plane : Nat) (tag : Nat)
  /-- REPAIR_ANALYSIS_ABORT (R231): LAT_RA_CMD ABORT stops the run after the current vertex or collector. -/
  | repairAnalysisAbort (dt : Nat) (path : Path) (kind : Nat) (plane : Nat) (tag : Nat)
  /-- REPAIR_VERTEX_DONE (R232): Analysis of one vertex or collector ends and its solution and REPAIR_RESULT records are written. -/
  | repairVertexDone (dt : Nat)
  /-- COLLECTOR_CLEAR (R230): LAT_COLL CLEAR empties both the working and committed states. -/
  | collectorClear (dt : Nat) (path : Path) (c : Nat)
  /-- CMAP_WINDOW_WRITE (R227): A write to the column-map window stores the entries, with same-cycle increments applied on top. -/
  | cmapWindowWrite (dt : Nat) (path : Path) (word : Nat) (data : Nat)
  /-- TDC_START (R249): TDC_CTRL START begins a run of N shots, or aborts outside HOST and AUTO. -/
  | tdcStart (dt : Nat) (path : Path) (f : Nat) (u : Nat) (n1 : Nat)
  /-- TDC_ABORT (R249): TDC_CTRL ABORT ends the run with statistics over the shots counted. -/
  | tdcAbort (dt : Nat) (path : Path) (f : Nat) (u : Nat)
  /-- TDC_SHOT_TIMEOUT (R248): No stop arrives within TDC_TIMEOUT; the shot is discarded and TIMEOUTS increments. -/
  | tdcShotTimeout (dt : Nat) (f : Nat) (u : Nat)
  /-- TDC_AXIS_EVENT (R245): An AXIS endpoint event occurs at ARG + k x TDC_INTERVAL. -/
  | tdcAxisEvent (dt : Nat) (f : Nat) (u : Nat) (stop : Bool)
  /-- RC_START (R253): RC_CTRL START schedules a regression-counter gate. -/
  | rcStart (dt : Nat) (path : Path) (f : Nat) (timed : Bool) (mMax : Nat)
  /-- RC_GATE_OPEN (R253): The gate opens and edges begin to be stamped. -/
  | rcGateOpen (dt : Nat) (f : Nat)
  /-- RC_GATE_END (R253): The gate ends and the run ends with END = GATE. -/
  | rcGateEnd (dt : Nat) (f : Nat)
  /-- RC_ABORT (R253): RC_CTRL ABORT ends the counter run with END = ABORTED. -/
  | rcAbort (dt : Nat) (path : Path) (f : Nat) (timed : Bool) (mMax : Nat)
  /-- PMI_SAMPLE (R261): A decimated PMI sample becomes available and feeds acquisition units and measurements. -/
  | pmiSample (dt : Nat) (n : Nat) (code : Int)
  /-- ADC_CONVERSION (R265): A held ADC converts the next CHMASK channel for its acquisition unit. -/
  | adcConversion (dt : Nat) (u : Nat) (value : Int) (clamped : Bool)
  /-- ACQ_ARM (R268): ARM takes buffer pages and starts FILL or STREAM, or is refused with ERR. -/
  | acqArm (dt : Nat) (path : Path) (u : Nat)
  /-- ACQ_STOP (R271): STOP ends a capture or stream with ENDED and delivers the stored items. -/
  | acqStop (dt : Nat) (path : Path) (u : Nat)
  /-- ACQ_SOFTWARE_TRIGGER (R269): A write of 1 to TRIG is a trigger stamped at acceptance. -/
  | acqSoftwareTrigger (dt : Nat) (path : Path) (u : Nat)
  /-- ACQ_AXIS_TRIGGER (R269): An AXIS trigger acts at ACQ_U_TRIG_AT. -/
  | acqAxisTrigger (dt : Nat) (u : Nat)
  /-- ACQ_REARM_END (R267): After HOLD with a free slot, a REPEAT unit refills. -/
  | acqRearmEnd (dt : Nat) (u : Nat)
  /-- ACQ_STREAM_FLUSH (R272): HOLD ticks after a STREAM block's first item, the block is delivered. -/
  | acqStreamFlush (dt : Nat) (u : Nat)
  /-- ACQ_BLOCK_DELIVERED (R273): An acquisition block is written to its destination and DEST_PROD advances. -/
  | acqBlockDelivered (dt : Nat) (u : Nat) (ecc : Ecc)
  /-- ACQ_DEST_CONS_WRITE (R273): Software advances DEST_CONS, freeing destination slots for waiting blocks. -/
  | acqDestConsWrite (dt : Nat) (path : Path) (u : Nat) (cons : Nat)
  /-- DOORBELL_COMMAND (R287): A doorbell write to a command ring sets a new PROD, adding or withdrawing entries. -/
  | doorbellCommand (dt : Nat) (path : Path) (v : Nat) (value : Nat) (be : Nat)
  /-- DOORBELL_OUTPUT (R287): A doorbell write to an output ring sets a new CONS, freeing entries. -/
  | doorbellOutput (dt : Nat) (path : Path) (v : Nat) (which : Nat) (value : Nat) (be : Nat)
  /-- RING_ENABLE (R290): Setting ENABLE checks the context; the ring enters RUN or CONFIG_ERR. -/
  | ringEnable (dt : Nat) (path : Path) (n : Nat) (data : Nat)
  /-- RING_DISABLE (R290): Clearing ENABLE discards spill, drops an unadmitted head descriptor and disables the ring. -/
  | ringDisable (dt : Nat) (path : Path) (n : Nat) (data : Nat)
  /-- RING_RETRY (R296): RNG_CTRL.RETRY retries a parked ring's failed access. -/
  | ringRetry (dt : Nat) (path : Path) (n : Nat) (data : Nat)
  /-- RECORD_HANDOVER (R297): A record is handed to the ring manager to be written, or spilled if the ring is parked. -/
  | recordHandover (dt : Nat) (n : Nat) (data : List Byte)
  /-- RECORD_WRITE_DONE (R286): A record's DMA write completes and the ring's PROD advances. -/
  | recordWriteDone (dt : Nat) (n : Nat)
  /-- WRITEBACK_TIMER (R288): 1,600 ticks after the last advance, a pending write-back is forced. -/
  | writebackTimer (dt : Nat) (n : Nat)
  /-- TRANSLATION_COMPLETION (R294): An ATS Translation Completion grants or refuses the needed access. -/
  | translationCompletion (dt : Nat) (page : Nat) (pages : Nat) (read : Bool) (write : Bool)
  /-- PAGE_RESPONSE (R295): A PRI Page Response retries translation, finalises the fault, or halts PRI. -/
  | pageResponse (dt : Nat) (page : Nat) (code : Nat)
  /-- INVALIDATE_REQUEST (R293): An ATS Invalidate Request removes the matching cache entries. -/
  | invalidateRequest (dt : Nat) (tag : Nat) (page : Nat) (pages : Nat)
  /-- INVALIDATE_COMPLETION (R293): After every access that used the entries has completed, the Invalidate Completion is sent. -/
  | invalidateCompletion (dt : Nat) (tag : Nat)
  /-- COMPLETION_ERROR (R293): A read ending in UR, CA or timeout parks its ring with cause COMPLETION. -/
  | completionError (dt : Nat) (n : Nat) (timeout : Bool)
  /-- PRI_RESTART (R295): DMA_PRI_RESTART ends a PRI halt if the PRI capability was reset. -/
  | priRestart (dt : Nat) (path : Path)
  /-- RETRY_AUX (R301): DMA_RETRY_AUX retries parked acquisition destinations or stream queues. -/
  | retryAux (dt : Nat) (path : Path) (acq : Bool) (sq : Bool)
  /-- COPY_START (R302): XFER_CTRL START copies column maps or pool pages to host memory. -/
  | copyStart (dt : Nat) (path : Path) (src : Bool)
  /-- COPY_ABORT (R302): XFER_CTRL ABORT ends the copy after the current page. -/
  | copyAbort (dt : Nat) (path : Path) (src : Bool)
  /-- COPY_END (R302): The copy ends and source 359 pends. -/
  | copyEnd (dt : Nat) (pages : Nat)
  /-- MSIX_ENABLE (R309): MSI-X and Bus Master Enable becoming 1 sends one message on each vector with groups offered. -/
  | msixEnable (dt : Nat) (msix : Bool) (funcMask : Bool) (busMaster : Bool) (ats : Bool) (pri : Bool) (alloc : Nat)
  /-- ICL_SOURCE_EVENT (R307): An interrupt source event or level change updates its pending state. -/
  | iclSourceEvent (dt : Nat) (n : Nat)
  /-- ICL_CLAIM (R310): A full-width read of ICL_CLAIM claims the next offered group or returns the spurious value. -/
  | iclClaim (dt : Nat) (path : Path) (t : Nat)
  /-- ICL_DONE (R312): A write to ICL_DONE completes a held group, re-sampling it and re-offering it if still pending. -/
  | iclDone (dt : Nat) (path : Path) (t : Nat) (g : Nat)
  /-- ICL_PEND_CLEAR (R311): A write of 1 to an edge bit of ICL_PEND clears it. -/
  | iclPendClear (dt : Nat) (path : Path) (g : Nat) (bits : Nat)
  /-- ICL_ONLINE_WRITE (R313): Changing ICL_ONLINE releases an offline target's groups and offers to online targets. -/
  | iclOnlineWrite (dt : Nat) (path : Path) (data : Nat)
  /-- ICL_MASK_WRITE (R308): A write to ICL_SRC_CFG recomputes offer sets, or with ENABLE = 0 clears the source's pending bit. -/
  | iclMaskWrite (dt : Nat) (path : Path) (n : Nat) (data : Nat)
  /-- ICL_SWSET (R316): ICL_SWSET acts as one event of the named edge source. -/
  | iclSwset (dt : Nat) (path : Path) (n : Nat)
  /-- FAULT_EVENT (R318): A fault line asserts; the event is classified, captured and acted on by severity. -/
  | faultEvent (dt : Nat) (n : Nat)
  /-- RAIL_FAULT (R320): A fault line's wires stay equal for more than two hub cycles, recording a RAIL event at ERROR. -/
  | railFault (dt : Nat) (n : Nat)
  /-- REACTION_COMPLETE (R325): A hardware reaction completes and source 438 pends. -/
  | reactionComplete (dt : Nat) (t : Nat)
  /-- PE_LINK_TRAINING_END (R325): A PE-link training attempt succeeds, releasing the park, or fails. -/
  | peLinkTrainingEnd (dt : Nat) (f : Nat) (ok : Bool)
  /-- PE_LINK_RETRAIN_TIMER (R325): After a third failure the link is retrained again every 1 ms. -/
  | peLinkRetrainTimer (dt : Nat) (f : Nat)
  /-- SHADOW_END (R328): 16,000 ticks after a reaction completes, its shadow ends. -/
  | shadowEnd (dt : Nat) (t : Nat)
  /-- GRACE_EXPIRY (R329): The grace timer expires without a valid ACK and escalation follows. -/
  | graceExpiry (dt : Nat)
  /-- FCL_ACK (R329): A write to FCL_ACK matching ERR_SEQ stops the grace timer, and otherwise sets ACK_REJ. -/
  | fclAck (dt : Nat) (path : Path) (seq : Nat)
  /-- FACET_RELEASE (R327): A write of 1 to an FCL_FPARK bit releases the parked facet at its next granule boundary. -/
  | facetRelease (dt : Nat) (path : Path) (mask : Nat)
  /-- ESC_CLEAR (R332): FCL_ESC.CLEAR clears the escalation latch in SAFE when no fault remains, or sets REFUSED. -/
  | escClear (dt : Nat) (path : Path)
  /-- FAULT_INJECT (R334): A guarded write to FCL_INJECT injects one event or rail fault into a source. -/
  | faultInject (dt : Nat) (path : Path) (source : Nat) (rail : Bool)
  /-- ALIVE_TOGGLE (R333): The ALIVE pin toggles at floor(k x P) ticks after T0. -/
  | aliveToggle (dt : Nat)
  /-- ALIVE_FREQ_WRITE (R333): A write changing FREQ starts a new toggle sequence from the current level. -/
  | aliveFreqWrite (dt : Nat) (path : Path) (freq : Nat)
  /-- FAULT_CONFIG_WRITE (R322): A write to N_M1, W or METHOD of a fault source discards its held counting stamps. -/
  | faultConfigWrite (dt : Nat) (path : Path) (n : Nat) (window : Bool) (data : Nat)
  /-- HIST_READ (R323): A full-width read of an FCL_HIST entry's first word marks the entry as read. -/
  | histRead (dt : Nat) (path : Path) (entry : Nat)
  /-- THERMAL_SAMPLE (R338): A junction temperature sample is taken, checked and used to evaluate the levels and the factor. -/
  | thermalSample (dt : Nat) (code : Int) (diode : Nat)
  /-- SHUTDOWN_DRAIN_END (R346): At T_d the remaining rays are cut and operations still in flight complete INTERRUPTED. -/
  | shutdownDrainEnd (dt : Nat)
  /-- SHUTDOWN_COMPLETE (R346): After the NVM settles, channels park and the part enters SAFE with cause SHUTDOWN. -/
  | shutdownComplete (dt : Nat)
  /-- THERMAL_UNFREEZE (R340): THM_CTRL.UNFREEZE ends the sensor freeze if the fault has been gone for 1 ms. -/
  | thermalUnfreeze (dt : Nat) (path : Path)
  /-- THM_CONFIG_WRITE (R341): A thermal level configuration write is accepted or discarded with CFG_BAD. -/
  | thmConfigWrite (dt : Nat) (path : Path) (throttle : Bool) (data : Nat)
  /-- CALIBRATION_STEP_END (R361): A step of a calibration or self-test run ends and the next step begins. -/
  | calibrationStepEnd (dt : Nat) (m : Nat) (data : List (Nat × List Int))
  /-- CAL_COMMIT_DONE (R361): The calibration record is committed and verified, or the run ends COMMIT_FAIL. -/
  | calCommitDone (dt : Nat) (ok : Bool)
  /-- CAL_ABORT (R368): CAL_CTRL.ABORT abandons the running CALIBRATE with no trim changed. -/
  | calAbort (dt : Nat) (path : Path)
  /-- TRIM_WRITE (R352): A trim write takes effect and sets MODIFIED, or is discarded during calibration. -/
  | trimWrite (dt : Nat) (path : Path) (addr : Nat) (data : Nat)
  /-- TRIM_REFRESH_READ_DONE (R367): The record read for TRIM_REFRESH completes and its trims are written. -/
  | trimRefreshReadDone (dt : Nat)
  /-- MAINTENANCE_DISPATCH (R369): The arbiter starts the oldest queued calibration-bus or NVM activity when its resource frees. -/
  | maintenanceDispatch (dt : Nat) (nvm : Bool)
  /-- SPN_XFER_START (R384): Host engine START runs one serial transfer on SS1-SS3, or ends REFUSED. -/
  | spnXferStart (dt : Nat) (path : Path) (data : Nat)
  /-- SPN_XFER_ABORT (R382): Engine ABORT completes the current byte and releases the select. -/
  | spnXferAbort (dt : Nat) (path : Path) (data : Nat)
  /-- SPN_TRANSFER_END (R377): A serial transfer ends with its RESULT and the next requester is served. -/
  | spnTransferEnd (dt : Nat) (edge : Bool) (status : List Byte) (data : List Byte)
  /-- SPN_BUSY_POLL (R384): Every POLL_INT SCK periods a status read checks whether the device is ready. -/
  | spnBusyPoll (dt : Nat) (k : Nat) (status : Nat)
  /-- XIP_READ (R385): A window read is translated into a serial read transfer. -/
  | xipRead (dt : Nat) (host : Bool) (k : Nat) (addr : Nat) (len : Nat)
  /-- XIP_HOST_TIMEOUT (R389): A BAR4 read that has waited HOST_WAIT completes with Completer Abort. -/
  | xipHostTimeout (dt : Nat)
  /-- XIP_WRITE (R386): An Apex window write gathers bytes into the page buffer. -/
  | xipWrite (dt : Nat) (k : Nat) (addr : Nat) (bytes : List Byte)
  /-- XIP_FLUSH (R386): SPN_XIP_FLUSH flushes the gathered page as WREN and a page program. -/
  | xipFlush (dt : Nat)
  /-- XIP_FLUSH_TIMER (R386): 16,000 ticks after the last gathered write, the buffer is flushed. -/
  | xipFlushTimer (dt : Nat)
  /-- NVM_PROGRAM_TIMEOUT (R387): A page program not ready within 5 ms fails with WR_FAIL and NVM_PROG. -/
  | nvmProgramTimeout (dt : Nat) (k : Nat)
  /-- ERASE_TIMEOUT (R387): An erase not ready within ERASE_MAX ms fails and asserts NVM_ERASE. -/
  | eraseTimeout (dt : Nat) (k : Nat)
  /-- ERASE_RESUME (R388): Once no window read is waiting, an erase suspended for reads is resumed. -/
  | eraseResume (dt : Nat) (k : Nat)
  /-- SMBUS_PAGE_SELECT (R393): A Send Byte to ADDR + 1 selects the SMBus register page. -/
  | smbusPageSelect (dt : Nat) (addr : Nat) (page : Nat) (code : Nat)
  /-- SMBUS_PAGE_READ (R393): A Receive Byte from ADDR + 1 returns the page in force. -/
  | smbusPageRead (dt : Nat) (addr : Nat)
  /-- SMBUS_WRITE (R395): An SMBus write transaction stages bytes and writes each doubleword when byte 3 arrives. -/
  | smbusWrite (dt : Nat) (addr : Nat) (cmd : Nat) (bytes : List Nat) (code : Nat) (ended : Bool)
  /-- SMBUS_READ (R395): An SMBus read transaction returns page bytes through the latching staging. -/
  | smbusRead (dt : Nat) (addr : Nat) (cmd : Nat) (n : Nat)
  /-- SMBUS_CLOCK_TIMEOUT (R443): SMB_CLK held low for 25 ms resets the interface and discards staged bytes. -/
  | smbusClockTimeout (dt : Nat)
  /-- ALERT_RESPONSE (R398): A read of the Alert Response Address returns ADDR and releases SMB_ALERT_N. -/
  | alertResponse (dt : Nat)
  /-- KEY_ENROL (R412): A guarded APX_KEY_ENROL GO burns an owner key hash into an OTP slot. -/
  | keyEnrol (dt : Nat) (path : Path) (slot : Nat)
  /-- KEY_ENROL_END (R412): The burn ends, APX_KEY_STAT.RESULT is set and source 458 pends. -/
  | keyEnrolEnd (dt : Nat) (ok : Bool)
  /-- LOG_COMPACT_AUTO (R407): Firmware starts LOG_COMPACT itself at 128 buffered entries or 1 s after the oldest. -/
  | logCompactAuto (dt : Nat)
  /-- SEAL_WRITTEN (R425): A seal container is signed into the seal window, SEAL_PROD increments and source 452 pends. -/
  | sealWritten (dt : Nat)
  /-- EXTEST (R444): JTAG EXTEST drives the boundary register while PERST# is asserted. -/
  | extest (dt : Nat) (sampled : List Bool) (bits : List Bool)
  /-- IDCODE (R444): JTAG IDCODE selects the identification register. -/
  | idcode (dt : Nat)
  /-- SAMPLE_PRELOAD (R444): JTAG SAMPLE/PRELOAD samples or loads the boundary register. -/
  | samplePreload (dt : Nat) (sampled : List Bool) (bits : List Bool)
  /-- HIGHZ (R444): JTAG HIGHZ puts the boundary outputs at high impedance while PERST# is asserted. -/
  | highz (dt : Nat) (bits : List Bool)
  /-- CLAMP (R444): JTAG CLAMP holds the boundary outputs with bypass selected while PERST# is asserted. -/
  | clamp (dt : Nat) (bits : List Bool)
  /-- EXTEST_PULSE (R444): JTAG EXTEST_PULSE runs IEEE 1149.6 pulse testing on the PCIe balls. -/
  | extestPulse (dt : Nat) (sampled : List Bool) (bits : List Bool)
  /-- EXTEST_TRAIN (R444): JTAG EXTEST_TRAIN runs IEEE 1149.6 train testing on the PCIe balls. -/
  | extestTrain (dt : Nat) (sampled : List Bool) (bits : List Bool)
  /-- BYPASS (R444): JTAG BYPASS, or any unlisted code, selects the bypass register. -/
  | bypass (dt : Nat) (code : Nat) (bits : List Bool)
  /-- FAULT_LINE_DEASSERT (R318): A fault source's valid line returns from asserted to deasserted, clearing its FCL_ACTIVE bit and re-enabling its next event. -/
  | faultLineDeassert (dt : Nat) (n : Nat)
  /-- RAIL_WIRES_DIFFER (R320): The two wires of a source with a rail fault differ again, so its FCL_RAIL bit clears and the line is no longer held. -/
  | railWiresDiffer (dt : Nat) (n : Nat)
  /-- MSIX_UNMASK (R309): The host clears the mask of an MSI-X vector or the function mask, and a held message is sent. -/
  | msixUnmask (dt : Nat) (vector : Option Nat)
  /-- LINK_UP (R281): The PCIe link finishes training at x16, x8 or x4, DMA_LINK_STAT.UP sets and waiting transfers may proceed. -/
  | linkUp (dt : Nat) (speed : Nat) (width : Nat)
  /-- PRI_CAPABILITY_RESET (R295): The host writes 1 to the PRI capability's Reset bit while its Enable bit is 0, which lets a later DMA_PRI_RESTART end a PRI halt. -/
  | priCapabilityReset (dt : Nat)
  deriving DecidableEq, Repr

end Sys2Proof
end

