-- ==== Sys2Proof/Config.lean ====
section
/-!
DEFINITION. What an implementation fixes and the free values: constants with no body, so that nothing proved can rest
on any number they might be. Each stands for values that the spec leaves open.
-/

namespace Sys2Proof

/-- The values of the reserved bits of a register of the CJ2048, read for the n-th time (R40). (Log: 9 DESIGN CHOICE) -/
opaque Config.reservedBits : Nat → Nat

/-- The n-th value that the spec leaves open where a command needs one; each use says what it stands for. -/
opaque Config.freeValue : Nat → Nat

/-- The start of `n` contiguous pages among the `k` starts that are possible, as an index below `k`; the spec does not say
which the part takes (R292). (Log: 106 DESIGN CHOICE) -/
opaque Config.pageChoice : Nat → Nat → Nat

/-- Whether a signature is valid under a public key: the ECDSA check of R409 over a curve that the spec names only by its
standard. (Log: 10 DESIGN CHOICE) -/
opaque Config.signatureValid : List Byte → List Byte → List Byte → Bool

/-- The signature that the device identity key makes over a digest (R409). (Log: 10 DESIGN CHOICE) -/
opaque Config.deviceSignature : List Byte → List Byte

end Sys2Proof
end

