-- ==== Sys2Proof/Machine/State.lean ====
section
/-!
DEFINITION. The state of the block as plain data: its registers, memories, pins, the hidden state of its engines, the
messages it has sent and the queue of waiting commands; why a command can stop; and the state right after reset.
-/

namespace Sys2Proof.Machine

/-! ## Places in the register map -/

/-- A block of the register map (R25). -/
inductive Blk where
  | glb | icl | fcl | thm | axs | apx | spn | cal | rng | dma | arc | lat | sit | acq | fct
  deriving DecidableEq, Repr

/-- The access type of a field (R26); `cts` is a CT field that saturates. -/
inductive Acc where
  | rw | ro | wo | w1c | w1s | rc | hc | sh | ct | cts | gd
  deriving DecidableEq, Repr

/-- One field of a register row: its name, lowest bit, width, access type and reset value. -/
structure FieldRow where
  name : String
  lo   : Nat
  w    : Nat
  acc  : Acc
  rst  : Nat
  deriving DecidableEq, Repr

/-- One row of the register map: a register, a 64-bit pair, or an array of either. -/
structure RegRow where
  name   : String
  off    : Nat
  quad   : Bool
  dims   : List (Nat × Nat)
  fields : List FieldRow
  deriving DecidableEq, Repr

/-- A field as a place: the BAR0 address of its register, its lowest bit and its width. -/
structure Fld where
  addr : Nat
  lo   : Nat
  w    : Nat
  deriving DecidableEq, Repr

/-! ## Sparse data -/

/-- A sparse map from numbers, sorted by key, listing no entry equal to the map's default. -/
abbrev Store (α : Type) := List (Nat × α)

/-- A byte memory: the bytes that differ from what an unlisted address reads as. -/
abbrev Mem := List Host.Cell

/-! ## What the part sends -/

/-- A message on one of the part's ports. -/
inductive Msg where
  /-- The MSI-X message of a vector (R309). -/
  | msix (vector : Nat)
  /-- Data returned for a read of a register: the path, the BAR0 address, and the bytes enabled. -/
  | readData (path : Path) (addr value : Nat)
  /-- A read completed with Unsupported Request (R39). -/
  | unsupported (addr : Nat)
  /-- A read completed with Completer Abort (R389). -/
  | abortRead (addr : Nat)
  /-- A non-fatal error reported through AER (R39). -/
  | aer
  /-- A bus error given to Apex firmware (R39). -/
  | busError (addr : Nat)
  /-- A write to host memory. -/
  | hostWrite (addr : Nat) (data : List Byte)
  /-- A read request to host memory. -/
  | hostRead (addr len : Nat)
  /-- A Translation Request for a page (R293). -/
  | translation (page : Nat)
  /-- A Page Request for a page (R295). -/
  | pageRequest (page : Nat)
  /-- An Invalidate Completion (R293). -/
  | invalidateDone (tag : Nat)
  /-- SYNC_OUT driven high for 4 REFCLK periods from a stamp (R114). -/
  | syncOut (at_ : Nat)
  /-- Bytes driven on the serial port under a select (R379). -/
  | serial (sel : Nat) (out : List Byte)
  /-- Bytes that the SMBus target drives (R393). -/
  | smbus (out : List Byte)
  /-- The SMBus target does not acknowledge. -/
  | smbusNack
  /-- An edge placed on a channel: D1, D2, DX, C1 or C2 as 0 to 4, at a ball time in stamp units (R124). -/
  | edge (channel kind : Nat) (at_ : Int)
  /-- Data returned for a window read: the path, the select, the address and the bytes (R385). -/
  | windowData (path : Path) (sel addr : Nat) (data : List Byte)
  /-- Bits shifted out on TDO. -/
  | tdo (bits : List Bool)
  deriving DecidableEq, Repr

/-! ## Interrupt controller -/

/-- A group that a target holds: the owner, and the snapshot of its level sources (R310, R311). -/
structure Held where
  owner : Nat
  snap  : Nat
  deriving DecidableEq, Repr

/-- What the interrupt controller and the MSI-X capability hold beside their registers. -/
structure IclState where
  /-- The groups held, by number (R308). -/
  held     : Store (Option Held)
  /-- Each target's claim pointer (R310). -/
  pointer  : Store Nat
  /-- MSI-X Enable and Function Mask of the MSI-X capability, and Bus Master Enable (R309). -/
  msixOn   : Bool
  funcMask : Bool
  busMaster : Bool
  /-- The vectors whose messages wait while the PCIe link is retrained, oldest first (R326). -/
  waiting  : List Nat
  deriving DecidableEq, Repr

/-! ## Rings and DMA -/

/-- A record handed to the ring manager: its bytes, the spill page that holds it, if it is in spill (R297), and its vertex's
result number at the handover, which tells the operation of a fail record (R300). A spilled record without a page is in its
vertex's slot of the result reserve (R300). -/
structure Rec where
  data : List Byte
  page : Option Nat
  seq  : Nat
  deriving DecidableEq, Repr

/-- Where the transfer at the head of a ring stands: none, waiting for a translation, or issued. -/
inductive Xfer where
  | idle | translating | issued
  deriving DecidableEq, Repr

/-- What the ring manager holds of a ring beside its context (R286 to R300). -/
structure RingState where
  /-- Records handed over and not yet written, oldest first. -/
  queue    : List Rec
  xfer     : Xfer
  /-- Records in spill, oldest first. -/
  spill    : List Rec
  /-- The first fail record next written carries OVERFLOW (R300). -/
  overflow : Bool
  /-- Index advances not yet reported by a write-back, and the time of the last. -/
  unreported : Nat
  lastAdvance : Nat
  /-- A write-back whose translation is awaited or has faulted. -/
  wbHeld   : Bool
  deriving DecidableEq, Repr

/-- An entry of the translation cache: the pages it covers and the access it grants (R293). -/
structure CacheEntry where
  page  : Nat
  pages : Nat
  read  : Bool
  write : Bool
  target : Nat
  deriving DecidableEq, Repr

/-- Something whose host accesses are translated: a ring, a ring's write-back, a stream queue, an acquisition
destination, or the copy engine. -/
inductive Requester where
  | ring (n : Nat)
  | writeBack (n : Nat)
  | stream (f r : Nat)
  | acq (u : Nat)
  | copy
  deriving DecidableEq, Repr

/-- A requester that waits for the translation of a page. -/
structure Waiter where
  who   : Requester
  page  : Nat
  write : Bool
  deriving DecidableEq, Repr

/-- A spill page: the bytes taken in it and the records in it that are still held (R297). -/
structure SpillPage where
  fill : Nat
  live : Nat
  deriving DecidableEq, Repr

/-- The park of a stream queue, an acquisition destination or the copy engine (R301): the cause and the address. -/
structure AuxPark where
  cause : Nat
  addr  : Nat
  deriving DecidableEq, Repr

/-- An answer of the host about a page, which DOZE keeps (R305): a Translation Completion with its page, the pages it covers
and the access it grants, or a Page Response with its code. -/
inductive HostAnswer where
  | translated (page pages : Nat) (read write : Bool)
  | paged (page code : Nat)
  deriving DecidableEq, Repr

/-- What the DMA engine holds beside its registers. -/
structure DmaState where
  rings    : Store RingState
  /-- The translation cache, least recently used first. -/
  cache    : List CacheEntry
  /-- Requesters whose Translation Request is outstanding. -/
  waiters  : List Waiter
  /-- Invalidate Requests whose completion is still owed: tag, first page and pages. -/
  owed     : List (Nat × Nat × Nat)
  /-- Pages whose Translation Request has been sent. -/
  requested : List Nat
  /-- Pages whose Page Request is outstanding, and pages that wait for one to be allowed. -/
  asked    : List Nat
  toAsk    : List Nat
  /-- The Outstanding Page Request Allocation of the PRI capability. -/
  priAlloc : Nat
  /-- The PRI capability was reset since the halt (R295). -/
  priReset : Bool
  /-- Pool pages taken, by page number. -/
  taken    : Store Bool
  spillPages : Store SpillPage
  spillPage : Option Nat
  /-- Parks of requesters without a ring context. -/
  sqPark   : Store (Option AuxPark)
  acqPark  : Store (Option AuxPark)
  copyPark : Option AuxPark
  /-- The next page of the copy that runs, its last, and whether it is to stop after the current page. -/
  copyNext : Nat
  copyEnd  : Nat
  copyStop : Bool
  /-- Requesters that retry their access after a Page Response of Success (R295). -/
  priRetry : List Requester
  /-- Answers that came in DOZE, oldest first. -/
  kept     : List HostAnswer
  deriving DecidableEq, Repr

/-! ## Apex -/

/-- An entry of the event log before it is numbered and written (R406). -/
structure LogEntry where
  type : Nat
  arg  : Nat
  at_  : Nat
  data : List Byte
  deriving DecidableEq, Repr

/-- A command latched from a mailbox slot (R79). -/
structure Cmd where
  slot   : Nat
  opcode : Nat
  seq    : Nat
  args   : List Nat
  /-- The host guard was open for the doorbell write (R80). -/
  guarded : Bool
  deriving DecidableEq, Repr

/-- The lot that is open: its identity, automatic seal interval, opening stamp and chain head (R423, R424). -/
structure Lot where
  id     : Nat
  every  : Nat
  openAt : Nat
  head   : List Byte
  deriving DecidableEq, Repr

/-- A seal that is being signed: its payload, and the command that waits for it (R425). -/
structure SealJob where
  payload : List Byte
  cmd     : Option Cmd
  deriving DecidableEq, Repr

/-- What Apex firmware remembers of what it runs (R414 to R422): whether the running slot still has to be confirmed, the
hashes of the running firmware container, of the active profile and of the calibration record in force, whether the
profile has a FLOW, and its AUTORUN flag. -/
structure Running where
  confirm : Bool
  image   : List Byte
  profile : List Byte
  record  : List Byte
  flow    : Bool
  auto    : Bool
  deriving DecidableEq, Repr

/-- What Apex holds beside its registers. -/
structure ApexState where
  /-- Commands submitted and not yet answered, in the order of their GO writes (R79). -/
  waiting   : List Cmd
  /-- Commands answered QUEUED whose final status is still owed. -/
  jobs      : List Cmd
  /-- The buffered log entries with their numbers, the time of the oldest, and the entries lost since the last LOSS
  entry (R407). -/
  log       : List (Nat × LogEntry)
  logOldest : Nat
  logLoss   : Nat
  lot       : Option Lot
  /-- The seals captured and not yet written, the one being signed first (R425). -/
  sealing   : List SealJob
  run       : Running
  /-- A REBOOT waits for a page program to end (R70). -/
  reboot    : Bool
  /-- When the flow must have returned, in the model's running time, once STOP is set (R420). -/
  flowBy    : Nat
  /-- When BOOT began, and the key slot that is being burned (R412). -/
  bootAt    : Nat
  enrol     : Option Nat
  deriving DecidableEq, Repr

/-! ## Fault collector -/

/-- An event waiting to be classified: the source, whether it is a rail fault, whether it was injected (R318, R320,
R334). -/
structure FaultEvent where
  source   : Nat
  rail     : Bool
  injected : Bool
  deriving DecidableEq, Repr

/-- What the fault collector holds beside its registers. -/
structure FclState where
  /-- Events taken from the lines and not yet classified, oldest first. -/
  raised    : List FaultEvent
  /-- The level that a source's owner drives, for each source whose line a rail fault holds (R320). -/
  lines     : Store Bool
  /-- The stamps held for each source by the counting method (R322). -/
  stamps    : Store (List Nat)
  /-- The HISTORY entries that have been read since their event (R323). -/
  readMask  : Nat
  /-- When the grace timer expires, in the model's running time, and the event that started it (R329). -/
  graceEnd  : Nat
  graceBy   : Nat
  graceInj  : Bool
  /-- Reactions that run, by target as FCL_SHADOW numbers them, each as the bit of its REACT code. -/
  reacting  : Store Nat
  /-- When each target's shadow ends, once its reaction has completed (R328). -/
  shadowEnd : Store Nat
  /-- Trainings that failed in a row on each facet's link (R325). -/
  trainings : Store Nat
  /-- Facets whose park a training that succeeds releases by itself. -/
  selfFree  : Store Bool
  /-- The ALIVE sequence: its start in the model's running time, and the toggles made (R333). -/
  aliveFrom : Nat
  aliveCount : Nat
  aliveRuns : Bool
  deriving DecidableEq, Repr

/-! ## Axis -/

/-- What the Axis master and the replicas hold beside their registers. -/
structure AxisState where
  /-- A replica offset calibration runs (R109). -/
  calibrating : Bool
  /-- Islands whose error at the last check pulse was beyond 4 units (R110). -/
  bigLast  : Nat
  /-- OFS moves of facet islands that wait for a granule boundary (R110). -/
  moves    : Store Int
  /-- The stamp E of a detected epoch that has not come about yet (R112). -/
  epoch    : Option Nat
  deriving DecidableEq, Repr

/-! ## Facets -/

/-- What a channel drives (R94): nothing, VIL, VIH, or VT through its termination. -/
inductive Drive where
  | off | low | high | term
  deriving DecidableEq, Repr

/-- An open loop: the first and last words of its body, the count left, and whether it lies in the stream (R141). -/
structure Loop where
  first : Nat
  last  : Nat
  left  : Nat
  inStream : Bool
  deriving DecidableEq, Repr

/-- A jump, stop or abort request with its stamp (R147): kind 0 JUMP, 1 STOP, 2 ABORT, and its origin for ties, 0 Arc, 1
timed, 2 host. -/
structure Request where
  kind   : Nat
  vec    : Nat
  treq   : Nat
  origin : Nat
  deriving DecidableEq, Repr

/-- The stream block being played (R150): the queue index of its header, its words, vectors and FINAL bit, and the VCOUNT
at its start. -/
structure Block where
  header  : Nat
  words   : Nat
  vectors : Nat
  final   : Bool
  start   : Nat
  deriving DecidableEq, Repr

/-- The phase that a ray has been given. -/
structure RayPhase where
  /-- The gang in its order (R143), and each member's select code. -/
  gang   : List Nat
  codes  : List Nat
  /-- The routine, and the phase's kind for fail events: 0 main, 1 out, 2 poll, 3 recovery (R216). -/
  routine : Nat
  kind   : Nat
  /-- The start boundary, as a grid index, the entry address, and the number of the phase among all phases. -/
  start  : Nat
  entry  : Nat
  serial : Nat
  /-- The last start was refused with NO_ENTRY (R131). -/
  refused : Bool
  /-- A compare of the phase has failed (R139). -/
  failed : Bool
  /-- Status bytes captured by the last GANG word that was played, by gang position (R200). -/
  status : List Nat
  /-- A GAP or a taken jump in this phase (R203). -/
  gapSeen : Bool
  jumped : Bool
  /-- Fail events dropped in this phase, by vertex (R217). -/
  dropped : Store Nat
  /-- LFSR states by gang position (R164). -/
  lfsr   : Store Nat
  deriving DecidableEq, Repr

/-- Where a ray stands in its words (R139 to R142, R150). -/
structure RayFetch where
  /-- Open loops, innermost first, and the return addresses of calls with whether they lie in the stream. -/
  loops  : List Loop
  calls  : List (Nat × Bool)
  /-- Vectors played of the current word, and VCOUNT at the segment's start. -/
  played : Nat
  segAt  : Nat
  block  : Option Block
  /-- The microcode address that follows the STRM word, and the queue index of the next block's header. -/
  ret    : Nat
  header : Nat
  deriving DecidableEq, Repr

/-- What a ray holds beside its registers. -/
structure Ray extends RayPhase, RayFetch where
  /-- The grid index of the next vector. -/
  index  : Nat
  /-- Vectors left of a fill, a hold granule or PAD, and the error that a fill ends with (0: underflow). -/
  left   : Nat
  err    : Nat
  /-- Hold granules of the gap that runs (R153). -/
  gap    : Nat
  /-- Whether the boundary that ends the last vector is stall-safe (R137), and when the current granule of routine vectors
  started (R145). -/
  safe   : Bool
  granuleAt : Nat
  /-- The latest decision (R152): the VCOUNT at which the granule starts, and whether it is available. -/
  ready  : Option (Nat × Bool)
  /-- A latched JUMP or STOP, whether it is due or late, and a pending ABORT (R147, R148). -/
  latched : Option Request
  due    : Bool
  late   : Bool
  abort  : Option Nat
  /-- When the last phase ended. -/
  endAt  : Nat
  deriving DecidableEq, Repr

/-- A rate change that waits for its boundary (R119): the update's instant, or none for a Locus select; and the entry. -/
structure RateDue where
  tapp  : Option Nat
  entry : Nat
  deriving DecidableEq, Repr

/-- A transition vector (R119): the grid index of its vector on the old grid, its start, and the start of the next
vector. -/
structure Transition where
  start : Nat
  next  : Nat
  deriving DecidableEq, Repr

/-- A fail event (R216): the phase's number and kind, and when it reached the facet's queue. -/
structure FailEvent where
  vertex : Nat
  kind   : Nat
  vcount : Nat
  beat   : Nat
  mask   : Nat
  serial : Nat
  at_    : Nat
  /-- `at_` was taken in a facet whose time is suspect (R111). -/
  suspect : Bool
  deriving DecidableEq, Repr

/-- What a facet sends to the hub in order (R217, R218): fail events, and the end marker of a phase with the events lost of
each gang vertex. -/
inductive HubItem where
  | event (e : FailEvent)
  | marker (chord serial : Nat) (lost : List (Nat × Nat))
  deriving DecidableEq, Repr

/-- A phase start that Arc has sent to a facet (R131): the gang with its codes, the start boundary as a grid index, the
phase's kind (R216) and its number. -/
structure PhaseStart where
  chord   : Nat
  routine : Nat
  gang    : List Nat
  codes   : List Nat
  params  : List Nat
  start   : Nat
  kind    : Nat
  serial  : Nat
  deriving DecidableEq, Repr

/-- What a facet holds beside its registers. -/
structure Facet where
  /-- The grid in use: the period in 2^-24 tick, the origin, and the anchor (R116, R118, R120). -/
  period : Nat
  origin : Nat
  anchor : Nat
  due    : Option RateDue
  trans  : Option Transition
  /-- Words of timing settings as they stood before an update that waits for a granule boundary, and its instant. -/
  older  : List (Nat × Word64)
  olderAt : Nat
  /-- Channels released since they were last parked, as a mask (R86). -/
  awake  : Nat
  /-- Doublewords 0 to 6 of the microcode word being written (R158). -/
  staging : List Nat
  /-- Correctable errors of the facet's memories (R14). -/
  corrected : Nat
  /-- Phase starts that have not been taken, oldest first. -/
  inbox  : List PhaseStart
  /-- Events and end markers on their way to the hub, oldest first (R217). -/
  queue  : List HubItem
  deriving DecidableEq, Repr

/-- Where a PMU measurement stands (R99). -/
inductive PmuStage where
  | idle | settling | queued
  deriving DecidableEq, Repr

/-- What a channel holds beside its registers. -/
structure Chan where
  drive    : Drive
  /-- The ball time of the last placed edge (R125). -/
  lastEdge : Int
  stage    : PmuStage
  /-- The time of the START, and of the last write to a PMU setting or clamp pair (R99). -/
  startAt  : Nat
  touched  : Nat
  /-- A MEASURE operation of Arc waits for the measurement (R191). -/
  forArc   : Bool
  /-- The settling time of Arc's measurement in ticks, 0 for FCT_PMU_SETTLE (R191). -/
  settle   : Nat
  deriving DecidableEq, Repr

/-- The queue of measurements at one ADC (R99): the channels with the time at which their settling ended, oldest first,
and when the ADC last became free. -/
structure AdcQueue where
  queue : List (Nat × Nat)
  free  : Nat
  deriving DecidableEq, Repr

/-- What a level waveform generator holds beside its registers (R182 to R185). -/
structure Wave where
  /-- The start that is armed. -/
  armed   : Option Nat
  /-- A latched request: true for START, false for STOP. -/
  latched : Option Bool
  /-- The stream position at which the latched request is taken: the end of the iteration it was made in. -/
  latchEnd : Nat
  /-- The instant and sample position from which the position is counted, and the period in use in 2^-16 tick. -/
  from_   : Nat
  base    : Nat
  period  : Nat
  /-- A new period that waits for its 64-sample boundary: the update's instant. -/
  newTs   : Option Nat
  /-- It has played since reset. -/
  started : Bool
  deriving DecidableEq, Repr

/-! ## Lattice -/

/-- A span of a position map (R221): START, FIRST, vectors per cell, and whether it descends. -/
structure Span where
  start : Nat
  first : Nat
  vpc   : Nat
  down  : Bool
  deriving DecidableEq, Repr

/-- A position map as an accounting slot reads it when it opens (R221, R240). -/
structure PosMap where
  dqFirst : Nat
  width   : Nat
  ddr     : Bool
  dstart  : Nat
  colBits : Nat
  spans   : List Span
  deriving DecidableEq, Repr

/-- What an accounting slot carries from the descriptor and reads when it opens (R218): the tag, the die type, the LATTICE
word, PARAM1 and PARAM3, whether the operation is a READ_PAGE, the MODE in force, the map, LAYOUT and BB_MAX. -/
structure SlotHead where
  tag      : Nat
  die      : Nat
  word     : Nat
  page     : Nat
  block    : Nat
  readPage : Bool
  mode     : Nat
  map      : PosMap
  layout   : Nat
  bbMax    : Nat
  deriving DecidableEq, Repr

/-- What an accounting slot counts in an attempt (R222 to R228). -/
structure SlotCounts where
  counts  : List Nat
  fold    : Bool
  ctrl    : Bool
  loss    : Bool
  bits    : Nat
  events  : Nat
  first   : Option Nat
  lost    : Nat
  logged  : Nat
  deriving DecidableEq, Repr

/-- An accounting slot (R218). -/
structure Slot extends SlotHead, SlotCounts where
  attempt   : Nat
  /-- LOG records of the attempt before, and the first phase of this one (R225). -/
  before    : Nat
  from_     : Nat
  /-- Marks of the operation: a double-bit error (R238) and a split event (R216). -/
  integrity : Bool
  split     : Bool
  /-- The number of the vertex's last phase, and the facets whose end marker of it is awaited. -/
  serial    : Nat
  waiting   : List Nat
  /-- Arc's completion status once it has sent the close; the verdict once it is formed, and whether the block was the last
  added (R229). -/
  closing   : Option Nat
  verdict   : Option Nat
  dup       : Bool
  deriving DecidableEq, Repr

/-- One state of a collector (R230). -/
structure CollSide where
  rows  : List Nat
  cols  : List Nat
  cells : List (Nat × Nat)
  early : Bool
  deriving DecidableEq, Repr

/-- A collector: its working and committed states, and whether it met a double-bit error since its last result (R238). -/
structure Collector where
  working   : CollSide
  committed : CollSide
  uecc      : Bool
  deriving DecidableEq, Repr

/-- A repair analysis that runs (R231): the vertices or collectors still to be analysed, the kind, the plane and tag, and
whether it is to stop after the current one. -/
structure RaRun where
  todo  : List Nat
  twoD  : Bool
  plane : Nat
  tag   : Nat
  abort : Bool
  deriving DecidableEq, Repr

/-- What Lattice holds beside its registers and the column map. -/
structure LatState where
  /-- The open accounting slots, by vertex. -/
  slots   : Store (Option Slot)
  /-- Events in their merge window with the time it began, and events that have left it: vertex, phase, VCOUNT and beat
  (R216). -/
  merging : List (FailEvent × Nat)
  taken   : List (Nat × Nat × Nat × Nat)
  coll    : Store Collector
  ra      : Option RaRun
  /-- Vertices whose map met a double-bit error since their last analysis (R238). -/
  mapBad  : Store Bool
  /-- Vertices of whose operation a fail record was lost (R300). -/
  lossy   : Store Bool
  deriving DecidableEq, Repr

/-! ## Time measurement -/

/-- A run of a fine TDC unit (R248 to R250): the shot's number, its start stamp once it has one, the stamps of the edges
accepted at the two endpoints, and the sums over the shots counted. -/
structure TdcRun where
  shot   : Nat
  start  : Option Nat
  edgeA  : Option Nat
  edgeB  : Option Nat
  sum    : Nat
  sumSq  : Nat
  least  : Nat
  most   : Nat
  deriving DecidableEq, Repr

/-- A run of a regression counter (R253, R254): its gate, whether it is open, the last accepted edge, the first stamp, and
the running sums. -/
structure RcRun where
  from_  : Nat
  until_ : Option Nat
  opened : Bool
  edge   : Option Nat
  first  : Nat
  last   : Nat
  count  : Nat
  st     : Nat
  skt    : Nat
  stt    : Nat
  deriving DecidableEq, Repr

/-! ## Acquisition -/

/-- One entry of an item (R274): its stamp, its value, and its flags; `mark` is OVR of a PMI and CLAMPED of an ADC sample,
`chan` the channel index at an ADC. -/
structure AcqEntry where
  at_     : Nat
  value   : Int
  mark    : Bool
  stale   : Bool
  suspect : Bool
  noPmu   : Bool
  chan    : Nat
  deriving DecidableEq, Repr

/-- An item (R266): the stamp of its first sample, and one entry or two. -/
structure AcqItem where
  at_     : Nat
  entries : List AcqEntry
  deriving DecidableEq, Repr

/-- A block that waits for delivery (R273). -/
structure AcqBlock where
  items   : List AcqItem
  bseq    : Nat
  last    : Bool
  ended   : Bool
  /-- The index of the trigger item in the block, and the capture's number and trigger stamp. -/
  trig    : Option Nat
  capture : Nat
  trigAt  : Nat
  /-- Input samples lost before it and the stamp of the first (R272). -/
  gap     : Nat
  gapAt   : Nat
  /-- The page that it has in spill (R301). -/
  page    : Option Nat
  deriving DecidableEq, Repr

/-- The fill of an acquisition unit (R266 to R272). -/
structure AcqFill where
  /-- Items kept, oldest first, and how many have been stored since the fill began. -/
  items   : List AcqItem
  stored  : Nat
  /-- The interval that is being reduced: its samples so far and its item. -/
  part    : Option (Nat × AcqItem)
  /-- The value of the preceding input sample. -/
  prev    : Option Int
  /-- The stamp T of the accepted trigger, and the index in `items` of the trigger item once it is stored. -/
  trig    : Option Nat
  at_     : Option Nat
  /-- Samples lost so far of the gap that runs, and the stamp of the first. -/
  gap     : Nat
  gapAt   : Nat
  deriving DecidableEq, Repr

/-- What a measurement record reports so far (R275). -/
structure AcqReport where
  blocks  : Nat
  items   : Nat
  flags   : Nat
  first   : Nat
  at_     : Nat
  ignored : Nat
  deriving DecidableEq, Repr

/-- What an acquisition unit holds beside its registers. -/
structure AcqUnit extends AcqFill where
  /-- The pages of its buffer. -/
  pages   : List Nat
  /-- The acceptance of the ARM, in Axis time and in the model's running time; the start of ADC conversions and how many have
  been made (R265). -/
  armedAt : Nat
  armedEl : Nat
  convAt  : Nat
  conv    : Nat
  /-- The trigger of the AXIS kind has come or lay in the past at the ARM. -/
  axisDone : Bool
  /-- The stamp of the last capture's last item (R267). -/
  endAt   : Nat
  /-- Blocks that wait for delivery, oldest first, the transfer of the first, and the number of the next. -/
  blocks  : List AcqBlock
  xfer    : Xfer
  bseq    : Nat
  /-- The unit is in CAPTURE_OVERFLOW (R301). -/
  overflow : Bool
  report  : AcqReport
  deriving DecidableEq, Repr

/-! ## Arc -/

/-- The part of an operation that its completion needs (R208 to R210). -/
structure OpResult where
  /-- FLAGS of the record. -/
  flags   : Nat
  /-- The status and the reason once they are determined. -/
  status  : Option (Nat × Nat)
  doneAt  : Nat
  busyTicks : Nat
  dutStatus : Nat
  /-- INFO bits 4 and 5, and the result of a MEASURE. -/
  info    : Nat
  data    : Int
  gangSize : Nat
  deriving DecidableEq, Repr

/-- Busy tracking of an operation (R198 to R201): where the busy interval started, its deadline, the stamp of the falling
edge, the comparator class at a WAIT_READY's admission (1 otherwise), and the next poll. -/
structure OpBusy where
  tEnd     : Nat
  deadline : Nat
  fall     : Option Nat
  level    : Nat
  due      : Nat
  deriving DecidableEq, Repr

/-- The operation of a vertex, from the fetch of its descriptor to its record (R192, R193). -/
structure ArcOp extends OpResult, OpBusy where
  desc     : List Byte
  /-- Admission: its place in the order of admissions. -/
  admitted : Option Nat
  /-- The gang of the first phase (R195). -/
  gang     : List Nat
  attempts : Nat
  /-- A further phase that is due: 0 none, 1 the out phase, 2 a replay, 3 the status-check round; and T_done, which orders
  the out phases. -/
  further  : Nat
  readyAt  : Nat
  deriving DecidableEq, Repr

/-- An open gather (R195): its key, the vertices that have joined, and E0. -/
structure Gather where
  key     : List Byte
  members : List Nat
  opened  : Nat
  deriving DecidableEq, Repr

/-- A gang whose gather has closed (R195, R197): its place in the order of closes, since when it has waited for credit, the
times it has been passed over, and its place in the order of urgency. -/
structure Gang where
  members : List Nat
  order   : Nat
  waits   : Option Nat
  passes  : Nat
  urgent  : Option Nat
  deriving DecidableEq, Repr

/-- The phase, poll round, recovery or MEASURE that holds a chord's bus (R191, R196): kind 0 main, 1 out, 2 poll, 3 recovery,
4 MEASURE, 5 status check; its routine and parameters; the start boundary as a stamp; the cost held; the earliest due time of
a round. -/
structure BusPhase where
  kind    : Nat
  members : List Nat
  routine : Nat
  params  : List Nat
  serial  : Nat
  start   : Nat
  cost    : Nat
  due     : Nat
  /-- Measurements of a MEASURE that have not ended: channel or PMI, vertex, and whether it is a PMI. -/
  left    : List (Nat × Nat × Bool)
  deriving DecidableEq, Repr

/-- What Arc holds of a chord beside its registers. -/
structure ArcChord where
  gathers : List Gather
  gangs   : List Gang
  /-- The gang whose first phase has been granted and is to be issued. -/
  granted : Option Gang
  phase   : Option BusPhase
  /-- Gangs to be reissued, with whether they wait for ARC_REPLAY_GO (R204), oldest first. -/
  replays : List (List Nat × Bool)
  /-- Recovery attempts made (R205), and since when a phase has been held, with the reason 2 or 3 (R196). -/
  tries   : Nat
  held    : Option (Nat × Nat)
  deriving DecidableEq, Repr

/-- A PMI average of a MEASURE (R263): the vertex, the PMI, the window, and what it has gathered: sum, samples, OVR and
STALE. -/
structure PmiMean where
  vertex : Nat
  pmi    : Nat
  from_  : Nat
  until_ : Nat
  sum    : Int
  count  : Nat
  ovr    : Bool
  stale  : Bool
  deriving DecidableEq, Repr

/-- What Arc holds beside its registers. -/
structure ArcState where
  ops     : Store (Option ArcOp)
  chords  : Store ArcChord
  means   : List PmiMean
  /-- The numbers of the next phase, and of the next admission, close or urgency. -/
  serial  : Nat
  order   : Nat
  /-- Tags written to ARC_CANCEL in DOZE (R207). -/
  cancels : List Nat
  /-- Cancels of entries not fetched yet (R207): the tag, the vertex, and PROD at the cancel. -/
  marks   : List (Nat × Nat × Nat)
  /-- Vertices completed by a poll round with a descriptor behind: their T_done, which counts as their entry into GATHER
  (R195). -/
  pollDone : Store (Option Nat)
  /-- A drain runs: 0 none, 1 GO_IDLE (R66), 2 thermal shutdown (R347). -/
  drain   : Nat
  deriving DecidableEq, Repr

/-! ## Temperature -/

/-- What the sensor and the shutdown sequence hold beside their registers (R338 to R347). -/
structure ThermState where
  /-- The last ten samples' codes, newest first, with which plausible. -/
  recent   : List Int
  /-- Samples since the code last changed, with the least and the most of THM_P_EST over them. -/
  same     : Nat
  leastP   : Nat
  mostP    : Nat
  /-- Samples in a row that passed every check since a SLEW failure; and the time SENSOR_FAULT deasserted. -/
  passed   : Nat
  slewHeld : Bool
  quietAt  : Nat
  /-- The shutdown sequence: 0 not running, 1 draining, 2 after T_d; its start and T_d in running time. -/
  stage    : Nat
  startEl  : Nat
  drainEl  : Nat
  /-- The standing load as the latest sample found it (R343). -/
  standing : Nat
  deriving DecidableEq, Repr

/-! ## The serial port -/

/-- A transfer that holds the serial port (R377, R383): 0 the Apex engine's, 1 the host engine's, 2 and 3 a window read of
Apex firmware and of the host, 4 and 5 a flush's write enable and page program; its select; whether it is being aborted. -/
structure Transfer where
  who   : Nat
  sel   : Nat
  abort : Bool
  deriving DecidableEq, Repr

/-- A window read that has not ended (R385): the bytes asked for, the aligned bytes still to be read, those read, and when it
began to wait (R389). -/
structure WindowRead where
  host  : Bool
  sel   : Nat
  addr  : Nat
  len   : Nat
  next  : Nat
  left  : Nat
  got   : List Byte
  since : Nat
  deriving DecidableEq, Repr

/-- Bytes gathered for one page of a window (R386), and the time of the last write. -/
structure Gather256 where
  sel   : Nat
  page  : Nat
  bytes : Store Byte
  last  : Nat
  deriving DecidableEq, Repr

/-- What the port knows of the device at a select (R387, R388): 0 ready, 1 a page program, 2 an erase in progress, with its
start; whether an edge fault hit the program; the suspension, 0 none, 1 for a window read, 2 for good; and whether the
program is a flush's. -/
structure Device where
  kind    : Nat
  since   : Nat
  edge    : Bool
  suspend : Nat
  flush   : Bool
  deriving DecidableEq, Repr

/-- What the serial port holds beside its registers (R383 to R389). -/
structure SpnState where
  cur     : Option Transfer
  /-- Engines that wait for the port, and engines that poll: 0 Apex's, 1 the host's. -/
  engines : List Nat
  polling : List Nat
  reads   : List WindowRead
  /-- Window writes that wait for a flush to end: select, address and bytes. -/
  writes  : List (Nat × Nat × List Byte)
  gather  : Option Gather256
  /-- The page that is being flushed, and its stage: 0 waiting, 1 write enable, 2 program, 3 polling. -/
  flush   : Option (Gather256 × Nat)
  devices : Store Device
  /-- The requester last served in the rotation. -/
  turn    : Nat
  deriving DecidableEq, Repr

/-- What the SMBus target holds beside its registers (R393 to R398): the page in force, a write that has not ended, with its
first offset and bytes, and the alert conditions whose alert has been released. -/
structure SmbState where
  page   : Nat
  open_  : Option (Nat × List Byte)
  acked  : Nat
  /-- A response stands on the SMBus slot that has not been read through page 0x01. -/
  unread : Bool
  deriving DecidableEq, Repr

/-! ## Maintenance -/

/-- A request in the calibration-bus queue (R369): 1 CALIBRATE, 2 SELFTEST, 3 TRIM_REFRESH, with its command. -/
structure CalJob where
  kind : Nat
  cmd  : Cmd
  deriving DecidableEq, Repr

/-- An NVM activity (R369, R417). -/
inductive NvmWork where
  | compact
  | stageBegin (len : Nat)
  | stageChunk (off len : Nat)
  | stageCommit
  | trimRead
  | calCommit
  deriving DecidableEq, Repr

/-- A request in the NVM queue, with the command that asked for it, if one did. -/
structure NvmJob where
  work : NvmWork
  cmd  : Option Cmd
  deriving DecidableEq, Repr

/-- A CALIBRATE or SELFTEST that runs (R361, R366). -/
structure CalRun where
  cmd     : Cmd
  test    : Bool
  mask    : Nat
  pmi     : Bool
  kinds   : Nat
  down    : Bool
  /-- 0 reference check of a facet, 1 pin check, 2 DC, 3 PMU, 4 TIMING, 5 the self-test's tests, 6 reference check before the
  PMI inputs, 7 PMI, 8 final reference check, 9 commit. -/
  step    : Nat
  /-- The facets still to do, the current one first. -/
  facets  : List Nat
  /-- Staged trim words by register, and the channels, and PMIs as 2048 + n, that have been skipped. -/
  staged  : Store Word64
  skips   : Store Bool
  fails   : Nat
  /-- MODIFIED and THM_TEMP at the start, THM_TEMP at T_m, T_m, and the wall time there. -/
  modified : Bool
  temp0   : Nat
  temp1   : Nat
  atM     : Nat
  wall    : Nat
  deriving DecidableEq, Repr

/-- Firmware staging under way (R417): the target slot, its container's length, the bytes written so far. -/
structure Staging where
  slot    : Nat
  len     : Nat
  written : Nat
  deriving DecidableEq, Repr

/-- What the maintenance arbiter holds (R369): both queues, the first of each running; the run; the staging. -/
structure MaintState where
  calq  : List CalJob
  nvmq  : List NvmJob
  run   : Option CalRun
  stage : Option Staging
  /-- The stamps between which PMI samples are stale, the second none while the run lasts, and the stamp of the last
  TRIM_REFRESH (R363). -/
  staleFrom : Option Nat
  staleTo   : Option Nat
  refreshAt : Option Nat
  deriving DecidableEq, Repr

/-! ## Boot, OTP, pins -/

/-- What OTP holds beside what registers show (R411): the key hashes by slot, and the manufacture trims by register. -/
structure Otp where
  keys  : Store (List Byte)
  trims : Store Word64
  deriving DecidableEq, Repr

/-- Pins and supplies (R434, R435, R441): VDD_AON good, PERST# asserted, supplies good, REFCLK present, PROF[2:0], and the samples
in a row that each rail has been outside its window (R405). -/
structure Pins where
  aon      : Bool
  perst    : Bool
  supplies : Bool
  refclk   : Bool
  prof     : Nat
  outside  : Store Nat
  deriving DecidableEq, Repr

/-- The JTAG port (R444): the instruction register, the boundary register, and whether the instruction loaded has control of
the balls. -/
structure Jtag where
  ir       : Nat
  boundary : List Bool
  control  : Bool
  deriving DecidableEq, Repr

/-- An update that is armed (R29): its mask and T_app. -/
structure Armed where
  mask : Nat
  tapp : Nat
  deriving DecidableEq, Repr

/-! ## The state -/

/-- The state of the block. -/
structure State where
  /-- Every register, by BAR0 address; a 64-bit pair by its low address (R23). -/
  regs    : Store Word64
  /-- Pending shadow words of SH fields (R26). -/
  shadow  : Store Word64
  /-- Axis time in stamp format (R8). -/
  now     : Nat
  /-- The model's own running time in stamp units, which no epoch sets back. -/
  elapsed : Nat
  icl     : IclState
  dma     : DmaState
  apex    : ApexState
  fcl     : FclState
  axs     : AxisState
  /-- The active site map: the words of the site tables as committed (R44). -/
  map     : Store Word64
  facet   : Store Facet
  rays    : Store Ray
  chans   : Store Chan
  waves   : Store Wave
  /-- The queues of the ADCs, by facet times 8 plus ADC (R99). -/
  adcs    : Store AdcQueue
  /-- Supply gates that are on, by vertex (R87). -/
  gates   : Store Bool
  /-- Chords whose decoder needs the recovery sequence before their next phase (R49, R143). -/
  recover : Store Bool
  /-- The channels that a running contact test covers, as a mask, and when it started (R60). -/
  contact : Option (Nat × Nat)
  /-- Whether the edit copy was written since the running CHECK or COMMIT began (R45), and the mode in which a COMMIT was
  accepted (R44). -/
  siteEdited : Bool
  siteMode : Nat
  /-- PMU measurements of Arc that have ended and that Arc has not taken yet: the channel, and whether it was aborted. -/
  pmuEnds : List (Nat × Bool)
  lat     : LatState
  tdc     : Store (Option TdcRun)
  rc      : Store (Option RcRun)
  /-- The comparator class of each channel as last stamped: 0 low, 1 between, 2 high (R95, R246). -/
  classes : Store Nat
  acq     : Store AcqUnit
  /-- The stamp of each PMI's latest sample (R261). -/
  pmiAt   : Store (Option Nat)
  arc     : ArcState
  therm   : ThermState
  maint   : MaintState
  spn     : SpnState
  smb     : SmbState
  otp     : Otp
  pins    : Pins
  jtag    : Jtag
  armed   : Option Armed
  /-- The holding register of each requester path, 0 host, 1 Apex, 2 SMBus: the pair and its high word (R36). -/
  latches : Store (Option (Nat × Nat))
  /-- The page pool (R13, R298). -/
  pool    : Mem
  /-- Microcode, 2 MB a facet, and stream buffers, 1 MB a facet (R13). -/
  ucode   : Mem
  stream  : Mem
  /-- The column map: four 2-bit entries a byte, 4 KB a vertex (R226, R227). -/
  cmap    : Mem
  /-- The boot NVM on SS0; an erased byte reads 0xFF (R390 to R392). -/
  flash   : Mem
  /-- What the part has sent, oldest first. -/
  sent    : List Msg
  /-- The model's own counter of free values drawn. -/
  free    : Nat
  /-- Commands waiting, first in, first out. -/
  pending : List Instr
  deriving DecidableEq, Repr

/-! ## Stops -/

/-- Why the block can stop with a fault. No command of this model does. -/
inductive Fault where
  /-- Raised by nothing: the spec gives every command an effect. Safe. -/
  | none
  deriving DecidableEq, Repr

/-- Why the model can refuse a command. -/
inductive Refusal where
  /-- Raised by an arm of the dispatch whose command has no meaning yet. Safe. -/
  | notModelled (mnemonic : String)
  deriving DecidableEq, Repr

/-! ## Reset -/

/-- The controller after reset (R315). -/
def IclState.init : IclState :=
  { held := [], pointer := [], msixOn := false, funcMask := false, busMaster := false, waiting := [] }

/-- The DMA engine after reset. -/
def DmaState.init : DmaState :=
  { rings := [], cache := [], waiters := [], owed := [], requested := [], asked := [], toAsk := [], priAlloc := 0
    priReset := false, taken := [], spillPages := [], spillPage := none, sqPark := [], acqPark := []
    copyPark := none, copyNext := 0, copyEnd := 0, copyStop := false, priRetry := [], kept := [] }

/-- Nothing runs yet. -/
def Running.init : Running := { confirm := false, image := [], profile := [], record := [], flow := false, auto := false }

/-- Apex after reset. -/
def ApexState.init : ApexState :=
  { waiting := [], jobs := [], log := [], logOldest := 0, logLoss := 0, lot := none, sealing := []
    run := Running.init, reboot := false, flowBy := 0, bootAt := 0, enrol := none }

/-- The fault collector after reset (R335). -/
def FclState.init : FclState :=
  { raised := [], stamps := [], readMask := 0xFFFF, graceEnd := 0, graceBy := 0, graceInj := false
    lines := [], reacting := [], shadowEnd := [], trainings := [], selfFree := []
    aliveFrom := 0, aliveCount := 0, aliveRuns := false }

/-- The Axis master after reset. -/
def AxisState.init : AxisState := { calibrating := false, bigLast := 0, moves := [], epoch := none }

/-- Lattice after reset (R239). -/
def LatState.init : LatState := { slots := [], merging := [], taken := [], coll := [], ra := none, mapBad := [], lossy := [] }

/-- Arc after reset (R211). -/
def ArcState.init : ArcState :=
  { ops := [], chords := [], means := [], serial := 1, order := 1, cancels := [], marks := [], pollDone := [], drain := 0 }

/-- The sensor after power-on (R338). -/
def ThermState.init : ThermState :=
  { recent := [], same := 0, leastP := 0, mostP := 0, passed := 0, slewHeld := false, quietAt := 0, stage := 0
    startEl := 0, drainEl := 0, standing := 0 }

/-- The serial port after reset. -/
def SpnState.init : SpnState :=
  { cur := none, engines := [], polling := [], reads := [], writes := [], gather := none, flush := none, devices := [], turn := 0 }

/-- The SMBus target after the power-on of VDD_AON. -/
def SmbState.init : SmbState := { page := 0, open_ := none, acked := 0, unread := false }

/-- The arbiter after reset. -/
def MaintState.init : MaintState :=
  { calq := [], nvmq := [], run := none, stage := none
    staleFrom := none, staleTo := none, refreshAt := none }

/-- The JTAG port after TAP reset: IDCODE is selected (R444). -/
def Jtag.init : Jtag := { ir := 1, boundary := [], control := false }

/-- The pins right after power-on: PERST# asserted, supplies not yet good. -/
def Pins.init : Pins := { aon := true, perst := true, supplies := false, refclk := true, prof := 0, outside := [] }

/-- The block right after power-on reset: mode RESET, every register at its reset value, nothing pending. (Log: 5 DESIGN CHOICE, 6 DESIGN CHOICE, 7 DESIGN CHOICE, 25 PRESUMED) -/
def State.reset : State :=
  { regs := [], shadow := [], now := 0, elapsed := 0
    icl := IclState.init, dma := DmaState.init, apex := ApexState.init
    fcl := FclState.init, axs := AxisState.init
    map := [], facet := [], rays := [], chans := [], waves := [], adcs := [], gates := []
    recover := [], contact := none, siteEdited := false, siteMode := 0, pmuEnds := [], ucode := [], stream := []
    lat := LatState.init, cmap := []
    tdc := [], rc := [], classes := [], acq := [], pmiAt := [], arc := ArcState.init, therm := ThermState.init
    maint := MaintState.init, spn := SpnState.init, smb := SmbState.init, otp := { keys := [], trims := [] }
    pins := Pins.init, jtag := Jtag.init, armed := none, latches := [], flash := []
    pool := [], sent := [], free := 0, pending := [] }

end Sys2Proof.Machine
end

