-- ==== Sys2Proof/Machine/RegMap.lean ====
section
/-!
DEFINITION. The register map: every register of every block, as the spec's register tables give them. One
row is one register or array of registers: its name, its offset within its block, whether it is a 64-bit pair, the
(count, stride) of each array index, and its fields (name, low bit, width, access type, reset value). The tables
stand in the rules named beside each row.
-/

namespace Sys2Proof.Machine

/-- Registers of the GLB block. -/
def rowsGlb : List RegRow := [
  ⟨"IDENT", 0x0, false, [], [⟨"MEMBER", 0, 4, .ro, 0⟩, ⟨"STEPPING", 8, 8, .ro, 1⟩,
    ⟨"FAMILY", 16, 16, .ro, 0x7c20⟩]⟩,  -- R41
  ⟨"SERIAL", 0x8, true, [], [⟨"SERIAL", 0, 64, .ro, 0⟩]⟩,  -- R41
  ⟨"MODE", 0x10, false, [], [⟨"MODE", 0, 3, .ro, 0⟩, ⟨"PREV_MODE", 4, 3, .ro, 0⟩, ⟨"PROFILE", 8, 3, .ro, 0⟩,
    ⟨"PROFILE_SRC", 11, 1, .ro, 0⟩]⟩,  -- R41
  ⟨"UPDATE", 0x20, false, [], [⟨"MASK", 0, 18, .wo, 0⟩, ⟨"TIMED", 24, 1, .wo, 0⟩, ⟨"CANCEL", 28, 1, .wo, 0⟩]⟩,  -- R41
  ⟨"UPDATE_STAT", 0x24, false, [], [⟨"ARMED", 0, 1, .ro, 0⟩, ⟨"LATE", 1, 1, .w1c, 0⟩,
    ⟨"REJECTED", 2, 1, .w1c, 0⟩]⟩,  -- R41
  ⟨"UPDATE_AT", 0x28, true, [], [⟨"AT", 0, 64, .rw, 0⟩]⟩,  -- R41
  ⟨"UPDATE_DONE", 0x30, false, [], [⟨"DONE", 0, 18, .ro, 0x3ffff⟩]⟩,  -- R41
  ⟨"UPDATE_MISS", 0x34, false, [], [⟨"MISS", 0, 18, .w1c, 0⟩]⟩,  -- R41
  ⟨"SHADOW_DIRTY", 0x38, false, [], [⟨"DIRTY", 0, 18, .ro, 0⟩]⟩,  -- R41
  ⟨"UPDATE_APPLIED_AT", 0x40, true, [], [⟨"APPLIED_AT", 0, 64, .ro, 0⟩]⟩,  -- R41
  ⟨"UNLOCK", 0x50, false, [], [⟨"KEY", 0, 32, .wo, 0⟩]⟩,  -- R41
  ⟨"GUARD_STAT", 0x54, false, [], [⟨"HOST_OPEN", 0, 1, .ro, 0⟩, ⟨"APEX_OPEN", 1, 1, .ro, 0⟩,
    ⟨"BAD_KEYS", 8, 8, .cts, 0⟩]⟩,  -- R41
  ⟨"ACCESS_ERR", 0x60, false, [], [⟨"VALID", 0, 1, .w1c, 0⟩, ⟨"OVF", 1, 1, .w1c, 0⟩, ⟨"CAUSE", 2, 3, .ro, 0⟩,
    ⟨"WRITE", 5, 1, .ro, 0⟩, ⟨"REQUESTER", 6, 2, .ro, 0⟩, ⟨"BYTE_EN", 8, 4, .ro, 0⟩]⟩,  -- R41
  ⟨"ACCESS_ERR_ADDR", 0x64, false, [], [⟨"OFFSET", 0, 26, .ro, 0⟩, ⟨"BAR", 28, 2, .ro, 0⟩]⟩,  -- R41
  ⟨"ACCESS_ERR_COUNT", 0x68, false, [], [⟨"COUNT", 0, 32, .cts, 0⟩]⟩,  -- R41
  ⟨"SCRATCH", 0x80, false, [(4, 0x4)], [⟨"DATA", 0, 32, .rw, 0⟩]⟩ ]  -- R41

/-- Registers of the ICL block. -/
def rowsIcl : List RegRow := [
  ⟨"SRC_CFG", 0x0, false, [(512, 0x4)], [⟨"MASK", 0, 16, .rw, 0⟩, ⟨"ENABLE", 16, 1, .rw, 1⟩,
    ⟨"KIND", 17, 1, .ro, 0⟩]⟩,  -- R316
  ⟨"PEND", 0x1000, false, [(32, 0x4)], [⟨"PEND", 0, 16, .w1c, 0⟩]⟩,  -- R316
  ⟨"GRP_STAT", 0x1100, false, [(32, 0x4)], [⟨"STATE", 0, 2, .ro, 0⟩, ⟨"OWNER", 4, 4, .ro, 0⟩,
    ⟨"OFFER_SET", 16, 16, .ro, 0⟩]⟩,  -- R316
  ⟨"CLAIM", 0x1200, false, [(16, 0x4)], [⟨"GROUP", 0, 10, .ro, 0x3ff⟩, ⟨"ZERO", 10, 22, .ro, 0⟩]⟩,  -- R316
  ⟨"DONE", 0x1240, false, [(16, 0x4)], [⟨"GROUP", 0, 5, .wo, 0⟩]⟩,  -- R316
  ⟨"OFFER", 0x1280, false, [(16, 0x4)], [⟨"GROUPS", 0, 32, .ro, 0⟩]⟩,  -- R316
  ⟨"ONLINE", 0x1300, false, [], [⟨"HOST", 0, 15, .rw, 0⟩, ⟨"APEX", 15, 1, .rw, 1⟩]⟩,  -- R316
  ⟨"STAT", 0x1304, false, [], [⟨"ONLINE", 0, 16, .ro, 0x8000⟩, ⟨"RETAINED", 16, 1, .ro, 0⟩,
    ⟨"DONE_BAD", 17, 1, .w1c, 0⟩]⟩,  -- R316
  ⟨"SPURIOUS", 0x1308, false, [], [⟨"COUNT", 0, 32, .cts, 0⟩]⟩,  -- R316
  ⟨"DONE_BAD", 0x130c, false, [], [⟨"COUNT", 0, 32, .cts, 0⟩]⟩,  -- R316
  ⟨"SWSET", 0x1310, false, [], [⟨"SOURCE", 0, 9, .wo, 0⟩]⟩ ]  -- R316

/-- Registers of the FCL block. -/
def rowsFcl : List RegRow := [
  ⟨"SRC_CFG", 0x0, false, [(128, 0x8)], [⟨"SEV", 0, 2, .gd, 0⟩, ⟨"METHOD", 2, 1, .gd, 0⟩,
    ⟨"REACT", 4, 2, .gd, 0⟩, ⟨"N_M1", 8, 4, .gd, 0⟩]⟩,  -- R335
  ⟨"SRC_W", 0x4, false, [(128, 0x8)], [⟨"W", 0, 32, .gd, 0x186a00⟩]⟩,  -- R335
  ⟨"GRACE", 0x400, false, [], [⟨"US", 0, 24, .gd, 0x2710⟩]⟩,  -- R335
  ⟨"ACK", 0x404, false, [], [⟨"SEQ", 0, 16, .wo, 0⟩]⟩,  -- R335
  ⟨"STAT", 0x408, false, [], [⟨"CAPMODE", 0, 1, .ro, 0⟩, ⟨"GRACE_RUN", 1, 1, .ro, 0⟩,
    ⟨"ACK_REJ", 2, 1, .w1c, 0⟩, ⟨"INJ_SEEN", 3, 1, .w1c, 0⟩, ⟨"ERR_SEQ", 16, 16, .ro, 0⟩]⟩,  -- R335
  ⟨"GRACE_LEFT", 0x40c, false, [], [⟨"US", 0, 24, .ro, 0⟩]⟩,  -- R335
  ⟨"ESC", 0x410, false, [], [⟨"LATCHED", 0, 1, .ro, 0⟩, ⟨"KIND", 1, 2, .ro, 0⟩, ⟨"SOURCE", 8, 7, .ro, 0⟩,
    ⟨"INJECTED", 15, 1, .ro, 0⟩, ⟨"AGAIN", 16, 8, .cts, 0⟩, ⟨"CLEAR", 24, 1, .wo, 0⟩,
    ⟨"REFUSED", 25, 1, .w1c, 0⟩]⟩,  -- R335
  ⟨"ESC_AT", 0x418, true, [], [⟨"ESC_AT", 0, 64, .ro, 0⟩]⟩,  -- R335
  ⟨"ALIVE", 0x420, false, [], [⟨"FREQ", 0, 14, .rw, 0x3e8⟩, ⟨"LEVEL", 16, 1, .ro, 0⟩, ⟨"FROZEN", 17, 1, .ro, 0⟩]⟩,  -- R335
  ⟨"INJECT", 0x424, false, [], [⟨"SOURCE", 0, 7, .gd, 0⟩, ⟨"RAIL", 8, 1, .gd, 0⟩]⟩,  -- R335
  ⟨"INJ_CFG", 0x428, false, [], [⟨"REACT", 0, 1, .gd, 0⟩]⟩,  -- R335
  ⟨"ACTIVE", 0x430, false, [(4, 0x4)], [⟨"ACTIVE", 0, 32, .ro, 0⟩]⟩,  -- R335
  ⟨"RAIL", 0x440, false, [(4, 0x4)], [⟨"RAIL", 0, 32, .ro, 0⟩]⟩,  -- R335
  ⟨"STICKY", 0x450, false, [(4, 0x4)], [⟨"STICKY", 0, 32, .w1c, 0⟩]⟩,  -- R335
  ⟨"FPARK", 0x460, false, [], [⟨"FPARK", 0, 16, .w1c, 0⟩]⟩,  -- R335
  ⟨"HIST_COUNT", 0x470, false, [], [⟨"COUNT", 0, 32, .ct, 0⟩]⟩,  -- R335
  ⟨"SHADOW", 0x474, false, [], [⟨"SHADOW", 0, 21, .ro, 0⟩]⟩,  -- R335
  ⟨"HIST", 0x800, false, [(16, 0x10)], [⟨"SOURCE", 0, 7, .ro, 0⟩, ⟨"SEV", 8, 2, .ro, 0⟩,
    ⟨"INJECTED", 12, 1, .ro, 0⟩, ⟨"RAIL", 13, 1, .ro, 0⟩, ⟨"CONSEQUENTIAL", 14, 1, .ro, 0⟩,
    ⟨"COUNTED", 15, 1, .ro, 0⟩, ⟨"SEQ", 16, 16, .ro, 0⟩]⟩,  -- R335
  ⟨"HIST_AT", 0x808, true, [(16, 0x10)], [⟨"AT", 0, 64, .ro, 0⟩]⟩ ]  -- R335

/-- Registers of the THM block. -/
def rowsThm : List RegRow := [
  ⟨"TEMP", 0x0, false, [], [⟨"CODE", 0, 12, .ro, 0⟩, ⟨"VALID", 12, 1, .ro, 0⟩, ⟨"DIODE", 13, 2, .ro, 0⟩]⟩,  -- R349
  ⟨"TEMP_AT", 0x8, true, [], [⟨"AT", 0, 64, .ro, 0⟩]⟩,  -- R349
  ⟨"LEVEL", 0x10, false, [], [⟨"WARN", 0, 1, .ro, 0⟩, ⟨"THROTTLE", 1, 1, .ro, 0⟩, ⟨"SHUTDOWN", 2, 1, .ro, 0⟩,
    ⟨"SENS_FROZEN", 3, 1, .ro, 0⟩]⟩,  -- R349
  ⟨"FACTOR", 0x14, false, [], [⟨"F", 0, 9, .ro, 0x100⟩]⟩,  -- R349
  ⟨"WARN_CFG", 0x20, false, [], [⟨"SET", 0, 12, .gd, 0x320⟩, ⟨"CLR", 16, 12, .gd, 0x2f8⟩]⟩,  -- R349
  ⟨"THR_CFG", 0x24, false, [], [⟨"SET", 0, 12, .gd, 0x348⟩, ⟨"CLR", 16, 12, .gd, 0x320⟩]⟩,  -- R349
  ⟨"FAILSAFE", 0x28, false, [], [⟨"F", 0, 9, .gd, 0x40⟩]⟩,  -- R349
  ⟨"DRAIN", 0x2c, false, [], [⟨"US", 0, 18, .gd, 0x4e20⟩]⟩,  -- R349
  ⟨"BUDGET", 0x30, false, [], [⟨"MW", 0, 16, .gd, 0x3a98⟩]⟩,  -- R349
  ⟨"P_BASE", 0x34, false, [], [⟨"MW", 0, 16, .rw, 0x2008⟩]⟩,  -- R349
  ⟨"CH_STATIC", 0x38, false, [], [⟨"UW", 0, 16, .rw, 0x1f4⟩]⟩,  -- R349
  ⟨"E_TOGGLE", 0x3c, false, [], [⟨"FJ", 0, 32, .rw, 0x6d60⟩]⟩,  -- R349
  ⟨"ALPHA", 0x40, false, [], [⟨"ALPHA", 0, 9, .rw, 0x80⟩]⟩,  -- R349
  ⟨"PMU_COST", 0x44, false, [], [⟨"UW", 0, 16, .rw, 0x7d0⟩]⟩,  -- R349
  ⟨"P_COMMIT", 0x50, false, [], [⟨"P_COMMIT", 0, 32, .ro, 0⟩]⟩,  -- R349
  ⟨"P_EST", 0x54, false, [], [⟨"P_EST", 0, 32, .ro, 0x7d1f40⟩]⟩,  -- R349
  ⟨"CREDIT", 0x58, false, [], [⟨"CREDIT", 0, 32, .ro, 0x67c280⟩]⟩,  -- R349
  ⟨"STAT", 0x60, false, [], [⟨"OPEN", 0, 1, .ro, 0⟩, ⟨"SHORT", 1, 1, .ro, 0⟩, ⟨"SLEW", 2, 1, .ro, 0⟩,
    ⟨"STUCK", 3, 1, .ro, 0⟩, ⟨"OVER_BUDGET", 4, 1, .w1c, 0⟩, ⟨"CFG_BAD", 5, 1, .w1c, 0⟩,
    ⟨"SOLE", 6, 1, .w1c, 0⟩, ⟨"UNFREEZE_REJ", 7, 1, .w1c, 0⟩]⟩,  -- R349
  ⟨"CTRL", 0x64, false, [], [⟨"UNFREEZE", 0, 1, .wo, 0⟩]⟩,  -- R349
  ⟨"SHUT_AT", 0x68, true, [], [⟨"SHUT_AT", 0, 64, .ro, 0⟩]⟩ ]  -- R349

/-- Registers of the AXS block. -/
def rowsAxs : List RegRow := [
  ⟨"NOW", 0x0, true, [], [⟨"NOW", 0, 64, .ro, 0⟩]⟩,  -- R128
  ⟨"STAT", 0x8, false, [], [⟨"LOCKED", 0, 1, .ro, 0⟩, ⟨"RECAL_DONE", 1, 1, .w1c, 0⟩]⟩,  -- R128
  ⟨"CTRL", 0xc, false, [], [⟨"RECAL", 0, 1, .hc, 0⟩]⟩,  -- R128
  ⟨"REPLICA_UNSYNC", 0x10, false, [], [⟨"ISLAND", 0, 18, .ro, 0⟩]⟩,  -- R128
  ⟨"REPLICA_CNTERR", 0x14, false, [], [⟨"ISLAND", 0, 18, .ro, 0⟩]⟩,  -- R128
  ⟨"SYNC_CFG", 0x20, false, [], [⟨"OUT_MODE", 0, 2, .rw, 0⟩, ⟨"ARM", 4, 1, .hc, 0⟩]⟩,  -- R128
  ⟨"SYNC_FIRE", 0x24, false, [], [⟨"FIRE", 0, 1, .wo, 0⟩]⟩,  -- R128
  ⟨"SYNC_DESKEW", 0x28, false, [], [⟨"D", 0, 16, .rw, 0⟩]⟩,  -- R128
  ⟨"SYNC_LAST", 0x30, true, [], [⟨"E_AT", 0, 64, .ro, 0⟩]⟩,  -- R128
  ⟨"EPOCH_COUNT", 0x38, false, [], [⟨"COUNT", 0, 32, .ct, 0⟩]⟩,  -- R128
  ⟨"EPOCH_IGNORED", 0x3c, false, [], [⟨"COUNT", 0, 32, .ct, 0⟩]⟩,  -- R128
  ⟨"REPLICA_OFS", 0x100, false, [(18, 0x4)], [⟨"OFS", 0, 16, .ro, 0⟩]⟩ ]  -- R128

/-- Registers of the APX block, part 0. -/
def rowsApx0 : List RegRow := [
  ⟨"CMD", 0x0, false, [(2, 0x100)], [⟨"OPCODE", 0, 8, .rw, 0⟩, ⟨"SEQ", 8, 8, .rw, 0⟩]⟩,  -- R82
  ⟨"ARG", 0x4, false, [(2, 0x100), (4, 0x4)], [⟨"ARG", 0, 32, .rw, 0⟩]⟩,  -- R82
  ⟨"DOORBELL", 0x18, false, [(2, 0x100)], [⟨"GO", 0, 1, .hc, 0⟩]⟩,  -- R82
  ⟨"RESP", 0x1c, false, [(2, 0x100)], [⟨"STATUS", 0, 8, .ro, 0⟩, ⟨"SEQ", 8, 8, .ro, 0⟩,
    ⟨"FINAL", 16, 1, .ro, 0⟩, ⟨"ABANDONED", 17, 1, .ro, 0⟩]⟩,  -- R82
  ⟨"RESP_DATA", 0x20, false, [(2, 0x100), (2, 0x4)], [⟨"DATA", 0, 32, .ro, 0⟩]⟩,  -- R82
  ⟨"CMD_REJECT_COUNT", 0x30, false, [], [⟨"COUNT", 0, 32, .cts, 0⟩]⟩,  -- R82
  ⟨"BOOT_STAT", 0x40, false, [], [⟨"FW_SLOT", 0, 1, .ro, 0⟩, ⟨"FW_RESULT", 1, 2, .ro, 0⟩,
    ⟨"PROF_RESULT", 3, 3, .ro, 0⟩, ⟨"CAL_RESULT", 6, 2, .ro, 0⟩, ⟨"AUTORUN", 8, 1, .ro, 0⟩,
    ⟨"CAPMODE", 9, 1, .ro, 0⟩, ⟨"CAPMODE_DIFFERS", 10, 1, .ro, 0⟩, ⟨"HOST_LOCK", 11, 1, .ro, 0⟩]⟩,  -- R82
  ⟨"BOOT_TIME", 0x44, false, [], [⟨"US", 0, 32, .ro, 0⟩]⟩,  -- R82
  ⟨"SAFE_CAUSE", 0x48, false, [], [⟨"FAULT", 0, 1, .ro, 0⟩, ⟨"SHUTDOWN", 1, 1, .ro, 0⟩,
    ⟨"COMMAND", 2, 1, .ro, 0⟩, ⟨"NO_FIRMWARE", 3, 1, .ro, 0⟩, ⟨"CMD_CAUSE", 8, 8, .ro, 0⟩]⟩,  -- R82
  ⟨"DOZE_CFG", 0x50, false, [], [⟨"WAKE_THERM", 0, 1, .rw, 1⟩, ⟨"WAKE_SYNC", 1, 1, .rw, 0⟩]⟩,  -- R82
  ⟨"FW_VERSION", 0x400, false, [], [⟨"VERSION", 0, 32, .ro, 0⟩]⟩,  -- R426
  ⟨"FW_SVN", 0x404, false, [], [⟨"SVN", 0, 7, .ro, 0⟩, ⟨"ROLLBACK", 8, 7, .ro, 0⟩]⟩,  -- R426
  ⟨"FW_SLOTSTAT", 0x408, false, [], [⟨"A", 0, 4, .ro, 0⟩, ⟨"B", 4, 4, .ro, 0⟩, ⟨"VERIFIES", 8, 2, .ro, 0⟩]⟩,  -- R426
  ⟨"KEY_STAT", 0x40c, false, [], [⟨"PROGRAMMED", 0, 4, .ro, 1⟩, ⟨"RESULT", 4, 3, .ro, 0⟩]⟩,  -- R426
  ⟨"KEY_HASH", 0x410, false, [(12, 0x4)], [⟨"HASH", 0, 32, .gd, 0⟩]⟩,  -- R426
  ⟨"KEY_ENROL", 0x440, false, [], [⟨"SLOT", 0, 2, .gd, 0⟩, ⟨"GO", 4, 1, .hc, 0⟩]⟩,  -- R426
  ⟨"LOG_STAT", 0x450, false, [], [⟨"BUFFERED", 0, 10, .ro, 0⟩]⟩,  -- R426
  ⟨"LOG_LOST", 0x454, false, [], [⟨"COUNT", 0, 32, .cts, 0⟩]⟩,  -- R426
  ⟨"LOG_ERASED", 0x458, false, [], [⟨"COUNT", 0, 32, .cts, 0⟩]⟩,  -- R426
  ⟨"LOG_SEQ", 0x45c, false, [], [⟨"SEQ", 0, 32, .ro, 0⟩]⟩,  -- R426
  ⟨"LOG_EXP", 0x460, false, [], [⟨"EN", 0, 1, .rw, 0⟩, ⟨"LOG2N", 1, 5, .rw, 4⟩]⟩,  -- R426
  ⟨"LOG_EXP_ADDR", 0x468, true, [], [⟨"ADDR", 0, 64, .rw, 0⟩]⟩,  -- R426
  ⟨"LOG_EXP_PROD", 0x470, false, [], [⟨"PROD", 0, 32, .ro, 0⟩]⟩,  -- R426
  ⟨"LOT_STAT", 0x480, false, [], [⟨"OPEN", 0, 1, .ro, 0⟩, ⟨"SEALING", 1, 1, .ro, 0⟩]⟩ ]  -- R426

/-- Registers of the APX block, part 1. -/
def rowsApx1 : List RegRow := [
  ⟨"LOT_ID", 0x484, false, [], [⟨"ID", 0, 32, .ro, 0⟩]⟩,  -- R426
  ⟨"LOT_COUNT", 0x488, true, [], [⟨"COUNT", 0, 64, .ro, 0⟩]⟩,  -- R426
  ⟨"SEAL_PROD", 0x490, false, [], [⟨"PROD", 0, 32, .ro, 0⟩]⟩,  -- R426
  ⟨"SEAL_CONS", 0x494, false, [], [⟨"CONS", 0, 32, .rw, 0⟩]⟩,  -- R426
  ⟨"SEAL_SKIPPED", 0x498, false, [], [⟨"COUNT", 0, 32, .cts, 0⟩]⟩,  -- R426
  ⟨"SUPPLY", 0x4c0, false, [(8, 0x4)], [⟨"MV", 0, 16, .ro, 0⟩]⟩,  -- R426
  ⟨"FLOW_CTRL", 0x4e0, false, [], [⟨"STOP", 0, 1, .ro, 0⟩, ⟨"RUNNING", 1, 1, .ro, 0⟩]⟩,  -- R426
  ⟨"DEVKEY", 0x500, false, [(24, 0x4)], [⟨"KEY", 0, 32, .ro, 0⟩]⟩,  -- R426
  ⟨"REPORT", 0x6000, false, [(256, 0x4)], [⟨"DATA", 0, 32, .ro, 0⟩]⟩,  -- R426
  ⟨"SEALWIN", 0x6400, false, [(1024, 0x4)], [⟨"DATA", 0, 32, .ro, 0⟩]⟩,  -- R426
  ⟨"STAGING", 0x8000, false, [(8192, 0x4)], [⟨"DATA", 0, 32, .rw, 0⟩]⟩ ]  -- R426

/-- Registers of the APX block. -/
def rowsApx : List RegRow := rowsApx0 ++ rowsApx1

/-- Registers of the SPN block. -/
def rowsSpn : List RegRow := [
  ⟨"SEL0", 0x0, false, [(4, 0x20)], [⟨"CKMODE", 0, 2, .gd, 0⟩, ⟨"STATUS_FIRST", 2, 1, .gd, 0⟩,
    ⟨"RX_STROBE", 3, 1, .gd, 0⟩, ⟨"SAMPLE_DLY", 4, 4, .gd, 0⟩, ⟨"DIV", 8, 8, .gd, 7⟩,
    ⟨"STATUS_POLL_MAX", 16, 8, .gd, 0⟩, ⟨"POLL_INT", 24, 8, .gd, 0x40⟩]⟩,  -- R399
  ⟨"SEL1", 0x4, false, [(4, 0x20)], [⟨"LEAD", 0, 8, .gd, 1⟩, ⟨"LAG", 8, 8, .gd, 1⟩, ⟨"IDLE", 16, 8, .gd, 1⟩,
    ⟨"ERASE_MAX", 24, 8, .gd, 0xfa⟩]⟩,  -- R399
  ⟨"SEL2", 0x8, false, [(4, 0x20)], [⟨"RD_CMD", 0, 8, .gd, 3⟩, ⟨"RD_ADDR", 8, 3, .gd, 3⟩,
    ⟨"RD_DUMMY", 11, 5, .gd, 0⟩, ⟨"RD_CMD_W", 16, 2, .gd, 0⟩, ⟨"RD_ADDR_W", 18, 2, .gd, 0⟩,
    ⟨"RD_DATA_W", 20, 2, .gd, 0⟩, ⟨"SUS_ON_READ", 30, 1, .gd, 0⟩, ⟨"XIP_EN", 31, 1, .gd, 0⟩]⟩,  -- R399
  ⟨"SEL3", 0xc, false, [(4, 0x20)], [⟨"PP_CMD", 0, 8, .gd, 2⟩, ⟨"WREN_CMD", 8, 8, .gd, 6⟩,
    ⟨"RDSR_CMD", 16, 8, .gd, 5⟩, ⟨"BUSY_BIT", 24, 3, .gd, 0⟩, ⟨"BUSY_POL", 27, 1, .gd, 0⟩,
    ⟨"PP_W", 28, 2, .gd, 0⟩]⟩,  -- R399
  ⟨"SEL4", 0x10, false, [(4, 0x20)], [⟨"SUS_CMD", 0, 8, .gd, 0x75⟩, ⟨"RES_CMD", 8, 8, .gd, 0x7a⟩,
    ⟨"PFAIL_MASK", 16, 8, .gd, 0⟩]⟩,  -- R399
  ⟨"HOST_CFG", 0x80, false, [], [⟨"SEL_EN", 1, 3, .gd, 0⟩]⟩,  -- R399
  ⟨"HOST_WAIT", 0x84, false, [], [⟨"HOST_WAIT", 0, 16, .gd, 0x3e8⟩]⟩,  -- R399
  ⟨"STAT", 0x88, false, [], [⟨"EDGE_FAULT", 0, 1, .w1c, 0⟩, ⟨"ERASE_SUSP", 1, 1, .w1c, 0⟩,
    ⟨"DIR_BAD", 8, 8, .ro, 0⟩, ⟨"DIR_COPY", 16, 1, .ro, 0⟩]⟩,  -- R399
  ⟨"EDGE_FAULTS", 0x8c, false, [], [⟨"COUNT", 0, 32, .cts, 0⟩]⟩,  -- R399
  ⟨"XIP_STAT", 0x90, false, [], [⟨"WR_FAIL", 0, 1, .w1c, 0⟩, ⟨"HOST_TMO", 1, 1, .w1c, 0⟩]⟩,  -- R399
  ⟨"WR_FAIL_ADDR", 0x94, false, [], [⟨"ADDR", 0, 26, .ro, 0⟩]⟩,  -- R399
  ⟨"XFER_CTRL", 0x100, false, [], [⟨"START", 0, 1, .hc, 0⟩, ⟨"ABORT", 1, 1, .wo, 0⟩, ⟨"SEL", 2, 2, .rw, 0⟩,
    ⟨"DIR", 4, 1, .rw, 0⟩, ⟨"WAIT_READY", 5, 1, .rw, 0⟩, ⟨"ERASE", 6, 1, .rw, 0⟩]⟩,  -- R399
  ⟨"PHASE", 0x104, false, [], [⟨"CMD_W", 0, 2, .rw, 0⟩, ⟨"ADDR_W", 2, 2, .rw, 0⟩, ⟨"DATA_W", 6, 2, .rw, 0⟩,
    ⟨"CMD_BYTES", 8, 2, .rw, 0⟩, ⟨"ADDR_BYTES", 10, 3, .rw, 0⟩, ⟨"DUMMY", 16, 5, .rw, 0⟩]⟩,  -- R399
  ⟨"CMD", 0x108, false, [], [⟨"CMD", 0, 16, .rw, 0⟩]⟩,  -- R399
  ⟨"ADDR", 0x10c, false, [], [⟨"ADDR", 0, 32, .rw, 0⟩]⟩,  -- R399
  ⟨"LEN", 0x110, false, [], [⟨"LEN", 0, 9, .rw, 0⟩]⟩,  -- R399
  ⟨"XSTAT", 0x114, false, [], [⟨"BUSY", 0, 1, .ro, 0⟩, ⟨"RESULT", 1, 3, .ro, 0⟩, ⟨"STATUS", 8, 8, .ro, 0⟩,
    ⟨"POLLS", 16, 9, .ro, 0⟩]⟩,  -- R399
  ⟨"LEN_DONE", 0x118, false, [], [⟨"LEN_DONE", 0, 9, .ro, 0⟩]⟩,  -- R399
  ⟨"DATA", 0x200, false, [(64, 0x4)], [⟨"DATA", 0, 32, .rw, 0⟩]⟩,  -- R399
  ⟨"SMB_CFG", 0x400, false, [], [⟨"ADDR", 0, 7, .gd, 0x4c⟩, ⟨"PEC_EN", 8, 1, .gd, 0⟩,
    ⟨"BLOCK_LEN", 9, 5, .gd, 0⟩, ⟨"ALERT_MASK", 16, 4, .gd, 7⟩]⟩,  -- R400
  ⟨"SMB_STAT", 0x404, false, [], [⟨"OVERRUN", 0, 1, .w1c, 0⟩, ⟨"PEC_ERR", 1, 1, .w1c, 0⟩,
    ⟨"BAD_WRITE", 2, 1, .w1c, 0⟩]⟩ ]  -- R400

/-- Registers of the CAL block. -/
def rowsCal : List RegRow := [
  ⟨"CTRL", 0x0, false, [], [⟨"ABORT", 0, 1, .wo, 0⟩]⟩,  -- R373
  ⟨"STAT", 0x4, false, [], [⟨"ACTIVITY", 0, 2, .ro, 0⟩, ⟨"FACET", 4, 4, .ro, 0⟩, ⟨"RESULT", 8, 3, .ro, 0⟩,
    ⟨"MODIFIED", 11, 1, .ro, 0⟩, ⟨"WRITE_DROP", 12, 1, .w1c, 0⟩, ⟨"WALL_VALID", 13, 1, .ro, 0⟩,
    ⟨"CALQ", 16, 3, .ro, 0⟩, ⟨"NVMQ", 20, 3, .ro, 0⟩]⟩,  -- R373
  ⟨"REF_DECLARED", 0x8, false, [], [⟨"D", 0, 32, .rw, 0x2625a0⟩]⟩,  -- R373
  ⟨"REF_MEAS", 0xc, false, [], [⟨"M", 0, 32, .ro, 0⟩]⟩,  -- R373
  ⟨"PIN_CFG", 0x10, false, [], [⟨"V", 0, 16, .rw, 0x7d0⟩]⟩,  -- R373
  ⟨"PIN_ILIM", 0x14, false, [], [⟨"OPEN_NA", 0, 16, .rw, 0x32⟩, ⟨"PD_NA", 16, 16, .rw, 0x1f4⟩]⟩,  -- R373
  ⟨"COUNT", 0x18, false, [], [⟨"COUNT", 0, 32, .ro, 0⟩]⟩,  -- R373
  ⟨"LAST_WALL", 0x20, true, [], [⟨"WALL", 0, 64, .ro, 0⟩]⟩,  -- R373
  ⟨"LAST_AT", 0x28, true, [], [⟨"AT", 0, 64, .ro, 0⟩]⟩,  -- R373
  ⟨"COUNT_F", 0x40, false, [(16, 0x4)], [⟨"COUNT", 0, 32, .ro, 0⟩]⟩,  -- R373
  ⟨"PMI_TRIM", 0x100, false, [(64, 0x4)], [⟨"OFS", 0, 16, .gd, 0⟩, ⟨"GAIN", 16, 16, .gd, 0⟩]⟩,  -- R373
  ⟨"PMI_RES", 0x200, false, [(64, 0x4)], [⟨"RESULT", 0, 2, .ro, 0⟩, ⟨"REASON", 4, 4, .ro, 0⟩]⟩,  -- R373
  ⟨"CH_RES", 0x1000, false, [(2048, 0x4)], [⟨"RESULT", 0, 2, .ro, 0⟩, ⟨"REASON", 4, 4, .ro, 0⟩,
    ⟨"ST", 8, 2, .ro, 0⟩, ⟨"ST_CODE", 12, 3, .ro, 0⟩, ⟨"LEAK_NA", 16, 16, .ro, 0⟩]⟩ ]  -- R373

/-- Registers of the RNG block. -/
def rowsRng : List RegRow := [
  ⟨"CTRL", 0x0, false, [(16384, 0x40)], [⟨"ENABLE", 0, 1, .rw, 0⟩, ⟨"PLACE", 1, 1, .rw, 0⟩,
    ⟨"LOG2SIZE", 2, 5, .rw, 0⟩, ⟨"WB_EN", 7, 1, .rw, 0⟩, ⟨"IRQ_EN", 8, 1, .rw, 0⟩, ⟨"IRQ_LINE", 9, 5, .rw, 0⟩,
    ⟨"RETRY", 14, 1, .hc, 0⟩]⟩,  -- R291
  ⟨"STAT", 0x4, false, [(16384, 0x40)], [⟨"STATE", 0, 3, .ro, 0⟩, ⟨"CAUSE", 3, 3, .ro, 0⟩,
    ⟨"DRAINING", 6, 1, .ro, 0⟩, ⟨"LOSS", 7, 1, .w1c, 0⟩]⟩,  -- R291
  ⟨"BASE", 0x8, true, [(16384, 0x40)], [⟨"BASE", 0, 64, .rw, 0⟩]⟩,  -- R291
  ⟨"PROD", 0x10, false, [(16384, 0x40)], [⟨"PROD", 0, 32, .rw, 0⟩]⟩,  -- R291
  ⟨"CONS", 0x14, false, [(16384, 0x40)], [⟨"CONS", 0, 32, .rw, 0⟩]⟩,  -- R291
  ⟨"WB_ADDR", 0x18, true, [(16384, 0x40)], [⟨"ADDR", 0, 64, .rw, 0⟩]⟩,  -- R291
  ⟨"SPILLED", 0x20, false, [(16384, 0x40)], [⟨"SPILLED", 0, 24, .ro, 0⟩]⟩,  -- R291
  ⟨"PARK_INDEX", 0x24, false, [(16384, 0x40)], [⟨"INDEX", 0, 32, .ro, 0⟩]⟩,  -- R291
  ⟨"FAULT_ADDR", 0x28, true, [(16384, 0x40)], [⟨"ADDR", 0, 64, .ro, 0⟩]⟩,  -- R291
  ⟨"PARK_AT", 0x30, true, [(16384, 0x40)], [⟨"AT", 0, 64, .ro, 0⟩]⟩,  -- R291
  ⟨"PARKS", 0x38, false, [(16384, 0x40)], [⟨"COUNT", 0, 32, .cts, 0⟩]⟩,  -- R291
  ⟨"LOST", 0x3c, false, [(16384, 0x40)], [⟨"COUNT", 0, 32, .cts, 0⟩]⟩ ]  -- R291

/-- Registers of the DMA block, part 0. -/
def rowsDma0 : List RegRow := [
  ⟨"CFG", 0x0, false, [], [⟨"PRI_EN", 0, 1, .rw, 1⟩, ⟨"AGE", 1, 8, .rw, 0x40⟩]⟩,  -- R303
  ⟨"LINK_STAT", 0x4, false, [], [⟨"SPEED", 0, 4, .ro, 0⟩, ⟨"WIDTH", 4, 5, .ro, 0⟩, ⟨"UP", 9, 1, .ro, 0⟩,
    ⟨"ATS_EN", 10, 1, .ro, 0⟩, ⟨"PRI_CAP_EN", 11, 1, .ro, 0⟩, ⟨"PRI_HALTED", 12, 1, .ro, 0⟩]⟩,  -- R303
  ⟨"POOL_FREE", 0x10, false, [], [⟨"FREE", 0, 14, .ro, 0x2fe0⟩]⟩,  -- R303
  ⟨"POOL_LWM", 0x14, false, [], [⟨"LWM", 0, 14, .rw, 0x400⟩]⟩,  -- R303
  ⟨"POOL_HWM", 0x18, false, [], [⟨"HWM", 0, 14, .rw, 0x800⟩]⟩,  -- R303
  ⟨"POOL_STAT", 0x1c, false, [], [⟨"LOW", 0, 1, .ro, 0⟩, ⟨"EXHAUSTED", 1, 1, .ro, 0⟩,
    ⟨"RSV_USED", 16, 13, .ro, 0⟩]⟩,  -- R303
  ⟨"SPILL_PAGES", 0x20, false, [], [⟨"PAGES", 0, 14, .ro, 0⟩]⟩,  -- R303
  ⟨"POOL_PAGE", 0x24, false, [], [⟨"PAGE", 0, 14, .rw, 0⟩]⟩,  -- R303
  ⟨"PRI_OUT", 0x28, false, [], [⟨"OUT", 0, 9, .ro, 0⟩]⟩,  -- R303
  ⟨"PRI_RESTART", 0x2c, false, [], [⟨"RESTART", 0, 1, .wo, 0⟩]⟩,  -- R303
  ⟨"FAULT_SRC", 0x30, false, [], [⟨"KIND", 0, 2, .ro, 0⟩, ⟨"INDEX", 16, 14, .ro, 0⟩]⟩,  -- R303
  ⟨"FAULT_ADDR", 0x38, true, [], [⟨"ADDR", 0, 64, .ro, 0⟩]⟩,  -- R303
  ⟨"ACQ_PARK", 0x40, false, [], [⟨"PARK", 0, 16, .ro, 0⟩]⟩,  -- R303
  ⟨"RETRY_AUX", 0x44, false, [], [⟨"ACQ", 0, 1, .wo, 0⟩, ⟨"SQ", 1, 1, .wo, 0⟩]⟩,  -- R303
  ⟨"DB_LAST", 0x48, false, [], [⟨"RING", 0, 14, .ro, 0⟩]⟩,  -- R303
  ⟨"STAT", 0x4c, false, [], [⟨"WRITE_DROP", 0, 1, .w1c, 0⟩]⟩,  -- R303
  ⟨"FAULTS", 0x50, false, [], [⟨"COUNT", 0, 32, .cts, 0⟩]⟩,  -- R303
  ⟨"DB_BAD", 0x54, false, [], [⟨"COUNT", 0, 32, .cts, 0⟩]⟩,  -- R303
  ⟨"LOST_RECS", 0x58, false, [], [⟨"COUNT", 0, 32, .cts, 0⟩]⟩,  -- R303
  ⟨"DISCARD", 0x5c, false, [], [⟨"COUNT", 0, 32, .cts, 0⟩]⟩,  -- R303
  ⟨"XFER_CTRL", 0x100, false, [], [⟨"START", 0, 1, .hc, 0⟩, ⟨"ABORT", 1, 1, .wo, 0⟩, ⟨"SRC", 2, 1, .rw, 0⟩]⟩,  -- R303
  ⟨"XFER_SRC", 0x104, false, [], [⟨"FIRST", 0, 14, .rw, 0⟩, ⟨"COUNT", 16, 14, .rw, 0⟩]⟩,  -- R303
  ⟨"XFER_DST", 0x108, true, [], [⟨"DST", 0, 64, .rw, 0⟩]⟩,  -- R303
  ⟨"XFER_STAT", 0x110, false, [], [⟨"BUSY", 0, 1, .ro, 0⟩, ⟨"END", 1, 2, .ro, 0⟩]⟩ ]  -- R303

/-- Registers of the DMA block, part 1. -/
def rowsDma1 : List RegRow := [
  ⟨"POOLWIN", 0x10000, false, [(16384, 0x4)], [⟨"DATA", 0, 32, .rw, 0⟩]⟩,  -- R292
  ⟨"RNG_PEND", 0x20000, false, [(512, 0x4)], [⟨"PEND", 0, 32, .w1c, 0⟩]⟩,  -- R289
  ⟨"MSIX_TABLE", 0xf0000, false, [(64, 0x4)], [⟨"DATA", 0, 32, .rw, 0⟩]⟩,  -- R280
  ⟨"MSIX_PBA", 0xf1000, false, [(2, 0x4)], [⟨"PBA", 0, 32, .ro, 0⟩]⟩ ]  -- R280

/-- Registers of the DMA block. -/
def rowsDma : List RegRow := rowsDma0 ++ rowsDma1

/-- Registers of the ARC block, part 0. -/
def rowsArc0 : List RegRow := [
  ⟨"CFG", 0x0, false, [], [⟨"REPLAY_MAX", 0, 2, .rw, 1⟩, ⟨"REPLAY_WAIT", 2, 1, .rw, 0⟩,
    ⟨"TO_ACTION", 3, 2, .rw, 0⟩]⟩,  -- R211
  ⟨"REGANG_WIN", 0x4, false, [], [⟨"TICKS", 0, 32, .rw, 0xc80⟩]⟩,  -- R211
  ⟨"START_LEAD", 0x8, false, [], [⟨"TICKS", 0, 32, .rw, 0x100⟩]⟩,  -- R211
  ⟨"BUSY_WB", 0xc, false, [], [⟨"TICKS", 0, 32, .rw, 0x640⟩]⟩,  -- R211
  ⟨"HOLD_MAX", 0x10, false, [], [⟨"TICKS", 0, 32, .rw, 0x186a00⟩]⟩,  -- R211
  ⟨"STAT", 0x20, false, [], [⟨"INFLIGHT", 0, 13, .ro, 0⟩, ⟨"BUS_ACTIVE", 16, 10, .ro, 0⟩,
    ⟨"QUIET", 31, 1, .ro, 1⟩]⟩,  -- R211
  ⟨"CANCEL", 0x24, false, [], [⟨"VALUE", 0, 16, .wo, 0⟩]⟩,  -- R211
  ⟨"REPLAY_GO", 0x28, false, [], [⟨"VALUE", 0, 16, .wo, 0⟩]⟩,  -- R211
  ⟨"ISSUE_COUNT", 0x30, false, [], [⟨"COUNT", 0, 32, .cts, 0⟩]⟩,  -- R211
  ⟨"REPLAY_COUNT", 0x34, false, [], [⟨"COUNT", 0, 32, .cts, 0⟩]⟩,  -- R211
  ⟨"STARVE_COUNT", 0x38, false, [], [⟨"COUNT", 0, 32, .cts, 0⟩]⟩,  -- R211
  ⟨"LATE_ARM_COUNT", 0x3c, false, [], [⟨"COUNT", 0, 32, .cts, 0⟩]⟩,  -- R211
  ⟨"VHOLD", 0x100, false, [(128, 0x4)], [⟨"HOLD", 0, 32, .w1c, 0⟩]⟩,  -- R211
  ⟨"VSTAT", 0x10000, false, [(4096, 0x10)], [⟨"STATE", 0, 3, .ro, 0⟩, ⟨"OPTYPE", 8, 4, .ro, 0⟩,
    ⟨"ATTEMPTS", 12, 2, .ro, 0⟩, ⟨"TAG", 16, 16, .ro, 0⟩]⟩,  -- R212
  ⟨"RSEQ", 0x10004, false, [(4096, 0x10)], [⟨"RSEQ", 0, 32, .ct, 0⟩]⟩,  -- R212
  ⟨"SINCE", 0x10008, true, [(4096, 0x10)], [⟨"SINCE", 0, 64, .ro, 0⟩]⟩,  -- R212
  ⟨"CHORD_CFG", 0x20000, false, [(512, 0x20)], [⟨"POLL_ROUTINE", 0, 4, .rw, 0xe⟩]⟩,  -- R213
  ⟨"POLL_INT", 0x20004, false, [(512, 0x20)], [⟨"TICKS", 0, 32, .rw, 0x7d00⟩]⟩,  -- R213
  ⟨"POLL_FIRST", 0x20008, false, [(512, 0x20)], [⟨"TICKS", 0, 32, .rw, 0x7d00⟩]⟩,  -- R213
  ⟨"CHORD_STAT", 0x2000c, false, [(512, 0x20)], [⟨"BUS", 0, 1, .ro, 0⟩, ⟨"HOLD_TPL", 1, 1, .ro, 0⟩,
    ⟨"HOLD_GRID", 2, 1, .ro, 0⟩, ⟨"URGENT", 3, 1, .ro, 0⟩, ⟨"RECOVERY_FAIL", 4, 1, .w1c, 0⟩]⟩,  -- R213
  ⟨"POLL_LATE", 0x20010, false, [(512, 0x20)], [⟨"COUNT", 0, 32, .cts, 0⟩]⟩,  -- R213
  ⟨"POLL_ROUNDS", 0x20014, false, [(512, 0x20)], [⟨"COUNT", 0, 32, .ct, 0⟩]⟩,  -- R213
  ⟨"JREQ", 0xd0000, false, [(512, 0x10)], [⟨"VEC", 0, 4, .wo, 0⟩, ⟨"KIND", 8, 2, .wo, 0⟩,
    ⟨"TIMED", 12, 1, .wo, 0⟩]⟩,  -- R162
  ⟨"JREQ_STAT", 0xd0004, false, [(512, 0x10)], [⟨"LATCHED", 0, 1, .ro, 0⟩, ⟨"DROPPED", 1, 1, .w1c, 0⟩,
    ⟨"IDLE_DROP", 2, 1, .w1c, 0⟩]⟩ ]  -- R162

/-- Registers of the ARC block, part 1. -/
def rowsArc1 : List RegRow := [
  ⟨"JREQ_AT", 0xd0008, true, [(512, 0x10)], [⟨"AT", 0, 64, .rw, 0⟩]⟩,  -- R162
  ⟨"DT0", 0xe0000, false, [(16, 0x40)], [⟨"DEFINED", 0, 1, .rw, 0⟩, ⟨"CLASS", 1, 3, .rw, 0⟩,
    ⟨"PLANES", 8, 5, .rw, 0⟩, ⟨"COL_CYCLES", 16, 4, .rw, 0⟩, ⟨"ROW_CYCLES", 20, 4, .rw, 0⟩]⟩,  -- R53
  ⟨"DT1", 0xe0004, false, [(16, 0x40)], [⟨"BLOCKS", 0, 16, .rw, 0⟩, ⟨"PAGES", 16, 16, .rw, 0⟩]⟩,  -- R53
  ⟨"DT2", 0xe0008, false, [(16, 0x40)], [⟨"PAGE_BYTES", 0, 20, .rw, 0⟩]⟩,  -- R53
  ⟨"DT3", 0xe000c, false, [(16, 0x40)], [⟨"CW_DATA", 0, 16, .rw, 0⟩, ⟨"CW_SPARE", 16, 16, .rw, 0⟩]⟩,  -- R53
  ⟨"DT4", 0xe0010, false, [(16, 0x40)], [⟨"CORR_THRESH", 0, 16, .rw, 0⟩]⟩,  -- R53
  ⟨"DT5", 0xe0014, false, [(16, 0x40)], [⟨"T_PROG", 0, 32, .rw, 0⟩]⟩,  -- R53
  ⟨"DT6", 0xe0018, false, [(16, 0x40)], [⟨"T_ERASE", 0, 32, .rw, 0⟩]⟩,  -- R53
  ⟨"DT7", 0xe001c, false, [(16, 0x40)], [⟨"T_READ", 0, 32, .rw, 0⟩]⟩,  -- R53
  ⟨"DT8", 0xe0020, false, [(16, 0x40)], [⟨"T_BUSY_MAX", 0, 32, .rw, 0⟩]⟩,  -- R53
  ⟨"DT9", 0xe0024, false, [(16, 0x40)], [⟨"READY_MASK", 0, 8, .rw, 0⟩, ⟨"READY_VALUE", 8, 8, .rw, 0⟩,
    ⟨"FAIL_MASK", 16, 8, .rw, 0⟩, ⟨"FAIL_VALUE", 24, 8, .rw, 0⟩]⟩,  -- R53
  ⟨"DT10", 0xe0028, false, [(16, 0x40)], [⟨"SPARE_COLS", 0, 9, .rw, 0⟩, ⟨"SPARE_ROWS_2D", 16, 5, .rw, 0⟩,
    ⟨"SPARE_COLS_2D", 24, 5, .rw, 0⟩]⟩,  -- R53
  ⟨"SITE_CTRL", 0xf0000, false, [], [⟨"CHECK", 0, 1, .hc, 0⟩, ⟨"COMMIT", 1, 1, .hc, 0⟩,
    ⟨"CONTACT", 2, 1, .hc, 0⟩, ⟨"ABORT", 3, 1, .wo, 0⟩]⟩,  -- R59
  ⟨"SITE_STAT", 0xf0004, false, [], [⟨"VALID", 0, 1, .ro, 0⟩, ⟨"DIRTY", 1, 1, .ro, 0⟩, ⟨"LAST", 2, 2, .ro, 0⟩,
    ⟨"RESULT", 4, 4, .ro, 0⟩, ⟨"ERR_COUNT", 8, 12, .ro, 0⟩]⟩,  -- R59
  ⟨"SITE_ERR", 0xf0008, false, [], [⟨"CODE", 0, 4, .ro, 0⟩, ⟨"KIND", 4, 4, .ro, 0⟩, ⟨"INDEX", 8, 12, .ro, 0⟩,
    ⟨"CHANNEL", 20, 11, .ro, 0⟩]⟩,  -- R59
  ⟨"SITE_GEN", 0xf000c, false, [], [⟨"GEN", 0, 32, .ct, 0⟩]⟩,  -- R59
  ⟨"CONTACT_CFG", 0xf0010, false, [], [⟨"OPEN_MV", 0, 12, .rw, 0x4b0⟩, ⟨"SHORT_MV", 12, 12, .rw, 0x96⟩,
    ⟨"SAMPLES", 24, 7, .rw, 0x10⟩, ⟨"SCOPE", 31, 1, .rw, 0⟩]⟩,  -- R61
  ⟨"CONTACT_SETTLE", 0xf0018, false, [], [⟨"SETTLE", 0, 32, .rw, 0xfa00⟩]⟩,  -- R61
  ⟨"WALLCLOCK", 0xf0020, true, [], [⟨"SECONDS", 0, 64, .rw, 0⟩]⟩,  -- R55
  ⟨"WALLCLOCK_AT", 0xf0028, true, [], [⟨"AT", 0, 64, .ro, 0⟩]⟩,  -- R55
  ⟨"CHUCK_TEMP", 0xf0030, false, [], [⟨"TEMP", 0, 16, .rw, 0⟩, ⟨"VALID", 16, 1, .rw, 0⟩]⟩,  -- R55
  ⟨"INKED", 0xf0100, false, [(128, 0x4)], [⟨"INK", 0, 32, .w1s, 0⟩]⟩,  -- R52
  ⟨"CONTACT_MASK", 0xf0400, false, [(64, 0x4)], [⟨"MASK", 0, 32, .rw, 0⟩]⟩,  -- R60
  ⟨"CONTACT_RES", 0xf1000, false, [(2048, 0x4)], [⟨"MV", 0, 16, .ro, 0⟩, ⟨"CODE", 16, 2, .ro, 0⟩]⟩ ]  -- R61

/-- Registers of the ARC block. -/
def rowsArc : List RegRow := rowsArc0 ++ rowsArc1

/-- Registers of the LAT block, part 0. -/
def rowsLat0 : List RegRow := [
  ⟨"CMAP_CFG", 0x4, false, [], [⟨"AREA", 0, 1, .rw, 0⟩, ⟨"PLANE_EN", 1, 1, .rw, 0⟩, ⟨"PLANE", 2, 4, .rw, 0⟩]⟩,  -- R239
  ⟨"RA_CFG", 0x8, false, [], [⟨"NAND_MUST", 0, 2, .rw, 3⟩, ⟨"NAND_REQ", 2, 2, .rw, 1⟩]⟩,  -- R239
  ⟨"RA_CMD", 0x10, false, [], [⟨"START", 0, 1, .hc, 0⟩, ⟨"ABORT", 1, 1, .wo, 0⟩, ⟨"KIND", 2, 1, .rw, 0⟩,
    ⟨"PLANE", 4, 4, .rw, 0⟩, ⟨"TAG", 16, 16, .rw, 0⟩]⟩,  -- R239
  ⟨"RA_RANGE", 0x14, false, [], [⟨"VFIRST", 0, 12, .rw, 0⟩, ⟨"VLAST", 16, 12, .rw, 0⟩]⟩,  -- R239
  ⟨"RA_STAT", 0x18, false, [], [⟨"RESULT", 0, 2, .ro, 0⟩, ⟨"REPAIRED", 4, 13, .ro, 0⟩,
    ⟨"UNREPAIRABLE", 17, 13, .ro, 0⟩]⟩,  -- R239
  ⟨"RA_STAT2", 0x1c, false, [], [⟨"UNDECIDED", 0, 13, .ro, 0⟩]⟩,  -- R239
  ⟨"CLEAR", 0x20, false, [], [⟨"START", 0, 1, .hc, 0⟩, ⟨"CMAP", 1, 1, .rw, 0⟩, ⟨"BB", 2, 1, .rw, 0⟩]⟩,  -- R239
  ⟨"CLEAR_RANGE", 0x24, false, [], [⟨"VFIRST", 0, 12, .rw, 0⟩, ⟨"VLAST", 16, 12, .rw, 0⟩]⟩,  -- R239
  ⟨"CMAP_PAGE", 0x30, false, [], [⟨"PAGE", 0, 4, .rw, 0⟩]⟩,  -- R239
  ⟨"STAT", 0x34, false, [], [⟨"WRITE_DROP", 0, 1, .w1c, 0⟩]⟩,  -- R239
  ⟨"EVENTS", 0x40, false, [], [⟨"COUNT", 0, 32, .cts, 0⟩]⟩,  -- R239
  ⟨"LOST", 0x44, false, [], [⟨"COUNT", 0, 32, .cts, 0⟩]⟩,  -- R239
  ⟨"IGNORED", 0x48, false, [], [⟨"COUNT", 0, 32, .cts, 0⟩]⟩,  -- R239
  ⟨"MERGE_LATE", 0x4c, false, [], [⟨"COUNT", 0, 32, .cts, 0⟩]⟩,  -- R239
  ⟨"CMAP_BEYOND", 0x50, false, [], [⟨"COUNT", 0, 32, .cts, 0⟩]⟩,  -- R239
  ⟨"UECC", 0x54, false, [], [⟨"COUNT", 0, 32, .cts, 0⟩]⟩,  -- R239
  ⟨"DT", 0x1000, false, [(16, 0x4)], [⟨"LAYOUT", 0, 1, .rw, 0⟩, ⟨"BB_MAX", 16, 16, .rw, 0⟩]⟩,  -- R240
  ⟨"MAP0", 0x2000, false, [(16, 0x100)], [⟨"DQ_FIRST", 0, 5, .rw, 0⟩, ⟨"DQ16", 5, 1, .rw, 0⟩,
    ⟨"DDR", 6, 1, .rw, 0⟩, ⟨"NSPAN", 8, 3, .rw, 0⟩, ⟨"COL_BITS", 16, 5, .rw, 0⟩, ⟨"VALID", 31, 1, .rw, 0⟩]⟩,  -- R240
  ⟨"DSTART", 0x2004, false, [(16, 0x100)], [⟨"DSTART", 0, 32, .rw, 0⟩]⟩,  -- R240
  ⟨"SPAN_START", 0x2010, false, [(16, 0x100), (8, 0x10)], [⟨"START", 0, 32, .rw, 0⟩]⟩,  -- R240
  ⟨"SPAN_FIRST", 0x2014, false, [(16, 0x100), (8, 0x10)], [⟨"FIRST", 0, 32, .rw, 0⟩]⟩,  -- R240
  ⟨"SPAN_CFG", 0x2018, false, [(16, 0x100), (8, 0x10)], [⟨"VPC_M1", 0, 4, .rw, 0⟩, ⟨"DIR", 4, 1, .rw, 0⟩]⟩,  -- R240
  ⟨"COLL", 0x4000, false, [(128, 0x20)], [⟨"VERTEX", 0, 12, .rw, 0⟩, ⟨"REGION", 16, 8, .rw, 0⟩,
    ⟨"EN", 31, 1, .rw, 0⟩]⟩,  -- R241
  ⟨"COLL_CLEAR", 0x4004, false, [(128, 0x20)], [⟨"CLEAR", 0, 1, .hc, 0⟩]⟩ ]  -- R241

/-- Registers of the LAT block, part 1. -/
def rowsLat1 : List RegRow := [
  ⟨"COLL_STAT", 0x4008, false, [(128, 0x20)], [⟨"STORED", 0, 10, .ro, 0⟩, ⟨"MUST_ROWS", 16, 5, .ro, 0⟩,
    ⟨"MUST_COLS", 21, 5, .ro, 0⟩, ⟨"EARLY", 26, 1, .ro, 0⟩, ⟨"OUTSIDE", 27, 1, .w1c, 0⟩,
    ⟨"PENDING", 28, 1, .ro, 0⟩]⟩,  -- R241
  ⟨"BB", 0x10000, false, [(4096, 0x40), (8, 0x4)], [⟨"COUNT0", 0, 16, .cts, 0⟩, ⟨"COUNT1", 16, 16, .cts, 0⟩]⟩,  -- R241
  ⟨"BB_LAST", 0x10020, false, [(4096, 0x40)], [⟨"LAST", 0, 16, .ro, 0⟩, ⟨"LAST_VALID", 16, 1, .ro, 0⟩]⟩,  -- R241
  ⟨"FSEQ", 0x50000, false, [(4096, 0x4)], [⟨"FSEQ", 0, 32, .ct, 0⟩]⟩,  -- R241
  ⟨"CMAPWIN", 0x100000, false, [(262144, 0x4)], [⟨"DATA", 0, 32, .rw, 0⟩]⟩ ]  -- R227

/-- Registers of the LAT block. -/
def rowsLat : List RegRow := rowsLat0 ++ rowsLat1

/-- Registers of the SIT block. -/
def rowsSit : List RegRow := [
  ⟨"VX0", 0x0, false, [(4096, 0x20)], [⟨"STATE", 0, 2, .rw, 0⟩, ⟨"DIE_TYPE", 4, 4, .rw, 0⟩,
    ⟨"CHORD", 8, 9, .rw, 0⟩, ⟨"SLOT", 24, 6, .rw, 0⟩]⟩,  -- R50
  ⟨"VX1", 0x4, false, [(4096, 0x20)], [⟨"SELECT_CH", 0, 11, .rw, 0⟩, ⟨"SELECT_CODE", 16, 6, .rw, 0⟩]⟩,  -- R50
  ⟨"VX2", 0x8, false, [(4096, 0x20)], [⟨"BUSY_CH", 0, 11, .rw, 0⟩, ⟨"BUSY_EN", 15, 1, .rw, 0⟩,
    ⟨"GATE_CH", 16, 11, .rw, 0⟩, ⟨"GATE_POL", 30, 1, .rw, 0⟩, ⟨"GATE_EN", 31, 1, .rw, 0⟩]⟩,  -- R50
  ⟨"VX3", 0xc, false, [(4096, 0x20)], [⟨"PMI", 0, 6, .rw, 0⟩, ⟨"PMI_EN", 6, 1, .rw, 0⟩]⟩,  -- R50
  ⟨"VX4", 0x10, false, [(4096, 0x20)], [⟨"WAFER_X", 0, 16, .rw, 0⟩, ⟨"WAFER_Y", 16, 16, .rw, 0⟩]⟩,  -- R50
  ⟨"VXU", 0x14, false, [(4096, 0x20), (3, 0x4)], [⟨"USER", 0, 32, .rw, 0⟩]⟩,  -- R50
  ⟨"CH0", 0x20000, false, [(512, 0x40)], [⟨"ENABLE", 0, 1, .rw, 0⟩, ⟨"SELECT_KIND", 1, 1, .rw, 0⟩,
    ⟨"CODE_WIDTH", 2, 3, .rw, 0⟩, ⟨"TEMPLATE", 8, 6, .rw, 0⟩, ⟨"SHARED_COUNT", 16, 5, .rw, 0⟩]⟩,  -- R47
  ⟨"CH1", 0x20004, false, [(512, 0x40)], [⟨"STROBE_CH", 0, 11, .rw, 0⟩, ⟨"CODE0_CH", 16, 11, .rw, 0⟩]⟩,  -- R47
  ⟨"CH2", 0x20008, false, [(512, 0x40)], [⟨"CODE1_CH", 0, 11, .rw, 0⟩, ⟨"CODE2_CH", 16, 11, .rw, 0⟩]⟩,  -- R47
  ⟨"CH3", 0x2000c, false, [(512, 0x40)], [⟨"CODE3_CH", 0, 11, .rw, 0⟩, ⟨"CODE4_CH", 16, 11, .rw, 0⟩]⟩,  -- R47
  ⟨"CH4", 0x20010, false, [(512, 0x40)], [⟨"CODE5_CH", 0, 11, .rw, 0⟩]⟩,  -- R47
  ⟨"CHS", 0x20014, false, [(512, 0x40), (11, 0x4)], [⟨"SHARED0", 0, 11, .rw, 0⟩, ⟨"SHARED1", 16, 11, .rw, 0⟩]⟩ ]  -- R47

/-- Registers of the ACQ block, part 0. -/
def rowsAcq0 : List RegRow := [
  ⟨"PMI_CFG", 0x0, false, [(64, 0x8)], [⟨"EN", 0, 1, .rw, 0⟩, ⟨"RATE", 1, 2, .rw, 0⟩]⟩,  -- R262
  ⟨"PMI_LAST", 0x4, false, [(64, 0x8)], [⟨"CODE", 0, 24, .ro, 0⟩, ⟨"OVR", 24, 1, .ro, 0⟩,
    ⟨"STALE", 25, 1, .ro, 0⟩]⟩,  -- R262
  ⟨"STAT", 0x400, false, [], [⟨"WRITE_DROP", 0, 1, .w1c, 0⟩]⟩,  -- R277
  ⟨"U_CFG", 0x1000, false, [(16, 0x80)], [⟨"MODE", 0, 2, .rw, 0⟩, ⟨"SRC_KIND", 2, 2, .rw, 3⟩,
    ⟨"SRC_INDEX", 4, 9, .rw, 0⟩]⟩,  -- R277
  ⟨"U_CHMASK", 0x1004, false, [(16, 0x80)], [⟨"CHMASK", 0, 16, .rw, 0⟩]⟩,  -- R277
  ⟨"U_PRE", 0x1008, false, [(16, 0x80)], [⟨"PRE", 0, 32, .rw, 0⟩]⟩,  -- R277
  ⟨"U_POST", 0x100c, false, [(16, 0x80)], [⟨"POST", 0, 32, .rw, 0⟩]⟩,  -- R277
  ⟨"U_REDUCE", 0x1010, false, [(16, 0x80)], [⟨"R", 0, 16, .rw, 0⟩]⟩,  -- R277
  ⟨"U_TRIG_CFG", 0x1014, false, [(16, 0x80)], [⟨"KIND", 0, 3, .rw, 0⟩, ⟨"UNIT", 4, 4, .rw, 0⟩]⟩,  -- R277
  ⟨"U_THRESH", 0x1018, false, [(16, 0x80)], [⟨"THRESH", 0, 32, .rw, 0⟩]⟩,  -- R277
  ⟨"U_HOLD", 0x101c, false, [(16, 0x80)], [⟨"HOLD", 0, 32, .rw, 0⟩]⟩,  -- R277
  ⟨"U_TRIG_AT", 0x1020, true, [(16, 0x80)], [⟨"AT", 0, 64, .rw, 0⟩]⟩,  -- R277
  ⟨"U_PAGES", 0x1028, false, [(16, 0x80)], [⟨"PAGES", 0, 14, .rw, 0⟩]⟩,  -- R277
  ⟨"U_CTRL", 0x102c, false, [(16, 0x80)], [⟨"ARM", 0, 1, .hc, 0⟩, ⟨"STOP", 1, 1, .wo, 0⟩, ⟨"TRIG", 2, 1, .wo, 0⟩]⟩,  -- R277
  ⟨"U_DEST_ADDR", 0x1030, true, [(16, 0x80)], [⟨"ADDR", 0, 64, .rw, 0⟩]⟩,  -- R277
  ⟨"U_DEST", 0x1038, false, [(16, 0x80)], [⟨"BSIZE", 0, 5, .rw, 0⟩, ⟨"VERTEX", 16, 12, .rw, 0⟩,
    ⟨"NOTIFY", 28, 1, .rw, 0⟩, ⟨"LOCAL", 29, 1, .rw, 0⟩]⟩,  -- R277
  ⟨"U_DEST_CONS", 0x103c, false, [(16, 0x80)], [⟨"CONS", 0, 32, .rw, 0⟩]⟩,  -- R277
  ⟨"U_DEST_PROD", 0x1040, false, [(16, 0x80)], [⟨"PROD", 0, 32, .ro, 0⟩]⟩,  -- R277
  ⟨"U_STAT", 0x1044, false, [(16, 0x80)], [⟨"STATE", 0, 3, .ro, 0⟩, ⟨"ERR", 4, 4, .ro, 0⟩,
    ⟨"GAP", 8, 1, .w1c, 0⟩, ⟨"OVERFLOW", 9, 1, .w1c, 0⟩, ⟨"ENDED", 10, 1, .w1c, 0⟩]⟩,  -- R277
  ⟨"U_IGN_FILL", 0x1048, false, [(16, 0x80)], [⟨"COUNT", 0, 32, .cts, 0⟩]⟩,  -- R277
  ⟨"U_IGN_REARM", 0x104c, false, [(16, 0x80)], [⟨"COUNT", 0, 32, .cts, 0⟩]⟩,  -- R277
  ⟨"U_LOST", 0x1050, false, [(16, 0x80)], [⟨"COUNT", 0, 32, .cts, 0⟩]⟩,  -- R277
  ⟨"U_CAPTURES", 0x1054, false, [(16, 0x80)], [⟨"COUNT", 0, 32, .ct, 0⟩]⟩,  -- R277
  ⟨"U_LAST_TRIG_AT", 0x1058, true, [(16, 0x80)], [⟨"AT", 0, 64, .ro, 0⟩]⟩ ]  -- R277

/-- Registers of the ACQ block, part 1. -/
def rowsAcq1 : List RegRow := [
  ⟨"U_TAG", 0x1060, false, [(16, 0x80)], [⟨"TAG", 0, 16, .rw, 0⟩, ⟨"NBLK", 16, 16, .rw, 0⟩]⟩,  -- R277
  ⟨"MSEQ", 0x40000, false, [(4096, 0x4)], [⟨"MSEQ", 0, 32, .ct, 0⟩]⟩ ]  -- R277

/-- Registers of the ACQ block. -/
def rowsAcq : List RegRow := rowsAcq0 ++ rowsAcq1

/-- Registers of the FCT block, part 0. -/
def rowsFct0 : List RegRow := [
  ⟨"UWIN", 0x0, false, [(65536, 0x4)], [⟨"DATA", 0, 32, .rw, 0⟩]⟩,  -- R158
  ⟨"SCR", 0x40000, false, [(4096, 0x4)], [⟨"ENTRY", 0, 32, .rw, 0⟩]⟩,  -- R180
  ⟨"WMEM", 0x48000, false, [(8192, 0x4)], [⟨"S0", 0, 16, .rw, 0⟩, ⟨"S1", 16, 16, .rw, 0⟩]⟩,  -- R181
  ⟨"LS0", 0x60000, false, [(16, 0x20)], [⟨"VIL", 0, 16, .sh, 0⟩, ⟨"VIH", 16, 16, .sh, 0⟩]⟩,  -- R89
  ⟨"LS1", 0x60004, false, [(16, 0x20)], [⟨"VOL", 0, 16, .sh, 0⟩, ⟨"VOH", 16, 16, .sh, 0⟩]⟩,  -- R89
  ⟨"LS2", 0x60008, false, [(16, 0x20)], [⟨"VT", 0, 16, .sh, 0⟩]⟩,  -- R89
  ⟨"LS3", 0x6000c, false, [(16, 0x20)], [⟨"CLAMP_LO", 0, 16, .gd, 0xe2b4⟩, ⟨"CLAMP_HI", 16, 16, .gd, 0x6b6c⟩]⟩,  -- R89
  ⟨"LS4", 0x60010, false, [(16, 0x20)], [⟨"BIND", 0, 3, .sh, 0⟩, ⟨"GEN", 4, 2, .sh, 0⟩]⟩,  -- R89
  ⟨"CH", 0x61000, false, [(128, 0x4)], [⟨"LS", 0, 4, .sh, 0⟩, ⟨"SLEW", 4, 2, .sh, 0⟩,
    ⟨"OFF_MODE", 6, 1, .sh, 0⟩, ⟨"HYST", 8, 4, .sh, 0⟩, ⟨"STATE", 16, 2, .ro, 0⟩, ⟨"PARK_CAUSE", 18, 2, .ro, 0⟩]⟩,  -- R93
  ⟨"PMU_CTRL", 0x62000, false, [(128, 0x10)], [⟨"MODE", 0, 2, .rw, 0⟩, ⟨"RANGE", 2, 2, .rw, 0⟩,
    ⟨"SAMPLES", 6, 6, .rw, 1⟩, ⟨"START", 12, 1, .hc, 0⟩, ⟨"ABORT", 13, 1, .wo, 0⟩]⟩,  -- R97
  ⟨"PMU_FORCE", 0x62004, false, [(128, 0x10)], [⟨"FORCE", 0, 18, .rw, 0⟩]⟩,  -- R97
  ⟨"PMU_RESULT", 0x62008, false, [(128, 0x10)], [⟨"RESULT", 0, 32, .ro, 0⟩]⟩,  -- R97
  ⟨"PMU_STAT", 0x6200c, false, [(128, 0x10)], [⟨"BUSY", 0, 1, .ro, 0⟩, ⟨"CLAMPED", 1, 1, .w1c, 0⟩,
    ⟨"OVERRANGE", 2, 1, .w1c, 0⟩, ⟨"ABORTED", 3, 1, .w1c, 0⟩, ⟨"STALE", 4, 1, .ro, 0⟩,
    ⟨"BAD_CLAMP", 5, 1, .ro, 0⟩]⟩,  -- R97
  ⟨"PE_CFG", 0x63000, false, [], [⟨"OC_LEVEL", 0, 3, .gd, 4⟩, ⟨"OC_FILTER", 8, 8, .gd, 0x50⟩]⟩,  -- R105
  ⟨"PMU_SETTLE", 0x63004, false, [], [⟨"SETTLE", 0, 32, .rw, 0x3e80⟩]⟩,  -- R105
  ⟨"OC_STAT", 0x63010, false, [(4, 0x4)], [⟨"OC", 0, 32, .w1c, 0⟩]⟩,  -- R105
  ⟨"LS_STAT", 0x63020, false, [], [⟨"CLIP", 0, 16, .w1c, 0⟩, ⟨"BAD", 16, 16, .ro, 0⟩]⟩,  -- R105
  ⟨"OC_COUNT", 0x63024, false, [], [⟨"COUNT", 0, 32, .cts, 0⟩]⟩,  -- R105
  ⟨"PMU_DONE", 0x63030, false, [(4, 0x4)], [⟨"DONE", 0, 32, .w1c, 0⟩]⟩,  -- R105
  ⟨"TS", 0x64000, false, [(64, 0x20), (5, 0x4)], [⟨"OFS", 0, 29, .sh, 0⟩]⟩,  -- R123
  ⟨"TSW", 0x64014, false, [(64, 0x20)], [⟨"WINDOW", 0, 1, .sh, 0⟩]⟩,  -- R123
  ⟨"CHT", 0x64800, false, [(128, 0x4)], [⟨"TSEL", 0, 6, .sh, 0⟩, ⟨"GROUP", 8, 3, .sh, 0⟩]⟩,  -- R123
  ⟨"PERIOD", 0x65000, true, [(8, 0x8)], [⟨"PERIOD", 0, 48, .sh, 0x8000000⟩]⟩,  -- R129
  ⟨"RATE", 0x65040, false, [], [⟨"SEL", 0, 3, .sh, 0⟩, ⟨"ACTIVE", 4, 3, .ro, 0⟩]⟩ ]  -- R129

/-- Registers of the FCT block, part 1. -/
def rowsFct1 : List RegRow := [
  ⟨"ANCHOR", 0x65048, true, [], [⟨"ANCHOR", 0, 64, .sh, 0⟩]⟩,  -- R129
  ⟨"TIMING_STAT", 0x65050, false, [], [⟨"PER_CLIP", 0, 1, .w1c, 0⟩, ⟨"RATE_CONFLICT", 1, 1, .w1c, 0⟩,
    ⟨"ANCHOR_DEFERRED", 2, 1, .ro, 0⟩]⟩,  -- R129
  ⟨"TS_BAD", 0x65058, false, [(2, 0x4)], [⟨"BAD", 0, 32, .ro, 0⟩]⟩,  -- R129
  ⟨"EDGE_DROP", 0x65060, false, [], [⟨"COUNT", 0, 32, .cts, 0⟩]⟩,  -- R129
  ⟨"UPAGE", 0x68000, false, [], [⟨"PAGE", 0, 3, .rw, 0⟩]⟩,  -- R159
  ⟨"LOC_STAT", 0x68004, false, [], [⟨"UWRITE_DROP", 0, 1, .w1c, 0⟩]⟩,  -- R159
  ⟨"HOLD_MAX", 0x68008, false, [], [⟨"GRANULES", 0, 24, .rw, 0x1000⟩]⟩,  -- R159
  ⟨"JVEC", 0x68100, false, [(16, 0x4)], [⟨"ADDR", 0, 16, .rw, 0⟩, ⟨"VALID", 16, 1, .rw, 0⟩]⟩,  -- R159
  ⟨"TPL_ID", 0x68400, false, [(64, 0x4)], [⟨"ID", 0, 32, .rw, 0⟩]⟩,  -- R159
  ⟨"ENTRY", 0x69000, false, [(64, 0x40), (16, 0x4)], [⟨"ADDR", 0, 16, .rw, 0⟩, ⟨"VALID", 16, 1, .rw, 0⟩]⟩,  -- R159
  ⟨"RAY_STAT", 0x6a000, false, [(32, 0x80)], [⟨"STATE", 0, 3, .ro, 0⟩, ⟨"END_CAUSE", 4, 4, .ro, 0⟩,
    ⟨"ERR", 8, 4, .ro, 0⟩, ⟨"CHORD", 12, 9, .ro, 0⟩, ⟨"ASSIGNED", 21, 1, .ro, 0⟩]⟩,  -- R160
  ⟨"RAY_PC", 0x6a004, false, [(32, 0x80)], [⟨"ADDR", 0, 16, .ro, 0⟩, ⟨"IN_STREAM", 16, 1, .ro, 0⟩,
    ⟨"LOOP_DEPTH", 17, 4, .ro, 0⟩, ⟨"CALL_DEPTH", 21, 5, .ro, 0⟩]⟩,  -- R160
  ⟨"RAY_CODE", 0x6a008, false, [(32, 0x80)], [⟨"CURCODE", 0, 6, .ro, 0⟩, ⟨"GANG_N", 8, 7, .ro, 0⟩]⟩,  -- R160
  ⟨"RAY_FLAGS", 0x6a00c, false, [(32, 0x80)], [⟨"JUMP_LATE", 0, 1, .w1c, 0⟩, ⟨"JUMP_LOST", 1, 1, .w1c, 0⟩,
    ⟨"SEG_SHORT", 2, 1, .w1c, 0⟩, ⟨"UNDERFLOW", 3, 1, .w1c, 0⟩, ⟨"GAP", 4, 1, .w1c, 0⟩,
    ⟨"RSVD_SYM", 5, 1, .w1c, 0⟩, ⟨"RATE_RAYCONF", 6, 1, .w1c, 0⟩]⟩,  -- R160
  ⟨"RAY_VCOUNT", 0x6a010, true, [(32, 0x80)], [⟨"VCOUNT", 0, 64, .ro, 0⟩]⟩,  -- R160
  ⟨"RAY_SEGS", 0x6a018, false, [(32, 0x80)], [⟨"SEGS", 0, 32, .ro, 0⟩]⟩,  -- R160
  ⟨"RAY_GAPS", 0x6a01c, false, [(32, 0x80)], [⟨"COUNT", 0, 32, .cts, 0⟩]⟩,  -- R160
  ⟨"RAY_LASTGAP_AT", 0x6a020, true, [(32, 0x80)], [⟨"AT", 0, 64, .ro, 0⟩]⟩,  -- R160
  ⟨"RAY_LASTGAP_LEN", 0x6a028, false, [(32, 0x80)], [⟨"LEN", 0, 32, .ro, 0⟩]⟩,  -- R160
  ⟨"RAY_UPOS_SEG", 0x6a02c, false, [(32, 0x80)], [⟨"SEG", 0, 32, .ro, 0⟩]⟩,  -- R160
  ⟨"RAY_UPOS_VCOUNT", 0x6a030, true, [(32, 0x80)], [⟨"VCOUNT", 0, 64, .ro, 0⟩]⟩,  -- R160
  ⟨"RAY_PARAM", 0x6a040, false, [(32, 0x80), (8, 0x4)], [⟨"PARAM", 0, 32, .ro, 0⟩]⟩,  -- R160
  ⟨"RAY_UPOS_LOOP", 0x6a060, false, [(32, 0x80), (8, 0x4)], [⟨"LOOP", 0, 32, .ro, 0⟩]⟩,  -- R160
  ⟨"SQ_CFG", 0x6b000, false, [(32, 0x20)], [⟨"BASE", 0, 15, .rw, 0⟩, ⟨"SIZE", 16, 16, .rw, 0⟩]⟩ ]  -- R161

/-- Registers of the FCT block, part 2. -/
def rowsFct2 : List RegRow := [
  ⟨"SQ_HSIZE", 0x6b004, false, [(32, 0x20)], [⟨"HSIZE", 0, 5, .rw, 0⟩]⟩,  -- R161
  ⟨"SQ_HADDR", 0x6b008, true, [(32, 0x20)], [⟨"HADDR", 0, 64, .rw, 0⟩]⟩,  -- R161
  ⟨"SQ_PROD", 0x6b010, false, [(32, 0x20)], [⟨"PROD", 0, 32, .rw, 0⟩]⟩,  -- R161
  ⟨"SQ_FETCHED", 0x6b014, false, [(32, 0x20)], [⟨"FETCHED", 0, 32, .ro, 0⟩]⟩,  -- R161
  ⟨"SQ_CONS", 0x6b018, false, [(32, 0x20)], [⟨"CONS", 0, 32, .ro, 0⟩]⟩,  -- R161
  ⟨"GEN_X_LO", 0x6c000, false, [(32, 0x80)], [⟨"V", 0, 32, .rw, 0⟩]⟩,  -- R179
  ⟨"GEN_X_HI", 0x6c004, false, [(32, 0x80)], [⟨"V", 0, 32, .rw, 0xffffffff⟩]⟩,  -- R179
  ⟨"GEN_X_STEP", 0x6c008, false, [(32, 0x80)], [⟨"V", 0, 32, .rw, 1⟩]⟩,  -- R179
  ⟨"GEN_Y_LO", 0x6c00c, false, [(32, 0x80)], [⟨"V", 0, 24, .rw, 0⟩]⟩,  -- R179
  ⟨"GEN_Y_HI", 0x6c010, false, [(32, 0x80)], [⟨"V", 0, 24, .rw, 0xffffff⟩]⟩,  -- R179
  ⟨"GEN_Y_STEP", 0x6c014, false, [(32, 0x80)], [⟨"V", 0, 24, .rw, 1⟩]⟩,  -- R179
  ⟨"GEN_Z_BND", 0x6c018, false, [(32, 0x80)], [⟨"LO", 0, 16, .rw, 0⟩, ⟨"HI", 16, 16, .rw, 0xffff⟩]⟩,  -- R179
  ⟨"GEN_Z_STEP", 0x6c01c, false, [(32, 0x80)], [⟨"V", 0, 16, .rw, 1⟩]⟩,  -- R179
  ⟨"GEN_SCR", 0x6c020, false, [(32, 0x80), (3, 0x4)], [⟨"EN", 0, 1, .rw, 0⟩, ⟨"MODE", 1, 1, .rw, 0⟩,
    ⟨"LSB", 2, 5, .rw, 0⟩, ⟨"BITS", 7, 4, .rw, 0⟩, ⟨"BASE", 16, 12, .rw, 0⟩]⟩,  -- R179
  ⟨"GEN_MAP", 0x6c02c, false, [(32, 0x80)], [⟨"ZSHIFT", 0, 5, .rw, 0⟩, ⟨"YWIDTH", 5, 5, .rw, 0⟩,
    ⟨"AFIRST", 10, 5, .rw, 0⟩, ⟨"AWIDTH", 15, 5, .rw, 0⟩, ⟨"DFIRST", 20, 5, .rw, 0⟩]⟩,  -- R179
  ⟨"GEN_DCFG", 0x6c030, false, [(32, 0x80)], [⟨"SRC", 0, 2, .rw, 0⟩, ⟨"BG", 2, 3, .rw, 0⟩,
    ⟨"DWIDTH", 5, 2, .rw, 0⟩, ⟨"INV0", 7, 1, .rw, 0⟩, ⟨"VSEED", 8, 1, .rw, 0⟩, ⟨"SEED_SRC", 9, 1, .rw, 0⟩]⟩,  -- R179
  ⟨"GEN_DPAT", 0x6c034, false, [(32, 0x80)], [⟨"V", 0, 32, .rw, 0⟩]⟩,  -- R179
  ⟨"GEN_AMASK_X", 0x6c038, false, [(32, 0x80)], [⟨"V", 0, 32, .rw, 0⟩]⟩,  -- R179
  ⟨"GEN_AMASK_Y", 0x6c03c, false, [(32, 0x80)], [⟨"V", 0, 24, .rw, 0⟩]⟩,  -- R179
  ⟨"GEN_SEED", 0x6c040, false, [(32, 0x80)], [⟨"V", 0, 32, .rw, 0⟩]⟩,  -- R179
  ⟨"GEN_MARCH_CFG", 0x6c044, false, [(32, 0x80)], [⟨"ELEMS", 0, 5, .rw, 0⟩]⟩,  -- R179
  ⟨"GEN_WSYM", 0x6c048, false, [(32, 0x80), (3, 0x4)], [⟨"V", 0, 32, .rw, 0⟩]⟩,  -- R179
  ⟨"GEN_RSYM", 0x6c054, false, [(32, 0x80), (3, 0x4)], [⟨"V", 0, 32, .rw, 0⟩]⟩,  -- R179
  ⟨"GEN_X", 0x6c060, false, [(32, 0x80)], [⟨"V", 0, 32, .ro, 0⟩]⟩ ]  -- R179

/-- Registers of the FCT block, part 3. -/
def rowsFct3 : List RegRow := [
  ⟨"GEN_Y", 0x6c064, false, [(32, 0x80)], [⟨"V", 0, 24, .ro, 0⟩]⟩,  -- R179
  ⟨"GEN_Z", 0x6c068, false, [(32, 0x80)], [⟨"V", 0, 16, .ro, 0⟩, ⟨"XLIM", 16, 1, .ro, 0⟩,
    ⟨"YLIM", 17, 1, .ro, 0⟩, ⟨"ZLIM", 18, 1, .ro, 0⟩, ⟨"DINV", 19, 1, .ro, 0⟩]⟩,  -- R179
  ⟨"GEN_MPOS", 0x6c06c, false, [(32, 0x80)], [⟨"ELEM", 0, 5, .ro, 0⟩, ⟨"OP", 8, 3, .ro, 0⟩,
    ⟨"STARTED", 12, 1, .ro, 0⟩, ⟨"DONE", 13, 1, .ro, 0⟩]⟩,  -- R179
  ⟨"GEN_GFLAGS", 0x6c070, false, [(32, 0x80)], [⟨"GEN_RANGE", 0, 1, .w1c, 0⟩, ⟨"DCFG_BAD", 1, 1, .w1c, 0⟩,
    ⟨"MARCH_OVERRUN", 2, 1, .w1c, 0⟩]⟩,  -- R179
  ⟨"WG_CMD", 0x6d000, false, [(4, 0x80)], [⟨"CMD", 0, 2, .wo, 0⟩, ⟨"TIMED", 4, 1, .wo, 0⟩]⟩,  -- R186
  ⟨"WG_CFG", 0x6d004, false, [(4, 0x80)], [⟨"NSEG", 0, 3, .rw, 1⟩, ⟨"REPEAT", 3, 1, .rw, 0⟩]⟩,  -- R186
  ⟨"WG_AT", 0x6d008, true, [(4, 0x80)], [⟨"AT", 0, 64, .rw, 0⟩]⟩,  -- R186
  ⟨"WG_TS", 0x6d010, false, [(4, 0x80)], [⟨"TS", 0, 32, .sh, 0x6400000⟩]⟩,  -- R186
  ⟨"WG_IDLE", 0x6d014, false, [(4, 0x80)], [⟨"V", 0, 16, .rw, 0⟩]⟩,  -- R186
  ⟨"WG_STAT", 0x6d018, false, [(4, 0x80)], [⟨"STATE", 0, 2, .ro, 0⟩, ⟨"SEG", 4, 3, .ro, 0⟩,
    ⟨"REQ_LOST", 24, 1, .w1c, 0⟩, ⟨"TS_CLIP", 25, 1, .w1c, 0⟩, ⟨"UECC", 26, 1, .w1c, 0⟩,
    ⟨"SEG_BAD", 27, 1, .w1c, 0⟩]⟩,  -- R186
  ⟨"WG_OUT", 0x6d01c, false, [(4, 0x80)], [⟨"V", 0, 16, .ro, 0⟩]⟩,  -- R186
  ⟨"WG_STARTED_AT", 0x6d020, true, [(4, 0x80)], [⟨"AT", 0, 64, .ro, 0⟩]⟩,  -- R186
  ⟨"WG_SEG", 0x6d040, false, [(4, 0x80), (8, 0x8)], [⟨"BASE_G", 0, 8, .rw, 0⟩, ⟨"LEN_G", 8, 9, .rw, 0⟩]⟩,  -- R186
  ⟨"WG_LOOPS", 0x6d044, false, [(4, 0x80), (8, 0x8)], [⟨"LOOPS", 0, 16, .rw, 0⟩]⟩,  -- R186
  ⟨"GEN_STAT", 0x6d800, false, [], [⟨"WRITE_DROP", 0, 1, .w1c, 0⟩]⟩,  -- R180
  ⟨"MARCH", 0x6e000, false, [(32, 0x40), (16, 0x4)], [⟨"NOPS_M1", 0, 3, .rw, 0⟩, ⟨"DIR", 3, 1, .rw, 0⟩,
    ⟨"WRITE", 8, 8, .rw, 0⟩, ⟨"POL", 16, 8, .rw, 0⟩]⟩,  -- R179
  ⟨"TDC_START_SEL", 0x70000, false, [(32, 0x80)], [⟨"KIND", 0, 2, .rw, 3⟩, ⟨"CH", 2, 7, .rw, 0⟩,
    ⟨"EDGE", 9, 2, .rw, 0⟩, ⟨"RAY", 11, 5, .rw, 0⟩, ⟨"VEV", 16, 2, .rw, 0⟩, ⟨"TIP", 18, 1, .rw, 0⟩]⟩,  -- R251
  ⟨"TDC_STOP_SEL", 0x70004, false, [(32, 0x80)], [⟨"KIND", 0, 2, .rw, 3⟩, ⟨"CH", 2, 7, .rw, 0⟩,
    ⟨"EDGE", 9, 2, .rw, 0⟩, ⟨"RAY", 11, 5, .rw, 0⟩, ⟨"VEV", 16, 2, .rw, 0⟩, ⟨"TIP", 18, 1, .rw, 0⟩]⟩,  -- R251
  ⟨"TDC_START_ARG", 0x70008, true, [(32, 0x80)], [⟨"ARG", 0, 64, .rw, 0⟩]⟩,  -- R251
  ⟨"TDC_STOP_ARG", 0x70010, true, [(32, 0x80)], [⟨"ARG", 0, 64, .rw, 0⟩]⟩,  -- R251
  ⟨"TDC_CTRL", 0x70018, false, [(32, 0x80)], [⟨"N_M1", 0, 24, .rw, 0⟩, ⟨"START", 24, 1, .hc, 0⟩,
    ⟨"ABORT", 25, 1, .wo, 0⟩]⟩,  -- R251
  ⟨"TDC_HOLDOFF", 0x7001c, false, [(32, 0x80)], [⟨"START_HOLDOFF", 0, 16, .rw, 0⟩,
    ⟨"STOP_HOLDOFF", 16, 16, .rw, 0⟩]⟩,  -- R251
  ⟨"TDC_TIMEOUT", 0x70020, false, [(32, 0x80)], [⟨"TICKS", 0, 32, .rw, 0⟩]⟩,  -- R251
  ⟨"TDC_INTERVAL", 0x70024, false, [(32, 0x80)], [⟨"TICKS", 0, 32, .rw, 0⟩]⟩ ]  -- R251

/-- Registers of the FCT block, part 4. -/
def rowsFct4 : List RegRow := [
  ⟨"TDC_STAT", 0x70028, false, [(32, 0x80)], [⟨"BUSY", 0, 1, .ro, 0⟩, ⟨"END", 1, 2, .ro, 0⟩,
    ⟨"STALE", 3, 1, .ro, 0⟩, ⟨"TIME_SUSPECT", 4, 1, .w1c, 0⟩, ⟨"MISSED", 5, 1, .w1c, 0⟩,
    ⟨"OVF", 6, 1, .w1c, 0⟩, ⟨"RATE", 7, 1, .w1c, 0⟩]⟩,  -- R251
  ⟨"TDC_COUNT", 0x7002c, false, [(32, 0x80)], [⟨"COUNT", 0, 25, .ro, 0⟩]⟩,  -- R251
  ⟨"TDC_MEAN", 0x70030, true, [(32, 0x80)], [⟨"MEAN", 0, 64, .ro, 0⟩]⟩,  -- R251
  ⟨"TDC_STDEV", 0x70038, true, [(32, 0x80)], [⟨"STDEV", 0, 64, .ro, 0⟩]⟩,  -- R251
  ⟨"TDC_MIN", 0x70040, true, [(32, 0x80)], [⟨"MIN", 0, 64, .ro, 0⟩]⟩,  -- R251
  ⟨"TDC_MAX", 0x70048, true, [(32, 0x80)], [⟨"MAX", 0, 64, .ro, 0⟩]⟩,  -- R251
  ⟨"TDC_LAST", 0x70050, true, [(32, 0x80)], [⟨"LAST", 0, 64, .ro, 0⟩]⟩,  -- R251
  ⟨"TDC_LAST_AT", 0x70058, true, [(32, 0x80)], [⟨"AT", 0, 64, .ro, 0⟩]⟩,  -- R251
  ⟨"TDC_TIMEOUTS", 0x70060, false, [(32, 0x80)], [⟨"COUNT", 0, 32, .cts, 0⟩]⟩,  -- R251
  ⟨"RC_SRC", 0x71000, false, [], [⟨"CH", 0, 7, .rw, 0⟩, ⟨"EDGE", 7, 2, .rw, 0⟩]⟩,  -- R255
  ⟨"RC_HOLDOFF", 0x71004, false, [], [⟨"TICKS", 0, 16, .rw, 0⟩]⟩,  -- R255
  ⟨"RC_GATE", 0x71008, false, [], [⟨"TICKS", 0, 32, .rw, 0x186a00⟩]⟩,  -- R255
  ⟨"RC_CTRL", 0x7100c, false, [], [⟨"START", 0, 1, .hc, 0⟩, ⟨"ABORT", 1, 1, .wo, 0⟩, ⟨"TIMED", 2, 1, .rw, 0⟩,
    ⟨"M_MAX", 5, 20, .rw, 0⟩]⟩,  -- R255
  ⟨"RC_GATE_AT", 0x71010, true, [], [⟨"AT", 0, 64, .rw, 0⟩]⟩,  -- R255
  ⟨"RC_STAT", 0x71018, false, [], [⟨"BUSY", 0, 1, .ro, 0⟩, ⟨"END", 1, 2, .ro, 0⟩, ⟨"FEW", 3, 1, .ro, 0⟩,
    ⟨"RATE", 4, 1, .w1c, 0⟩, ⟨"TIME_SUSPECT", 5, 1, .w1c, 0⟩, ⟨"STALE", 6, 1, .ro, 0⟩]⟩,  -- R255
  ⟨"RC_M", 0x7101c, false, [], [⟨"M", 0, 21, .ro, 0⟩]⟩,  -- R255
  ⟨"RC_PERIOD", 0x71020, true, [], [⟨"PERIOD", 0, 64, .ro, 0⟩]⟩,  -- R255
  ⟨"RC_FREQ", 0x71028, true, [], [⟨"FREQ", 0, 64, .ro, 0⟩]⟩,  -- R255
  ⟨"RC_RESID", 0x71030, false, [], [⟨"RESID", 0, 32, .ro, 0⟩]⟩,  -- R255
  ⟨"RC_RSV", 0x71034, false, [], []⟩,  -- R255
  ⟨"RC_FIRST_AT", 0x71038, true, [], [⟨"AT", 0, 64, .ro, 0⟩]⟩,  -- R255
  ⟨"RC_LAST_AT", 0x71040, true, [], [⟨"AT", 0, 64, .ro, 0⟩]⟩,  -- R255
  ⟨"TMU_DONE", 0x71800, false, [], [⟨"DONE", 0, 32, .w1c, 0⟩]⟩,  -- R256
  ⟨"TMU_STAT", 0x71804, false, [], [⟨"WRITE_DROP", 0, 1, .w1c, 0⟩, ⟨"RC_DONE", 1, 1, .w1c, 0⟩]⟩ ]  -- R256

/-- Registers of the FCT block, part 5. -/
def rowsFct5 : List RegRow := [
  ⟨"TRIM0", 0x74000, false, [(128, 0x40)], [⟨"DRV_OFS", 0, 10, .gd, 0⟩, ⟨"DRV_GAIN", 16, 8, .gd, 0⟩]⟩,  -- R352
  ⟨"TRIM1", 0x74004, false, [(128, 0x40)], [⟨"CMP_HI_OFS", 0, 10, .gd, 0⟩, ⟨"CMP_LO_OFS", 16, 10, .gd, 0⟩]⟩,  -- R352
  ⟨"TRIM_DDSK", 0x74008, false, [(128, 0x40)], [⟨"D0", 0, 8, .gd, 0⟩, ⟨"D1", 8, 8, .gd, 0⟩,
    ⟨"D2", 16, 8, .gd, 0⟩, ⟨"D3", 24, 8, .gd, 0⟩]⟩,  -- R352
  ⟨"TRIM_CDSK", 0x7400c, false, [(128, 0x40)], [⟨"D0", 0, 8, .gd, 0⟩, ⟨"D1", 8, 8, .gd, 0⟩,
    ⟨"D2", 16, 8, .gd, 0⟩, ⟨"D3", 24, 8, .gd, 0⟩]⟩,  -- R352
  ⟨"TRIM_PMUI", 0x74010, false, [(128, 0x40), (4, 0x4)], [⟨"OFS", 0, 12, .gd, 0⟩, ⟨"GAIN", 16, 10, .gd, 0⟩]⟩,  -- R352
  ⟨"TRIM_PMUV", 0x74020, false, [(128, 0x40)], [⟨"OFS", 0, 12, .gd, 0⟩, ⟨"GAIN", 16, 10, .gd, 0⟩]⟩,  -- R352
  ⟨"PPD", 0x7e000, false, [(128, 0x4)], [⟨"DELAY", 0, 18, .sh, 0⟩]⟩ ]  -- R54

/-- Registers of the FCT block. -/
def rowsFct : List RegRow := rowsFct0 ++ rowsFct1 ++ rowsFct2 ++ rowsFct3 ++ rowsFct4 ++ rowsFct5

/-- Ranges of offsets, per block, whose unlisted offsets the spec declares reserved (R25): implemented, all bits reserved. -/
def reservedRanges : List (Blk × Nat × Nat) := [
  (.fcl, 0x0, 0xffff),
  (.thm, 0x0, 0xff),
  (.apx, 0x400, 0xffff),
  (.cal, 0x0, 0xffff),
  (.dma, 0x0, 0xffff),
  (.lat, 0x2000, 0x2fff),
  (.lat, 0x4000, 0x4fff),
  (.lat, 0x10000, 0x4ffff),
  (.acq, 0x1000, 0x17ff),
  (.fct, 0x60000, 0x601ff),
  (.fct, 0x64000, 0x647ff),
  (.fct, 0x6c000, 0x6cfff),
  (.fct, 0x6d000, 0x6d1ff),
  (.fct, 0x70000, 0x70fff),
  (.fct, 0x74000, 0x75fff) ]

end Sys2Proof.Machine
end

