-- ==== Sys2Proof/Machine/RegNames.lean ====
section
/-!
DEFINITION. The names of the registers and of their fields, BLOCK_REGISTER and BLOCK_REGISTER_FIELD, as places:
an address in BAR0 (R25), a low bit and a width. For a facet register the first index is the facet.
-/

namespace Sys2Proof.Reg
open Sys2Proof.Machine

abbrev GLB_IDENT : Nat := 0x0
abbrev GLB_IDENT_MEMBER : Fld := ⟨GLB_IDENT, 0, 4⟩
abbrev GLB_IDENT_STEPPING : Fld := ⟨GLB_IDENT, 8, 8⟩
abbrev GLB_IDENT_FAMILY : Fld := ⟨GLB_IDENT, 16, 16⟩
abbrev GLB_SERIAL : Nat := 0x8
abbrev GLB_SERIAL_SERIAL : Fld := ⟨GLB_SERIAL, 0, 64⟩
abbrev GLB_MODE : Nat := 0x10
abbrev GLB_MODE_MODE : Fld := ⟨GLB_MODE, 0, 3⟩
abbrev GLB_MODE_PREV_MODE : Fld := ⟨GLB_MODE, 4, 3⟩
abbrev GLB_MODE_PROFILE : Fld := ⟨GLB_MODE, 8, 3⟩
abbrev GLB_MODE_PROFILE_SRC : Fld := ⟨GLB_MODE, 11, 1⟩
abbrev GLB_UPDATE : Nat := 0x20
abbrev GLB_UPDATE_MASK : Fld := ⟨GLB_UPDATE, 0, 18⟩
abbrev GLB_UPDATE_TIMED : Fld := ⟨GLB_UPDATE, 24, 1⟩
abbrev GLB_UPDATE_CANCEL : Fld := ⟨GLB_UPDATE, 28, 1⟩
abbrev GLB_UPDATE_STAT : Nat := 0x24
abbrev GLB_UPDATE_STAT_ARMED : Fld := ⟨GLB_UPDATE_STAT, 0, 1⟩
abbrev GLB_UPDATE_STAT_LATE : Fld := ⟨GLB_UPDATE_STAT, 1, 1⟩
abbrev GLB_UPDATE_STAT_REJECTED : Fld := ⟨GLB_UPDATE_STAT, 2, 1⟩
abbrev GLB_UPDATE_AT : Nat := 0x28
abbrev GLB_UPDATE_AT_AT : Fld := ⟨GLB_UPDATE_AT, 0, 64⟩
abbrev GLB_UPDATE_DONE : Nat := 0x30
abbrev GLB_UPDATE_DONE_DONE : Fld := ⟨GLB_UPDATE_DONE, 0, 18⟩
abbrev GLB_UPDATE_MISS : Nat := 0x34
abbrev GLB_UPDATE_MISS_MISS : Fld := ⟨GLB_UPDATE_MISS, 0, 18⟩
abbrev GLB_SHADOW_DIRTY : Nat := 0x38
abbrev GLB_SHADOW_DIRTY_DIRTY : Fld := ⟨GLB_SHADOW_DIRTY, 0, 18⟩
abbrev GLB_UPDATE_APPLIED_AT : Nat := 0x40
abbrev GLB_UPDATE_APPLIED_AT_APPLIED_AT : Fld := ⟨GLB_UPDATE_APPLIED_AT, 0, 64⟩
abbrev GLB_UNLOCK : Nat := 0x50
abbrev GLB_UNLOCK_KEY : Fld := ⟨GLB_UNLOCK, 0, 32⟩
abbrev GLB_GUARD_STAT : Nat := 0x54
abbrev GLB_GUARD_STAT_HOST_OPEN : Fld := ⟨GLB_GUARD_STAT, 0, 1⟩
abbrev GLB_GUARD_STAT_APEX_OPEN : Fld := ⟨GLB_GUARD_STAT, 1, 1⟩
abbrev GLB_GUARD_STAT_BAD_KEYS : Fld := ⟨GLB_GUARD_STAT, 8, 8⟩
abbrev GLB_ACCESS_ERR : Nat := 0x60
abbrev GLB_ACCESS_ERR_VALID : Fld := ⟨GLB_ACCESS_ERR, 0, 1⟩
abbrev GLB_ACCESS_ERR_OVF : Fld := ⟨GLB_ACCESS_ERR, 1, 1⟩
abbrev GLB_ACCESS_ERR_CAUSE : Fld := ⟨GLB_ACCESS_ERR, 2, 3⟩
abbrev GLB_ACCESS_ERR_WRITE : Fld := ⟨GLB_ACCESS_ERR, 5, 1⟩
abbrev GLB_ACCESS_ERR_REQUESTER : Fld := ⟨GLB_ACCESS_ERR, 6, 2⟩
abbrev GLB_ACCESS_ERR_BYTE_EN : Fld := ⟨GLB_ACCESS_ERR, 8, 4⟩
abbrev GLB_ACCESS_ERR_ADDR : Nat := 0x64
abbrev GLB_ACCESS_ERR_ADDR_OFFSET : Fld := ⟨GLB_ACCESS_ERR_ADDR, 0, 26⟩
abbrev GLB_ACCESS_ERR_ADDR_BAR : Fld := ⟨GLB_ACCESS_ERR_ADDR, 28, 2⟩
abbrev GLB_ACCESS_ERR_COUNT : Nat := 0x68
abbrev GLB_ACCESS_ERR_COUNT_COUNT : Fld := ⟨GLB_ACCESS_ERR_COUNT, 0, 32⟩
abbrev GLB_SCRATCH (i : Nat) : Nat := 0x80 + i * 0x4
abbrev GLB_SCRATCH_DATA (i : Nat) : Fld := ⟨GLB_SCRATCH i, 0, 32⟩
abbrev ICL_SRC_CFG (i : Nat) : Nat := 0x10000 + i * 0x4
abbrev ICL_SRC_CFG_MASK (i : Nat) : Fld := ⟨ICL_SRC_CFG i, 0, 16⟩
abbrev ICL_SRC_CFG_ENABLE (i : Nat) : Fld := ⟨ICL_SRC_CFG i, 16, 1⟩
abbrev ICL_SRC_CFG_KIND (i : Nat) : Fld := ⟨ICL_SRC_CFG i, 17, 1⟩
abbrev ICL_PEND (i : Nat) : Nat := 0x11000 + i * 0x4
abbrev ICL_PEND_PEND (i : Nat) : Fld := ⟨ICL_PEND i, 0, 16⟩
abbrev ICL_GRP_STAT (i : Nat) : Nat := 0x11100 + i * 0x4
abbrev ICL_GRP_STAT_STATE (i : Nat) : Fld := ⟨ICL_GRP_STAT i, 0, 2⟩
abbrev ICL_GRP_STAT_OWNER (i : Nat) : Fld := ⟨ICL_GRP_STAT i, 4, 4⟩
abbrev ICL_GRP_STAT_OFFER_SET (i : Nat) : Fld := ⟨ICL_GRP_STAT i, 16, 16⟩
abbrev ICL_CLAIM (i : Nat) : Nat := 0x11200 + i * 0x4
abbrev ICL_CLAIM_GROUP (i : Nat) : Fld := ⟨ICL_CLAIM i, 0, 10⟩
abbrev ICL_CLAIM_ZERO (i : Nat) : Fld := ⟨ICL_CLAIM i, 10, 22⟩
abbrev ICL_DONE (i : Nat) : Nat := 0x11240 + i * 0x4
abbrev ICL_DONE_GROUP (i : Nat) : Fld := ⟨ICL_DONE i, 0, 5⟩
abbrev ICL_OFFER (i : Nat) : Nat := 0x11280 + i * 0x4
abbrev ICL_OFFER_GROUPS (i : Nat) : Fld := ⟨ICL_OFFER i, 0, 32⟩
abbrev ICL_ONLINE : Nat := 0x11300
abbrev ICL_ONLINE_HOST : Fld := ⟨ICL_ONLINE, 0, 15⟩
abbrev ICL_ONLINE_APEX : Fld := ⟨ICL_ONLINE, 15, 1⟩
abbrev ICL_STAT : Nat := 0x11304
abbrev ICL_STAT_ONLINE : Fld := ⟨ICL_STAT, 0, 16⟩
abbrev ICL_STAT_RETAINED : Fld := ⟨ICL_STAT, 16, 1⟩
abbrev ICL_STAT_DONE_BAD : Fld := ⟨ICL_STAT, 17, 1⟩
abbrev ICL_SPURIOUS : Nat := 0x11308
abbrev ICL_SPURIOUS_COUNT : Fld := ⟨ICL_SPURIOUS, 0, 32⟩
abbrev ICL_DONE_BAD : Nat := 0x1130c
abbrev ICL_DONE_BAD_COUNT : Fld := ⟨ICL_DONE_BAD, 0, 32⟩
abbrev ICL_SWSET : Nat := 0x11310
abbrev ICL_SWSET_SOURCE : Fld := ⟨ICL_SWSET, 0, 9⟩
abbrev FCL_SRC_CFG (i : Nat) : Nat := 0x20000 + i * 0x8
abbrev FCL_SRC_CFG_SEV (i : Nat) : Fld := ⟨FCL_SRC_CFG i, 0, 2⟩
abbrev FCL_SRC_CFG_METHOD (i : Nat) : Fld := ⟨FCL_SRC_CFG i, 2, 1⟩
abbrev FCL_SRC_CFG_REACT (i : Nat) : Fld := ⟨FCL_SRC_CFG i, 4, 2⟩
abbrev FCL_SRC_CFG_N_M1 (i : Nat) : Fld := ⟨FCL_SRC_CFG i, 8, 4⟩
abbrev FCL_SRC_W (i : Nat) : Nat := 0x20004 + i * 0x8
abbrev FCL_SRC_W_W (i : Nat) : Fld := ⟨FCL_SRC_W i, 0, 32⟩
abbrev FCL_GRACE : Nat := 0x20400
abbrev FCL_GRACE_US : Fld := ⟨FCL_GRACE, 0, 24⟩
abbrev FCL_ACK : Nat := 0x20404
abbrev FCL_ACK_SEQ : Fld := ⟨FCL_ACK, 0, 16⟩
abbrev FCL_STAT : Nat := 0x20408
abbrev FCL_STAT_CAPMODE : Fld := ⟨FCL_STAT, 0, 1⟩
abbrev FCL_STAT_GRACE_RUN : Fld := ⟨FCL_STAT, 1, 1⟩
abbrev FCL_STAT_ACK_REJ : Fld := ⟨FCL_STAT, 2, 1⟩
abbrev FCL_STAT_INJ_SEEN : Fld := ⟨FCL_STAT, 3, 1⟩
abbrev FCL_STAT_ERR_SEQ : Fld := ⟨FCL_STAT, 16, 16⟩
abbrev FCL_GRACE_LEFT : Nat := 0x2040c
abbrev FCL_GRACE_LEFT_US : Fld := ⟨FCL_GRACE_LEFT, 0, 24⟩
abbrev FCL_ESC : Nat := 0x20410
abbrev FCL_ESC_LATCHED : Fld := ⟨FCL_ESC, 0, 1⟩
abbrev FCL_ESC_KIND : Fld := ⟨FCL_ESC, 1, 2⟩
abbrev FCL_ESC_SOURCE : Fld := ⟨FCL_ESC, 8, 7⟩
abbrev FCL_ESC_INJECTED : Fld := ⟨FCL_ESC, 15, 1⟩
abbrev FCL_ESC_AGAIN : Fld := ⟨FCL_ESC, 16, 8⟩
abbrev FCL_ESC_CLEAR : Fld := ⟨FCL_ESC, 24, 1⟩
abbrev FCL_ESC_REFUSED : Fld := ⟨FCL_ESC, 25, 1⟩
abbrev FCL_ESC_AT : Nat := 0x20418
abbrev FCL_ESC_AT_ESC_AT : Fld := ⟨FCL_ESC_AT, 0, 64⟩
abbrev FCL_ALIVE : Nat := 0x20420
abbrev FCL_ALIVE_FREQ : Fld := ⟨FCL_ALIVE, 0, 14⟩
abbrev FCL_ALIVE_LEVEL : Fld := ⟨FCL_ALIVE, 16, 1⟩
abbrev FCL_ALIVE_FROZEN : Fld := ⟨FCL_ALIVE, 17, 1⟩
abbrev FCL_INJECT : Nat := 0x20424
abbrev FCL_INJECT_SOURCE : Fld := ⟨FCL_INJECT, 0, 7⟩
abbrev FCL_INJECT_RAIL : Fld := ⟨FCL_INJECT, 8, 1⟩
abbrev FCL_INJ_CFG : Nat := 0x20428
abbrev FCL_INJ_CFG_REACT : Fld := ⟨FCL_INJ_CFG, 0, 1⟩
abbrev FCL_ACTIVE (i : Nat) : Nat := 0x20430 + i * 0x4
abbrev FCL_ACTIVE_ACTIVE (i : Nat) : Fld := ⟨FCL_ACTIVE i, 0, 32⟩
abbrev FCL_RAIL (i : Nat) : Nat := 0x20440 + i * 0x4
abbrev FCL_RAIL_RAIL (i : Nat) : Fld := ⟨FCL_RAIL i, 0, 32⟩
abbrev FCL_STICKY (i : Nat) : Nat := 0x20450 + i * 0x4
abbrev FCL_STICKY_STICKY (i : Nat) : Fld := ⟨FCL_STICKY i, 0, 32⟩
abbrev FCL_FPARK : Nat := 0x20460
abbrev FCL_FPARK_FPARK : Fld := ⟨FCL_FPARK, 0, 16⟩
abbrev FCL_HIST_COUNT : Nat := 0x20470
abbrev FCL_HIST_COUNT_COUNT : Fld := ⟨FCL_HIST_COUNT, 0, 32⟩
abbrev FCL_SHADOW : Nat := 0x20474
abbrev FCL_SHADOW_SHADOW : Fld := ⟨FCL_SHADOW, 0, 21⟩
abbrev FCL_HIST (i : Nat) : Nat := 0x20800 + i * 0x10
abbrev FCL_HIST_SOURCE (i : Nat) : Fld := ⟨FCL_HIST i, 0, 7⟩
abbrev FCL_HIST_SEV (i : Nat) : Fld := ⟨FCL_HIST i, 8, 2⟩
abbrev FCL_HIST_INJECTED (i : Nat) : Fld := ⟨FCL_HIST i, 12, 1⟩
abbrev FCL_HIST_RAIL (i : Nat) : Fld := ⟨FCL_HIST i, 13, 1⟩
abbrev FCL_HIST_CONSEQUENTIAL (i : Nat) : Fld := ⟨FCL_HIST i, 14, 1⟩
abbrev FCL_HIST_COUNTED (i : Nat) : Fld := ⟨FCL_HIST i, 15, 1⟩
abbrev FCL_HIST_SEQ (i : Nat) : Fld := ⟨FCL_HIST i, 16, 16⟩
abbrev FCL_HIST_AT (i : Nat) : Nat := 0x20808 + i * 0x10
abbrev FCL_HIST_AT_AT (i : Nat) : Fld := ⟨FCL_HIST_AT i, 0, 64⟩
abbrev THM_TEMP : Nat := 0x30000
abbrev THM_TEMP_CODE : Fld := ⟨THM_TEMP, 0, 12⟩
abbrev THM_TEMP_VALID : Fld := ⟨THM_TEMP, 12, 1⟩
abbrev THM_TEMP_DIODE : Fld := ⟨THM_TEMP, 13, 2⟩
abbrev THM_TEMP_AT : Nat := 0x30008
abbrev THM_TEMP_AT_AT : Fld := ⟨THM_TEMP_AT, 0, 64⟩
abbrev THM_LEVEL : Nat := 0x30010
abbrev THM_LEVEL_WARN : Fld := ⟨THM_LEVEL, 0, 1⟩
abbrev THM_LEVEL_THROTTLE : Fld := ⟨THM_LEVEL, 1, 1⟩
abbrev THM_LEVEL_SHUTDOWN : Fld := ⟨THM_LEVEL, 2, 1⟩
abbrev THM_LEVEL_SENS_FROZEN : Fld := ⟨THM_LEVEL, 3, 1⟩
abbrev THM_FACTOR : Nat := 0x30014
abbrev THM_FACTOR_F : Fld := ⟨THM_FACTOR, 0, 9⟩
abbrev THM_WARN_CFG : Nat := 0x30020
abbrev THM_WARN_CFG_SET : Fld := ⟨THM_WARN_CFG, 0, 12⟩
abbrev THM_WARN_CFG_CLR : Fld := ⟨THM_WARN_CFG, 16, 12⟩
abbrev THM_THR_CFG : Nat := 0x30024
abbrev THM_THR_CFG_SET : Fld := ⟨THM_THR_CFG, 0, 12⟩
abbrev THM_THR_CFG_CLR : Fld := ⟨THM_THR_CFG, 16, 12⟩
abbrev THM_FAILSAFE : Nat := 0x30028
abbrev THM_FAILSAFE_F : Fld := ⟨THM_FAILSAFE, 0, 9⟩
abbrev THM_DRAIN : Nat := 0x3002c
abbrev THM_DRAIN_US : Fld := ⟨THM_DRAIN, 0, 18⟩
abbrev THM_BUDGET : Nat := 0x30030
abbrev THM_BUDGET_MW : Fld := ⟨THM_BUDGET, 0, 16⟩
abbrev THM_P_BASE : Nat := 0x30034
abbrev THM_P_BASE_MW : Fld := ⟨THM_P_BASE, 0, 16⟩
abbrev THM_CH_STATIC : Nat := 0x30038
abbrev THM_CH_STATIC_UW : Fld := ⟨THM_CH_STATIC, 0, 16⟩
abbrev THM_E_TOGGLE : Nat := 0x3003c
abbrev THM_E_TOGGLE_FJ : Fld := ⟨THM_E_TOGGLE, 0, 32⟩
abbrev THM_ALPHA : Nat := 0x30040
abbrev THM_ALPHA_ALPHA : Fld := ⟨THM_ALPHA, 0, 9⟩
abbrev THM_PMU_COST : Nat := 0x30044
abbrev THM_PMU_COST_UW : Fld := ⟨THM_PMU_COST, 0, 16⟩
abbrev THM_P_COMMIT : Nat := 0x30050
abbrev THM_P_COMMIT_P_COMMIT : Fld := ⟨THM_P_COMMIT, 0, 32⟩
abbrev THM_P_EST : Nat := 0x30054
abbrev THM_P_EST_P_EST : Fld := ⟨THM_P_EST, 0, 32⟩
abbrev THM_CREDIT : Nat := 0x30058
abbrev THM_CREDIT_CREDIT : Fld := ⟨THM_CREDIT, 0, 32⟩
abbrev THM_STAT : Nat := 0x30060
abbrev THM_STAT_OPEN : Fld := ⟨THM_STAT, 0, 1⟩
abbrev THM_STAT_SHORT : Fld := ⟨THM_STAT, 1, 1⟩
abbrev THM_STAT_SLEW : Fld := ⟨THM_STAT, 2, 1⟩
abbrev THM_STAT_STUCK : Fld := ⟨THM_STAT, 3, 1⟩
abbrev THM_STAT_OVER_BUDGET : Fld := ⟨THM_STAT, 4, 1⟩
abbrev THM_STAT_CFG_BAD : Fld := ⟨THM_STAT, 5, 1⟩
abbrev THM_STAT_SOLE : Fld := ⟨THM_STAT, 6, 1⟩
abbrev THM_STAT_UNFREEZE_REJ : Fld := ⟨THM_STAT, 7, 1⟩
abbrev THM_CTRL : Nat := 0x30064
abbrev THM_CTRL_UNFREEZE : Fld := ⟨THM_CTRL, 0, 1⟩
abbrev THM_SHUT_AT : Nat := 0x30068
abbrev THM_SHUT_AT_SHUT_AT : Fld := ⟨THM_SHUT_AT, 0, 64⟩
abbrev AXS_NOW : Nat := 0x40000
abbrev AXS_NOW_NOW : Fld := ⟨AXS_NOW, 0, 64⟩
abbrev AXS_STAT : Nat := 0x40008
abbrev AXS_STAT_LOCKED : Fld := ⟨AXS_STAT, 0, 1⟩
abbrev AXS_STAT_RECAL_DONE : Fld := ⟨AXS_STAT, 1, 1⟩
abbrev AXS_CTRL : Nat := 0x4000c
abbrev AXS_CTRL_RECAL : Fld := ⟨AXS_CTRL, 0, 1⟩
abbrev AXS_REPLICA_UNSYNC : Nat := 0x40010
abbrev AXS_REPLICA_UNSYNC_ISLAND : Fld := ⟨AXS_REPLICA_UNSYNC, 0, 18⟩
abbrev AXS_REPLICA_CNTERR : Nat := 0x40014
abbrev AXS_REPLICA_CNTERR_ISLAND : Fld := ⟨AXS_REPLICA_CNTERR, 0, 18⟩
abbrev AXS_SYNC_CFG : Nat := 0x40020
abbrev AXS_SYNC_CFG_OUT_MODE : Fld := ⟨AXS_SYNC_CFG, 0, 2⟩
abbrev AXS_SYNC_CFG_ARM : Fld := ⟨AXS_SYNC_CFG, 4, 1⟩
abbrev AXS_SYNC_FIRE : Nat := 0x40024
abbrev AXS_SYNC_FIRE_FIRE : Fld := ⟨AXS_SYNC_FIRE, 0, 1⟩
abbrev AXS_SYNC_DESKEW : Nat := 0x40028
abbrev AXS_SYNC_DESKEW_D : Fld := ⟨AXS_SYNC_DESKEW, 0, 16⟩
abbrev AXS_SYNC_LAST : Nat := 0x40030
abbrev AXS_SYNC_LAST_E_AT : Fld := ⟨AXS_SYNC_LAST, 0, 64⟩
abbrev AXS_EPOCH_COUNT : Nat := 0x40038
abbrev AXS_EPOCH_COUNT_COUNT : Fld := ⟨AXS_EPOCH_COUNT, 0, 32⟩
abbrev AXS_EPOCH_IGNORED : Nat := 0x4003c
abbrev AXS_EPOCH_IGNORED_COUNT : Fld := ⟨AXS_EPOCH_IGNORED, 0, 32⟩
abbrev AXS_REPLICA_OFS (i : Nat) : Nat := 0x40100 + i * 0x4
abbrev AXS_REPLICA_OFS_OFS (i : Nat) : Fld := ⟨AXS_REPLICA_OFS i, 0, 16⟩
abbrev APX_CMD (i : Nat) : Nat := 0x50000 + i * 0x100
abbrev APX_CMD_OPCODE (i : Nat) : Fld := ⟨APX_CMD i, 0, 8⟩
abbrev APX_CMD_SEQ (i : Nat) : Fld := ⟨APX_CMD i, 8, 8⟩
abbrev APX_ARG (i j : Nat) : Nat := 0x50004 + i * 0x100 + j * 0x4
abbrev APX_ARG_ARG (i j : Nat) : Fld := ⟨APX_ARG i j, 0, 32⟩
abbrev APX_DOORBELL (i : Nat) : Nat := 0x50018 + i * 0x100
abbrev APX_DOORBELL_GO (i : Nat) : Fld := ⟨APX_DOORBELL i, 0, 1⟩
abbrev APX_RESP (i : Nat) : Nat := 0x5001c + i * 0x100
abbrev APX_RESP_STATUS (i : Nat) : Fld := ⟨APX_RESP i, 0, 8⟩
abbrev APX_RESP_SEQ (i : Nat) : Fld := ⟨APX_RESP i, 8, 8⟩
abbrev APX_RESP_FINAL (i : Nat) : Fld := ⟨APX_RESP i, 16, 1⟩
abbrev APX_RESP_ABANDONED (i : Nat) : Fld := ⟨APX_RESP i, 17, 1⟩
abbrev APX_RESP_DATA (i j : Nat) : Nat := 0x50020 + i * 0x100 + j * 0x4
abbrev APX_RESP_DATA_DATA (i j : Nat) : Fld := ⟨APX_RESP_DATA i j, 0, 32⟩
abbrev APX_CMD_REJECT_COUNT : Nat := 0x50030
abbrev APX_CMD_REJECT_COUNT_COUNT : Fld := ⟨APX_CMD_REJECT_COUNT, 0, 32⟩
abbrev APX_BOOT_STAT : Nat := 0x50040
abbrev APX_BOOT_STAT_FW_SLOT : Fld := ⟨APX_BOOT_STAT, 0, 1⟩
abbrev APX_BOOT_STAT_FW_RESULT : Fld := ⟨APX_BOOT_STAT, 1, 2⟩
abbrev APX_BOOT_STAT_PROF_RESULT : Fld := ⟨APX_BOOT_STAT, 3, 3⟩
abbrev APX_BOOT_STAT_CAL_RESULT : Fld := ⟨APX_BOOT_STAT, 6, 2⟩
abbrev APX_BOOT_STAT_AUTORUN : Fld := ⟨APX_BOOT_STAT, 8, 1⟩
abbrev APX_BOOT_STAT_CAPMODE : Fld := ⟨APX_BOOT_STAT, 9, 1⟩
abbrev APX_BOOT_STAT_CAPMODE_DIFFERS : Fld := ⟨APX_BOOT_STAT, 10, 1⟩
abbrev APX_BOOT_STAT_HOST_LOCK : Fld := ⟨APX_BOOT_STAT, 11, 1⟩
abbrev APX_BOOT_TIME : Nat := 0x50044
abbrev APX_BOOT_TIME_US : Fld := ⟨APX_BOOT_TIME, 0, 32⟩
abbrev APX_SAFE_CAUSE : Nat := 0x50048
abbrev APX_SAFE_CAUSE_FAULT : Fld := ⟨APX_SAFE_CAUSE, 0, 1⟩
abbrev APX_SAFE_CAUSE_SHUTDOWN : Fld := ⟨APX_SAFE_CAUSE, 1, 1⟩
abbrev APX_SAFE_CAUSE_COMMAND : Fld := ⟨APX_SAFE_CAUSE, 2, 1⟩
abbrev APX_SAFE_CAUSE_NO_FIRMWARE : Fld := ⟨APX_SAFE_CAUSE, 3, 1⟩
abbrev APX_SAFE_CAUSE_CMD_CAUSE : Fld := ⟨APX_SAFE_CAUSE, 8, 8⟩
abbrev APX_DOZE_CFG : Nat := 0x50050
abbrev APX_DOZE_CFG_WAKE_THERM : Fld := ⟨APX_DOZE_CFG, 0, 1⟩
abbrev APX_DOZE_CFG_WAKE_SYNC : Fld := ⟨APX_DOZE_CFG, 1, 1⟩
abbrev APX_FW_VERSION : Nat := 0x50400
abbrev APX_FW_VERSION_VERSION : Fld := ⟨APX_FW_VERSION, 0, 32⟩
abbrev APX_FW_SVN : Nat := 0x50404
abbrev APX_FW_SVN_SVN : Fld := ⟨APX_FW_SVN, 0, 7⟩
abbrev APX_FW_SVN_ROLLBACK : Fld := ⟨APX_FW_SVN, 8, 7⟩
abbrev APX_FW_SLOTSTAT : Nat := 0x50408
abbrev APX_FW_SLOTSTAT_A : Fld := ⟨APX_FW_SLOTSTAT, 0, 4⟩
abbrev APX_FW_SLOTSTAT_B : Fld := ⟨APX_FW_SLOTSTAT, 4, 4⟩
abbrev APX_FW_SLOTSTAT_VERIFIES : Fld := ⟨APX_FW_SLOTSTAT, 8, 2⟩
abbrev APX_KEY_STAT : Nat := 0x5040c
abbrev APX_KEY_STAT_PROGRAMMED : Fld := ⟨APX_KEY_STAT, 0, 4⟩
abbrev APX_KEY_STAT_RESULT : Fld := ⟨APX_KEY_STAT, 4, 3⟩
abbrev APX_KEY_HASH (i : Nat) : Nat := 0x50410 + i * 0x4
abbrev APX_KEY_HASH_HASH (i : Nat) : Fld := ⟨APX_KEY_HASH i, 0, 32⟩
abbrev APX_KEY_ENROL : Nat := 0x50440
abbrev APX_KEY_ENROL_SLOT : Fld := ⟨APX_KEY_ENROL, 0, 2⟩
abbrev APX_KEY_ENROL_GO : Fld := ⟨APX_KEY_ENROL, 4, 1⟩
abbrev APX_LOG_STAT : Nat := 0x50450
abbrev APX_LOG_STAT_BUFFERED : Fld := ⟨APX_LOG_STAT, 0, 10⟩
abbrev APX_LOG_LOST : Nat := 0x50454
abbrev APX_LOG_LOST_COUNT : Fld := ⟨APX_LOG_LOST, 0, 32⟩
abbrev APX_LOG_ERASED : Nat := 0x50458
abbrev APX_LOG_ERASED_COUNT : Fld := ⟨APX_LOG_ERASED, 0, 32⟩
abbrev APX_LOG_SEQ : Nat := 0x5045c
abbrev APX_LOG_SEQ_SEQ : Fld := ⟨APX_LOG_SEQ, 0, 32⟩
abbrev APX_LOG_EXP : Nat := 0x50460
abbrev APX_LOG_EXP_EN : Fld := ⟨APX_LOG_EXP, 0, 1⟩
abbrev APX_LOG_EXP_LOG2N : Fld := ⟨APX_LOG_EXP, 1, 5⟩
abbrev APX_LOG_EXP_ADDR : Nat := 0x50468
abbrev APX_LOG_EXP_ADDR_ADDR : Fld := ⟨APX_LOG_EXP_ADDR, 0, 64⟩
abbrev APX_LOG_EXP_PROD : Nat := 0x50470
abbrev APX_LOG_EXP_PROD_PROD : Fld := ⟨APX_LOG_EXP_PROD, 0, 32⟩
abbrev APX_LOT_STAT : Nat := 0x50480
abbrev APX_LOT_STAT_OPEN : Fld := ⟨APX_LOT_STAT, 0, 1⟩
abbrev APX_LOT_STAT_SEALING : Fld := ⟨APX_LOT_STAT, 1, 1⟩
abbrev APX_LOT_ID : Nat := 0x50484
abbrev APX_LOT_ID_ID : Fld := ⟨APX_LOT_ID, 0, 32⟩
abbrev APX_LOT_COUNT : Nat := 0x50488
abbrev APX_LOT_COUNT_COUNT : Fld := ⟨APX_LOT_COUNT, 0, 64⟩
abbrev APX_SEAL_PROD : Nat := 0x50490
abbrev APX_SEAL_PROD_PROD : Fld := ⟨APX_SEAL_PROD, 0, 32⟩
abbrev APX_SEAL_CONS : Nat := 0x50494
abbrev APX_SEAL_CONS_CONS : Fld := ⟨APX_SEAL_CONS, 0, 32⟩
abbrev APX_SEAL_SKIPPED : Nat := 0x50498
abbrev APX_SEAL_SKIPPED_COUNT : Fld := ⟨APX_SEAL_SKIPPED, 0, 32⟩
abbrev APX_SUPPLY (i : Nat) : Nat := 0x504c0 + i * 0x4
abbrev APX_SUPPLY_MV (i : Nat) : Fld := ⟨APX_SUPPLY i, 0, 16⟩
abbrev APX_FLOW_CTRL : Nat := 0x504e0
abbrev APX_FLOW_CTRL_STOP : Fld := ⟨APX_FLOW_CTRL, 0, 1⟩
abbrev APX_FLOW_CTRL_RUNNING : Fld := ⟨APX_FLOW_CTRL, 1, 1⟩
abbrev APX_DEVKEY (i : Nat) : Nat := 0x50500 + i * 0x4
abbrev APX_DEVKEY_KEY (i : Nat) : Fld := ⟨APX_DEVKEY i, 0, 32⟩
abbrev APX_REPORT (i : Nat) : Nat := 0x56000 + i * 0x4
abbrev APX_REPORT_DATA (i : Nat) : Fld := ⟨APX_REPORT i, 0, 32⟩
abbrev APX_SEALWIN (i : Nat) : Nat := 0x56400 + i * 0x4
abbrev APX_SEALWIN_DATA (i : Nat) : Fld := ⟨APX_SEALWIN i, 0, 32⟩
abbrev APX_STAGING (i : Nat) : Nat := 0x58000 + i * 0x4
abbrev APX_STAGING_DATA (i : Nat) : Fld := ⟨APX_STAGING i, 0, 32⟩
abbrev SPN_SEL0 (i : Nat) : Nat := 0x60000 + i * 0x20
abbrev SPN_SEL0_CKMODE (i : Nat) : Fld := ⟨SPN_SEL0 i, 0, 2⟩
abbrev SPN_SEL0_STATUS_FIRST (i : Nat) : Fld := ⟨SPN_SEL0 i, 2, 1⟩
abbrev SPN_SEL0_RX_STROBE (i : Nat) : Fld := ⟨SPN_SEL0 i, 3, 1⟩
abbrev SPN_SEL0_SAMPLE_DLY (i : Nat) : Fld := ⟨SPN_SEL0 i, 4, 4⟩
abbrev SPN_SEL0_DIV (i : Nat) : Fld := ⟨SPN_SEL0 i, 8, 8⟩
abbrev SPN_SEL0_STATUS_POLL_MAX (i : Nat) : Fld := ⟨SPN_SEL0 i, 16, 8⟩
abbrev SPN_SEL0_POLL_INT (i : Nat) : Fld := ⟨SPN_SEL0 i, 24, 8⟩
abbrev SPN_SEL1 (i : Nat) : Nat := 0x60004 + i * 0x20
abbrev SPN_SEL1_LEAD (i : Nat) : Fld := ⟨SPN_SEL1 i, 0, 8⟩
abbrev SPN_SEL1_LAG (i : Nat) : Fld := ⟨SPN_SEL1 i, 8, 8⟩
abbrev SPN_SEL1_IDLE (i : Nat) : Fld := ⟨SPN_SEL1 i, 16, 8⟩
abbrev SPN_SEL1_ERASE_MAX (i : Nat) : Fld := ⟨SPN_SEL1 i, 24, 8⟩
abbrev SPN_SEL2 (i : Nat) : Nat := 0x60008 + i * 0x20
abbrev SPN_SEL2_RD_CMD (i : Nat) : Fld := ⟨SPN_SEL2 i, 0, 8⟩
abbrev SPN_SEL2_RD_ADDR (i : Nat) : Fld := ⟨SPN_SEL2 i, 8, 3⟩
abbrev SPN_SEL2_RD_DUMMY (i : Nat) : Fld := ⟨SPN_SEL2 i, 11, 5⟩
abbrev SPN_SEL2_RD_CMD_W (i : Nat) : Fld := ⟨SPN_SEL2 i, 16, 2⟩
abbrev SPN_SEL2_RD_ADDR_W (i : Nat) : Fld := ⟨SPN_SEL2 i, 18, 2⟩
abbrev SPN_SEL2_RD_DATA_W (i : Nat) : Fld := ⟨SPN_SEL2 i, 20, 2⟩
abbrev SPN_SEL2_SUS_ON_READ (i : Nat) : Fld := ⟨SPN_SEL2 i, 30, 1⟩
abbrev SPN_SEL2_XIP_EN (i : Nat) : Fld := ⟨SPN_SEL2 i, 31, 1⟩
abbrev SPN_SEL3 (i : Nat) : Nat := 0x6000c + i * 0x20
abbrev SPN_SEL3_PP_CMD (i : Nat) : Fld := ⟨SPN_SEL3 i, 0, 8⟩
abbrev SPN_SEL3_WREN_CMD (i : Nat) : Fld := ⟨SPN_SEL3 i, 8, 8⟩
abbrev SPN_SEL3_RDSR_CMD (i : Nat) : Fld := ⟨SPN_SEL3 i, 16, 8⟩
abbrev SPN_SEL3_BUSY_BIT (i : Nat) : Fld := ⟨SPN_SEL3 i, 24, 3⟩
abbrev SPN_SEL3_BUSY_POL (i : Nat) : Fld := ⟨SPN_SEL3 i, 27, 1⟩
abbrev SPN_SEL3_PP_W (i : Nat) : Fld := ⟨SPN_SEL3 i, 28, 2⟩
abbrev SPN_SEL4 (i : Nat) : Nat := 0x60010 + i * 0x20
abbrev SPN_SEL4_SUS_CMD (i : Nat) : Fld := ⟨SPN_SEL4 i, 0, 8⟩
abbrev SPN_SEL4_RES_CMD (i : Nat) : Fld := ⟨SPN_SEL4 i, 8, 8⟩
abbrev SPN_SEL4_PFAIL_MASK (i : Nat) : Fld := ⟨SPN_SEL4 i, 16, 8⟩
abbrev SPN_HOST_CFG : Nat := 0x60080
abbrev SPN_HOST_CFG_SEL_EN : Fld := ⟨SPN_HOST_CFG, 1, 3⟩
abbrev SPN_HOST_WAIT : Nat := 0x60084
abbrev SPN_HOST_WAIT_HOST_WAIT : Fld := ⟨SPN_HOST_WAIT, 0, 16⟩
abbrev SPN_STAT : Nat := 0x60088
abbrev SPN_STAT_EDGE_FAULT : Fld := ⟨SPN_STAT, 0, 1⟩
abbrev SPN_STAT_ERASE_SUSP : Fld := ⟨SPN_STAT, 1, 1⟩
abbrev SPN_STAT_DIR_BAD : Fld := ⟨SPN_STAT, 8, 8⟩
abbrev SPN_STAT_DIR_COPY : Fld := ⟨SPN_STAT, 16, 1⟩
abbrev SPN_EDGE_FAULTS : Nat := 0x6008c
abbrev SPN_EDGE_FAULTS_COUNT : Fld := ⟨SPN_EDGE_FAULTS, 0, 32⟩
abbrev SPN_XIP_STAT : Nat := 0x60090
abbrev SPN_XIP_STAT_WR_FAIL : Fld := ⟨SPN_XIP_STAT, 0, 1⟩
abbrev SPN_XIP_STAT_HOST_TMO : Fld := ⟨SPN_XIP_STAT, 1, 1⟩
abbrev SPN_WR_FAIL_ADDR : Nat := 0x60094
abbrev SPN_WR_FAIL_ADDR_ADDR : Fld := ⟨SPN_WR_FAIL_ADDR, 0, 26⟩
abbrev SPN_XFER_CTRL : Nat := 0x60100
abbrev SPN_XFER_CTRL_START : Fld := ⟨SPN_XFER_CTRL, 0, 1⟩
abbrev SPN_XFER_CTRL_ABORT : Fld := ⟨SPN_XFER_CTRL, 1, 1⟩
abbrev SPN_XFER_CTRL_SEL : Fld := ⟨SPN_XFER_CTRL, 2, 2⟩
abbrev SPN_XFER_CTRL_DIR : Fld := ⟨SPN_XFER_CTRL, 4, 1⟩
abbrev SPN_XFER_CTRL_WAIT_READY : Fld := ⟨SPN_XFER_CTRL, 5, 1⟩
abbrev SPN_XFER_CTRL_ERASE : Fld := ⟨SPN_XFER_CTRL, 6, 1⟩
abbrev SPN_PHASE : Nat := 0x60104
abbrev SPN_PHASE_CMD_W : Fld := ⟨SPN_PHASE, 0, 2⟩
abbrev SPN_PHASE_ADDR_W : Fld := ⟨SPN_PHASE, 2, 2⟩
abbrev SPN_PHASE_DATA_W : Fld := ⟨SPN_PHASE, 6, 2⟩
abbrev SPN_PHASE_CMD_BYTES : Fld := ⟨SPN_PHASE, 8, 2⟩
abbrev SPN_PHASE_ADDR_BYTES : Fld := ⟨SPN_PHASE, 10, 3⟩
abbrev SPN_PHASE_DUMMY : Fld := ⟨SPN_PHASE, 16, 5⟩
abbrev SPN_CMD : Nat := 0x60108
abbrev SPN_CMD_CMD : Fld := ⟨SPN_CMD, 0, 16⟩
abbrev SPN_ADDR : Nat := 0x6010c
abbrev SPN_ADDR_ADDR : Fld := ⟨SPN_ADDR, 0, 32⟩
abbrev SPN_LEN : Nat := 0x60110
abbrev SPN_LEN_LEN : Fld := ⟨SPN_LEN, 0, 9⟩
abbrev SPN_XSTAT : Nat := 0x60114
abbrev SPN_XSTAT_BUSY : Fld := ⟨SPN_XSTAT, 0, 1⟩
abbrev SPN_XSTAT_RESULT : Fld := ⟨SPN_XSTAT, 1, 3⟩
abbrev SPN_XSTAT_STATUS : Fld := ⟨SPN_XSTAT, 8, 8⟩
abbrev SPN_XSTAT_POLLS : Fld := ⟨SPN_XSTAT, 16, 9⟩
abbrev SPN_LEN_DONE : Nat := 0x60118
abbrev SPN_LEN_DONE_LEN_DONE : Fld := ⟨SPN_LEN_DONE, 0, 9⟩
abbrev SPN_DATA (i : Nat) : Nat := 0x60200 + i * 0x4
abbrev SPN_DATA_DATA (i : Nat) : Fld := ⟨SPN_DATA i, 0, 32⟩
abbrev SPN_SMB_CFG : Nat := 0x60400
abbrev SPN_SMB_CFG_ADDR : Fld := ⟨SPN_SMB_CFG, 0, 7⟩
abbrev SPN_SMB_CFG_PEC_EN : Fld := ⟨SPN_SMB_CFG, 8, 1⟩
abbrev SPN_SMB_CFG_BLOCK_LEN : Fld := ⟨SPN_SMB_CFG, 9, 5⟩
abbrev SPN_SMB_CFG_ALERT_MASK : Fld := ⟨SPN_SMB_CFG, 16, 4⟩
abbrev SPN_SMB_STAT : Nat := 0x60404
abbrev SPN_SMB_STAT_OVERRUN : Fld := ⟨SPN_SMB_STAT, 0, 1⟩
abbrev SPN_SMB_STAT_PEC_ERR : Fld := ⟨SPN_SMB_STAT, 1, 1⟩
abbrev SPN_SMB_STAT_BAD_WRITE : Fld := ⟨SPN_SMB_STAT, 2, 1⟩
abbrev CAL_CTRL : Nat := 0x70000
abbrev CAL_CTRL_ABORT : Fld := ⟨CAL_CTRL, 0, 1⟩
abbrev CAL_STAT : Nat := 0x70004
abbrev CAL_STAT_ACTIVITY : Fld := ⟨CAL_STAT, 0, 2⟩
abbrev CAL_STAT_FACET : Fld := ⟨CAL_STAT, 4, 4⟩
abbrev CAL_STAT_RESULT : Fld := ⟨CAL_STAT, 8, 3⟩
abbrev CAL_STAT_MODIFIED : Fld := ⟨CAL_STAT, 11, 1⟩
abbrev CAL_STAT_WRITE_DROP : Fld := ⟨CAL_STAT, 12, 1⟩
abbrev CAL_STAT_WALL_VALID : Fld := ⟨CAL_STAT, 13, 1⟩
abbrev CAL_STAT_CALQ : Fld := ⟨CAL_STAT, 16, 3⟩
abbrev CAL_STAT_NVMQ : Fld := ⟨CAL_STAT, 20, 3⟩
abbrev CAL_REF_DECLARED : Nat := 0x70008
abbrev CAL_REF_DECLARED_D : Fld := ⟨CAL_REF_DECLARED, 0, 32⟩
abbrev CAL_REF_MEAS : Nat := 0x7000c
abbrev CAL_REF_MEAS_M : Fld := ⟨CAL_REF_MEAS, 0, 32⟩
abbrev CAL_PIN_CFG : Nat := 0x70010
abbrev CAL_PIN_CFG_V : Fld := ⟨CAL_PIN_CFG, 0, 16⟩
abbrev CAL_PIN_ILIM : Nat := 0x70014
abbrev CAL_PIN_ILIM_OPEN_NA : Fld := ⟨CAL_PIN_ILIM, 0, 16⟩
abbrev CAL_PIN_ILIM_PD_NA : Fld := ⟨CAL_PIN_ILIM, 16, 16⟩
abbrev CAL_COUNT : Nat := 0x70018
abbrev CAL_COUNT_COUNT : Fld := ⟨CAL_COUNT, 0, 32⟩
abbrev CAL_LAST_WALL : Nat := 0x70020
abbrev CAL_LAST_WALL_WALL : Fld := ⟨CAL_LAST_WALL, 0, 64⟩
abbrev CAL_LAST_AT : Nat := 0x70028
abbrev CAL_LAST_AT_AT : Fld := ⟨CAL_LAST_AT, 0, 64⟩
abbrev CAL_COUNT_F (i : Nat) : Nat := 0x70040 + i * 0x4
abbrev CAL_COUNT_F_COUNT (i : Nat) : Fld := ⟨CAL_COUNT_F i, 0, 32⟩
abbrev CAL_PMI_TRIM (i : Nat) : Nat := 0x70100 + i * 0x4
abbrev CAL_PMI_TRIM_OFS (i : Nat) : Fld := ⟨CAL_PMI_TRIM i, 0, 16⟩
abbrev CAL_PMI_TRIM_GAIN (i : Nat) : Fld := ⟨CAL_PMI_TRIM i, 16, 16⟩
abbrev CAL_PMI_RES (i : Nat) : Nat := 0x70200 + i * 0x4
abbrev CAL_PMI_RES_RESULT (i : Nat) : Fld := ⟨CAL_PMI_RES i, 0, 2⟩
abbrev CAL_PMI_RES_REASON (i : Nat) : Fld := ⟨CAL_PMI_RES i, 4, 4⟩
abbrev CAL_CH_RES (i : Nat) : Nat := 0x71000 + i * 0x4
abbrev CAL_CH_RES_RESULT (i : Nat) : Fld := ⟨CAL_CH_RES i, 0, 2⟩
abbrev CAL_CH_RES_REASON (i : Nat) : Fld := ⟨CAL_CH_RES i, 4, 4⟩
abbrev CAL_CH_RES_ST (i : Nat) : Fld := ⟨CAL_CH_RES i, 8, 2⟩
abbrev CAL_CH_RES_ST_CODE (i : Nat) : Fld := ⟨CAL_CH_RES i, 12, 3⟩
abbrev CAL_CH_RES_LEAK_NA (i : Nat) : Fld := ⟨CAL_CH_RES i, 16, 16⟩
abbrev RNG_CTRL (i : Nat) : Nat := 0x100000 + i * 0x40
abbrev RNG_CTRL_ENABLE (i : Nat) : Fld := ⟨RNG_CTRL i, 0, 1⟩
abbrev RNG_CTRL_PLACE (i : Nat) : Fld := ⟨RNG_CTRL i, 1, 1⟩
abbrev RNG_CTRL_LOG2SIZE (i : Nat) : Fld := ⟨RNG_CTRL i, 2, 5⟩
abbrev RNG_CTRL_WB_EN (i : Nat) : Fld := ⟨RNG_CTRL i, 7, 1⟩
abbrev RNG_CTRL_IRQ_EN (i : Nat) : Fld := ⟨RNG_CTRL i, 8, 1⟩
abbrev RNG_CTRL_IRQ_LINE (i : Nat) : Fld := ⟨RNG_CTRL i, 9, 5⟩
abbrev RNG_CTRL_RETRY (i : Nat) : Fld := ⟨RNG_CTRL i, 14, 1⟩
abbrev RNG_STAT (i : Nat) : Nat := 0x100004 + i * 0x40
abbrev RNG_STAT_STATE (i : Nat) : Fld := ⟨RNG_STAT i, 0, 3⟩
abbrev RNG_STAT_CAUSE (i : Nat) : Fld := ⟨RNG_STAT i, 3, 3⟩
abbrev RNG_STAT_DRAINING (i : Nat) : Fld := ⟨RNG_STAT i, 6, 1⟩
abbrev RNG_STAT_LOSS (i : Nat) : Fld := ⟨RNG_STAT i, 7, 1⟩
abbrev RNG_BASE (i : Nat) : Nat := 0x100008 + i * 0x40
abbrev RNG_BASE_BASE (i : Nat) : Fld := ⟨RNG_BASE i, 0, 64⟩
abbrev RNG_PROD (i : Nat) : Nat := 0x100010 + i * 0x40
abbrev RNG_PROD_PROD (i : Nat) : Fld := ⟨RNG_PROD i, 0, 32⟩
abbrev RNG_CONS (i : Nat) : Nat := 0x100014 + i * 0x40
abbrev RNG_CONS_CONS (i : Nat) : Fld := ⟨RNG_CONS i, 0, 32⟩
abbrev RNG_WB_ADDR (i : Nat) : Nat := 0x100018 + i * 0x40
abbrev RNG_WB_ADDR_ADDR (i : Nat) : Fld := ⟨RNG_WB_ADDR i, 0, 64⟩
abbrev RNG_SPILLED (i : Nat) : Nat := 0x100020 + i * 0x40
abbrev RNG_SPILLED_SPILLED (i : Nat) : Fld := ⟨RNG_SPILLED i, 0, 24⟩
abbrev RNG_PARK_INDEX (i : Nat) : Nat := 0x100024 + i * 0x40
abbrev RNG_PARK_INDEX_INDEX (i : Nat) : Fld := ⟨RNG_PARK_INDEX i, 0, 32⟩
abbrev RNG_FAULT_ADDR (i : Nat) : Nat := 0x100028 + i * 0x40
abbrev RNG_FAULT_ADDR_ADDR (i : Nat) : Fld := ⟨RNG_FAULT_ADDR i, 0, 64⟩
abbrev RNG_PARK_AT (i : Nat) : Nat := 0x100030 + i * 0x40
abbrev RNG_PARK_AT_AT (i : Nat) : Fld := ⟨RNG_PARK_AT i, 0, 64⟩
abbrev RNG_PARKS (i : Nat) : Nat := 0x100038 + i * 0x40
abbrev RNG_PARKS_COUNT (i : Nat) : Fld := ⟨RNG_PARKS i, 0, 32⟩
abbrev RNG_LOST (i : Nat) : Nat := 0x10003c + i * 0x40
abbrev RNG_LOST_COUNT (i : Nat) : Fld := ⟨RNG_LOST i, 0, 32⟩
abbrev DMA_CFG : Nat := 0x200000
abbrev DMA_CFG_PRI_EN : Fld := ⟨DMA_CFG, 0, 1⟩
abbrev DMA_CFG_AGE : Fld := ⟨DMA_CFG, 1, 8⟩
abbrev DMA_LINK_STAT : Nat := 0x200004
abbrev DMA_LINK_STAT_SPEED : Fld := ⟨DMA_LINK_STAT, 0, 4⟩
abbrev DMA_LINK_STAT_WIDTH : Fld := ⟨DMA_LINK_STAT, 4, 5⟩
abbrev DMA_LINK_STAT_UP : Fld := ⟨DMA_LINK_STAT, 9, 1⟩
abbrev DMA_LINK_STAT_ATS_EN : Fld := ⟨DMA_LINK_STAT, 10, 1⟩
abbrev DMA_LINK_STAT_PRI_CAP_EN : Fld := ⟨DMA_LINK_STAT, 11, 1⟩
abbrev DMA_LINK_STAT_PRI_HALTED : Fld := ⟨DMA_LINK_STAT, 12, 1⟩
abbrev DMA_POOL_FREE : Nat := 0x200010
abbrev DMA_POOL_FREE_FREE : Fld := ⟨DMA_POOL_FREE, 0, 14⟩
abbrev DMA_POOL_LWM : Nat := 0x200014
abbrev DMA_POOL_LWM_LWM : Fld := ⟨DMA_POOL_LWM, 0, 14⟩
abbrev DMA_POOL_HWM : Nat := 0x200018
abbrev DMA_POOL_HWM_HWM : Fld := ⟨DMA_POOL_HWM, 0, 14⟩
abbrev DMA_POOL_STAT : Nat := 0x20001c
abbrev DMA_POOL_STAT_LOW : Fld := ⟨DMA_POOL_STAT, 0, 1⟩
abbrev DMA_POOL_STAT_EXHAUSTED : Fld := ⟨DMA_POOL_STAT, 1, 1⟩
abbrev DMA_POOL_STAT_RSV_USED : Fld := ⟨DMA_POOL_STAT, 16, 13⟩
abbrev DMA_SPILL_PAGES : Nat := 0x200020
abbrev DMA_SPILL_PAGES_PAGES : Fld := ⟨DMA_SPILL_PAGES, 0, 14⟩
abbrev DMA_POOL_PAGE : Nat := 0x200024
abbrev DMA_POOL_PAGE_PAGE : Fld := ⟨DMA_POOL_PAGE, 0, 14⟩
abbrev DMA_PRI_OUT : Nat := 0x200028
abbrev DMA_PRI_OUT_OUT : Fld := ⟨DMA_PRI_OUT, 0, 9⟩
abbrev DMA_PRI_RESTART : Nat := 0x20002c
abbrev DMA_PRI_RESTART_RESTART : Fld := ⟨DMA_PRI_RESTART, 0, 1⟩
abbrev DMA_FAULT_SRC : Nat := 0x200030
abbrev DMA_FAULT_SRC_KIND : Fld := ⟨DMA_FAULT_SRC, 0, 2⟩
abbrev DMA_FAULT_SRC_INDEX : Fld := ⟨DMA_FAULT_SRC, 16, 14⟩
abbrev DMA_FAULT_ADDR : Nat := 0x200038
abbrev DMA_FAULT_ADDR_ADDR : Fld := ⟨DMA_FAULT_ADDR, 0, 64⟩
abbrev DMA_ACQ_PARK : Nat := 0x200040
abbrev DMA_ACQ_PARK_PARK : Fld := ⟨DMA_ACQ_PARK, 0, 16⟩
abbrev DMA_RETRY_AUX : Nat := 0x200044
abbrev DMA_RETRY_AUX_ACQ : Fld := ⟨DMA_RETRY_AUX, 0, 1⟩
abbrev DMA_RETRY_AUX_SQ : Fld := ⟨DMA_RETRY_AUX, 1, 1⟩
abbrev DMA_DB_LAST : Nat := 0x200048
abbrev DMA_DB_LAST_RING : Fld := ⟨DMA_DB_LAST, 0, 14⟩
abbrev DMA_STAT : Nat := 0x20004c
abbrev DMA_STAT_WRITE_DROP : Fld := ⟨DMA_STAT, 0, 1⟩
abbrev DMA_FAULTS : Nat := 0x200050
abbrev DMA_FAULTS_COUNT : Fld := ⟨DMA_FAULTS, 0, 32⟩
abbrev DMA_DB_BAD : Nat := 0x200054
abbrev DMA_DB_BAD_COUNT : Fld := ⟨DMA_DB_BAD, 0, 32⟩
abbrev DMA_LOST_RECS : Nat := 0x200058
abbrev DMA_LOST_RECS_COUNT : Fld := ⟨DMA_LOST_RECS, 0, 32⟩
abbrev DMA_DISCARD : Nat := 0x20005c
abbrev DMA_DISCARD_COUNT : Fld := ⟨DMA_DISCARD, 0, 32⟩
abbrev DMA_XFER_CTRL : Nat := 0x200100
abbrev DMA_XFER_CTRL_START : Fld := ⟨DMA_XFER_CTRL, 0, 1⟩
abbrev DMA_XFER_CTRL_ABORT : Fld := ⟨DMA_XFER_CTRL, 1, 1⟩
abbrev DMA_XFER_CTRL_SRC : Fld := ⟨DMA_XFER_CTRL, 2, 1⟩
abbrev DMA_XFER_SRC : Nat := 0x200104
abbrev DMA_XFER_SRC_FIRST : Fld := ⟨DMA_XFER_SRC, 0, 14⟩
abbrev DMA_XFER_SRC_COUNT : Fld := ⟨DMA_XFER_SRC, 16, 14⟩
abbrev DMA_XFER_DST : Nat := 0x200108
abbrev DMA_XFER_DST_DST : Fld := ⟨DMA_XFER_DST, 0, 64⟩
abbrev DMA_XFER_STAT : Nat := 0x200110
abbrev DMA_XFER_STAT_BUSY : Fld := ⟨DMA_XFER_STAT, 0, 1⟩
abbrev DMA_XFER_STAT_END : Fld := ⟨DMA_XFER_STAT, 1, 2⟩
abbrev DMA_POOLWIN (i : Nat) : Nat := 0x210000 + i * 0x4
abbrev DMA_POOLWIN_DATA (i : Nat) : Fld := ⟨DMA_POOLWIN i, 0, 32⟩
abbrev DMA_RNG_PEND (i : Nat) : Nat := 0x220000 + i * 0x4
abbrev DMA_RNG_PEND_PEND (i : Nat) : Fld := ⟨DMA_RNG_PEND i, 0, 32⟩
abbrev DMA_MSIX_TABLE (i : Nat) : Nat := 0x2f0000 + i * 0x4
abbrev DMA_MSIX_TABLE_DATA (i : Nat) : Fld := ⟨DMA_MSIX_TABLE i, 0, 32⟩
abbrev DMA_MSIX_PBA (i : Nat) : Nat := 0x2f1000 + i * 0x4
abbrev DMA_MSIX_PBA_PBA (i : Nat) : Fld := ⟨DMA_MSIX_PBA i, 0, 32⟩
abbrev ARC_CFG : Nat := 0x300000
abbrev ARC_CFG_REPLAY_MAX : Fld := ⟨ARC_CFG, 0, 2⟩
abbrev ARC_CFG_REPLAY_WAIT : Fld := ⟨ARC_CFG, 2, 1⟩
abbrev ARC_CFG_TO_ACTION : Fld := ⟨ARC_CFG, 3, 2⟩
abbrev ARC_REGANG_WIN : Nat := 0x300004
abbrev ARC_REGANG_WIN_TICKS : Fld := ⟨ARC_REGANG_WIN, 0, 32⟩
abbrev ARC_START_LEAD : Nat := 0x300008
abbrev ARC_START_LEAD_TICKS : Fld := ⟨ARC_START_LEAD, 0, 32⟩
abbrev ARC_BUSY_WB : Nat := 0x30000c
abbrev ARC_BUSY_WB_TICKS : Fld := ⟨ARC_BUSY_WB, 0, 32⟩
abbrev ARC_HOLD_MAX : Nat := 0x300010
abbrev ARC_HOLD_MAX_TICKS : Fld := ⟨ARC_HOLD_MAX, 0, 32⟩
abbrev ARC_STAT : Nat := 0x300020
abbrev ARC_STAT_INFLIGHT : Fld := ⟨ARC_STAT, 0, 13⟩
abbrev ARC_STAT_BUS_ACTIVE : Fld := ⟨ARC_STAT, 16, 10⟩
abbrev ARC_STAT_QUIET : Fld := ⟨ARC_STAT, 31, 1⟩
abbrev ARC_CANCEL : Nat := 0x300024
abbrev ARC_CANCEL_VALUE : Fld := ⟨ARC_CANCEL, 0, 16⟩
abbrev ARC_REPLAY_GO : Nat := 0x300028
abbrev ARC_REPLAY_GO_VALUE : Fld := ⟨ARC_REPLAY_GO, 0, 16⟩
abbrev ARC_ISSUE_COUNT : Nat := 0x300030
abbrev ARC_ISSUE_COUNT_COUNT : Fld := ⟨ARC_ISSUE_COUNT, 0, 32⟩
abbrev ARC_REPLAY_COUNT : Nat := 0x300034
abbrev ARC_REPLAY_COUNT_COUNT : Fld := ⟨ARC_REPLAY_COUNT, 0, 32⟩
abbrev ARC_STARVE_COUNT : Nat := 0x300038
abbrev ARC_STARVE_COUNT_COUNT : Fld := ⟨ARC_STARVE_COUNT, 0, 32⟩
abbrev ARC_LATE_ARM_COUNT : Nat := 0x30003c
abbrev ARC_LATE_ARM_COUNT_COUNT : Fld := ⟨ARC_LATE_ARM_COUNT, 0, 32⟩
abbrev ARC_VHOLD (i : Nat) : Nat := 0x300100 + i * 0x4
abbrev ARC_VHOLD_HOLD (i : Nat) : Fld := ⟨ARC_VHOLD i, 0, 32⟩
abbrev ARC_VSTAT (i : Nat) : Nat := 0x310000 + i * 0x10
abbrev ARC_VSTAT_STATE (i : Nat) : Fld := ⟨ARC_VSTAT i, 0, 3⟩
abbrev ARC_VSTAT_OPTYPE (i : Nat) : Fld := ⟨ARC_VSTAT i, 8, 4⟩
abbrev ARC_VSTAT_ATTEMPTS (i : Nat) : Fld := ⟨ARC_VSTAT i, 12, 2⟩
abbrev ARC_VSTAT_TAG (i : Nat) : Fld := ⟨ARC_VSTAT i, 16, 16⟩
abbrev ARC_RSEQ (i : Nat) : Nat := 0x310004 + i * 0x10
abbrev ARC_RSEQ_RSEQ (i : Nat) : Fld := ⟨ARC_RSEQ i, 0, 32⟩
abbrev ARC_SINCE (i : Nat) : Nat := 0x310008 + i * 0x10
abbrev ARC_SINCE_SINCE (i : Nat) : Fld := ⟨ARC_SINCE i, 0, 64⟩
abbrev ARC_CHORD_CFG (i : Nat) : Nat := 0x320000 + i * 0x20
abbrev ARC_CHORD_CFG_POLL_ROUTINE (i : Nat) : Fld := ⟨ARC_CHORD_CFG i, 0, 4⟩
abbrev ARC_POLL_INT (i : Nat) : Nat := 0x320004 + i * 0x20
abbrev ARC_POLL_INT_TICKS (i : Nat) : Fld := ⟨ARC_POLL_INT i, 0, 32⟩
abbrev ARC_POLL_FIRST (i : Nat) : Nat := 0x320008 + i * 0x20
abbrev ARC_POLL_FIRST_TICKS (i : Nat) : Fld := ⟨ARC_POLL_FIRST i, 0, 32⟩
abbrev ARC_CHORD_STAT (i : Nat) : Nat := 0x32000c + i * 0x20
abbrev ARC_CHORD_STAT_BUS (i : Nat) : Fld := ⟨ARC_CHORD_STAT i, 0, 1⟩
abbrev ARC_CHORD_STAT_HOLD_TPL (i : Nat) : Fld := ⟨ARC_CHORD_STAT i, 1, 1⟩
abbrev ARC_CHORD_STAT_HOLD_GRID (i : Nat) : Fld := ⟨ARC_CHORD_STAT i, 2, 1⟩
abbrev ARC_CHORD_STAT_URGENT (i : Nat) : Fld := ⟨ARC_CHORD_STAT i, 3, 1⟩
abbrev ARC_CHORD_STAT_RECOVERY_FAIL (i : Nat) : Fld := ⟨ARC_CHORD_STAT i, 4, 1⟩
abbrev ARC_POLL_LATE (i : Nat) : Nat := 0x320010 + i * 0x20
abbrev ARC_POLL_LATE_COUNT (i : Nat) : Fld := ⟨ARC_POLL_LATE i, 0, 32⟩
abbrev ARC_POLL_ROUNDS (i : Nat) : Nat := 0x320014 + i * 0x20
abbrev ARC_POLL_ROUNDS_COUNT (i : Nat) : Fld := ⟨ARC_POLL_ROUNDS i, 0, 32⟩
abbrev ARC_JREQ (i : Nat) : Nat := 0x3d0000 + i * 0x10
abbrev ARC_JREQ_VEC (i : Nat) : Fld := ⟨ARC_JREQ i, 0, 4⟩
abbrev ARC_JREQ_KIND (i : Nat) : Fld := ⟨ARC_JREQ i, 8, 2⟩
abbrev ARC_JREQ_TIMED (i : Nat) : Fld := ⟨ARC_JREQ i, 12, 1⟩
abbrev ARC_JREQ_STAT (i : Nat) : Nat := 0x3d0004 + i * 0x10
abbrev ARC_JREQ_STAT_LATCHED (i : Nat) : Fld := ⟨ARC_JREQ_STAT i, 0, 1⟩
abbrev ARC_JREQ_STAT_DROPPED (i : Nat) : Fld := ⟨ARC_JREQ_STAT i, 1, 1⟩
abbrev ARC_JREQ_STAT_IDLE_DROP (i : Nat) : Fld := ⟨ARC_JREQ_STAT i, 2, 1⟩
abbrev ARC_JREQ_AT (i : Nat) : Nat := 0x3d0008 + i * 0x10
abbrev ARC_JREQ_AT_AT (i : Nat) : Fld := ⟨ARC_JREQ_AT i, 0, 64⟩
abbrev ARC_DT0 (i : Nat) : Nat := 0x3e0000 + i * 0x40
abbrev ARC_DT0_DEFINED (i : Nat) : Fld := ⟨ARC_DT0 i, 0, 1⟩
abbrev ARC_DT0_CLASS (i : Nat) : Fld := ⟨ARC_DT0 i, 1, 3⟩
abbrev ARC_DT0_PLANES (i : Nat) : Fld := ⟨ARC_DT0 i, 8, 5⟩
abbrev ARC_DT0_COL_CYCLES (i : Nat) : Fld := ⟨ARC_DT0 i, 16, 4⟩
abbrev ARC_DT0_ROW_CYCLES (i : Nat) : Fld := ⟨ARC_DT0 i, 20, 4⟩
abbrev ARC_DT1 (i : Nat) : Nat := 0x3e0004 + i * 0x40
abbrev ARC_DT1_BLOCKS (i : Nat) : Fld := ⟨ARC_DT1 i, 0, 16⟩
abbrev ARC_DT1_PAGES (i : Nat) : Fld := ⟨ARC_DT1 i, 16, 16⟩
abbrev ARC_DT2 (i : Nat) : Nat := 0x3e0008 + i * 0x40
abbrev ARC_DT2_PAGE_BYTES (i : Nat) : Fld := ⟨ARC_DT2 i, 0, 20⟩
abbrev ARC_DT3 (i : Nat) : Nat := 0x3e000c + i * 0x40
abbrev ARC_DT3_CW_DATA (i : Nat) : Fld := ⟨ARC_DT3 i, 0, 16⟩
abbrev ARC_DT3_CW_SPARE (i : Nat) : Fld := ⟨ARC_DT3 i, 16, 16⟩
abbrev ARC_DT4 (i : Nat) : Nat := 0x3e0010 + i * 0x40
abbrev ARC_DT4_CORR_THRESH (i : Nat) : Fld := ⟨ARC_DT4 i, 0, 16⟩
abbrev ARC_DT5 (i : Nat) : Nat := 0x3e0014 + i * 0x40
abbrev ARC_DT5_T_PROG (i : Nat) : Fld := ⟨ARC_DT5 i, 0, 32⟩
abbrev ARC_DT6 (i : Nat) : Nat := 0x3e0018 + i * 0x40
abbrev ARC_DT6_T_ERASE (i : Nat) : Fld := ⟨ARC_DT6 i, 0, 32⟩
abbrev ARC_DT7 (i : Nat) : Nat := 0x3e001c + i * 0x40
abbrev ARC_DT7_T_READ (i : Nat) : Fld := ⟨ARC_DT7 i, 0, 32⟩
abbrev ARC_DT8 (i : Nat) : Nat := 0x3e0020 + i * 0x40
abbrev ARC_DT8_T_BUSY_MAX (i : Nat) : Fld := ⟨ARC_DT8 i, 0, 32⟩
abbrev ARC_DT9 (i : Nat) : Nat := 0x3e0024 + i * 0x40
abbrev ARC_DT9_READY_MASK (i : Nat) : Fld := ⟨ARC_DT9 i, 0, 8⟩
abbrev ARC_DT9_READY_VALUE (i : Nat) : Fld := ⟨ARC_DT9 i, 8, 8⟩
abbrev ARC_DT9_FAIL_MASK (i : Nat) : Fld := ⟨ARC_DT9 i, 16, 8⟩
abbrev ARC_DT9_FAIL_VALUE (i : Nat) : Fld := ⟨ARC_DT9 i, 24, 8⟩
abbrev ARC_DT10 (i : Nat) : Nat := 0x3e0028 + i * 0x40
abbrev ARC_DT10_SPARE_COLS (i : Nat) : Fld := ⟨ARC_DT10 i, 0, 9⟩
abbrev ARC_DT10_SPARE_ROWS_2D (i : Nat) : Fld := ⟨ARC_DT10 i, 16, 5⟩
abbrev ARC_DT10_SPARE_COLS_2D (i : Nat) : Fld := ⟨ARC_DT10 i, 24, 5⟩
abbrev ARC_SITE_CTRL : Nat := 0x3f0000
abbrev ARC_SITE_CTRL_CHECK : Fld := ⟨ARC_SITE_CTRL, 0, 1⟩
abbrev ARC_SITE_CTRL_COMMIT : Fld := ⟨ARC_SITE_CTRL, 1, 1⟩
abbrev ARC_SITE_CTRL_CONTACT : Fld := ⟨ARC_SITE_CTRL, 2, 1⟩
abbrev ARC_SITE_CTRL_ABORT : Fld := ⟨ARC_SITE_CTRL, 3, 1⟩
abbrev ARC_SITE_STAT : Nat := 0x3f0004
abbrev ARC_SITE_STAT_VALID : Fld := ⟨ARC_SITE_STAT, 0, 1⟩
abbrev ARC_SITE_STAT_DIRTY : Fld := ⟨ARC_SITE_STAT, 1, 1⟩
abbrev ARC_SITE_STAT_LAST : Fld := ⟨ARC_SITE_STAT, 2, 2⟩
abbrev ARC_SITE_STAT_RESULT : Fld := ⟨ARC_SITE_STAT, 4, 4⟩
abbrev ARC_SITE_STAT_ERR_COUNT : Fld := ⟨ARC_SITE_STAT, 8, 12⟩
abbrev ARC_SITE_ERR : Nat := 0x3f0008
abbrev ARC_SITE_ERR_CODE : Fld := ⟨ARC_SITE_ERR, 0, 4⟩
abbrev ARC_SITE_ERR_KIND : Fld := ⟨ARC_SITE_ERR, 4, 4⟩
abbrev ARC_SITE_ERR_INDEX : Fld := ⟨ARC_SITE_ERR, 8, 12⟩
abbrev ARC_SITE_ERR_CHANNEL : Fld := ⟨ARC_SITE_ERR, 20, 11⟩
abbrev ARC_SITE_GEN : Nat := 0x3f000c
abbrev ARC_SITE_GEN_GEN : Fld := ⟨ARC_SITE_GEN, 0, 32⟩
abbrev ARC_CONTACT_CFG : Nat := 0x3f0010
abbrev ARC_CONTACT_CFG_OPEN_MV : Fld := ⟨ARC_CONTACT_CFG, 0, 12⟩
abbrev ARC_CONTACT_CFG_SHORT_MV : Fld := ⟨ARC_CONTACT_CFG, 12, 12⟩
abbrev ARC_CONTACT_CFG_SAMPLES : Fld := ⟨ARC_CONTACT_CFG, 24, 7⟩
abbrev ARC_CONTACT_CFG_SCOPE : Fld := ⟨ARC_CONTACT_CFG, 31, 1⟩
abbrev ARC_CONTACT_SETTLE : Nat := 0x3f0018
abbrev ARC_CONTACT_SETTLE_SETTLE : Fld := ⟨ARC_CONTACT_SETTLE, 0, 32⟩
abbrev ARC_WALLCLOCK : Nat := 0x3f0020
abbrev ARC_WALLCLOCK_SECONDS : Fld := ⟨ARC_WALLCLOCK, 0, 64⟩
abbrev ARC_WALLCLOCK_AT : Nat := 0x3f0028
abbrev ARC_WALLCLOCK_AT_AT : Fld := ⟨ARC_WALLCLOCK_AT, 0, 64⟩
abbrev ARC_CHUCK_TEMP : Nat := 0x3f0030
abbrev ARC_CHUCK_TEMP_TEMP : Fld := ⟨ARC_CHUCK_TEMP, 0, 16⟩
abbrev ARC_CHUCK_TEMP_VALID : Fld := ⟨ARC_CHUCK_TEMP, 16, 1⟩
abbrev ARC_INKED (i : Nat) : Nat := 0x3f0100 + i * 0x4
abbrev ARC_INKED_INK (i : Nat) : Fld := ⟨ARC_INKED i, 0, 32⟩
abbrev ARC_CONTACT_MASK (i : Nat) : Nat := 0x3f0400 + i * 0x4
abbrev ARC_CONTACT_MASK_MASK (i : Nat) : Fld := ⟨ARC_CONTACT_MASK i, 0, 32⟩
abbrev ARC_CONTACT_RES (i : Nat) : Nat := 0x3f1000 + i * 0x4
abbrev ARC_CONTACT_RES_MV (i : Nat) : Fld := ⟨ARC_CONTACT_RES i, 0, 16⟩
abbrev ARC_CONTACT_RES_CODE (i : Nat) : Fld := ⟨ARC_CONTACT_RES i, 16, 2⟩
abbrev LAT_CMAP_CFG : Nat := 0x400004
abbrev LAT_CMAP_CFG_AREA : Fld := ⟨LAT_CMAP_CFG, 0, 1⟩
abbrev LAT_CMAP_CFG_PLANE_EN : Fld := ⟨LAT_CMAP_CFG, 1, 1⟩
abbrev LAT_CMAP_CFG_PLANE : Fld := ⟨LAT_CMAP_CFG, 2, 4⟩
abbrev LAT_RA_CFG : Nat := 0x400008
abbrev LAT_RA_CFG_NAND_MUST : Fld := ⟨LAT_RA_CFG, 0, 2⟩
abbrev LAT_RA_CFG_NAND_REQ : Fld := ⟨LAT_RA_CFG, 2, 2⟩
abbrev LAT_RA_CMD : Nat := 0x400010
abbrev LAT_RA_CMD_START : Fld := ⟨LAT_RA_CMD, 0, 1⟩
abbrev LAT_RA_CMD_ABORT : Fld := ⟨LAT_RA_CMD, 1, 1⟩
abbrev LAT_RA_CMD_KIND : Fld := ⟨LAT_RA_CMD, 2, 1⟩
abbrev LAT_RA_CMD_PLANE : Fld := ⟨LAT_RA_CMD, 4, 4⟩
abbrev LAT_RA_CMD_TAG : Fld := ⟨LAT_RA_CMD, 16, 16⟩
abbrev LAT_RA_RANGE : Nat := 0x400014
abbrev LAT_RA_RANGE_VFIRST : Fld := ⟨LAT_RA_RANGE, 0, 12⟩
abbrev LAT_RA_RANGE_VLAST : Fld := ⟨LAT_RA_RANGE, 16, 12⟩
abbrev LAT_RA_STAT : Nat := 0x400018
abbrev LAT_RA_STAT_RESULT : Fld := ⟨LAT_RA_STAT, 0, 2⟩
abbrev LAT_RA_STAT_REPAIRED : Fld := ⟨LAT_RA_STAT, 4, 13⟩
abbrev LAT_RA_STAT_UNREPAIRABLE : Fld := ⟨LAT_RA_STAT, 17, 13⟩
abbrev LAT_RA_STAT2 : Nat := 0x40001c
abbrev LAT_RA_STAT2_UNDECIDED : Fld := ⟨LAT_RA_STAT2, 0, 13⟩
abbrev LAT_CLEAR : Nat := 0x400020
abbrev LAT_CLEAR_START : Fld := ⟨LAT_CLEAR, 0, 1⟩
abbrev LAT_CLEAR_CMAP : Fld := ⟨LAT_CLEAR, 1, 1⟩
abbrev LAT_CLEAR_BB : Fld := ⟨LAT_CLEAR, 2, 1⟩
abbrev LAT_CLEAR_RANGE : Nat := 0x400024
abbrev LAT_CLEAR_RANGE_VFIRST : Fld := ⟨LAT_CLEAR_RANGE, 0, 12⟩
abbrev LAT_CLEAR_RANGE_VLAST : Fld := ⟨LAT_CLEAR_RANGE, 16, 12⟩
abbrev LAT_CMAP_PAGE : Nat := 0x400030
abbrev LAT_CMAP_PAGE_PAGE : Fld := ⟨LAT_CMAP_PAGE, 0, 4⟩
abbrev LAT_STAT : Nat := 0x400034
abbrev LAT_STAT_WRITE_DROP : Fld := ⟨LAT_STAT, 0, 1⟩
abbrev LAT_EVENTS : Nat := 0x400040
abbrev LAT_EVENTS_COUNT : Fld := ⟨LAT_EVENTS, 0, 32⟩
abbrev LAT_LOST : Nat := 0x400044
abbrev LAT_LOST_COUNT : Fld := ⟨LAT_LOST, 0, 32⟩
abbrev LAT_IGNORED : Nat := 0x400048
abbrev LAT_IGNORED_COUNT : Fld := ⟨LAT_IGNORED, 0, 32⟩
abbrev LAT_MERGE_LATE : Nat := 0x40004c
abbrev LAT_MERGE_LATE_COUNT : Fld := ⟨LAT_MERGE_LATE, 0, 32⟩
abbrev LAT_CMAP_BEYOND : Nat := 0x400050
abbrev LAT_CMAP_BEYOND_COUNT : Fld := ⟨LAT_CMAP_BEYOND, 0, 32⟩
abbrev LAT_UECC : Nat := 0x400054
abbrev LAT_UECC_COUNT : Fld := ⟨LAT_UECC, 0, 32⟩
abbrev LAT_DT (i : Nat) : Nat := 0x401000 + i * 0x4
abbrev LAT_DT_LAYOUT (i : Nat) : Fld := ⟨LAT_DT i, 0, 1⟩
abbrev LAT_DT_BB_MAX (i : Nat) : Fld := ⟨LAT_DT i, 16, 16⟩
abbrev LAT_MAP0 (i : Nat) : Nat := 0x402000 + i * 0x100
abbrev LAT_MAP0_DQ_FIRST (i : Nat) : Fld := ⟨LAT_MAP0 i, 0, 5⟩
abbrev LAT_MAP0_DQ16 (i : Nat) : Fld := ⟨LAT_MAP0 i, 5, 1⟩
abbrev LAT_MAP0_DDR (i : Nat) : Fld := ⟨LAT_MAP0 i, 6, 1⟩
abbrev LAT_MAP0_NSPAN (i : Nat) : Fld := ⟨LAT_MAP0 i, 8, 3⟩
abbrev LAT_MAP0_COL_BITS (i : Nat) : Fld := ⟨LAT_MAP0 i, 16, 5⟩
abbrev LAT_MAP0_VALID (i : Nat) : Fld := ⟨LAT_MAP0 i, 31, 1⟩
abbrev LAT_DSTART (i : Nat) : Nat := 0x402004 + i * 0x100
abbrev LAT_DSTART_DSTART (i : Nat) : Fld := ⟨LAT_DSTART i, 0, 32⟩
abbrev LAT_SPAN_START (i j : Nat) : Nat := 0x402010 + i * 0x100 + j * 0x10
abbrev LAT_SPAN_START_START (i j : Nat) : Fld := ⟨LAT_SPAN_START i j, 0, 32⟩
abbrev LAT_SPAN_FIRST (i j : Nat) : Nat := 0x402014 + i * 0x100 + j * 0x10
abbrev LAT_SPAN_FIRST_FIRST (i j : Nat) : Fld := ⟨LAT_SPAN_FIRST i j, 0, 32⟩
abbrev LAT_SPAN_CFG (i j : Nat) : Nat := 0x402018 + i * 0x100 + j * 0x10
abbrev LAT_SPAN_CFG_VPC_M1 (i j : Nat) : Fld := ⟨LAT_SPAN_CFG i j, 0, 4⟩
abbrev LAT_SPAN_CFG_DIR (i j : Nat) : Fld := ⟨LAT_SPAN_CFG i j, 4, 1⟩
abbrev LAT_COLL (i : Nat) : Nat := 0x404000 + i * 0x20
abbrev LAT_COLL_VERTEX (i : Nat) : Fld := ⟨LAT_COLL i, 0, 12⟩
abbrev LAT_COLL_REGION (i : Nat) : Fld := ⟨LAT_COLL i, 16, 8⟩
abbrev LAT_COLL_EN (i : Nat) : Fld := ⟨LAT_COLL i, 31, 1⟩
abbrev LAT_COLL_CLEAR (i : Nat) : Nat := 0x404004 + i * 0x20
abbrev LAT_COLL_CLEAR_CLEAR (i : Nat) : Fld := ⟨LAT_COLL_CLEAR i, 0, 1⟩
abbrev LAT_COLL_STAT (i : Nat) : Nat := 0x404008 + i * 0x20
abbrev LAT_COLL_STAT_STORED (i : Nat) : Fld := ⟨LAT_COLL_STAT i, 0, 10⟩
abbrev LAT_COLL_STAT_MUST_ROWS (i : Nat) : Fld := ⟨LAT_COLL_STAT i, 16, 5⟩
abbrev LAT_COLL_STAT_MUST_COLS (i : Nat) : Fld := ⟨LAT_COLL_STAT i, 21, 5⟩
abbrev LAT_COLL_STAT_EARLY (i : Nat) : Fld := ⟨LAT_COLL_STAT i, 26, 1⟩
abbrev LAT_COLL_STAT_OUTSIDE (i : Nat) : Fld := ⟨LAT_COLL_STAT i, 27, 1⟩
abbrev LAT_COLL_STAT_PENDING (i : Nat) : Fld := ⟨LAT_COLL_STAT i, 28, 1⟩
abbrev LAT_BB (i j : Nat) : Nat := 0x410000 + i * 0x40 + j * 0x4
abbrev LAT_BB_COUNT0 (i j : Nat) : Fld := ⟨LAT_BB i j, 0, 16⟩
abbrev LAT_BB_COUNT1 (i j : Nat) : Fld := ⟨LAT_BB i j, 16, 16⟩
abbrev LAT_BB_LAST (i : Nat) : Nat := 0x410020 + i * 0x40
abbrev LAT_BB_LAST_LAST (i : Nat) : Fld := ⟨LAT_BB_LAST i, 0, 16⟩
abbrev LAT_BB_LAST_LAST_VALID (i : Nat) : Fld := ⟨LAT_BB_LAST i, 16, 1⟩
abbrev LAT_FSEQ (i : Nat) : Nat := 0x450000 + i * 0x4
abbrev LAT_FSEQ_FSEQ (i : Nat) : Fld := ⟨LAT_FSEQ i, 0, 32⟩
abbrev LAT_CMAPWIN (i : Nat) : Nat := 0x500000 + i * 0x4
abbrev LAT_CMAPWIN_DATA (i : Nat) : Fld := ⟨LAT_CMAPWIN i, 0, 32⟩
abbrev SIT_VX0 (i : Nat) : Nat := 0x600000 + i * 0x20
abbrev SIT_VX0_STATE (i : Nat) : Fld := ⟨SIT_VX0 i, 0, 2⟩
abbrev SIT_VX0_DIE_TYPE (i : Nat) : Fld := ⟨SIT_VX0 i, 4, 4⟩
abbrev SIT_VX0_CHORD (i : Nat) : Fld := ⟨SIT_VX0 i, 8, 9⟩
abbrev SIT_VX0_SLOT (i : Nat) : Fld := ⟨SIT_VX0 i, 24, 6⟩
abbrev SIT_VX1 (i : Nat) : Nat := 0x600004 + i * 0x20
abbrev SIT_VX1_SELECT_CH (i : Nat) : Fld := ⟨SIT_VX1 i, 0, 11⟩
abbrev SIT_VX1_SELECT_CODE (i : Nat) : Fld := ⟨SIT_VX1 i, 16, 6⟩
abbrev SIT_VX2 (i : Nat) : Nat := 0x600008 + i * 0x20
abbrev SIT_VX2_BUSY_CH (i : Nat) : Fld := ⟨SIT_VX2 i, 0, 11⟩
abbrev SIT_VX2_BUSY_EN (i : Nat) : Fld := ⟨SIT_VX2 i, 15, 1⟩
abbrev SIT_VX2_GATE_CH (i : Nat) : Fld := ⟨SIT_VX2 i, 16, 11⟩
abbrev SIT_VX2_GATE_POL (i : Nat) : Fld := ⟨SIT_VX2 i, 30, 1⟩
abbrev SIT_VX2_GATE_EN (i : Nat) : Fld := ⟨SIT_VX2 i, 31, 1⟩
abbrev SIT_VX3 (i : Nat) : Nat := 0x60000c + i * 0x20
abbrev SIT_VX3_PMI (i : Nat) : Fld := ⟨SIT_VX3 i, 0, 6⟩
abbrev SIT_VX3_PMI_EN (i : Nat) : Fld := ⟨SIT_VX3 i, 6, 1⟩
abbrev SIT_VX4 (i : Nat) : Nat := 0x600010 + i * 0x20
abbrev SIT_VX4_WAFER_X (i : Nat) : Fld := ⟨SIT_VX4 i, 0, 16⟩
abbrev SIT_VX4_WAFER_Y (i : Nat) : Fld := ⟨SIT_VX4 i, 16, 16⟩
abbrev SIT_VXU (i j : Nat) : Nat := 0x600014 + i * 0x20 + j * 0x4
abbrev SIT_VXU_USER (i j : Nat) : Fld := ⟨SIT_VXU i j, 0, 32⟩
abbrev SIT_CH0 (i : Nat) : Nat := 0x620000 + i * 0x40
abbrev SIT_CH0_ENABLE (i : Nat) : Fld := ⟨SIT_CH0 i, 0, 1⟩
abbrev SIT_CH0_SELECT_KIND (i : Nat) : Fld := ⟨SIT_CH0 i, 1, 1⟩
abbrev SIT_CH0_CODE_WIDTH (i : Nat) : Fld := ⟨SIT_CH0 i, 2, 3⟩
abbrev SIT_CH0_TEMPLATE (i : Nat) : Fld := ⟨SIT_CH0 i, 8, 6⟩
abbrev SIT_CH0_SHARED_COUNT (i : Nat) : Fld := ⟨SIT_CH0 i, 16, 5⟩
abbrev SIT_CH1 (i : Nat) : Nat := 0x620004 + i * 0x40
abbrev SIT_CH1_STROBE_CH (i : Nat) : Fld := ⟨SIT_CH1 i, 0, 11⟩
abbrev SIT_CH1_CODE0_CH (i : Nat) : Fld := ⟨SIT_CH1 i, 16, 11⟩
abbrev SIT_CH2 (i : Nat) : Nat := 0x620008 + i * 0x40
abbrev SIT_CH2_CODE1_CH (i : Nat) : Fld := ⟨SIT_CH2 i, 0, 11⟩
abbrev SIT_CH2_CODE2_CH (i : Nat) : Fld := ⟨SIT_CH2 i, 16, 11⟩
abbrev SIT_CH3 (i : Nat) : Nat := 0x62000c + i * 0x40
abbrev SIT_CH3_CODE3_CH (i : Nat) : Fld := ⟨SIT_CH3 i, 0, 11⟩
abbrev SIT_CH3_CODE4_CH (i : Nat) : Fld := ⟨SIT_CH3 i, 16, 11⟩
abbrev SIT_CH4 (i : Nat) : Nat := 0x620010 + i * 0x40
abbrev SIT_CH4_CODE5_CH (i : Nat) : Fld := ⟨SIT_CH4 i, 0, 11⟩
abbrev SIT_CHS (i j : Nat) : Nat := 0x620014 + i * 0x40 + j * 0x4
abbrev SIT_CHS_SHARED0 (i j : Nat) : Fld := ⟨SIT_CHS i j, 0, 11⟩
abbrev SIT_CHS_SHARED1 (i j : Nat) : Fld := ⟨SIT_CHS i j, 16, 11⟩
abbrev ACQ_PMI_CFG (i : Nat) : Nat := 0x700000 + i * 0x8
abbrev ACQ_PMI_CFG_EN (i : Nat) : Fld := ⟨ACQ_PMI_CFG i, 0, 1⟩
abbrev ACQ_PMI_CFG_RATE (i : Nat) : Fld := ⟨ACQ_PMI_CFG i, 1, 2⟩
abbrev ACQ_PMI_LAST (i : Nat) : Nat := 0x700004 + i * 0x8
abbrev ACQ_PMI_LAST_CODE (i : Nat) : Fld := ⟨ACQ_PMI_LAST i, 0, 24⟩
abbrev ACQ_PMI_LAST_OVR (i : Nat) : Fld := ⟨ACQ_PMI_LAST i, 24, 1⟩
abbrev ACQ_PMI_LAST_STALE (i : Nat) : Fld := ⟨ACQ_PMI_LAST i, 25, 1⟩
abbrev ACQ_STAT : Nat := 0x700400
abbrev ACQ_STAT_WRITE_DROP : Fld := ⟨ACQ_STAT, 0, 1⟩
abbrev ACQ_U_CFG (i : Nat) : Nat := 0x701000 + i * 0x80
abbrev ACQ_U_CFG_MODE (i : Nat) : Fld := ⟨ACQ_U_CFG i, 0, 2⟩
abbrev ACQ_U_CFG_SRC_KIND (i : Nat) : Fld := ⟨ACQ_U_CFG i, 2, 2⟩
abbrev ACQ_U_CFG_SRC_INDEX (i : Nat) : Fld := ⟨ACQ_U_CFG i, 4, 9⟩
abbrev ACQ_U_CHMASK (i : Nat) : Nat := 0x701004 + i * 0x80
abbrev ACQ_U_CHMASK_CHMASK (i : Nat) : Fld := ⟨ACQ_U_CHMASK i, 0, 16⟩
abbrev ACQ_U_PRE (i : Nat) : Nat := 0x701008 + i * 0x80
abbrev ACQ_U_PRE_PRE (i : Nat) : Fld := ⟨ACQ_U_PRE i, 0, 32⟩
abbrev ACQ_U_POST (i : Nat) : Nat := 0x70100c + i * 0x80
abbrev ACQ_U_POST_POST (i : Nat) : Fld := ⟨ACQ_U_POST i, 0, 32⟩
abbrev ACQ_U_REDUCE (i : Nat) : Nat := 0x701010 + i * 0x80
abbrev ACQ_U_REDUCE_R (i : Nat) : Fld := ⟨ACQ_U_REDUCE i, 0, 16⟩
abbrev ACQ_U_TRIG_CFG (i : Nat) : Nat := 0x701014 + i * 0x80
abbrev ACQ_U_TRIG_CFG_KIND (i : Nat) : Fld := ⟨ACQ_U_TRIG_CFG i, 0, 3⟩
abbrev ACQ_U_TRIG_CFG_UNIT (i : Nat) : Fld := ⟨ACQ_U_TRIG_CFG i, 4, 4⟩
abbrev ACQ_U_THRESH (i : Nat) : Nat := 0x701018 + i * 0x80
abbrev ACQ_U_THRESH_THRESH (i : Nat) : Fld := ⟨ACQ_U_THRESH i, 0, 32⟩
abbrev ACQ_U_HOLD (i : Nat) : Nat := 0x70101c + i * 0x80
abbrev ACQ_U_HOLD_HOLD (i : Nat) : Fld := ⟨ACQ_U_HOLD i, 0, 32⟩
abbrev ACQ_U_TRIG_AT (i : Nat) : Nat := 0x701020 + i * 0x80
abbrev ACQ_U_TRIG_AT_AT (i : Nat) : Fld := ⟨ACQ_U_TRIG_AT i, 0, 64⟩
abbrev ACQ_U_PAGES (i : Nat) : Nat := 0x701028 + i * 0x80
abbrev ACQ_U_PAGES_PAGES (i : Nat) : Fld := ⟨ACQ_U_PAGES i, 0, 14⟩
abbrev ACQ_U_CTRL (i : Nat) : Nat := 0x70102c + i * 0x80
abbrev ACQ_U_CTRL_ARM (i : Nat) : Fld := ⟨ACQ_U_CTRL i, 0, 1⟩
abbrev ACQ_U_CTRL_STOP (i : Nat) : Fld := ⟨ACQ_U_CTRL i, 1, 1⟩
abbrev ACQ_U_CTRL_TRIG (i : Nat) : Fld := ⟨ACQ_U_CTRL i, 2, 1⟩
abbrev ACQ_U_DEST_ADDR (i : Nat) : Nat := 0x701030 + i * 0x80
abbrev ACQ_U_DEST_ADDR_ADDR (i : Nat) : Fld := ⟨ACQ_U_DEST_ADDR i, 0, 64⟩
abbrev ACQ_U_DEST (i : Nat) : Nat := 0x701038 + i * 0x80
abbrev ACQ_U_DEST_BSIZE (i : Nat) : Fld := ⟨ACQ_U_DEST i, 0, 5⟩
abbrev ACQ_U_DEST_VERTEX (i : Nat) : Fld := ⟨ACQ_U_DEST i, 16, 12⟩
abbrev ACQ_U_DEST_NOTIFY (i : Nat) : Fld := ⟨ACQ_U_DEST i, 28, 1⟩
abbrev ACQ_U_DEST_LOCAL (i : Nat) : Fld := ⟨ACQ_U_DEST i, 29, 1⟩
abbrev ACQ_U_DEST_CONS (i : Nat) : Nat := 0x70103c + i * 0x80
abbrev ACQ_U_DEST_CONS_CONS (i : Nat) : Fld := ⟨ACQ_U_DEST_CONS i, 0, 32⟩
abbrev ACQ_U_DEST_PROD (i : Nat) : Nat := 0x701040 + i * 0x80
abbrev ACQ_U_DEST_PROD_PROD (i : Nat) : Fld := ⟨ACQ_U_DEST_PROD i, 0, 32⟩
abbrev ACQ_U_STAT (i : Nat) : Nat := 0x701044 + i * 0x80
abbrev ACQ_U_STAT_STATE (i : Nat) : Fld := ⟨ACQ_U_STAT i, 0, 3⟩
abbrev ACQ_U_STAT_ERR (i : Nat) : Fld := ⟨ACQ_U_STAT i, 4, 4⟩
abbrev ACQ_U_STAT_GAP (i : Nat) : Fld := ⟨ACQ_U_STAT i, 8, 1⟩
abbrev ACQ_U_STAT_OVERFLOW (i : Nat) : Fld := ⟨ACQ_U_STAT i, 9, 1⟩
abbrev ACQ_U_STAT_ENDED (i : Nat) : Fld := ⟨ACQ_U_STAT i, 10, 1⟩
abbrev ACQ_U_IGN_FILL (i : Nat) : Nat := 0x701048 + i * 0x80
abbrev ACQ_U_IGN_FILL_COUNT (i : Nat) : Fld := ⟨ACQ_U_IGN_FILL i, 0, 32⟩
abbrev ACQ_U_IGN_REARM (i : Nat) : Nat := 0x70104c + i * 0x80
abbrev ACQ_U_IGN_REARM_COUNT (i : Nat) : Fld := ⟨ACQ_U_IGN_REARM i, 0, 32⟩
abbrev ACQ_U_LOST (i : Nat) : Nat := 0x701050 + i * 0x80
abbrev ACQ_U_LOST_COUNT (i : Nat) : Fld := ⟨ACQ_U_LOST i, 0, 32⟩
abbrev ACQ_U_CAPTURES (i : Nat) : Nat := 0x701054 + i * 0x80
abbrev ACQ_U_CAPTURES_COUNT (i : Nat) : Fld := ⟨ACQ_U_CAPTURES i, 0, 32⟩
abbrev ACQ_U_LAST_TRIG_AT (i : Nat) : Nat := 0x701058 + i * 0x80
abbrev ACQ_U_LAST_TRIG_AT_AT (i : Nat) : Fld := ⟨ACQ_U_LAST_TRIG_AT i, 0, 64⟩
abbrev ACQ_U_TAG (i : Nat) : Nat := 0x701060 + i * 0x80
abbrev ACQ_U_TAG_TAG (i : Nat) : Fld := ⟨ACQ_U_TAG i, 0, 16⟩
abbrev ACQ_U_TAG_NBLK (i : Nat) : Fld := ⟨ACQ_U_TAG i, 16, 16⟩
abbrev ACQ_MSEQ (i : Nat) : Nat := 0x740000 + i * 0x4
abbrev ACQ_MSEQ_MSEQ (i : Nat) : Fld := ⟨ACQ_MSEQ i, 0, 32⟩
abbrev FCT_UWIN (f i : Nat) : Nat := 0x1000000 + f * 0x80000 + i * 0x4
abbrev FCT_UWIN_DATA (f i : Nat) : Fld := ⟨FCT_UWIN f i, 0, 32⟩
abbrev FCT_SCR (f i : Nat) : Nat := 0x1040000 + f * 0x80000 + i * 0x4
abbrev FCT_SCR_ENTRY (f i : Nat) : Fld := ⟨FCT_SCR f i, 0, 32⟩
abbrev FCT_WMEM (f i : Nat) : Nat := 0x1048000 + f * 0x80000 + i * 0x4
abbrev FCT_WMEM_S0 (f i : Nat) : Fld := ⟨FCT_WMEM f i, 0, 16⟩
abbrev FCT_WMEM_S1 (f i : Nat) : Fld := ⟨FCT_WMEM f i, 16, 16⟩
abbrev FCT_LS0 (f i : Nat) : Nat := 0x1060000 + f * 0x80000 + i * 0x20
abbrev FCT_LS0_VIL (f i : Nat) : Fld := ⟨FCT_LS0 f i, 0, 16⟩
abbrev FCT_LS0_VIH (f i : Nat) : Fld := ⟨FCT_LS0 f i, 16, 16⟩
abbrev FCT_LS1 (f i : Nat) : Nat := 0x1060004 + f * 0x80000 + i * 0x20
abbrev FCT_LS1_VOL (f i : Nat) : Fld := ⟨FCT_LS1 f i, 0, 16⟩
abbrev FCT_LS1_VOH (f i : Nat) : Fld := ⟨FCT_LS1 f i, 16, 16⟩
abbrev FCT_LS2 (f i : Nat) : Nat := 0x1060008 + f * 0x80000 + i * 0x20
abbrev FCT_LS2_VT (f i : Nat) : Fld := ⟨FCT_LS2 f i, 0, 16⟩
abbrev FCT_LS3 (f i : Nat) : Nat := 0x106000c + f * 0x80000 + i * 0x20
abbrev FCT_LS3_CLAMP_LO (f i : Nat) : Fld := ⟨FCT_LS3 f i, 0, 16⟩
abbrev FCT_LS3_CLAMP_HI (f i : Nat) : Fld := ⟨FCT_LS3 f i, 16, 16⟩
abbrev FCT_LS4 (f i : Nat) : Nat := 0x1060010 + f * 0x80000 + i * 0x20
abbrev FCT_LS4_BIND (f i : Nat) : Fld := ⟨FCT_LS4 f i, 0, 3⟩
abbrev FCT_LS4_GEN (f i : Nat) : Fld := ⟨FCT_LS4 f i, 4, 2⟩
abbrev FCT_CH (f i : Nat) : Nat := 0x1061000 + f * 0x80000 + i * 0x4
abbrev FCT_CH_LS (f i : Nat) : Fld := ⟨FCT_CH f i, 0, 4⟩
abbrev FCT_CH_SLEW (f i : Nat) : Fld := ⟨FCT_CH f i, 4, 2⟩
abbrev FCT_CH_OFF_MODE (f i : Nat) : Fld := ⟨FCT_CH f i, 6, 1⟩
abbrev FCT_CH_HYST (f i : Nat) : Fld := ⟨FCT_CH f i, 8, 4⟩
abbrev FCT_CH_STATE (f i : Nat) : Fld := ⟨FCT_CH f i, 16, 2⟩
abbrev FCT_CH_PARK_CAUSE (f i : Nat) : Fld := ⟨FCT_CH f i, 18, 2⟩
abbrev FCT_PMU_CTRL (f i : Nat) : Nat := 0x1062000 + f * 0x80000 + i * 0x10
abbrev FCT_PMU_CTRL_MODE (f i : Nat) : Fld := ⟨FCT_PMU_CTRL f i, 0, 2⟩
abbrev FCT_PMU_CTRL_RANGE (f i : Nat) : Fld := ⟨FCT_PMU_CTRL f i, 2, 2⟩
abbrev FCT_PMU_CTRL_SAMPLES (f i : Nat) : Fld := ⟨FCT_PMU_CTRL f i, 6, 6⟩
abbrev FCT_PMU_CTRL_START (f i : Nat) : Fld := ⟨FCT_PMU_CTRL f i, 12, 1⟩
abbrev FCT_PMU_CTRL_ABORT (f i : Nat) : Fld := ⟨FCT_PMU_CTRL f i, 13, 1⟩
abbrev FCT_PMU_FORCE (f i : Nat) : Nat := 0x1062004 + f * 0x80000 + i * 0x10
abbrev FCT_PMU_FORCE_FORCE (f i : Nat) : Fld := ⟨FCT_PMU_FORCE f i, 0, 18⟩
abbrev FCT_PMU_RESULT (f i : Nat) : Nat := 0x1062008 + f * 0x80000 + i * 0x10
abbrev FCT_PMU_RESULT_RESULT (f i : Nat) : Fld := ⟨FCT_PMU_RESULT f i, 0, 32⟩
abbrev FCT_PMU_STAT (f i : Nat) : Nat := 0x106200c + f * 0x80000 + i * 0x10
abbrev FCT_PMU_STAT_BUSY (f i : Nat) : Fld := ⟨FCT_PMU_STAT f i, 0, 1⟩
abbrev FCT_PMU_STAT_CLAMPED (f i : Nat) : Fld := ⟨FCT_PMU_STAT f i, 1, 1⟩
abbrev FCT_PMU_STAT_OVERRANGE (f i : Nat) : Fld := ⟨FCT_PMU_STAT f i, 2, 1⟩
abbrev FCT_PMU_STAT_ABORTED (f i : Nat) : Fld := ⟨FCT_PMU_STAT f i, 3, 1⟩
abbrev FCT_PMU_STAT_STALE (f i : Nat) : Fld := ⟨FCT_PMU_STAT f i, 4, 1⟩
abbrev FCT_PMU_STAT_BAD_CLAMP (f i : Nat) : Fld := ⟨FCT_PMU_STAT f i, 5, 1⟩
abbrev FCT_PE_CFG (f : Nat) : Nat := 0x1063000 + f * 0x80000
abbrev FCT_PE_CFG_OC_LEVEL (f : Nat) : Fld := ⟨FCT_PE_CFG f, 0, 3⟩
abbrev FCT_PE_CFG_OC_FILTER (f : Nat) : Fld := ⟨FCT_PE_CFG f, 8, 8⟩
abbrev FCT_PMU_SETTLE (f : Nat) : Nat := 0x1063004 + f * 0x80000
abbrev FCT_PMU_SETTLE_SETTLE (f : Nat) : Fld := ⟨FCT_PMU_SETTLE f, 0, 32⟩
abbrev FCT_OC_STAT (f i : Nat) : Nat := 0x1063010 + f * 0x80000 + i * 0x4
abbrev FCT_OC_STAT_OC (f i : Nat) : Fld := ⟨FCT_OC_STAT f i, 0, 32⟩
abbrev FCT_LS_STAT (f : Nat) : Nat := 0x1063020 + f * 0x80000
abbrev FCT_LS_STAT_CLIP (f : Nat) : Fld := ⟨FCT_LS_STAT f, 0, 16⟩
abbrev FCT_LS_STAT_BAD (f : Nat) : Fld := ⟨FCT_LS_STAT f, 16, 16⟩
abbrev FCT_OC_COUNT (f : Nat) : Nat := 0x1063024 + f * 0x80000
abbrev FCT_OC_COUNT_COUNT (f : Nat) : Fld := ⟨FCT_OC_COUNT f, 0, 32⟩
abbrev FCT_PMU_DONE (f i : Nat) : Nat := 0x1063030 + f * 0x80000 + i * 0x4
abbrev FCT_PMU_DONE_DONE (f i : Nat) : Fld := ⟨FCT_PMU_DONE f i, 0, 32⟩
abbrev FCT_TS (f i j : Nat) : Nat := 0x1064000 + f * 0x80000 + i * 0x20 + j * 0x4
abbrev FCT_TS_OFS (f i j : Nat) : Fld := ⟨FCT_TS f i j, 0, 29⟩
abbrev FCT_TSW (f i : Nat) : Nat := 0x1064014 + f * 0x80000 + i * 0x20
abbrev FCT_TSW_WINDOW (f i : Nat) : Fld := ⟨FCT_TSW f i, 0, 1⟩
abbrev FCT_CHT (f i : Nat) : Nat := 0x1064800 + f * 0x80000 + i * 0x4
abbrev FCT_CHT_TSEL (f i : Nat) : Fld := ⟨FCT_CHT f i, 0, 6⟩
abbrev FCT_CHT_GROUP (f i : Nat) : Fld := ⟨FCT_CHT f i, 8, 3⟩
abbrev FCT_PERIOD (f i : Nat) : Nat := 0x1065000 + f * 0x80000 + i * 0x8
abbrev FCT_PERIOD_PERIOD (f i : Nat) : Fld := ⟨FCT_PERIOD f i, 0, 48⟩
abbrev FCT_RATE (f : Nat) : Nat := 0x1065040 + f * 0x80000
abbrev FCT_RATE_SEL (f : Nat) : Fld := ⟨FCT_RATE f, 0, 3⟩
abbrev FCT_RATE_ACTIVE (f : Nat) : Fld := ⟨FCT_RATE f, 4, 3⟩
abbrev FCT_ANCHOR (f : Nat) : Nat := 0x1065048 + f * 0x80000
abbrev FCT_ANCHOR_ANCHOR (f : Nat) : Fld := ⟨FCT_ANCHOR f, 0, 64⟩
abbrev FCT_TIMING_STAT (f : Nat) : Nat := 0x1065050 + f * 0x80000
abbrev FCT_TIMING_STAT_PER_CLIP (f : Nat) : Fld := ⟨FCT_TIMING_STAT f, 0, 1⟩
abbrev FCT_TIMING_STAT_RATE_CONFLICT (f : Nat) : Fld := ⟨FCT_TIMING_STAT f, 1, 1⟩
abbrev FCT_TIMING_STAT_ANCHOR_DEFERRED (f : Nat) : Fld := ⟨FCT_TIMING_STAT f, 2, 1⟩
abbrev FCT_TS_BAD (f i : Nat) : Nat := 0x1065058 + f * 0x80000 + i * 0x4
abbrev FCT_TS_BAD_BAD (f i : Nat) : Fld := ⟨FCT_TS_BAD f i, 0, 32⟩
abbrev FCT_EDGE_DROP (f : Nat) : Nat := 0x1065060 + f * 0x80000
abbrev FCT_EDGE_DROP_COUNT (f : Nat) : Fld := ⟨FCT_EDGE_DROP f, 0, 32⟩
abbrev FCT_UPAGE (f : Nat) : Nat := 0x1068000 + f * 0x80000
abbrev FCT_UPAGE_PAGE (f : Nat) : Fld := ⟨FCT_UPAGE f, 0, 3⟩
abbrev FCT_LOC_STAT (f : Nat) : Nat := 0x1068004 + f * 0x80000
abbrev FCT_LOC_STAT_UWRITE_DROP (f : Nat) : Fld := ⟨FCT_LOC_STAT f, 0, 1⟩
abbrev FCT_HOLD_MAX (f : Nat) : Nat := 0x1068008 + f * 0x80000
abbrev FCT_HOLD_MAX_GRANULES (f : Nat) : Fld := ⟨FCT_HOLD_MAX f, 0, 24⟩
abbrev FCT_JVEC (f i : Nat) : Nat := 0x1068100 + f * 0x80000 + i * 0x4
abbrev FCT_JVEC_ADDR (f i : Nat) : Fld := ⟨FCT_JVEC f i, 0, 16⟩
abbrev FCT_JVEC_VALID (f i : Nat) : Fld := ⟨FCT_JVEC f i, 16, 1⟩
abbrev FCT_TPL_ID (f i : Nat) : Nat := 0x1068400 + f * 0x80000 + i * 0x4
abbrev FCT_TPL_ID_ID (f i : Nat) : Fld := ⟨FCT_TPL_ID f i, 0, 32⟩
abbrev FCT_ENTRY (f i j : Nat) : Nat := 0x1069000 + f * 0x80000 + i * 0x40 + j * 0x4
abbrev FCT_ENTRY_ADDR (f i j : Nat) : Fld := ⟨FCT_ENTRY f i j, 0, 16⟩
abbrev FCT_ENTRY_VALID (f i j : Nat) : Fld := ⟨FCT_ENTRY f i j, 16, 1⟩
abbrev FCT_RAY_STAT (f i : Nat) : Nat := 0x106a000 + f * 0x80000 + i * 0x80
abbrev FCT_RAY_STAT_STATE (f i : Nat) : Fld := ⟨FCT_RAY_STAT f i, 0, 3⟩
abbrev FCT_RAY_STAT_END_CAUSE (f i : Nat) : Fld := ⟨FCT_RAY_STAT f i, 4, 4⟩
abbrev FCT_RAY_STAT_ERR (f i : Nat) : Fld := ⟨FCT_RAY_STAT f i, 8, 4⟩
abbrev FCT_RAY_STAT_CHORD (f i : Nat) : Fld := ⟨FCT_RAY_STAT f i, 12, 9⟩
abbrev FCT_RAY_STAT_ASSIGNED (f i : Nat) : Fld := ⟨FCT_RAY_STAT f i, 21, 1⟩
abbrev FCT_RAY_PC (f i : Nat) : Nat := 0x106a004 + f * 0x80000 + i * 0x80
abbrev FCT_RAY_PC_ADDR (f i : Nat) : Fld := ⟨FCT_RAY_PC f i, 0, 16⟩
abbrev FCT_RAY_PC_IN_STREAM (f i : Nat) : Fld := ⟨FCT_RAY_PC f i, 16, 1⟩
abbrev FCT_RAY_PC_LOOP_DEPTH (f i : Nat) : Fld := ⟨FCT_RAY_PC f i, 17, 4⟩
abbrev FCT_RAY_PC_CALL_DEPTH (f i : Nat) : Fld := ⟨FCT_RAY_PC f i, 21, 5⟩
abbrev FCT_RAY_CODE (f i : Nat) : Nat := 0x106a008 + f * 0x80000 + i * 0x80
abbrev FCT_RAY_CODE_CURCODE (f i : Nat) : Fld := ⟨FCT_RAY_CODE f i, 0, 6⟩
abbrev FCT_RAY_CODE_GANG_N (f i : Nat) : Fld := ⟨FCT_RAY_CODE f i, 8, 7⟩
abbrev FCT_RAY_FLAGS (f i : Nat) : Nat := 0x106a00c + f * 0x80000 + i * 0x80
abbrev FCT_RAY_FLAGS_JUMP_LATE (f i : Nat) : Fld := ⟨FCT_RAY_FLAGS f i, 0, 1⟩
abbrev FCT_RAY_FLAGS_JUMP_LOST (f i : Nat) : Fld := ⟨FCT_RAY_FLAGS f i, 1, 1⟩
abbrev FCT_RAY_FLAGS_SEG_SHORT (f i : Nat) : Fld := ⟨FCT_RAY_FLAGS f i, 2, 1⟩
abbrev FCT_RAY_FLAGS_UNDERFLOW (f i : Nat) : Fld := ⟨FCT_RAY_FLAGS f i, 3, 1⟩
abbrev FCT_RAY_FLAGS_GAP (f i : Nat) : Fld := ⟨FCT_RAY_FLAGS f i, 4, 1⟩
abbrev FCT_RAY_FLAGS_RSVD_SYM (f i : Nat) : Fld := ⟨FCT_RAY_FLAGS f i, 5, 1⟩
abbrev FCT_RAY_FLAGS_RATE_RAYCONF (f i : Nat) : Fld := ⟨FCT_RAY_FLAGS f i, 6, 1⟩
abbrev FCT_RAY_VCOUNT (f i : Nat) : Nat := 0x106a010 + f * 0x80000 + i * 0x80
abbrev FCT_RAY_VCOUNT_VCOUNT (f i : Nat) : Fld := ⟨FCT_RAY_VCOUNT f i, 0, 64⟩
abbrev FCT_RAY_SEGS (f i : Nat) : Nat := 0x106a018 + f * 0x80000 + i * 0x80
abbrev FCT_RAY_SEGS_SEGS (f i : Nat) : Fld := ⟨FCT_RAY_SEGS f i, 0, 32⟩
abbrev FCT_RAY_GAPS (f i : Nat) : Nat := 0x106a01c + f * 0x80000 + i * 0x80
abbrev FCT_RAY_GAPS_COUNT (f i : Nat) : Fld := ⟨FCT_RAY_GAPS f i, 0, 32⟩
abbrev FCT_RAY_LASTGAP_AT (f i : Nat) : Nat := 0x106a020 + f * 0x80000 + i * 0x80
abbrev FCT_RAY_LASTGAP_AT_AT (f i : Nat) : Fld := ⟨FCT_RAY_LASTGAP_AT f i, 0, 64⟩
abbrev FCT_RAY_LASTGAP_LEN (f i : Nat) : Nat := 0x106a028 + f * 0x80000 + i * 0x80
abbrev FCT_RAY_LASTGAP_LEN_LEN (f i : Nat) : Fld := ⟨FCT_RAY_LASTGAP_LEN f i, 0, 32⟩
abbrev FCT_RAY_UPOS_SEG (f i : Nat) : Nat := 0x106a02c + f * 0x80000 + i * 0x80
abbrev FCT_RAY_UPOS_SEG_SEG (f i : Nat) : Fld := ⟨FCT_RAY_UPOS_SEG f i, 0, 32⟩
abbrev FCT_RAY_UPOS_VCOUNT (f i : Nat) : Nat := 0x106a030 + f * 0x80000 + i * 0x80
abbrev FCT_RAY_UPOS_VCOUNT_VCOUNT (f i : Nat) : Fld := ⟨FCT_RAY_UPOS_VCOUNT f i, 0, 64⟩
abbrev FCT_RAY_PARAM (f i j : Nat) : Nat := 0x106a040 + f * 0x80000 + i * 0x80 + j * 0x4
abbrev FCT_RAY_PARAM_PARAM (f i j : Nat) : Fld := ⟨FCT_RAY_PARAM f i j, 0, 32⟩
abbrev FCT_RAY_UPOS_LOOP (f i j : Nat) : Nat := 0x106a060 + f * 0x80000 + i * 0x80 + j * 0x4
abbrev FCT_RAY_UPOS_LOOP_LOOP (f i j : Nat) : Fld := ⟨FCT_RAY_UPOS_LOOP f i j, 0, 32⟩
abbrev FCT_SQ_CFG (f i : Nat) : Nat := 0x106b000 + f * 0x80000 + i * 0x20
abbrev FCT_SQ_CFG_BASE (f i : Nat) : Fld := ⟨FCT_SQ_CFG f i, 0, 15⟩
abbrev FCT_SQ_CFG_SIZE (f i : Nat) : Fld := ⟨FCT_SQ_CFG f i, 16, 16⟩
abbrev FCT_SQ_HSIZE (f i : Nat) : Nat := 0x106b004 + f * 0x80000 + i * 0x20
abbrev FCT_SQ_HSIZE_HSIZE (f i : Nat) : Fld := ⟨FCT_SQ_HSIZE f i, 0, 5⟩
abbrev FCT_SQ_HADDR (f i : Nat) : Nat := 0x106b008 + f * 0x80000 + i * 0x20
abbrev FCT_SQ_HADDR_HADDR (f i : Nat) : Fld := ⟨FCT_SQ_HADDR f i, 0, 64⟩
abbrev FCT_SQ_PROD (f i : Nat) : Nat := 0x106b010 + f * 0x80000 + i * 0x20
abbrev FCT_SQ_PROD_PROD (f i : Nat) : Fld := ⟨FCT_SQ_PROD f i, 0, 32⟩
abbrev FCT_SQ_FETCHED (f i : Nat) : Nat := 0x106b014 + f * 0x80000 + i * 0x20
abbrev FCT_SQ_FETCHED_FETCHED (f i : Nat) : Fld := ⟨FCT_SQ_FETCHED f i, 0, 32⟩
abbrev FCT_SQ_CONS (f i : Nat) : Nat := 0x106b018 + f * 0x80000 + i * 0x20
abbrev FCT_SQ_CONS_CONS (f i : Nat) : Fld := ⟨FCT_SQ_CONS f i, 0, 32⟩
abbrev FCT_GEN_X_LO (f i : Nat) : Nat := 0x106c000 + f * 0x80000 + i * 0x80
abbrev FCT_GEN_X_LO_V (f i : Nat) : Fld := ⟨FCT_GEN_X_LO f i, 0, 32⟩
abbrev FCT_GEN_X_HI (f i : Nat) : Nat := 0x106c004 + f * 0x80000 + i * 0x80
abbrev FCT_GEN_X_HI_V (f i : Nat) : Fld := ⟨FCT_GEN_X_HI f i, 0, 32⟩
abbrev FCT_GEN_X_STEP (f i : Nat) : Nat := 0x106c008 + f * 0x80000 + i * 0x80
abbrev FCT_GEN_X_STEP_V (f i : Nat) : Fld := ⟨FCT_GEN_X_STEP f i, 0, 32⟩
abbrev FCT_GEN_Y_LO (f i : Nat) : Nat := 0x106c00c + f * 0x80000 + i * 0x80
abbrev FCT_GEN_Y_LO_V (f i : Nat) : Fld := ⟨FCT_GEN_Y_LO f i, 0, 24⟩
abbrev FCT_GEN_Y_HI (f i : Nat) : Nat := 0x106c010 + f * 0x80000 + i * 0x80
abbrev FCT_GEN_Y_HI_V (f i : Nat) : Fld := ⟨FCT_GEN_Y_HI f i, 0, 24⟩
abbrev FCT_GEN_Y_STEP (f i : Nat) : Nat := 0x106c014 + f * 0x80000 + i * 0x80
abbrev FCT_GEN_Y_STEP_V (f i : Nat) : Fld := ⟨FCT_GEN_Y_STEP f i, 0, 24⟩
abbrev FCT_GEN_Z_BND (f i : Nat) : Nat := 0x106c018 + f * 0x80000 + i * 0x80
abbrev FCT_GEN_Z_BND_LO (f i : Nat) : Fld := ⟨FCT_GEN_Z_BND f i, 0, 16⟩
abbrev FCT_GEN_Z_BND_HI (f i : Nat) : Fld := ⟨FCT_GEN_Z_BND f i, 16, 16⟩
abbrev FCT_GEN_Z_STEP (f i : Nat) : Nat := 0x106c01c + f * 0x80000 + i * 0x80
abbrev FCT_GEN_Z_STEP_V (f i : Nat) : Fld := ⟨FCT_GEN_Z_STEP f i, 0, 16⟩
abbrev FCT_GEN_SCR (f i j : Nat) : Nat := 0x106c020 + f * 0x80000 + i * 0x80 + j * 0x4
abbrev FCT_GEN_SCR_EN (f i j : Nat) : Fld := ⟨FCT_GEN_SCR f i j, 0, 1⟩
abbrev FCT_GEN_SCR_MODE (f i j : Nat) : Fld := ⟨FCT_GEN_SCR f i j, 1, 1⟩
abbrev FCT_GEN_SCR_LSB (f i j : Nat) : Fld := ⟨FCT_GEN_SCR f i j, 2, 5⟩
abbrev FCT_GEN_SCR_BITS (f i j : Nat) : Fld := ⟨FCT_GEN_SCR f i j, 7, 4⟩
abbrev FCT_GEN_SCR_BASE (f i j : Nat) : Fld := ⟨FCT_GEN_SCR f i j, 16, 12⟩
abbrev FCT_GEN_MAP (f i : Nat) : Nat := 0x106c02c + f * 0x80000 + i * 0x80
abbrev FCT_GEN_MAP_ZSHIFT (f i : Nat) : Fld := ⟨FCT_GEN_MAP f i, 0, 5⟩
abbrev FCT_GEN_MAP_YWIDTH (f i : Nat) : Fld := ⟨FCT_GEN_MAP f i, 5, 5⟩
abbrev FCT_GEN_MAP_AFIRST (f i : Nat) : Fld := ⟨FCT_GEN_MAP f i, 10, 5⟩
abbrev FCT_GEN_MAP_AWIDTH (f i : Nat) : Fld := ⟨FCT_GEN_MAP f i, 15, 5⟩
abbrev FCT_GEN_MAP_DFIRST (f i : Nat) : Fld := ⟨FCT_GEN_MAP f i, 20, 5⟩
abbrev FCT_GEN_DCFG (f i : Nat) : Nat := 0x106c030 + f * 0x80000 + i * 0x80
abbrev FCT_GEN_DCFG_SRC (f i : Nat) : Fld := ⟨FCT_GEN_DCFG f i, 0, 2⟩
abbrev FCT_GEN_DCFG_BG (f i : Nat) : Fld := ⟨FCT_GEN_DCFG f i, 2, 3⟩
abbrev FCT_GEN_DCFG_DWIDTH (f i : Nat) : Fld := ⟨FCT_GEN_DCFG f i, 5, 2⟩
abbrev FCT_GEN_DCFG_INV0 (f i : Nat) : Fld := ⟨FCT_GEN_DCFG f i, 7, 1⟩
abbrev FCT_GEN_DCFG_VSEED (f i : Nat) : Fld := ⟨FCT_GEN_DCFG f i, 8, 1⟩
abbrev FCT_GEN_DCFG_SEED_SRC (f i : Nat) : Fld := ⟨FCT_GEN_DCFG f i, 9, 1⟩
abbrev FCT_GEN_DPAT (f i : Nat) : Nat := 0x106c034 + f * 0x80000 + i * 0x80
abbrev FCT_GEN_DPAT_V (f i : Nat) : Fld := ⟨FCT_GEN_DPAT f i, 0, 32⟩
abbrev FCT_GEN_AMASK_X (f i : Nat) : Nat := 0x106c038 + f * 0x80000 + i * 0x80
abbrev FCT_GEN_AMASK_X_V (f i : Nat) : Fld := ⟨FCT_GEN_AMASK_X f i, 0, 32⟩
abbrev FCT_GEN_AMASK_Y (f i : Nat) : Nat := 0x106c03c + f * 0x80000 + i * 0x80
abbrev FCT_GEN_AMASK_Y_V (f i : Nat) : Fld := ⟨FCT_GEN_AMASK_Y f i, 0, 24⟩
abbrev FCT_GEN_SEED (f i : Nat) : Nat := 0x106c040 + f * 0x80000 + i * 0x80
abbrev FCT_GEN_SEED_V (f i : Nat) : Fld := ⟨FCT_GEN_SEED f i, 0, 32⟩
abbrev FCT_GEN_MARCH_CFG (f i : Nat) : Nat := 0x106c044 + f * 0x80000 + i * 0x80
abbrev FCT_GEN_MARCH_CFG_ELEMS (f i : Nat) : Fld := ⟨FCT_GEN_MARCH_CFG f i, 0, 5⟩
abbrev FCT_GEN_WSYM (f i j : Nat) : Nat := 0x106c048 + f * 0x80000 + i * 0x80 + j * 0x4
abbrev FCT_GEN_WSYM_V (f i j : Nat) : Fld := ⟨FCT_GEN_WSYM f i j, 0, 32⟩
abbrev FCT_GEN_RSYM (f i j : Nat) : Nat := 0x106c054 + f * 0x80000 + i * 0x80 + j * 0x4
abbrev FCT_GEN_RSYM_V (f i j : Nat) : Fld := ⟨FCT_GEN_RSYM f i j, 0, 32⟩
abbrev FCT_GEN_X (f i : Nat) : Nat := 0x106c060 + f * 0x80000 + i * 0x80
abbrev FCT_GEN_X_V (f i : Nat) : Fld := ⟨FCT_GEN_X f i, 0, 32⟩
abbrev FCT_GEN_Y (f i : Nat) : Nat := 0x106c064 + f * 0x80000 + i * 0x80
abbrev FCT_GEN_Y_V (f i : Nat) : Fld := ⟨FCT_GEN_Y f i, 0, 24⟩
abbrev FCT_GEN_Z (f i : Nat) : Nat := 0x106c068 + f * 0x80000 + i * 0x80
abbrev FCT_GEN_Z_V (f i : Nat) : Fld := ⟨FCT_GEN_Z f i, 0, 16⟩
abbrev FCT_GEN_Z_XLIM (f i : Nat) : Fld := ⟨FCT_GEN_Z f i, 16, 1⟩
abbrev FCT_GEN_Z_YLIM (f i : Nat) : Fld := ⟨FCT_GEN_Z f i, 17, 1⟩
abbrev FCT_GEN_Z_ZLIM (f i : Nat) : Fld := ⟨FCT_GEN_Z f i, 18, 1⟩
abbrev FCT_GEN_Z_DINV (f i : Nat) : Fld := ⟨FCT_GEN_Z f i, 19, 1⟩
abbrev FCT_GEN_MPOS (f i : Nat) : Nat := 0x106c06c + f * 0x80000 + i * 0x80
abbrev FCT_GEN_MPOS_ELEM (f i : Nat) : Fld := ⟨FCT_GEN_MPOS f i, 0, 5⟩
abbrev FCT_GEN_MPOS_OP (f i : Nat) : Fld := ⟨FCT_GEN_MPOS f i, 8, 3⟩
abbrev FCT_GEN_MPOS_STARTED (f i : Nat) : Fld := ⟨FCT_GEN_MPOS f i, 12, 1⟩
abbrev FCT_GEN_MPOS_DONE (f i : Nat) : Fld := ⟨FCT_GEN_MPOS f i, 13, 1⟩
abbrev FCT_GEN_GFLAGS (f i : Nat) : Nat := 0x106c070 + f * 0x80000 + i * 0x80
abbrev FCT_GEN_GFLAGS_GEN_RANGE (f i : Nat) : Fld := ⟨FCT_GEN_GFLAGS f i, 0, 1⟩
abbrev FCT_GEN_GFLAGS_DCFG_BAD (f i : Nat) : Fld := ⟨FCT_GEN_GFLAGS f i, 1, 1⟩
abbrev FCT_GEN_GFLAGS_MARCH_OVERRUN (f i : Nat) : Fld := ⟨FCT_GEN_GFLAGS f i, 2, 1⟩
abbrev FCT_WG_CMD (f i : Nat) : Nat := 0x106d000 + f * 0x80000 + i * 0x80
abbrev FCT_WG_CMD_CMD (f i : Nat) : Fld := ⟨FCT_WG_CMD f i, 0, 2⟩
abbrev FCT_WG_CMD_TIMED (f i : Nat) : Fld := ⟨FCT_WG_CMD f i, 4, 1⟩
abbrev FCT_WG_CFG (f i : Nat) : Nat := 0x106d004 + f * 0x80000 + i * 0x80
abbrev FCT_WG_CFG_NSEG (f i : Nat) : Fld := ⟨FCT_WG_CFG f i, 0, 3⟩
abbrev FCT_WG_CFG_REPEAT (f i : Nat) : Fld := ⟨FCT_WG_CFG f i, 3, 1⟩
abbrev FCT_WG_AT (f i : Nat) : Nat := 0x106d008 + f * 0x80000 + i * 0x80
abbrev FCT_WG_AT_AT (f i : Nat) : Fld := ⟨FCT_WG_AT f i, 0, 64⟩
abbrev FCT_WG_TS (f i : Nat) : Nat := 0x106d010 + f * 0x80000 + i * 0x80
abbrev FCT_WG_TS_TS (f i : Nat) : Fld := ⟨FCT_WG_TS f i, 0, 32⟩
abbrev FCT_WG_IDLE (f i : Nat) : Nat := 0x106d014 + f * 0x80000 + i * 0x80
abbrev FCT_WG_IDLE_V (f i : Nat) : Fld := ⟨FCT_WG_IDLE f i, 0, 16⟩
abbrev FCT_WG_STAT (f i : Nat) : Nat := 0x106d018 + f * 0x80000 + i * 0x80
abbrev FCT_WG_STAT_STATE (f i : Nat) : Fld := ⟨FCT_WG_STAT f i, 0, 2⟩
abbrev FCT_WG_STAT_SEG (f i : Nat) : Fld := ⟨FCT_WG_STAT f i, 4, 3⟩
abbrev FCT_WG_STAT_REQ_LOST (f i : Nat) : Fld := ⟨FCT_WG_STAT f i, 24, 1⟩
abbrev FCT_WG_STAT_TS_CLIP (f i : Nat) : Fld := ⟨FCT_WG_STAT f i, 25, 1⟩
abbrev FCT_WG_STAT_UECC (f i : Nat) : Fld := ⟨FCT_WG_STAT f i, 26, 1⟩
abbrev FCT_WG_STAT_SEG_BAD (f i : Nat) : Fld := ⟨FCT_WG_STAT f i, 27, 1⟩
abbrev FCT_WG_OUT (f i : Nat) : Nat := 0x106d01c + f * 0x80000 + i * 0x80
abbrev FCT_WG_OUT_V (f i : Nat) : Fld := ⟨FCT_WG_OUT f i, 0, 16⟩
abbrev FCT_WG_STARTED_AT (f i : Nat) : Nat := 0x106d020 + f * 0x80000 + i * 0x80
abbrev FCT_WG_STARTED_AT_AT (f i : Nat) : Fld := ⟨FCT_WG_STARTED_AT f i, 0, 64⟩
abbrev FCT_WG_SEG (f i j : Nat) : Nat := 0x106d040 + f * 0x80000 + i * 0x80 + j * 0x8
abbrev FCT_WG_SEG_BASE_G (f i j : Nat) : Fld := ⟨FCT_WG_SEG f i j, 0, 8⟩
abbrev FCT_WG_SEG_LEN_G (f i j : Nat) : Fld := ⟨FCT_WG_SEG f i j, 8, 9⟩
abbrev FCT_WG_LOOPS (f i j : Nat) : Nat := 0x106d044 + f * 0x80000 + i * 0x80 + j * 0x8
abbrev FCT_WG_LOOPS_LOOPS (f i j : Nat) : Fld := ⟨FCT_WG_LOOPS f i j, 0, 16⟩
abbrev FCT_GEN_STAT (f : Nat) : Nat := 0x106d800 + f * 0x80000
abbrev FCT_GEN_STAT_WRITE_DROP (f : Nat) : Fld := ⟨FCT_GEN_STAT f, 0, 1⟩
abbrev FCT_MARCH (f i j : Nat) : Nat := 0x106e000 + f * 0x80000 + i * 0x40 + j * 0x4
abbrev FCT_MARCH_NOPS_M1 (f i j : Nat) : Fld := ⟨FCT_MARCH f i j, 0, 3⟩
abbrev FCT_MARCH_DIR (f i j : Nat) : Fld := ⟨FCT_MARCH f i j, 3, 1⟩
abbrev FCT_MARCH_WRITE (f i j : Nat) : Fld := ⟨FCT_MARCH f i j, 8, 8⟩
abbrev FCT_MARCH_POL (f i j : Nat) : Fld := ⟨FCT_MARCH f i j, 16, 8⟩
abbrev FCT_TDC_START_SEL (f i : Nat) : Nat := 0x1070000 + f * 0x80000 + i * 0x80
abbrev FCT_TDC_START_SEL_KIND (f i : Nat) : Fld := ⟨FCT_TDC_START_SEL f i, 0, 2⟩
abbrev FCT_TDC_START_SEL_CH (f i : Nat) : Fld := ⟨FCT_TDC_START_SEL f i, 2, 7⟩
abbrev FCT_TDC_START_SEL_EDGE (f i : Nat) : Fld := ⟨FCT_TDC_START_SEL f i, 9, 2⟩
abbrev FCT_TDC_START_SEL_RAY (f i : Nat) : Fld := ⟨FCT_TDC_START_SEL f i, 11, 5⟩
abbrev FCT_TDC_START_SEL_VEV (f i : Nat) : Fld := ⟨FCT_TDC_START_SEL f i, 16, 2⟩
abbrev FCT_TDC_START_SEL_TIP (f i : Nat) : Fld := ⟨FCT_TDC_START_SEL f i, 18, 1⟩
abbrev FCT_TDC_STOP_SEL (f i : Nat) : Nat := 0x1070004 + f * 0x80000 + i * 0x80
abbrev FCT_TDC_STOP_SEL_KIND (f i : Nat) : Fld := ⟨FCT_TDC_STOP_SEL f i, 0, 2⟩
abbrev FCT_TDC_STOP_SEL_CH (f i : Nat) : Fld := ⟨FCT_TDC_STOP_SEL f i, 2, 7⟩
abbrev FCT_TDC_STOP_SEL_EDGE (f i : Nat) : Fld := ⟨FCT_TDC_STOP_SEL f i, 9, 2⟩
abbrev FCT_TDC_STOP_SEL_RAY (f i : Nat) : Fld := ⟨FCT_TDC_STOP_SEL f i, 11, 5⟩
abbrev FCT_TDC_STOP_SEL_VEV (f i : Nat) : Fld := ⟨FCT_TDC_STOP_SEL f i, 16, 2⟩
abbrev FCT_TDC_STOP_SEL_TIP (f i : Nat) : Fld := ⟨FCT_TDC_STOP_SEL f i, 18, 1⟩
abbrev FCT_TDC_START_ARG (f i : Nat) : Nat := 0x1070008 + f * 0x80000 + i * 0x80
abbrev FCT_TDC_START_ARG_ARG (f i : Nat) : Fld := ⟨FCT_TDC_START_ARG f i, 0, 64⟩
abbrev FCT_TDC_STOP_ARG (f i : Nat) : Nat := 0x1070010 + f * 0x80000 + i * 0x80
abbrev FCT_TDC_STOP_ARG_ARG (f i : Nat) : Fld := ⟨FCT_TDC_STOP_ARG f i, 0, 64⟩
abbrev FCT_TDC_CTRL (f i : Nat) : Nat := 0x1070018 + f * 0x80000 + i * 0x80
abbrev FCT_TDC_CTRL_N_M1 (f i : Nat) : Fld := ⟨FCT_TDC_CTRL f i, 0, 24⟩
abbrev FCT_TDC_CTRL_START (f i : Nat) : Fld := ⟨FCT_TDC_CTRL f i, 24, 1⟩
abbrev FCT_TDC_CTRL_ABORT (f i : Nat) : Fld := ⟨FCT_TDC_CTRL f i, 25, 1⟩
abbrev FCT_TDC_HOLDOFF (f i : Nat) : Nat := 0x107001c + f * 0x80000 + i * 0x80
abbrev FCT_TDC_HOLDOFF_START_HOLDOFF (f i : Nat) : Fld := ⟨FCT_TDC_HOLDOFF f i, 0, 16⟩
abbrev FCT_TDC_HOLDOFF_STOP_HOLDOFF (f i : Nat) : Fld := ⟨FCT_TDC_HOLDOFF f i, 16, 16⟩
abbrev FCT_TDC_TIMEOUT (f i : Nat) : Nat := 0x1070020 + f * 0x80000 + i * 0x80
abbrev FCT_TDC_TIMEOUT_TICKS (f i : Nat) : Fld := ⟨FCT_TDC_TIMEOUT f i, 0, 32⟩
abbrev FCT_TDC_INTERVAL (f i : Nat) : Nat := 0x1070024 + f * 0x80000 + i * 0x80
abbrev FCT_TDC_INTERVAL_TICKS (f i : Nat) : Fld := ⟨FCT_TDC_INTERVAL f i, 0, 32⟩
abbrev FCT_TDC_STAT (f i : Nat) : Nat := 0x1070028 + f * 0x80000 + i * 0x80
abbrev FCT_TDC_STAT_BUSY (f i : Nat) : Fld := ⟨FCT_TDC_STAT f i, 0, 1⟩
abbrev FCT_TDC_STAT_END (f i : Nat) : Fld := ⟨FCT_TDC_STAT f i, 1, 2⟩
abbrev FCT_TDC_STAT_STALE (f i : Nat) : Fld := ⟨FCT_TDC_STAT f i, 3, 1⟩
abbrev FCT_TDC_STAT_TIME_SUSPECT (f i : Nat) : Fld := ⟨FCT_TDC_STAT f i, 4, 1⟩
abbrev FCT_TDC_STAT_MISSED (f i : Nat) : Fld := ⟨FCT_TDC_STAT f i, 5, 1⟩
abbrev FCT_TDC_STAT_OVF (f i : Nat) : Fld := ⟨FCT_TDC_STAT f i, 6, 1⟩
abbrev FCT_TDC_STAT_RATE (f i : Nat) : Fld := ⟨FCT_TDC_STAT f i, 7, 1⟩
abbrev FCT_TDC_COUNT (f i : Nat) : Nat := 0x107002c + f * 0x80000 + i * 0x80
abbrev FCT_TDC_COUNT_COUNT (f i : Nat) : Fld := ⟨FCT_TDC_COUNT f i, 0, 25⟩
abbrev FCT_TDC_MEAN (f i : Nat) : Nat := 0x1070030 + f * 0x80000 + i * 0x80
abbrev FCT_TDC_MEAN_MEAN (f i : Nat) : Fld := ⟨FCT_TDC_MEAN f i, 0, 64⟩
abbrev FCT_TDC_STDEV (f i : Nat) : Nat := 0x1070038 + f * 0x80000 + i * 0x80
abbrev FCT_TDC_STDEV_STDEV (f i : Nat) : Fld := ⟨FCT_TDC_STDEV f i, 0, 64⟩
abbrev FCT_TDC_MIN (f i : Nat) : Nat := 0x1070040 + f * 0x80000 + i * 0x80
abbrev FCT_TDC_MIN_MIN (f i : Nat) : Fld := ⟨FCT_TDC_MIN f i, 0, 64⟩
abbrev FCT_TDC_MAX (f i : Nat) : Nat := 0x1070048 + f * 0x80000 + i * 0x80
abbrev FCT_TDC_MAX_MAX (f i : Nat) : Fld := ⟨FCT_TDC_MAX f i, 0, 64⟩
abbrev FCT_TDC_LAST (f i : Nat) : Nat := 0x1070050 + f * 0x80000 + i * 0x80
abbrev FCT_TDC_LAST_LAST (f i : Nat) : Fld := ⟨FCT_TDC_LAST f i, 0, 64⟩
abbrev FCT_TDC_LAST_AT (f i : Nat) : Nat := 0x1070058 + f * 0x80000 + i * 0x80
abbrev FCT_TDC_LAST_AT_AT (f i : Nat) : Fld := ⟨FCT_TDC_LAST_AT f i, 0, 64⟩
abbrev FCT_TDC_TIMEOUTS (f i : Nat) : Nat := 0x1070060 + f * 0x80000 + i * 0x80
abbrev FCT_TDC_TIMEOUTS_COUNT (f i : Nat) : Fld := ⟨FCT_TDC_TIMEOUTS f i, 0, 32⟩
abbrev FCT_RC_SRC (f : Nat) : Nat := 0x1071000 + f * 0x80000
abbrev FCT_RC_SRC_CH (f : Nat) : Fld := ⟨FCT_RC_SRC f, 0, 7⟩
abbrev FCT_RC_SRC_EDGE (f : Nat) : Fld := ⟨FCT_RC_SRC f, 7, 2⟩
abbrev FCT_RC_HOLDOFF (f : Nat) : Nat := 0x1071004 + f * 0x80000
abbrev FCT_RC_HOLDOFF_TICKS (f : Nat) : Fld := ⟨FCT_RC_HOLDOFF f, 0, 16⟩
abbrev FCT_RC_GATE (f : Nat) : Nat := 0x1071008 + f * 0x80000
abbrev FCT_RC_GATE_TICKS (f : Nat) : Fld := ⟨FCT_RC_GATE f, 0, 32⟩
abbrev FCT_RC_CTRL (f : Nat) : Nat := 0x107100c + f * 0x80000
abbrev FCT_RC_CTRL_START (f : Nat) : Fld := ⟨FCT_RC_CTRL f, 0, 1⟩
abbrev FCT_RC_CTRL_ABORT (f : Nat) : Fld := ⟨FCT_RC_CTRL f, 1, 1⟩
abbrev FCT_RC_CTRL_TIMED (f : Nat) : Fld := ⟨FCT_RC_CTRL f, 2, 1⟩
abbrev FCT_RC_CTRL_M_MAX (f : Nat) : Fld := ⟨FCT_RC_CTRL f, 5, 20⟩
abbrev FCT_RC_GATE_AT (f : Nat) : Nat := 0x1071010 + f * 0x80000
abbrev FCT_RC_GATE_AT_AT (f : Nat) : Fld := ⟨FCT_RC_GATE_AT f, 0, 64⟩
abbrev FCT_RC_STAT (f : Nat) : Nat := 0x1071018 + f * 0x80000
abbrev FCT_RC_STAT_BUSY (f : Nat) : Fld := ⟨FCT_RC_STAT f, 0, 1⟩
abbrev FCT_RC_STAT_END (f : Nat) : Fld := ⟨FCT_RC_STAT f, 1, 2⟩
abbrev FCT_RC_STAT_FEW (f : Nat) : Fld := ⟨FCT_RC_STAT f, 3, 1⟩
abbrev FCT_RC_STAT_RATE (f : Nat) : Fld := ⟨FCT_RC_STAT f, 4, 1⟩
abbrev FCT_RC_STAT_TIME_SUSPECT (f : Nat) : Fld := ⟨FCT_RC_STAT f, 5, 1⟩
abbrev FCT_RC_STAT_STALE (f : Nat) : Fld := ⟨FCT_RC_STAT f, 6, 1⟩
abbrev FCT_RC_M (f : Nat) : Nat := 0x107101c + f * 0x80000
abbrev FCT_RC_M_M (f : Nat) : Fld := ⟨FCT_RC_M f, 0, 21⟩
abbrev FCT_RC_PERIOD (f : Nat) : Nat := 0x1071020 + f * 0x80000
abbrev FCT_RC_PERIOD_PERIOD (f : Nat) : Fld := ⟨FCT_RC_PERIOD f, 0, 64⟩
abbrev FCT_RC_FREQ (f : Nat) : Nat := 0x1071028 + f * 0x80000
abbrev FCT_RC_FREQ_FREQ (f : Nat) : Fld := ⟨FCT_RC_FREQ f, 0, 64⟩
abbrev FCT_RC_RESID (f : Nat) : Nat := 0x1071030 + f * 0x80000
abbrev FCT_RC_RESID_RESID (f : Nat) : Fld := ⟨FCT_RC_RESID f, 0, 32⟩
abbrev FCT_RC_RSV (f : Nat) : Nat := 0x1071034 + f * 0x80000
abbrev FCT_RC_FIRST_AT (f : Nat) : Nat := 0x1071038 + f * 0x80000
abbrev FCT_RC_FIRST_AT_AT (f : Nat) : Fld := ⟨FCT_RC_FIRST_AT f, 0, 64⟩
abbrev FCT_RC_LAST_AT (f : Nat) : Nat := 0x1071040 + f * 0x80000
abbrev FCT_RC_LAST_AT_AT (f : Nat) : Fld := ⟨FCT_RC_LAST_AT f, 0, 64⟩
abbrev FCT_TMU_DONE (f : Nat) : Nat := 0x1071800 + f * 0x80000
abbrev FCT_TMU_DONE_DONE (f : Nat) : Fld := ⟨FCT_TMU_DONE f, 0, 32⟩
abbrev FCT_TMU_STAT (f : Nat) : Nat := 0x1071804 + f * 0x80000
abbrev FCT_TMU_STAT_WRITE_DROP (f : Nat) : Fld := ⟨FCT_TMU_STAT f, 0, 1⟩
abbrev FCT_TMU_STAT_RC_DONE (f : Nat) : Fld := ⟨FCT_TMU_STAT f, 1, 1⟩
abbrev FCT_TRIM0 (f i : Nat) : Nat := 0x1074000 + f * 0x80000 + i * 0x40
abbrev FCT_TRIM0_DRV_OFS (f i : Nat) : Fld := ⟨FCT_TRIM0 f i, 0, 10⟩
abbrev FCT_TRIM0_DRV_GAIN (f i : Nat) : Fld := ⟨FCT_TRIM0 f i, 16, 8⟩
abbrev FCT_TRIM1 (f i : Nat) : Nat := 0x1074004 + f * 0x80000 + i * 0x40
abbrev FCT_TRIM1_CMP_HI_OFS (f i : Nat) : Fld := ⟨FCT_TRIM1 f i, 0, 10⟩
abbrev FCT_TRIM1_CMP_LO_OFS (f i : Nat) : Fld := ⟨FCT_TRIM1 f i, 16, 10⟩
abbrev FCT_TRIM_DDSK (f i : Nat) : Nat := 0x1074008 + f * 0x80000 + i * 0x40
abbrev FCT_TRIM_DDSK_D0 (f i : Nat) : Fld := ⟨FCT_TRIM_DDSK f i, 0, 8⟩
abbrev FCT_TRIM_DDSK_D1 (f i : Nat) : Fld := ⟨FCT_TRIM_DDSK f i, 8, 8⟩
abbrev FCT_TRIM_DDSK_D2 (f i : Nat) : Fld := ⟨FCT_TRIM_DDSK f i, 16, 8⟩
abbrev FCT_TRIM_DDSK_D3 (f i : Nat) : Fld := ⟨FCT_TRIM_DDSK f i, 24, 8⟩
abbrev FCT_TRIM_CDSK (f i : Nat) : Nat := 0x107400c + f * 0x80000 + i * 0x40
abbrev FCT_TRIM_CDSK_D0 (f i : Nat) : Fld := ⟨FCT_TRIM_CDSK f i, 0, 8⟩
abbrev FCT_TRIM_CDSK_D1 (f i : Nat) : Fld := ⟨FCT_TRIM_CDSK f i, 8, 8⟩
abbrev FCT_TRIM_CDSK_D2 (f i : Nat) : Fld := ⟨FCT_TRIM_CDSK f i, 16, 8⟩
abbrev FCT_TRIM_CDSK_D3 (f i : Nat) : Fld := ⟨FCT_TRIM_CDSK f i, 24, 8⟩
abbrev FCT_TRIM_PMUI (f i j : Nat) : Nat := 0x1074010 + f * 0x80000 + i * 0x40 + j * 0x4
abbrev FCT_TRIM_PMUI_OFS (f i j : Nat) : Fld := ⟨FCT_TRIM_PMUI f i j, 0, 12⟩
abbrev FCT_TRIM_PMUI_GAIN (f i j : Nat) : Fld := ⟨FCT_TRIM_PMUI f i j, 16, 10⟩
abbrev FCT_TRIM_PMUV (f i : Nat) : Nat := 0x1074020 + f * 0x80000 + i * 0x40
abbrev FCT_TRIM_PMUV_OFS (f i : Nat) : Fld := ⟨FCT_TRIM_PMUV f i, 0, 12⟩
abbrev FCT_TRIM_PMUV_GAIN (f i : Nat) : Fld := ⟨FCT_TRIM_PMUV f i, 16, 10⟩
abbrev FCT_PPD (f i : Nat) : Nat := 0x107e000 + f * 0x80000 + i * 0x4
abbrev FCT_PPD_DELAY (f i : Nat) : Fld := ⟨FCT_PPD f i, 0, 18⟩

end Sys2Proof.Reg
end

