-- ==== Sys2Proof/Machine/Ops.lean ====
section
/-!
DEFINITION. The named operations over the block's state: sparse stores in canonical form, registers and their
fields (R23, R26), the family's sizes (R1, R3), Axis time (R8), the page pool and the other byte memories, the
messages the part sends, free values, and the event log's buffer (R406, R407).
-/

namespace Sys2Proof.Machine
open Sys2Proof.Reg

/-! ## Sparse stores -/

/-- The value at key `a`: the listed one, or the default. -/
def Store.find {α : Type} (d : Nat → α) : Store α → Nat → α
  | [], a => d a
  | (k, v) :: m, a => if k = a then v else Store.find d m a

/-- Insert `v` at key `a` into a list that is sorted by key, replacing the entry there. -/
def Store.insert {α : Type} (a : Nat) (v : α) : Store α → Store α
  | [] => [(a, v)]
  | (k, w) :: m =>
    if a < k then (a, v) :: (k, w) :: m
    else if a = k then (a, v) :: m
    else (k, w) :: Store.insert a v m

/-- Remove key `a`. -/
def Store.erase {α : Type} (a : Nat) (m : Store α) : Store α := m.filter fun e => e.1 != a

/-- Write `v` at key `a`, keeping the canonical form: an entry equal to the default is not listed. -/
def Store.put {α : Type} [DecidableEq α] (d : Nat → α) (m : Store α) (a : Nat) (v : α) : Store α :=
  if v = d a then Store.erase a m else Store.insert a v m

/-- The canonical form: keys strictly rising, and no entry equal to the default. -/
def Store.wf {α : Type} [DecidableEq α] (d : Nat → α) : Store α → Bool
  | [] => true
  | [(k, v)] => decide (v ≠ d k)
  | (k, v) :: (k', v') :: m => decide (v ≠ d k) && decide (k < k') && Store.wf d ((k', v') :: m)

/-! ## The register map -/

/-- The first address of a block in BAR0 (R25). -/
def Blk.base : Blk → Nat
  | .glb => 0x0 | .icl => 0x10000 | .fcl => 0x20000 | .thm => 0x30000 | .axs => 0x40000 | .apx => 0x50000
  | .spn => 0x60000 | .cal => 0x70000 | .rng => 0x100000 | .dma => 0x200000 | .arc => 0x300000
  | .lat => 0x400000 | .sit => 0x600000 | .acq => 0x700000 | .fct => 0x1000000

/-- The size of a block's address range (R25). -/
def Blk.size : Blk → Nat
  | .glb | .icl | .fcl | .thm | .axs | .apx | .spn | .cal => 0x10000
  | .rng | .dma | .arc | .acq => 0x100000
  | .lat => 0x200000
  | .sit => 0x28000
  | .fct => 0x800000

/-- The block whose address range holds a BAR0 address (R25), or none in a gap. -/
def blockOf (a : Nat) : Option Blk :=
  if a < 0x80000 then
    match a / 0x10000 with
    | 0 => some .glb | 1 => some .icl | 2 => some .fcl | 3 => some .thm | 4 => some .axs | 5 => some .apx
    | 6 => some .spn | _ => some .cal
  else if a < 0x100000 then none
  else if a < 0x200000 then some .rng
  else if a < 0x300000 then some .dma
  else if a < 0x400000 then some .arc
  else if a < 0x600000 then some .lat
  else if a < 0x628000 then some .sit
  else if a < 0x700000 then none
  else if a < 0x800000 then some .acq
  else if a < 0x1000000 then none
  else if a < 0x1800000 then some .fct
  else none

/-- The rows of a block. -/
def rowsOf : Blk → List RegRow
  | .glb => rowsGlb | .icl => rowsIcl | .fcl => rowsFcl | .thm => rowsThm | .axs => rowsAxs | .apx => rowsApx
  | .spn => rowsSpn | .cal => rowsCal | .rng => rowsRng | .dma => rowsDma | .arc => rowsArc | .lat => rowsLat
  | .sit => rowsSit | .acq => rowsAcq | .fct => rowsFct

/-- The offset of an address within its block, and within its facet's window for a facet (R25). -/
def blockOffset (b : Blk) (a : Nat) : Nat :=
  match b with
  | .fct => (a - b.base) % 0x80000
  | _ => a - b.base

/-- Does offset `o` from the row's start fall on one of its registers? The remainder is 0 there, and 4 on the
high word of a pair. -/
def dimsHit (quad : Bool) : List (Nat × Nat) → Nat → Option Bool
  | [], o => if o = 0 then some false else if quad ∧ o = 4 then some true else none
  | (n, st) :: ds, o => if o / st < n then dimsHit quad ds (o % st) else none

/-- Whether offset `o` of the block is one of the row's registers, and if so whether it is a high word. -/
def RegRow.hit (r : RegRow) (o : Nat) : Option Bool :=
  if o < r.off then none else dimsHit r.quad r.dims (o - r.off)

/-- The first row of a list that covers an offset, with whether the offset is a high word. -/
def findRow : List RegRow → Nat → Option (RegRow × Bool)
  | [], _ => none
  | r :: rs, o =>
    match r.hit o with
    | some hi => some (r, hi)
    | none => findRow rs o

/-- The row that covers a BAR0 doubleword address, and whether it is the high word of a pair. -/
def rowAt (a : Nat) : Option (RegRow × Bool) :=
  match blockOf a with
  | none => none
  | some b => findRow (rowsOf b) (blockOffset b a)

/-- The word that a list of fields has at reset. -/
def resetOf (fs : List FieldRow) : Nat := fs.foldl (fun w f => w + f.rst * 2 ^ f.lo) 0

/-- FCL_SRC_CFG at reset: the severity in bits 1:0 and the reaction in bits 5:4 of fault source `n` (R319). The
unassigned sources are given none there; they are 0 here. -/
def faultCfgReset (n : Nat) : Nat :=
  if n < 64 then
    match n % 4 with
    | 0 => 0x01 | 1 => 0x32 | 2 => 0x02 | _ => 0x22
  else if n < 74 then [0x01, 0x01, 0x12, 0x02, 0x01, 0x12, 0x02, 0x03, 0x03, 0x02].getD (n - 64) 0
  else if n < 92 then if n ≤ 89 then 0x22 else 0x02
  else if n < 108 then [0x01, 0x03, 0, 0, 0x02, 0x02, 0x02, 0x03, 0x01, 0x01, 0x01, 0x01, 0x02].getD (n - 92) 0
  else if n < 116 then if 109 ≤ n ∧ n ≤ 111 then 0x03 else 0x02
  else [0x02, 0, 0, 0, 0x01, 0x02, 0x31, 0x01, 0x01, 0x02, 0x01].getD (n - 116) 0

/-- The interrupt sources that are level sources, as their owning chapters define them. -/
def levelSource (n : Nat) : Bool :=
  if n < 256 then n % 16 = 0 ∨ n % 16 = 12 ∨ n % 16 = 13
  else n ∈ [256, 264, 355, 356, 357, 416, 417, 434, 440, 455, 483]

/-- The word at a register's (low) address after reset: the reset values of its fields, and where the reset value
differs from register to register of an array, the value its rule gives. -/
def rstWord (a : Nat) : Word64 :=
  if 0x10000 ≤ a ∧ a < 0x10800 then
    BitVec.ofNat 64 (0x10000 + if levelSource ((a - 0x10000) / 4) then 0x20000 else 0)
  else if 0x20000 ≤ a ∧ a < 0x20400 ∧ a % 8 = 0 then BitVec.ofNat 64 (faultCfgReset ((a - 0x20000) / 8))
  else if a = 0x60008 then BitVec.ofNat 64 0x80000303
  else if 0x2F0000 ≤ a ∧ a < 0x2F0100 ∧ a % 16 = 12 then 1
  else
    match rowAt a with
    | some (r, false) => BitVec.ofNat 64 (resetOf r.fields)
    | _ => 0

/-! ## Registers -/

/-- The word of the register, or pair, at address `a`. -/
def State.reg (s : State) (a : Nat) : Word64 := Store.find rstWord s.regs a

/-- The state with register `a` holding `v`. -/
def State.setReg (s : State) (a : Nat) (v : Word64) : State := { s with regs := Store.put rstWord s.regs a v }

/-- Bits `lo` to `lo + w - 1` of a word replaced by `v`. -/
def insertBits (x : Word64) (lo w v : Nat) : Word64 :=
  (x &&& ~~~(BitVec.ofNat 64 ((2 ^ w - 1) <<< lo))) ||| BitVec.ofNat 64 ((v % 2 ^ w) <<< lo)

/-- The value of a field. -/
def State.get (s : State) (f : Fld) : Nat := bitsAt (s.reg f.addr).toNat f.lo f.w

/-- Whether a one-bit field is 1. -/
def State.on (s : State) (f : Fld) : Bool := s.get f != 0

/-- The state with a field holding `v` (modulo the field's width). -/
def State.set (s : State) (f : Fld) (v : Nat) : State := s.setReg f.addr (insertBits (s.reg f.addr) f.lo f.w v)

/-- Set a one-bit field. -/
def State.raise (s : State) (f : Fld) : State := s.set f 1

/-- Set a one-bit field if `c` holds. -/
def State.raiseIf (s : State) (f : Fld) (c : Bool) : State := if c then s.set f 1 else s

/-- Add `i` to a CT field; the count wraps modulo 2^width (R26). -/
def State.count (s : State) (f : Fld) (i : Nat) : State := s.set f (s.get f + i)

/-- Add `i` to a CT field that saturates (R26). -/
def State.countSat (s : State) (f : Fld) (i : Nat) : State := s.set f (min (2 ^ f.w - 1) (s.get f + i))

/-- Bit `i` of a field. -/
def State.bitOf (s : State) (f : Fld) (i : Nat) : Bool := (s.get f).testBit i

/-- Set or clear bit `i` of a field. -/
def State.setBit (s : State) (f : Fld) (i : Nat) (b : Bool) : State := s.set ⟨f.addr, f.lo + i, 1⟩ (bit01 b)

/-- Return to their reset values the registers whose address satisfies `p`. -/
def State.clearRegs (s : State) (p : Nat → Bool) : State := { s with regs := s.regs.filter fun e => !p e.1 }

/-- The bits of a register that its fields with an access type in `accs` occupy. -/
def fieldMask (accs : List Acc) (fs : List FieldRow) : Nat :=
  fs.foldl (fun m f => if f.acc ∈ accs then m ||| ((2 ^ f.w - 1) <<< f.lo) else m) 0

/-- Return to their reset values the fields with an access type in `accs` of every register whose address
satisfies `p`. -/
def State.clearFields (s : State) (accs : List Acc) (p : Nat → Bool) : State :=
  { s with regs := s.regs.filterMap fun e =>
      if !p e.1 then some e
      else
        match rowAt e.1 with
        | some (r, false) =>
          let m := BitVec.ofNat 64 (fieldMask accs r.fields)
          let w := (e.2 &&& ~~~m) ||| (rstWord e.1 &&& m)
          if w = rstWord e.1 then none else some (e.1, w)
        | _ => some e }

/-! ## The family (R1, R3) -/

/-- GLB_IDENT.MEMBER. (Log: 6 DESIGN CHOICE) -/
def State.member (s : State) : Nat := s.get GLB_IDENT_MEMBER

/-- The number of facets present (R1). -/
def State.facets (s : State) : Nat := match s.member with | 0 => 16 | 1 => 8 | _ => 4

/-- The number of channels, vertices, chords and rings (R1). -/
def State.channels (s : State) : Nat := s.facets * 128
@[inherit_doc State.channels] def State.vertices (s : State) : Nat := s.facets * 256
@[inherit_doc State.channels] def State.chords (s : State) : Nat := s.facets * 32
@[inherit_doc State.channels] def State.rings (s : State) : Nat := s.facets * 1024

/-- The mask of the facets present, as bits 0 to 15 of an island mask (R3). -/
def State.facetMask (s : State) : Nat := 2 ^ s.facets - 1

/-- The islands present: the facets, then H (16) and A (17) (R10). -/
def State.islandMask (s : State) : Nat := s.facetMask + 0x30000

/-- Whether the block's registers at `a` are implemented on this member (R3, R25). -/
def State.implemented (s : State) (a : Nat) : Bool :=
  match blockOf a with
  | none => false
  | some b =>
    let o := blockOffset b a
    let present : Bool :=
      match b with
      | .fct => (a - b.base) / 0x80000 < s.facets
      | .rng => o / 0x40 < s.rings
      | .sit => if o < 0x20000 then o / 0x20 < s.vertices else (o - 0x20000) / 0x40 < s.chords
      | _ => true
    present && ((rowAt a).isSome || reservedRanges.any fun r => r.1 == b && r.2.1 ≤ o && o ≤ r.2.2)

/-! ## Time -/

/-- Advance the clock by `dt` stamp units of 1/256 tick (R8): the Axis count runs while the PLL is locked (R107),
modulo 2^64; the model's free-running time always does. (Log: 1 DESIGN CHOICE, 51 DESIGN CHOICE) -/
def State.tick (s : State) (dt : Nat) : State :=
  { s with
    now := if s.on AXS_STAT_LOCKED then (s.now + dt) % 2 ^ 64 else s.now
    elapsed := s.elapsed + dt }

/-- The Axis tick count (bits 63:8 of the stamp, R8). -/
def State.ticks (s : State) : Nat := s.now / 256

/-- Ticks since the model's free-running time started; unlike the Axis count no epoch sets it back. (Log: 1 DESIGN CHOICE) -/
def State.mono (s : State) : Nat := s.elapsed / 256

/-- Has Axis time reached stamp `t`? -/
def State.reached (s : State) (t : Nat) : Bool := t ≤ s.now

/-! ## Messages and free values -/

/-- Append a message to what the part has sent. -/
def State.send (s : State) (m : Msg) : State := { s with sent := s.sent ++ [m] }

/-- A free value (never constrained) and the state with the counter of free values advanced. (Log: 8 DESIGN CHOICE) -/
def State.fresh (s : State) : Nat × State := (Config.freeValue s.free, { s with free := s.free + 1 })

/-! ## Byte memories -/

/-- What a byte of memory that nothing has written reads as. (Log: 16 DESIGN CHOICE) -/
def zeroByte (_ : Nat) : Byte := 0
@[inherit_doc zeroByte] def erasedByte (_ : Nat) : Byte := 0xFF

/-- The canonical form of a byte memory whose unlisted bytes read as `d`. -/
def Memory.wf (d : Nat → Byte) (m : Mem) : Bool := Store.wf d m

/-- Read one byte of a memory whose unlisted bytes are zero. (Log: 16 DESIGN CHOICE) -/
def Memory.byte (m : Mem) (a : Nat) : Byte := Store.find zeroByte m a

/-- Write one byte of a memory whose unlisted bytes are zero. -/
def Memory.putByte (m : Mem) (a : Nat) (v : Byte) : Mem := Store.put zeroByte m a v

/-- The bytes at `a` to `a + n - 1`. -/
def Memory.bytes (m : Mem) (a n : Nat) : List Byte := (List.range n).map fun i => Memory.byte m (a + i)

/-- Write a list of bytes from `a` up. -/
def Memory.putBytes (m : Mem) : Nat → List Byte → Mem
  | _, [] => m
  | a, b :: bs => Memory.putBytes (Memory.putByte m a b) (a + 1) bs

/-- A little-endian number from its bytes (R23). -/
def leNat : List Byte → Nat
  | [] => 0
  | b :: bs => b.toNat + 256 * leNat bs

/-- The `n` little-endian bytes of a number (R23). -/
def leBytes : Nat → Nat → List Byte
  | 0, _ => []
  | n + 1, v => BitVec.ofNat 8 v :: leBytes n (v / 256)

/-- The `n` big-endian bytes of a number. -/
def beBytes (n v : Nat) : List Byte := (leBytes n v).reverse

/-- A little-endian number of `n` bytes at `a` (R23). -/
def Memory.word (m : Mem) (a n : Nat) : Nat := leNat (Memory.bytes m a n)

/-- Write a little-endian number of `n` bytes at `a` (R23). -/
def Memory.putWord (m : Mem) (a n v : Nat) : Mem := Memory.putBytes m a (leBytes n v)

/-! ## Modes -/

/-- The mode codes of R63. -/
def modeReset : Nat := 0
@[inherit_doc modeReset] def modeBoot : Nat := 1
@[inherit_doc modeReset] def modeIdle : Nat := 2
@[inherit_doc modeReset] def modeHost : Nat := 3
@[inherit_doc modeReset] def modeAuto : Nat := 4
@[inherit_doc modeReset] def modeCal : Nat := 5
@[inherit_doc modeReset] def modeDoze : Nat := 6
@[inherit_doc modeReset] def modeSafe : Nat := 7

/-- GLB_MODE.MODE. -/
def State.mode (s : State) : Nat := s.get GLB_MODE_MODE

/-- HOST or AUTO: the modes in which Arc runs operations (R63). -/
def State.running (s : State) : Bool := s.mode = modeHost || s.mode = modeAuto

/-- Is an island power-gated (facets in DOZE, R68) or held in reset (every island but A in RESET, R71)? -/
def State.islandDown (s : State) (i : Nat) : Bool :=
  (s.mode = modeDoze && i < 16) || (s.mode = modeReset && i != 17)

end Sys2Proof.Machine
end

