-- ==== Sys2Proof/Machine/Flags.lean ====
section
/-!
DEFINITION. The interrupt flags: pending, offering, claiming and signalling of interrupt sources (R306 to R314), mode
changes (R65) and the event log's buffer (R406, R407), which most other blocks use.
-/

namespace Sys2Proof.Machine
open Sys2Proof.Reg

/-! ## Interrupt sources -/

/-- Some register of an array of `n` 32-bit registers from `a` is not zero. -/
def State.anySet (s : State) (a n : Nat) : Bool := (List.range n).any fun i => s.reg (a + 4 * i) != 0

/-- Whether the condition of a level source holds (the owning chapters' source tables). -/
def State.levelHolds (s : State) (n : Nat) : Bool :=
  if n < 256 then
    if n / 16 ≥ s.facets then false
    else if n % 16 = 0 then s.reg (FCT_TMU_DONE (n / 16)) != 0
    else if n % 16 = 12 then s.anySet (FCT_OC_STAT (n / 16) 0) 4
    else if n % 16 = 13 then s.anySet (FCT_PMU_DONE (n / 16) 0) 4
    else false
  else
    match n with
    | 256 => s.anySet (ARC_VHOLD 0) 128
    | 264 => s.on ARC_STAT_QUIET
    | 355 => s.on DMA_POOL_STAT_LOW
    | 356 => s.on DMA_POOL_STAT_EXHAUSTED
    | 357 => s.on DMA_LINK_STAT_PRI_HALTED
    | 416 => s.on THM_LEVEL_WARN
    | 417 => s.on THM_LEVEL_THROTTLE
    | 434 => s.on FCL_STAT_GRACE_RUN
    | 440 => s.on FCL_FPARK_FPARK
    | 455 => decide (384 ≤ s.get APX_LOG_STAT_BUFFERED)
    | 483 => decide (s.get CAL_STAT_CALQ + s.get CAL_STAT_NVMQ ≠ 0)
    | _ => false

/-- The edge sources that the owning chapters define; every other source that is no level source never becomes
pending (R306). -/
def edgeSource (n : Nat) : Bool :=
  if n < 256 then n % 16 ∈ [1, 2, 7, 8, 9, 10, 11, 14, 15]
  else if n < 288 then 257 ≤ n ∧ n ≤ 266 ∧ n ≠ 264
  else if n < 320 then n ≤ 295
  else if n < 384 then n ≤ 360 ∧ ¬ (355 ≤ n ∧ n ≤ 357)
  else if n < 416 then true
  else if n < 432 then 418 ≤ n ∧ n ≤ 422
  else if n < 448 then n ≠ 434 ∧ n ≤ 439
  else if n < 464 then n ≤ 458 ∧ n ≠ 455
  else if n < 480 then n ≤ 469
  else if n < 496 then n ≤ 482
  else n ≤ 501

/-- The group that target-independent state `held` records for group `g` (R308). -/
def State.heldGroup (s : State) (g : Nat) : Option Held := Store.find (fun _ => none) s.icl.held g

/-- Is source `n` enabled, and its group's facet present (R3, R307)? -/
def State.sourceEnabled (s : State) (n : Nat) : Bool :=
  s.on (ICL_SRC_CFG_ENABLE n) && (256 ≤ n || n / 16 < s.facets)

/-- The level bits of a group that hold now, of enabled sources. -/
def State.liveLevels (s : State) (g : Nat) : Nat :=
  (List.range 16).foldl (fun m b =>
    if levelSource (16 * g + b) && s.sourceEnabled (16 * g + b) && s.levelHolds (16 * g + b) then m + 2 ^ b else m) 0

/-- ICL_PEND(g) as a read returns it: the edge bits, and the level bits live or from the snapshot (R307, R311). -/
def State.pendBits (s : State) (g : Nat) : Nat :=
  s.get (ICL_PEND_PEND g) +
    match s.heldGroup g with
    | some h => h.snap
    | none => s.liveLevels g

/-- The pending bits that decide whether a group that is not claimed is offered (R308). -/
def State.livePend (s : State) (g : Nat) : Nat := s.get (ICL_PEND_PEND g) + s.liveLevels g

/-- The targets online now (R313). -/
def State.online (s : State) : Nat :=
  s.get ICL_ONLINE_HOST + if s.on ICL_ONLINE_APEX && s.mode != modeDoze then 0x8000 else 0

/-- The union of the masks of a group's sources (R308). -/
def State.maskUnion (s : State) (g : Nat) : Nat :=
  (List.range 16).foldl (fun m b => m ||| s.get (ICL_SRC_CFG_MASK (16 * g + b))) 0

/-- The offer set of a group (R308): empty unless it is OFFERED. -/
def State.offerSet (s : State) (g : Nat) : Nat :=
  if (s.heldGroup g).isSome then 0
  else if s.livePend g = 0 then 0
  else s.maskUnion g &&& s.online

/-- ICL_GRP_STAT(g).STATE: 0 IDLE, 1 OFFERED, 2 CLAIMED (R308). -/
def State.groupState (s : State) (g : Nat) : Nat :=
  if (s.heldGroup g).isSome then 2 else if s.livePend g = 0 then 0 else 1

/-- ICL_OFFER(t): the groups offered to target `t`. -/
def State.offers (s : State) (t : Nat) : Nat :=
  (List.range 32).foldl (fun m g => if (s.offerSet g).testBit t then m + 2 ^ g else m) 0

/-- Is MSI-X vector `t` masked, by itself or by the function mask (R309)? Bit 0 of a table entry's fourth doubleword is
its mask bit. (Log: 25 PRESUMED) -/
def State.vectorMasked (s : State) (t : Nat) : Bool :=
  s.icl.funcMask || (s.reg (DMA_MSIX_TABLE (4 * t + 3))).getLsbD 0

/-- The message of vector `t` goes out; it waits while the PCIe link, target 20 of the collector, is retrained (R326). -/
def sendMessage (t : Nat) (s : State) : State :=
  if Store.find (fun _ => 0) s.fcl.reacting 20 = 0 then s.send (.msix t)
  else { s with icl := { s.icl with waiting := s.icl.waiting ++ [t] } }

/-- Signal target `t` (R309): send the vector's message, or hold it while it is masked; nothing while MSI-X Enable or
Bus Master Enable is 0. Target 15 is a line, asserted while its offers are non-empty. -/
def signalTarget (t : Nat) (s : State) : State :=
  if t ≥ 15 || !s.icl.msixOn || !s.icl.busMaster then s
  else if s.vectorMasked t then s.setBit (DMA_MSIX_PBA_PBA 0) t true
  else sendMessage t s

/-- The link is up again: the messages that waited for it go out, oldest first (R326). -/
def releaseMessages (s : State) : State :=
  s.icl.waiting.foldl (fun s t => signalTarget t s) { s with icl := { s.icl with waiting := [] } }

/-- Signal every target of a set, ascending. -/
def signalSet (m : Nat) (s : State) : State := (setBits 16 m).foldl (fun s t => signalTarget t s) s

/-- Apply a change and signal the targets whose offer sets group `g` enters by it (R309). -/
def withGroup (g : Nat) (f : State → State) (s : State) : State :=
  let t := f s
  signalSet (andNot (t.offerSet g) (s.offerSet g)) t

/-- Apply a change and signal the targets whose offer sets any of the groups enters by it. -/
def withGroups (gs : List Nat) (f : State → State) (s : State) : State :=
  let t := f s
  gs.foldl (fun u g => signalSet (andNot (t.offerSet g) (s.offerSet g)) u) t

/-- Does the controller take events of this source now? In DOZE only those of groups 26 to 29 and 31 (R314). -/
def State.takesEvents (s : State) (n : Nat) : Bool :=
  s.sourceEnabled n && (s.mode != modeDoze || (26 ≤ n / 16 && n / 16 != 30))

/-- One event of edge source `n` (R307). (Log: 28 DEDUCED) -/
def pend (n : Nat) (s : State) : State :=
  if edgeSource n && s.takesEvents n then
    withGroup (n / 16) (fun s => s.setBit (ICL_PEND_PEND (n / 16)) (n % 16) true) s
  else s

/-- One event of edge source `n` if `c` holds. -/
def pendIf (c : Bool) (n : Nat) (s : State) : State := if c then pend n s else s

/-- Apply a change that can alter the condition of level source `n`, and signal its group if it becomes offered. -/
def withLevel (n : Nat) (f : State → State) (s : State) : State := withGroup (n / 16) f s

/-- End the claim of a group (R312): its level sources are sampled again, and it is offered again or idle. -/
def releaseGroup (g : Nat) (s : State) : State :=
  withGroup g (fun s => { s with icl := { s.icl with held := Store.erase g s.icl.held } }) s

/-- Release every group that target `t` holds (R313). -/
def releaseTarget (t : Nat) (s : State) : State :=
  (List.range 32).foldl (fun s g =>
    match s.heldGroup g with
    | some h => if h.owner = t then releaseGroup g s else s
    | none => s) s

/-! ## Fault lines -/

/-- Can fault source `n` assert at all: it is assigned, and not a source of an absent facet (R3, R319)? -/
def State.faultPresent (s : State) (n : Nat) : Bool :=
  if n < 64 then n / 4 < s.facets
  else if 74 ≤ n && n ≤ 89 then n - 74 < s.facets
  else n < 127 && n ∉ [94, 95, 106, 107]

/-- FCL_ACTIVE of a source: its live asserted state (R318). -/
def faultActive (n : Nat) : Fld := ⟨FCL_ACTIVE (n / 32), n % 32, 1⟩
/-- FCL_RAIL of a source (R320). -/
def faultRail (n : Nat) : Fld := ⟨FCL_RAIL (n / 32), n % 32, 1⟩
/-- FCL_STICKY of a source (R323). -/
def faultSticky (n : Nat) : Fld := ⟨FCL_STICKY (n / 32), n % 32, 1⟩

/-- Note the level that the owner of a held line drives (R320). -/
def holdLine (n : Nat) (level : Bool) (s : State) : State :=
  { s with fcl := { s.fcl with lines := Store.put (fun _ => false) s.fcl.lines n level } }

/-- Does the owner of source `n` assert it? FCL_ACTIVE says so, but for a line that a rail fault holds (R320). -/
def State.lineLevel (s : State) (n : Nat) : Bool :=
  if s.on (faultRail n) then Store.find (fun _ => false) s.fcl.lines n else s.on (faultActive n)

/-- Fault line `n` asserts (R318): an event, unless it is asserted already, is held by a rail fault (R320), cannot assert,
or the collector is held in reset (R330). -/
def assertLine (n : Nat) (s : State) : State :=
  if s.mode = modeReset || !s.faultPresent n then s
  else if s.on (faultRail n) then holdLine n true s
  else if s.on (faultActive n) then s
  else { s.raise (faultActive n) with fcl := { s.fcl with raised := s.fcl.raised ++ [⟨n, false, false⟩] } }

/-- Fault line `n` deasserts (R318); a line held by a rail fault keeps its state (R320). -/
def deassertLine (n : Nat) (s : State) : State :=
  if s.on (faultRail n) then holdLine n false s else s.set (faultActive n) 0

/-- A short event of line `n`: it asserts and deasserts. (Log: 120 DEDUCED) -/
def pulseLine (n : Nat) (s : State) : State := deassertLine n (assertLine n s)

/-! ## The event log's buffer -/

/-- The entry types of R406. -/
def logBoot : Nat := 1
@[inherit_doc logBoot] def logMode : Nat := 2
@[inherit_doc logBoot] def logFault : Nat := 3
@[inherit_doc logBoot] def logCommand : Nat := 4
@[inherit_doc logBoot] def logThermal : Nat := 5
@[inherit_doc logBoot] def logCalibration : Nat := 6
@[inherit_doc logBoot] def logFirmware : Nat := 7
@[inherit_doc logBoot] def logSeal : Nat := 8
@[inherit_doc logBoot] def logKey : Nat := 9
@[inherit_doc logBoot] def logLoss : Nat := 10

/-- CRC-16/CCITT of one byte into a running value (R406): polynomial 0x1021, most significant bit first. -/
def crc16Byte (c : Nat) (b : Byte) : Nat :=
  (List.range 8).foldl (fun c _ => if c.testBit 15 then ((c * 2) % 65536) ^^^ 0x1021 else (c * 2) % 65536)
    (c ^^^ (b.toNat * 256))

/-- CRC-16/CCITT over a list of bytes, from 0xFFFF (R406). -/
def crc16 (bs : List Byte) : Nat := bs.foldl crc16Byte 0xFFFF

/-- The 32 bytes of a log entry (R406); DATA is padded with zeros to its 14 bytes. -/
def logBytes (seq : Nat) (e : LogEntry) : List Byte :=
  let body := leBytes 4 seq ++ leBytes 2 e.type ++ leBytes 2 e.arg ++ leBytes 8 e.at_ ++
    (e.data ++ List.replicate 14 0).take 14
  body ++ leBytes 2 (crc16 body)

/-- Write an entry as it is buffered to the host region, when the export is on (R408). -/
def exportEntry (bs : List Byte) (s : State) : State :=
  if s.on APX_LOG_EXP_EN then
    let n := 2 ^ s.get APX_LOG_EXP_LOG2N
    let i := s.get APX_LOG_EXP_PROD_PROD
    (s.send (.hostWrite (s.get APX_LOG_EXP_ADDR_ADDR + (i % n) * 32) bs)).count APX_LOG_EXP_PROD_PROD 1
  else s

/-- Put an entry into the buffer of 512, exporting it as it goes in. -/
def bufferEntry (e : LogEntry) (s : State) : State :=
  let s := exportEntry (logBytes (s.get APX_LOG_SEQ_SEQ) e) s
  withLevel 455 (fun s =>
    let s := { s with apex := { s.apex with log := s.apex.log ++ [(s.get APX_LOG_SEQ_SEQ, e)],
                                            logOldest := if s.apex.log = [] then s.mono else s.apex.logOldest } }
    (s.count APX_LOG_SEQ_SEQ 1).set APX_LOG_STAT_BUFFERED s.apex.log.length) s

/-- Log an event (R406, R407): it goes into the buffer, after a LOSS entry if entries were lost and room has returned;
with the buffer full it is lost and counted. Nothing is logged in the NO_FIRMWARE state, nor in RESET. (Log: 43 DEDUCED) -/
def logEvent (type arg : Nat) (data : List Byte) (s : State) : State :=
  if s.on APX_SAFE_CAUSE_NO_FIRMWARE || s.mode = modeReset then s
  else
    let e : LogEntry := ⟨type, arg % 65536, s.now, data⟩
    if s.apex.log.length ≥ 512 then
      pend 456 ({ s.countSat APX_LOG_LOST_COUNT 1 with apex := { s.apex with logLoss := s.apex.logLoss + 1 } })
    else if s.apex.logLoss > 0 then
      let l := s.apex.logLoss
      let s := bufferEntry ⟨logLoss, 0, s.now, leBytes 4 l⟩ { s with apex := { s.apex with logLoss := 0 } }
      if s.apex.log.length ≥ 512 then
        pend 456 ({ s.countSat APX_LOG_LOST_COUNT 1 with apex := { s.apex with logLoss := 1 } })
      else bufferEntry e s
    else bufferEntry e s

/-! ## Modes -/

/-- Complete a transition (R65): PREV_MODE takes the mode left, MODE the mode entered, and source 496 pends; the
event log records it (R406). (Log: 43 DEDUCED) -/
def enterMode (m : Nat) (s : State) : State :=
  let old := s.mode
  logEvent logMode (old + 256 * m) []
    (pend 496 ((s.set GLB_MODE_PREV_MODE old).set GLB_MODE_MODE m))

end Sys2Proof.Machine
end

