-- ==== Sys2Proof/Machine/Access.lean ====
section
/-!
DEFINITION. Register accesses: the requester paths and their guards (R34, R35), the capture of access errors (R41),
where a request is turned away before it reaches a register (R39, R68, R73), and the effect of a write on fields that
have no behaviour of their own (R26, R37).
-/

namespace Sys2Proof.Machine
open Sys2Proof.Reg

/-- The causes of GLB_ACCESS_ERR (R41). -/
def causeNarrow : Nat := 0
@[inherit_doc causeNarrow] def causeSplit64 : Nat := 1
@[inherit_doc causeNarrow] def causeGuard : Nat := 2
@[inherit_doc causeNarrow] def causeUnimpl : Nat := 3
@[inherit_doc causeNarrow] def causeUpdateBusy : Nat := 4
@[inherit_doc causeNarrow] def causeBadKey : Nat := 5

/-- Capture an access error (R41): the first since VALID was cleared is held, later ones set OVF; each is counted and
pends source 497. Nothing of the SMBus path is captured (R35). -/
def capture (p : Path) (cause : Nat) (write : Bool) (bar off be : Nat) (s : State) : State :=
  if p = .smbus then s
  else
    let s :=
      if s.on GLB_ACCESS_ERR_VALID then s.raise GLB_ACCESS_ERR_OVF
      else
        let s := s.raise GLB_ACCESS_ERR_VALID
        let s := s.set GLB_ACCESS_ERR_CAUSE cause
        let s := s.set GLB_ACCESS_ERR_WRITE (bit01 write)
        let s := s.set GLB_ACCESS_ERR_REQUESTER (if p = .apex then 1 else 0)
        let s := s.set GLB_ACCESS_ERR_BYTE_EN be
        (s.set GLB_ACCESS_ERR_ADDR_OFFSET off).set GLB_ACCESS_ERR_ADDR_BAR bar
    pend 497 (s.countSat GLB_ACCESS_ERR_COUNT_COUNT 1)

/-- The guard bit of a path; the SMBus path has no guard that opens (R35). -/
def guardField : Path → Option Fld
  | .host => some GLB_GUARD_STAT_HOST_OPEN
  | .apex => some GLB_GUARD_STAT_APEX_OPEN
  | .smbus => none

/-- Is the guard of a path open? -/
def State.guardOpen (s : State) (p : Path) : Bool :=
  match guardField p with
  | some f => s.on f
  | none => false

/-- Open or re-arm the guard of a path (R34). -/
def setGuard (p : Path) (b : Bool) (s : State) : State :=
  match guardField p with
  | some f => s.set f (bit01 b)
  | none => s

/-- A host access to BAR0 that RESET or BOOT turns away: everything but the GLB and APX ranges (R73). (Log: 23 DEDUCED) -/
def State.hostShut (s : State) (p : Path) (a : Nat) : Bool :=
  p = .host && s.mode ≤ modeBoot && !(a < 0x10000 || (0x50000 ≤ a && a < 0x60000))

/-- The window of a facet that is present is power-gated in DOZE (R68). -/
def State.windowGated (s : State) (a : Nat) : Bool :=
  s.mode = modeDoze && 0x1000000 ≤ a && (a - 0x1000000) / 0x80000 < s.facets

/-- No access at all: Apex firmware does not run in RESET (R73). -/
def State.pathDead (s : State) (p : Path) : Bool := p = .apex && s.mode = modeReset

/-- A write to an unimplemented address (R39). -/
def writeUnimplemented (p : Path) (a be : Nat) (s : State) : State :=
  let s := match p with
    | .apex => s.send (.busError a)
    | .host => s.send .aer
    | .smbus => s
  capture p causeUnimpl true 0 a be s

/-- The island of a BAR0 address (R25): a facet, H (16) or A (17). -/
def islandOf (a : Nat) : Nat :=
  if 0x1000000 ≤ a then (a - 0x1000000) / 0x80000
  else match blockOf a with
    | some .thm | some .apx | some .spn => 17
    | _ => 16

/-- The bits of a register that are SH fields. -/
def shadowMask (a : Nat) : Nat :=
  match rowAt a with
  | some (r, false) => fieldMask [.sh] r.fields
  | _ => 0

/-- Write the shadow of a register and set its island's DIRTY bit (R29). -/
def setShadow (a : Nat) (w : Word64) (s : State) : State :=
  let m := BitVec.ofNat 64 (shadowMask a)
  let s := { s with shadow := Store.insert a (w &&& m) s.shadow }
  s.setBit GLB_SHADOW_DIRTY_DIRTY (islandOf a) true

/-- The effect of writing `data` on one field (R26): GD fields only through an open guard; fields that start actions or
that hardware maintains are untouched. -/
def writeField (guard : Bool) (a : Nat) (data : Nat) (f : FieldRow) (s : State) : State :=
  let fld : Fld := ⟨a, f.lo, f.w⟩
  let v := bitsAt data f.lo f.w
  match f.acc with
  | .rw | .ct | .cts => s.set fld v
  | .gd => if guard then s.set fld v else s
  | .w1c => s.set fld (s.get fld &&& (2 ^ f.w - 1 - v))
  | .w1s => s.set fld (s.get fld ||| v)
  | .ro | .wo | .rc | .hc | .sh => s

/-- Write a whole register, or pair, at its (low) address: each field by its access type, SH fields into the shadow. -/
def writeRow (guard : Bool) (a data : Nat) (r : RegRow) (s : State) : State :=
  let s := r.fields.foldl (fun s f => writeField guard a data f s) s
  let m := fieldMask [.sh] r.fields
  if m = 0 then s else setShadow a (BitVec.ofNat 64 (data &&& m)) s

/-- Does a row hold a GD field? -/
def RegRow.guarded (r : RegRow) : Bool := r.fields.any fun f => f.acc == .gd

/-- Write a register, or pair, that has no behaviour of its own (R26, R37): a GD field behind a closed guard is captured
with cause GUARD, and the other fields are still written (R35). -/
def plainWrite (p : Path) (guard : Bool) (a data : Nat) (s : State) : State :=
  match rowAt a with
  | some (r, false) =>
    let s := if r.guarded && !guard then capture p causeGuard true 0 a 0xF s else s
    writeRow guard a data r s
  | _ => s

end Sys2Proof.Machine
end

