-- ==== Sys2Proof/Machine/Seal.lean ====
section
/-!
DEFINITION. Signed containers (R409), the mailbox's responses (R79), and the lot's result chain and its seals (R423 to
R425).
-/

namespace Sys2Proof.Machine
open Sys2Proof.Reg

/-- A list of bytes cut or padded with zeros to a length. -/
def fit (n : Nat) (bs : List Byte) : List Byte := (bs ++ List.replicate n 0).take n

/-- The bytes of `n` consecutive 32-bit registers from `a`. -/
def State.regBytes (s : State) (a n : Nat) : List Byte := (List.range n).flatMap fun i => leBytes 4 (s.reg (a + 4 * i)).toNat

/-- Write bytes to consecutive 32-bit registers from `a`. -/
def putRegBytes (a : Nat) : Nat → List Byte → State → State
  | 0, _, s => s
  | n + 1, bs, s =>
    match bs with
    | [] => s
    | _ => putRegBytes (a + 4) n (bs.drop 4) (s.setReg a (BitVec.ofNat 64 (leNat (bs.take 4))))

/-- The part's wall time (R55), in seconds. -/
def State.wallTime (s : State) : Nat :=
  s.get ARC_WALLCLOCK_SECONDS + (s.now - s.get ARC_WALLCLOCK_AT_AT) / 256 / 1600000000

/-- The device identity public key (R411). -/
def State.deviceKey (s : State) : List Byte := s.regBytes (APX_DEVKEY 0) 24

/-- The header of a container that the part signs (R409): SIGNER 4, bound to its serial number. (Log: 130 DESIGN CHOICE) -/
def containerHeader (kind version : Nat) (payload : List Byte) (s : State) : List Byte :=
  leBytes 4 0x43534A43 ++ leBytes 1 kind ++ leBytes 1 4 ++ leBytes 2 1 ++ leBytes 4 (2 ^ s.member) ++
  leBytes 4 version ++ leBytes 4 0 ++ leBytes 4 payload.length ++ leBytes 8 (s.get GLB_SERIAL_SERIAL) ++
  leBytes 8 s.wallTime ++ sha384 payload ++ fit 96 s.deviceKey ++ List.replicate 8 0

/-- A container that the part signs with its device identity key (R409). VERSION is a free version number. (Log: 130 DESIGN CHOICE) -/
def signContainer (kind : Nat) (payload : List Byte) (s : State) : List Byte × State :=
  let (v, s) := s.fresh
  let h := containerHeader kind v payload s
  (h ++ payload ++ fit 96 (Config.deviceSignature (sha384 h)), s)

/-! ## Responses -/

/-- The status codes of R80. -/
def stOk : Nat := 0
@[inherit_doc stOk] def stBusy : Nat := 1
@[inherit_doc stOk] def stIllegal : Nat := 2
@[inherit_doc stOk] def stBadArg : Nat := 3
@[inherit_doc stOk] def stDenied : Nat := 4
@[inherit_doc stOk] def stAuthFail : Nat := 5
@[inherit_doc stOk] def stQueued : Nat := 6
@[inherit_doc stOk] def stNotPresent : Nat := 7

/-- Post a response in a slot (R79): it overwrites the one there and pends source 448 or 449. A first response also
clears GO. -/
def respond (c : Cmd) (first : Bool) (status : Nat) (abandoned : Bool) (d0 d1 : Nat) (s : State) : State :=
  let s := s.set (APX_RESP_STATUS c.slot) status
  let s := s.set (APX_RESP_SEQ c.slot) c.seq
  let s := s.set (APX_RESP_FINAL c.slot) (if status = stQueued then 0 else 1)
  let s := s.set (APX_RESP_ABANDONED c.slot) (bit01 abandoned)
  let s := s.set (APX_RESP_DATA_DATA c.slot 0) d0
  let s := s.set (APX_RESP_DATA_DATA c.slot 1) d1
  let s := if first then s.set (APX_DOORBELL_GO c.slot) 0 else s
  let s := if c.slot = 1 then { s with smb := { s.smb with unread := true, acked := andNot s.smb.acked 1 } } else s
  logEvent logCommand (c.opcode + 256 * status) [] (pend (448 + c.slot) s)

/-- Post the final response of a command that was answered QUEUED, and forget the command (R79). A command that has been
abandoned gets no further response. -/
def answerJob (c : Cmd) (status : Nat) (abandoned : Bool) (d0 d1 : Nat) (s : State) : State :=
  if s.apex.jobs.contains c then
    respond c false status abandoned d0 d1 { s with apex := { s.apex with jobs := s.apex.jobs.erase c } }
  else s

/-- Post the final status of a command that was answered QUEUED. -/
def finishJob (c : Cmd) (status d0 : Nat) (s : State) : State := answerJob c status false d0 0 s

/-- End every command in progress BUSY with ABANDONED set (R70). (Log: 39 DEDUCED) -/
def abandonJobs (s : State) : State :=
  let js := s.apex.jobs
  js.foldl (fun s c => respond c false stBusy true 0 0 s) { s with apex := { s.apex with jobs := [] } }

/-! ## The result chain -/

/-- The payload of a seal captured now (R425). -/
def sealPayload (l : Lot) (reason : Nat) (s : State) : List Byte :=
  leBytes 4 l.id ++ leBytes 4 (s.get APX_SEAL_PROD_PROD + s.apex.sealing.length) ++ leBytes 8 (s.get APX_LOT_COUNT_COUNT) ++ fit 48 l.head ++
  leBytes 8 l.openAt ++ leBytes 8 s.now ++ leBytes 8 s.wallTime ++ leBytes 1 reason ++ List.replicate 7 0

/-- Capture the head for a seal, which is signed behind those captured before. (Log: 131 DEDUCED) -/
def startSeal (l : Lot) (reason : Nat) (cmd : Option Cmd) (s : State) : State :=
  ({ s with apex := { s.apex with sealing := s.apex.sealing ++ [SealJob.mk (sealPayload l reason s) cmd] } }).set APX_LOT_STAT_SEALING 1

/-- An automatic seal falls due (R425): it is skipped and counted while another is being signed. (Log: 131 DEDUCED) -/
def autoSeal (l : Lot) (s : State) : State :=
  if s.apex.sealing ≠ [] then s.countSat APX_SEAL_SKIPPED_COUNT 1 else startSeal l 1 none s

/-- Chain a record that is handed to the ring manager while a lot is open (R424). -/
def chainRecord (data : List Byte) (s : State) : State :=
  match s.apex.lot with
  | none => s
  | some l =>
    let l := { l with head := sha384 (l.head ++ data) }
    let s := ({ s with apex := { s.apex with lot := some l } }).count APX_LOT_COUNT_COUNT 1
    if l.every ≠ 0 ∧ s.get APX_LOT_COUNT_COUNT % l.every = 0 then autoSeal l s else s

/-- The initial head of a lot (R424). (Log: 130 DESIGN CHOICE) -/
def lotHead (serial id openAt : Nat) : List Byte :=
  sha384 ([0x43, 0x4A, 0x2D, 0x4C, 0x4F, 0x54] ++ leBytes 8 serial ++ leBytes 4 id ++ leBytes 8 openAt)

/-- Open a lot (R423). (Log: 131 DEDUCED) -/
def openLot (id every : Nat) (s : State) : State :=
  let l : Lot := ⟨id, every, s.now, lotHead (s.get GLB_SERIAL_SERIAL) id s.now⟩
  let s := { s with apex := { s.apex with lot := some l } }
  ((s.set APX_LOT_STAT_OPEN 1).set APX_LOT_ID_ID id).set APX_LOT_COUNT_COUNT 0

/-- Close the lot (R423). (Log: 131 DEDUCED) -/
def closeLot (s : State) : State :=
  ({ s with apex := { s.apex with lot := none } }).set APX_LOT_STAT_OPEN 0

/-- The seal that is being signed is written (R425): its container goes to slot k mod 8 of the window. (Log: 131 DEDUCED) -/
def sealWritten (s : State) : State :=
  match s.apex.sealing with
  | [] => s
  | j :: js =>
    let (c, s) := signContainer 5 j.payload s
    let k := s.get APX_SEAL_PROD_PROD
    let s := putRegBytes (APX_SEALWIN (k % 8 * 0x80)) 0x80 (fit 0x200 c) s
    let s := { s with apex := { s.apex with sealing := js } }
    let s := (s.set APX_LOT_STAT_SEALING (bit01 (js != []))).count APX_SEAL_PROD_PROD 1
    let s := logEvent logSeal (leNat (j.payload.drop 88 |>.take 1))
      (j.payload.take 4 ++ (j.payload.drop 8).take 4 ++ (j.payload.drop 16).take 6) s
    let s := pend 452 s
    let s := pendIf (8 < (s.get APX_SEAL_PROD_PROD + 2 ^ 32 - s.get APX_SEAL_CONS_CONS) % 2 ^ 32) 453 s
    match j.cmd with
    | some c => finishJob c stOk 0 s
    | none => s

end Sys2Proof.Machine
end

