-- ==== Sys2Proof/Machine/Rings.lean ====
section
/-!
DEFINITION. Rings, the page pool, address translation, parking, spill and drain (R285 to R301).
-/

namespace Sys2Proof.Machine
open Sys2Proof.Reg

/-! ## What the manager holds -/

/-- A ring with nothing in hand. -/
def RingState.init : RingState :=
  { queue := [], xfer := .idle, spill := [], overflow := false, unreported := 0, lastAdvance := 0, wbHeld := false }

/-- What the ring manager holds of ring `n`. -/
def State.ring (s : State) (n : Nat) : RingState := Store.find (fun _ => RingState.init) s.dma.rings n

/-- Change what the ring manager holds of ring `n`. -/
def modRing (n : Nat) (f : RingState → RingState) (s : State) : State :=
  { s with dma := { s.dma with rings := Store.put (fun _ => RingState.init) s.dma.rings n (f (s.ring n)) } }

/-- Ring states (R291) and park causes (R296). -/
def ringDisabled : Nat := 0
@[inherit_doc ringDisabled] def ringRun : Nat := 1
@[inherit_doc ringDisabled] def ringParked : Nat := 2
@[inherit_doc ringDisabled] def ringConfigErr : Nat := 3
@[inherit_doc ringDisabled] def parkFault : Nat := 1
@[inherit_doc ringDisabled] def parkFull : Nat := 2
@[inherit_doc ringDisabled] def parkFinal : Nat := 3
@[inherit_doc ringDisabled] def parkCompletion : Nat := 4

/-- RNG_STAT.STATE of ring `n`. -/
def State.ringState (s : State) (n : Nat) : Nat := s.get (RNG_STAT_STATE n)

/-- The bytes of an entry of a ring of this kind (R285): descriptors and fail records 64, the others 32. -/
def entrySize (kind : Nat) : Nat := if kind = 0 ∨ kind = 2 then 64 else 32

/-- The entries of ring `n` (R285). -/
def State.ringSize (s : State) (n : Nat) : Nat := 2 ^ s.get (RNG_CTRL_LOG2SIZE n)

/-- The difference of two free-running indices (R286). -/
def indexDiff (a b : Nat) : Nat := (a + 2 ^ 32 - b % 2 ^ 32) % 2 ^ 32

/-- The entries that ring `n` holds (R286). -/
def State.ringCount (s : State) (n : Nat) : Nat := indexDiff (s.get (RNG_PROD_PROD n)) (s.get (RNG_CONS_CONS n))

/-- The index that the part maintains of ring `n`: CONS of a command ring, PROD of the others (R286). -/
def ringIndexField (n : Nat) : Fld := if n % 4 = 0 then RNG_CONS_CONS n else RNG_PROD_PROD n

/-- Where entry `i` of ring `n` lies: in host memory, or in the page pool (R286, R292). -/
def State.entryAddr (s : State) (n i : Nat) : Nat :=
  let b := s.get (RNG_BASE_BASE n)
  let b := if s.on (RNG_CTRL_PLACE n) then (b % 2 ^ 14) * 4096 else b
  b + (i % s.ringSize n) * entrySize (n % 4)

/-! ## The page pool -/

/-- The general pages: the pool's pages but the result reserve (R298). (Log: 107 DESIGN CHOICE) -/
def generalPages : Nat := 12256

/-- Is page `p` taken? -/
def State.pageTaken (s : State) (p : Nat) : Bool := Store.find (fun _ => false) s.dma.taken p

/-- Set the free page count, with LOW and EXHAUSTED (R298). -/
def setFree (n : Nat) (s : State) : State :=
  withGroup 22 (fun s =>
    let s := s.set DMA_POOL_FREE_FREE n
    let s :=
      if n < s.get DMA_POOL_LWM_LWM then s.set DMA_POOL_STAT_LOW 1
      else if s.get DMA_POOL_HWM_HWM ≤ n then s.set DMA_POOL_STAT_LOW 0
      else s
    s.set DMA_POOL_STAT_EXHAUSTED (bit01 (n = 0))) s

/-- Mark `k` pages from `p` as taken or free. -/
def markPages (b : Bool) (p k : Nat) (s : State) : State :=
  let t := (List.range k).foldl (fun m i => Store.put (fun _ => false) m (p + i) b) s.dma.taken
  { s with dma := { s.dma with taken := t } }

/-- Take `k` contiguous general pages: the first page, and the state; or nothing when there is no such run. (Log: 106 DESIGN CHOICE) -/
def takePages (k : Nat) (s : State) : Option (Nat × State) :=
  let starts := (List.range (generalPages + 1 - k)).filter fun p => (List.range k).all fun i => !s.pageTaken (p + i)
  if starts = [] then none
  else
    let p := starts.getD (Config.pageChoice s.free starts.length % starts.length) 0
    some (p, setFree (s.get DMA_POOL_FREE_FREE - k) (markPages true p k { s with free := s.free + 1 }))

/-- Return `k` pages from `p` to the general pool. -/
def freePages (p k : Nat) (s : State) : State :=
  setFree (s.get DMA_POOL_FREE_FREE + k) (markPages false p k s)

/-- Show the number of spill pages. -/
def countSpillPages (s : State) : State := s.set DMA_SPILL_PAGES_PAGES s.dma.spillPages.length

/-- What is held of a spill page. -/
def State.spillPageOf (s : State) (p : Nat) : SpillPage := Store.find (fun _ => ⟨0, 0⟩) s.dma.spillPages p

/-- Change what is held of a spill page. -/
def modSpillPage (p : Nat) (v : SpillPage) (s : State) : State :=
  { s with dma := { s.dma with spillPages := Store.put (fun _ => ⟨0, 0⟩) s.dma.spillPages p v } }

/-- Room in spill for `len` bytes: a page with that much left, the page being filled or a new one (R297); nothing when
a new page is needed and none is free. -/
def spillRoom (len : Nat) (s : State) : Option (Nat × State) :=
  let fresh : Option (Nat × State) :=
    match takePages 1 s with
    | none => none
    | some (p, s) => some (p, countSpillPages (modSpillPage p ⟨len, 1⟩ { s with dma := { s.dma with spillPage := some p } }))
  match s.dma.spillPage with
  | some p =>
    let q := s.spillPageOf p
    if q.fill + len ≤ 4096 then some (p, modSpillPage p ⟨q.fill + len, q.live + 1⟩ s) else fresh
  | none => fresh

/-- A record leaves a spill page; the page returns to the pool when it was the last (R297). -/
def leaveSpillPage (p : Nat) (s : State) : State :=
  let q := s.spillPageOf p
  if q.live ≤ 1 then
    let s := modSpillPage p ⟨0, 0⟩ s
    let s := if s.dma.spillPage = some p then { s with dma := { s.dma with spillPage := none } } else s
    countSpillPages (freePages p 1 s)
  else modSpillPage p ⟨q.fill, q.live - 1⟩ s

/-- Is vertex `v`'s slot of the result reserve occupied (R299)? (Log: 107 DESIGN CHOICE) -/
def State.reserveHeld (s : State) (v : Nat) : Bool := (s.ring (4 * v + 1)).spill.any fun r => r.page.isNone

/-- A record leaves spill: its page, or its reserve slot. -/
def leaveSpill (r : Rec) (s : State) : State :=
  match r.page with
  | some p => leaveSpillPage p s
  | none => s.set DMA_POOL_STAT_RSV_USED (s.get DMA_POOL_STAT_RSV_USED - 1)

/-! ## Translation -/

/-- Can the engine reach host memory: the link is up, Bus Master Enable is 1, and the part is in none of the modes in
which the engine stands (R68, R281)? While it is being reset, or the PCIe link retrained, it stands too (R325). (Log: 112 DEDUCED) -/
def State.dmaReady (s : State) : Bool :=
  s.on DMA_LINK_STAT_UP && s.icl.busMaster && s.mode != modeDoze && modeBoot ≤ s.mode &&
  [18, 20].all fun t => Store.find (fun _ => 0) s.fcl.reacting t = 0

/-- The page of an address. -/
def pageOf (a : Nat) : Nat := a / 4096

/-- Does a cache entry grant this access to the page? -/
def CacheEntry.grants (e : CacheEntry) (page : Nat) (write : Bool) : Bool :=
  e.page ≤ page && page < e.page + e.pages && (if write then e.write else e.read)

/-- Look a page up, making its entry the most recently used (R293). -/
def cacheLookup (page : Nat) (write : Bool) (s : State) : Bool × State :=
  match s.dma.cache.find? fun e => e.grants page write with
  | none => (false, s)
  | some e => (true, { s with dma := { s.dma with cache := (s.dma.cache.filter fun x => x != e) ++ [e] } })

/-- Put an entry into the cache of 2048, dropping the least recently used when there is no room (R293). -/
def cacheInsert (e : CacheEntry) (s : State) : State :=
  let c := s.dma.cache.filter fun x => !(x.page == e.page && x.pages == e.pages)
  { s with dma := { s.dma with cache := (if c.length ≥ 2048 then c.drop 1 else c) ++ [e] } }

/-- Remove the entries that cover a page. -/
def cacheDrop (page : Nat) (s : State) : State :=
  { s with dma := { s.dma with cache := s.dma.cache.filter fun e => !(e.page ≤ page && page < e.page + e.pages) } }

/-- Send the Translation Requests that may be sent: up to 64 outstanding, while the engine runs (R281, R293). (Log: 108 DEDUCED) -/
def sendTranslations (s : State) : State :=
  if !s.dmaReady then s
  else s.dma.waiters.foldl (fun s w =>
    if w.page ∈ s.dma.requested ∨ 64 ≤ s.dma.requested.length then s
    else ({ s with dma := { s.dma with requested := s.dma.requested ++ [w.page] } }).send (.translation w.page)) s

/-- Ask for the translation that a host access needs (R293): true when it may be issued at once; otherwise the
requester waits. (Log: 108 DEDUCED) -/
def translate (who : Requester) (addr : Nat) (write : Bool) (s : State) : Bool × State :=
  if !s.on DMA_LINK_STAT_ATS_EN then (true, s)
  else
    match cacheLookup (pageOf addr) write s with
    | (true, s) => (true, s)
    | (false, s) =>
      let w : Waiter := ⟨who, pageOf addr, write⟩
      if w ∈ s.dma.waiters then (false, s)
      else (false, sendTranslations { s with dma := { s.dma with waiters := s.dma.waiters ++ [w] } })

/-- Can PRI be used (R295)? -/
def State.priUsable (s : State) : Bool :=
  s.on DMA_LINK_STAT_PRI_CAP_EN && s.on DMA_CFG_PRI_EN && !s.on DMA_LINK_STAT_PRI_HALTED

/-- Send the Page Requests that may be sent: at most min(256, the allocation) outstanding (R295). -/
def sendPageRequests (s : State) : State :=
  let s := s.dma.toAsk.foldl (fun s p =>
    if s.dma.asked.length < min 256 s.dma.priAlloc then
      ({ s with dma := { s.dma with asked := s.dma.asked ++ [p], toAsk := s.dma.toAsk.filter fun q => q != p } }).send
        (.pageRequest p)
    else s) s
  s.set DMA_PRI_OUT_OUT s.dma.asked.length

/-- Ask the host for a page, unless that page is already asked for (R294). -/
def askPage (p : Nat) (s : State) : State :=
  if p ∈ s.dma.asked ∨ p ∈ s.dma.toAsk then s
  else sendPageRequests { s with dma := { s.dma with toAsk := s.dma.toAsk ++ [p] } }

/-! ## Write-backs and index events -/

/-- The 8 bytes of a write-back (R288). -/
def writeBackWord (n : Nat) (s : State) : Nat :=
  s.get (ringIndexField n) + n * 2 ^ 32 + bit01 (s.ringState n = ringParked) * 2 ^ 46 + s.get (RNG_STAT_LOSS n) * 2 ^ 47

/-- Write the write-back of ring `n`, or wait for its translation (R288). (Log: 105 DESIGN CHOICE) -/
def writeBack (n : Nat) (s : State) : State :=
  if !s.on (RNG_CTRL_WB_EN n) then s
  else if !s.dmaReady then modRing n (fun r => { r with wbHeld := true }) s
  else
    match translate (.writeBack n) (s.get (RNG_WB_ADDR_ADDR n)) true s with
    | (true, s) =>
      let s := s.send (.hostWrite (s.get (RNG_WB_ADDR_ADDR n)) (leBytes 8 (writeBackWord n s)))
      modRing n (fun r => { r with wbHeld := false, unreported := 0 }) s
    | (false, s) => modRing n (fun r => { r with wbHeld := true }) s

/-- The ring event of an index that the part advanced (R289). -/
def ringEvent (n : Nat) (s : State) : State :=
  if s.on (RNG_CTRL_IRQ_EN n) then
    pend (320 + s.get (RNG_CTRL_IRQ_LINE n)) (s.setBit (DMA_RNG_PEND_PEND (n / 32)) (n % 32) true)
  else s

/-- The part has advanced its index of ring `n`: the ring event, and a write-back after at most 16 advances (R288,
R289). Whether one comes sooner is left open, so a free value decides. (Log: 105 DESIGN CHOICE) -/
def indexAdvanced (n : Nat) (s : State) : State :=
  let s := ringEvent n (s.count (ringIndexField n) 1)
  let s := modRing n (fun r => { r with unreported := r.unreported + 1, lastAdvance := s.mono }) s
  let (v, s) := s.fresh
  if 16 ≤ (s.ring n).unreported ∨ v % 2 = 1 then writeBack n s else s

/-! ## Parking, spill and loss -/

/-- Count a record of ring `n` that is lost for want of pool pages (R300). -/
def loseRecord (n : Nat) (s : State) : State :=
  let s := ((s.countSat (RNG_LOST_COUNT n) 1).countSat DMA_LOST_RECS_COUNT 1).raise (RNG_STAT_LOSS n)
  if n % 4 = 2 then modRing n (fun r => { r with overflow := true }) s else s

/-- Count a record that is discarded because its ring is disabled (R290). -/
def discardRecord (n : Nat) (s : State) : State :=
  ((s.countSat (RNG_LOST_COUNT n) 1).countSat DMA_DISCARD_COUNT 1).raise (RNG_STAT_LOSS n)

/-- Spill a record of ring `n` (R297, R300): true when it is kept. -/
def spillRecord (n : Nat) (x : Rec) (s : State) : Bool × State :=
  let keep (page : Option Nat) (s : State) : State :=
    let s := modRing n (fun r => { r with spill := r.spill ++ [{ x with page := page }] }) s
    s.set (RNG_SPILLED_SPILLED n) (s.ring n).spill.length
  match spillRoom x.data.length s with
  | some (p, s) => (true, keep (some p) s)
  | none =>
    if n % 4 = 1 then (true, (keep none s).count DMA_POOL_STAT_RSV_USED 1)
    else (false, loseRecord n s)

/-- Mark a record that is not on its way yet INCOMPLETE, if it is the result of the operation that a lost fail record of result
number `seq` belongs to (R300). -/
def markIncomplete (seq : Nat) (x : Rec) : Rec :=
  if x.seq = (seq + 1) % 2 ^ 32 then { x with data := x.data.set 6 (x.data.getD 6 0 ||| 0x10) } else x

/-- A fail record of vertex `v` is lost after its handover (R300): the operation's result carries INCOMPLETE, and so do its later
fail records OVERFLOW, as far as they are not written yet. The records of an analysis belong to no operation. -/
def loseWaiting (v : Nat) (x : Rec) (s : State) : State :=
  let kind := (x.data.getD 4 0).toNat
  if 5 ≤ kind ∧ kind ≤ 7 then s
  else if x.seq = s.get (ARC_RSEQ_RSEQ v) then { s with lat := { s.lat with lossy := Store.put (fun _ => false) s.lat.lossy v true } }
  else
    let s := modRing (4 * v + 1) (fun r => { r with spill := r.spill.map (markIncomplete x.seq) }) s
    modRing (4 * v + 1) (fun r =>
      { r with queue := if r.xfer = .issued then r.queue.take 1 ++ (r.queue.drop 1).map (markIncomplete x.seq)
                        else r.queue.map (markIncomplete x.seq) }) s

/-- Move what ring `n` has in hand into spill, oldest first. -/
def spillQueue (n : Nat) (s : State) : State :=
  let q := (s.ring n).queue
  q.foldl (fun s x =>
      match spillRecord n x s with
      | (true, s) => s
      | (false, s) => if n % 4 = 2 then loseWaiting (n / 4) x s else s)
    (modRing n (fun r => { r with queue := [], xfer := .idle }) s)

/-- Park ring `n` with a cause (R294, R296). A ring that is already parked takes the new cause without counting. (Log: 104 DEDUCED) -/
def parkRing (n cause : Nat) (s : State) : State :=
  if s.ringState n = ringParked then
    modRing n (fun r => { r with xfer := .idle }) ((s.set (RNG_STAT_CAUSE n) cause).set (RNG_STAT_DRAINING n) 0)
  else
    let s := (s.set (RNG_STAT_STATE n) ringParked).set (RNG_STAT_CAUSE n) cause
    let s := (s.set (RNG_PARK_INDEX_INDEX n) (s.get (ringIndexField n))).set (RNG_PARK_AT_AT n) s.now
    let s := pend 352 (s.countSat (RNG_PARKS_COUNT n) 1)
    writeBack n (spillQueue n s)

/-- Record a fault of a requester: DMA_FAULT_SRC, DMA_FAULT_ADDR and DMA_FAULTS (R294, R303). -/
def recordFault (kind index addr : Nat) (s : State) : State :=
  (((s.set DMA_FAULT_SRC_KIND kind).set DMA_FAULT_SRC_INDEX index).set DMA_FAULT_ADDR_ADDR addr).countSat DMA_FAULTS_COUNT 1

/-- The cause of a fault: FAULT while PRI can be used, FAULT_FINAL otherwise; with PRI the page is asked for (R294). -/
def faultCause (page : Nat) (s : State) : Nat × State :=
  if s.priUsable then (parkFault, askPage page s) else (parkFinal, s)

/-- A translation fault of ring `n` at an address (R294): recorded each time, though only the first parks the ring. (Log: 104 DEDUCED) -/
def faultRing (n addr : Nat) (s : State) : State :=
  let fresh := s.ringState n != ringParked
  let s := recordFault 0 n addr (s.set (RNG_FAULT_ADDR_ADDR n) addr)
  let (c, s) := faultCause (pageOf addr) s
  let s := parkRing n c s
  if fresh && s.on (RNG_CTRL_IRQ_EN n) then pend (320 + s.get (RNG_CTRL_IRQ_LINE n)) s else s

/-! ## Writing records -/

/-- Ring `n` leaves PARKED (R296, R297). -/
def unparkRing (n : Nat) (s : State) : State :=
  let s := ((s.set (RNG_STAT_STATE n) ringRun).set (RNG_STAT_CAUSE n) 0).set (RNG_STAT_DRAINING n) 0
  writeBack n (pend 353 s)

/-- The record that ring `n` writes next: from spill while it drains, from its queue otherwise. -/
def State.nextRecord (s : State) (n : Nat) : Option Rec :=
  if s.on (RNG_STAT_DRAINING n) then (s.ring n).spill.head? else (s.ring n).queue.head?

/-- The record as it is written: the first fail record after a loss carries OVERFLOW (R300). -/
def markOverflow (n : Nat) (data : List Byte) (s : State) : List Byte :=
  if n % 4 = 2 && (s.ring n).overflow then data.set 6 (data.getD 6 0 ||| 0x08) else data

/-- Start the transfer of ring `n`'s next record, if there is one and none is under way: a full ring parks, a LOCAL
entry needs no translation, and a HOST entry is written once its page is translated (R286, R292 to R296). -/
def startTransfer (n : Nat) (s : State) : State :=
  if (s.ring n).xfer ≠ .idle ∨ n % 4 = 0 then s
  else if s.ringState n ≠ ringRun ∧ !s.on (RNG_STAT_DRAINING n) then s
  else
    match s.nextRecord n with
    | none => if s.on (RNG_STAT_DRAINING n) then unparkRing n s else s
    | some r =>
      if s.ringCount n ≥ s.ringSize n then parkRing n parkFull s
      else
        let a := s.entryAddr n (s.get (RNG_PROD_PROD n))
        if s.on (RNG_CTRL_PLACE n) then modRing n (fun q => { q with xfer := .issued }) s
        else if !s.dmaReady then s
        else
          match translate (.ring n) a true s with
          | (true, s) => modRing n (fun q => { q with xfer := .issued }) (s.send (.hostWrite a (markOverflow n r.data s)))
          | (false, s) => modRing n (fun q => { q with xfer := .translating }) s

/-- Begin the drain of a parked ring (R297): a held write-back first, then its spilled records. A command ring has no
spill and runs again at once. -/
def beginDrain (n : Nat) (s : State) : State :=
  let s := if (s.ring n).wbHeld then writeBack n s else s
  if n % 4 = 0 ∨ (s.ring n).spill = [] then startTransfer n (unparkRing n s)
  else startTransfer n (s.set (RNG_STAT_DRAINING n) 1)

/-- Hand a record over to ring `n` (R297, R299, R300): it is discarded for a ring that is disabled or in error, spilled
for a parked one, and queued for writing otherwise. Records of result and fail rings extend the open lot's chain first
(R424). True when the record is kept. -/
def handover (n : Nat) (data : List Byte) (s : State) : Bool × State :=
  let s := if n % 4 = 1 ∨ n % 4 = 2 then chainRecord data s else s
  let x : Rec := ⟨data, none, s.get (ARC_RSEQ_RSEQ (n / 4))⟩
  if s.ringState n = ringDisabled ∨ s.ringState n = ringConfigErr then (true, pend 360 (discardRecord n s))
  else if s.ringState n = ringParked then
    let (b, s) := spillRecord n x s
    (b, startTransfer n s)
  else (true, startTransfer n (modRing n (fun r => { r with queue := r.queue ++ [x] }) s))

/-- Complete the transfer of ring `n`'s record (R286): the record leaves the part's hands and PROD advances. A LOCAL
record is written into the pool. -/
def finishTransfer (n : Nat) (s : State) : State :=
  if (s.ring n).xfer ≠ .issued then s
  else
    match s.nextRecord n with
    | none => s
    | some r =>
      let draining := s.on (RNG_STAT_DRAINING n)
      let d := markOverflow n r.data s
      let s := if s.on (RNG_CTRL_PLACE n) then
          { s with pool := Memory.putBytes s.pool (s.entryAddr n (s.get (RNG_PROD_PROD n))) d } else s
      let s := modRing n (fun q => if draining then { q with spill := q.spill.drop 1, xfer := .idle, overflow := false }
                                   else { q with queue := q.queue.drop 1, xfer := .idle, overflow := false }) s
      let s := if draining then (leaveSpill r s).set (RNG_SPILLED_SPILLED n) (s.ring n).spill.length else s
      indexAdvanced n s

/-- The write of ring `n`'s record has completed: it is finished, and the next transfer starts. -/
def recordWritten (n : Nat) (s : State) : State :=
  if (s.ring n).xfer ≠ .issued then s else startTransfer n (finishTransfer n s)

/-! ## Recovery -/

/-- Retry the access that parked ring `n` (R296). -/
def retryRing (n : Nat) (s : State) : State :=
  if s.ringState n ≠ ringParked then s
  else if s.get (RNG_STAT_CAUSE n) = parkFull then
    if s.ringCount n < s.ringSize n then beginDrain n s else s
  else if s.get (RNG_STAT_CAUSE n) = parkCompletion then modRing n (fun r => { r with xfer := .issued }) s
  else
    let write := n % 4 ≠ 0 ∨ (s.ring n).wbHeld
    match translate (if (s.ring n).wbHeld then .writeBack n else .ring n) (s.get (RNG_FAULT_ADDR_ADDR n)) write s with
    | (true, s) => beginDrain n s
    | (false, s) => s

/-- The translation that ring `n` waited for is granted: a parked ring drains, a running one issues its access. -/
def grantRing (n : Nat) (s : State) : State :=
  if s.ringState n = ringParked ∧ !s.on (RNG_STAT_DRAINING n) then beginDrain n s
  else startTransfer n (modRing n (fun r => { r with xfer := .idle }) s)

/-- The translation that ring `n` waited for is refused (R294). -/
def refuseRing (n : Nat) (s : State) : State :=
  let a :=
    if s.ringState n = ringParked ∧ !s.on (RNG_STAT_DRAINING n) then s.get (RNG_FAULT_ADDR_ADDR n)
    else s.entryAddr n (s.get (ringIndexField n))
  faultRing n a s

/-! ## Doorbells -/

/-- Reject a doorbell (R287). -/
def rejectDoorbell (n : Nat) (s : State) : State :=
  pend 358 ((s.countSat DMA_DB_BAD_COUNT 1).set DMA_DB_LAST_RING n)

/-- Is ring `n` in RUN or PARKED? -/
def State.ringLive (s : State) (n : Nat) : Bool := s.ringState n = ringRun || s.ringState n = ringParked

/-- A new CONS for an output ring (R287): accepted when it frees no more entries than there are. -/
def doorbellOutput (n v : Nat) (s : State) : State :=
  if s.ringLive n && indexDiff v (s.get (RNG_CONS_CONS n)) ≤ s.ringCount n then
    let s := s.set (RNG_CONS_CONS n) v
    if s.ringState n = ringParked ∧ s.get (RNG_STAT_CAUSE n) = parkFull ∧ !s.on (RNG_STAT_DRAINING n) ∧
        s.ringCount n < s.ringSize n then
      beginDrain n s
    else startTransfer n s
  else rejectDoorbell n s

/-- Is a new PROD acceptable for a command ring (R287)? -/
def State.doorbellFits (s : State) (n v : Nat) : Bool :=
  s.ringLive n && indexDiff v (s.get (RNG_CONS_CONS n)) ≤ s.ringSize n

/-! ## Enabling and disabling -/

/-- The pages of a LOCAL ring (R292). -/
def State.ringPages (s : State) (n : Nat) : Nat := (s.ringSize n * entrySize (n % 4) + 4095) / 4096

/-- A failing check of an enabled context (R290), but for the pool's pages. -/
def State.contextBad (s : State) (n : Nat) : Bool :=
  let l := s.get (RNG_CTRL_LOG2SIZE n)
  l < 4 || 16 < l ||
  (!s.on (RNG_CTRL_PLACE n) && s.get (RNG_BASE_BASE n) % 4096 != 0) ||
  (s.on (RNG_CTRL_WB_EN n) && s.get (RNG_WB_ADDR_ADDR n) % 8 != 0) ||
  s.ringSize n < s.ringCount n

/-- ENABLE has been set: check the context and enter RUN or CONFIG_ERR (R290). -/
def enableRing (n : Nat) (s : State) : State :=
  if s.contextBad n then pend 354 (s.set (RNG_STAT_STATE n) ringConfigErr)
  else if s.on (RNG_CTRL_PLACE n) then
    match takePages (s.ringPages n) s with
    | none => pend 354 (s.set (RNG_STAT_STATE n) ringConfigErr)
    | some (p, s) => (s.set (RNG_BASE_BASE n) p).set (RNG_STAT_STATE n) ringRun
  else s.set (RNG_STAT_STATE n) ringRun

/-- Discard what ring `n` has in hand and in spill (R290). -/
def discardHeld (n : Nat) (s : State) : State :=
  let r := s.ring n
  let s := r.queue.foldl (fun s _ => discardRecord n s) s
  r.spill.foldl (fun s x => discardRecord n (leaveSpill x s)) s

/-- ENABLE has been cleared (R290): a transfer already issued completes, the rest is discarded, a LOCAL ring's pages
return to the pool, and the ring is DISABLED. It acts on the configuration as it stood before the write. -/
def disableRing (n : Nat) (s : State) : State :=
  let s := discardHeld n (finishTransfer n s)
  let s := if s.on (RNG_CTRL_PLACE n) && s.ringLive n then freePages (s.get (RNG_BASE_BASE n) % 2 ^ 14) (s.ringPages n) s else s
  let s := modRing n (fun _ => RingState.init) s
  let w := s.dma.waiters.filter fun w => w.who != Requester.ring n && w.who != Requester.writeBack n
  let p := s.dma.priRetry.filter fun w => w != Requester.ring n && w != Requester.writeBack n
  let s := { s with dma := { s.dma with waiters := w, priRetry := p } }
  let s := ((s.set (RNG_STAT_STATE n) ringDisabled).set (RNG_STAT_CAUSE n) 0).set (RNG_STAT_DRAINING n) 0
  s.set (RNG_SPILLED_SPILLED n) 0

end Sys2Proof.Machine
end

