-- ==== Sys2Proof/Machine/Axis.lean ====
section
/-!
DEFINITION. Axis time: signed stamp differences (R107), replica offsets and their checks (R109, R110), and epochs
(R112 to R114).
-/

namespace Sys2Proof.Machine
open Sys2Proof.Reg

/-- The difference of two stamps, modulo 2^64 as a signed value (R107). (Log: 52 DESIGN CHOICE) -/
def stampDiff (a b : Nat) : Int := signed 64 (a + 2 ^ 64 - b % 2 ^ 64)

/-- Has stamp `t` been reached, by the signed difference (R107)? (Log: 52 DESIGN CHOICE) -/
def State.past (s : State) (t : Nat) : Bool := 0 ≤ stampDiff s.now t

/-- A stamp `d` stamp units after `t`. (Log: 52 DESIGN CHOICE) -/
def stampAdd (t d : Nat) : Nat := (t + d) % 2 ^ 64

/-- A number of ticks as stamp units. -/
def ticksOf (n : Nat) : Nat := n * 256

/-- Is a stamp taken in this island time-suspect (R111)? -/
def State.suspect (s : State) (island : Nat) : Bool :=
  s.bitOf AXS_REPLICA_UNSYNC_ISLAND island || s.bitOf AXS_REPLICA_CNTERR_ISLAND island

/-- OFS of an island's replica, in stamp units (R109). -/
def State.replicaOfs (s : State) (k : Nat) : Int := signed 16 (s.get (AXS_REPLICA_OFS_OFS k))

/-- The islands present, ascending (R10). -/
def State.islands (s : State) : List Nat := (List.range s.facets) ++ [16, 17]

/-- The ray states of FCT_RAY_STAT in which a ray belongs to a bus phase: RUN, HOLD, FILL and PAD (R160). -/
def rayBusy (st : Nat) : Bool := 2 ≤ st && st ≤ 5

/-- Does a bus phase run on facet `f`: is a ray of it ARMED or in a later state (R148)? -/
def State.phaseOn (s : State) (f : Nat) : Bool := (List.range 32).any fun r => s.get (FCT_RAY_STAT_STATE f r) != 0

/-- Start replica offset calibration (R109). (Log: 50 DEDUCED) -/
def startRecal (s : State) : State := { s with axs := { s.axs with calibrating := true } }

/-- Replica offset calibration ends: the measured offsets are set (R109). (Log: 50 DEDUCED) -/
def endRecal (ofs : List Int) (s : State) : State :=
  let s := s.islands.foldl (fun s k =>
    match ofs[k]? with
    | some v => s.set (AXS_REPLICA_OFS_OFS k) (unsigned 16 v)
    | none => s) s
  { (s.raise AXS_STAT_RECAL_DONE).set AXS_CTRL_RECAL 0 with axs := { s.axs with calibrating := false } }

/-- Move OFS of island `k` by `d` units. (Log: 49 DEDUCED) -/
def moveOfs (k : Nat) (d : Int) (s : State) : State :=
  s.set (AXS_REPLICA_OFS_OFS k) (unsigned 16 (s.replicaOfs k + d))

/-- The OFS move that a facet holds for its next granule boundary is made (R110). (Log: 49 DEDUCED) -/
def applyMove (f : Nat) (s : State) : State :=
  let d := Store.find (fun _ => (0 : Int)) s.axs.moves f
  if d = 0 then s
  else moveOfs f d { s with axs := { s.axs with moves := Store.erase f s.axs.moves } }

/-- One island's part of a check pulse with error `e` (R110): OFS moves one unit toward zero error, at once or, in a
facet with a phase running, at the next granule boundary; UNSYNC sets at the second error beyond 4 in a row and clears
without error. (Log: 49 DEDUCED) -/
def checkIsland (k : Nat) (e : Int) (s : State) : State :=
  let big := 4 < e.natAbs
  let s :=
    if e = 0 then s
    else
      let d : Int := if 0 < e then -1 else 1
      if k < 16 && s.phaseOn k then
        { s with axs := { s.axs with moves := Store.put (fun _ => 0) s.axs.moves k d } }
      else moveOfs k d s
  let s :=
    if e = 0 then s.setBit AXS_REPLICA_UNSYNC_ISLAND k false
    else if big && s.axs.bigLast.testBit k then s.setBit AXS_REPLICA_UNSYNC_ISLAND k true
    else s
  let m := if big then s.axs.bigLast ||| 2 ^ k else andNot s.axs.bigLast (2 ^ k)
  { s with axs := { s.axs with bigLast := m } }

/-- One island's whole-tick count differs from the master's (R110): its CNTERR bit sets, and a facet's Axis fault source
asserts. -/
def countError (k : Nat) (s : State) : State :=
  let s := s.setBit AXS_REPLICA_CNTERR_ISLAND k true
  if k < 16 then assertLine (4 * k + 2) s else s

/-- A replica with a count error is set to the master count and calibrated, once no bus phase runs on its island
(R110). -/
def resync (k : Nat) (ofs : Int) (s : State) : State :=
  if s.bitOf AXS_REPLICA_CNTERR_ISLAND k && !(k < 16 && s.phaseOn k) then
    let s := (s.setBit AXS_REPLICA_CNTERR_ISLAND k false).set (AXS_REPLICA_OFS_OFS k) (unsigned 16 ofs)
    if k < 16 then deassertLine (4 * k + 2) s else s
  else s

/-- An epoch is detected (R112): its edge E lies 128 ticks later. Under REPEAT the pulse goes out 16 ticks later
(R114). -/
def detectEpoch (s : State) : State :=
  let e := stampAdd s.now (ticksOf 128)
  let s := (s.set AXS_SYNC_LAST_E_AT e)
  let s := { s with axs := { s.axs with epoch := some e } }
  if s.get AXS_SYNC_CFG_OUT_MODE = 2 then s.send (.syncOut (stampAdd s.now (ticksOf 16))) else s

/-- Does a detected epoch act (R113)? (Log: 48 DEDUCED) -/
def State.epochActs (s : State) : Bool :=
  s.on AXS_SYNC_CFG_ARM && (s.mode = modeIdle || s.mode = modeDoze) && !s.on GLB_UPDATE_STAT_ARMED

/-- The epoch of edge `e` at E + D (R113): every count restarts from zero if it acts, and it is counted as ignored
otherwise; source 501 pends. (Log: 48 DEDUCED) -/
def zeroEpoch (e : Nat) (s : State) : State :=
  let z := stampAdd e (s.get AXS_SYNC_DESKEW_D)
  let s' := { s with axs := { s.axs with epoch := none } }
  if s.epochActs then
    let s' := { s' with now := (s'.now + 2 ^ 64 - z) % 2 ^ 64 }
    pend 501 ((s'.set AXS_SYNC_CFG_ARM 0).count AXS_EPOCH_COUNT_COUNT 1)
  else pend 501 (s'.count AXS_EPOCH_IGNORED_COUNT 1)

/-- A write to AXS_SYNC_FIRE (R114): in FIRE mode SYNC_OUT goes high at the next REFCLK rising edge, 16 ticks apart. -/
def syncFire (s : State) : State :=
  if s.get AXS_SYNC_CFG_OUT_MODE = 1 then s.send (.syncOut (ticksOf ((s.ticks / 16 + 1) * 16))) else s

end Sys2Proof.Machine
end

