-- ==== Sys2Proof/Machine/Map.lean ====
section
/-!
DEFINITION. The active site map (R44, R47, R50, R53), the rays of its chords (R130), and what the model holds of facets,
rays, channels and generators before anything has happened to them.
-/

namespace Sys2Proof.Machine
open Sys2Proof.Reg

/-! ## Hidden state by index -/

/-- A facet after reset: the grid of 8-tick vectors from stamp 0 (R116, R129). -/
def Facet.init : Facet :=
  { period := 0x08000000, origin := 0, anchor := 0, due := none, trans := none, older := [], olderAt := 0, awake := 0
    staging := [], corrected := 0, inbox := [], queue := [] }

/-- A ray that has run no phase. -/
def Ray.init : Ray :=
  { loops := [], calls := [], gang := [], codes := [], routine := 0, kind := 0, start := 0, entry := 0, index := 0, played := 0
    segAt := 0, left := 0, err := 0, gap := 0, safe := false, granuleAt := 0, serial := 0, ready := none, block := none, ret := 0, header := 0, refused := false
    latched := none, due := false, late := false, abort := none, failed := false, lfsr := [], status := []
    gapSeen := false, jumped := false, dropped := [], endAt := 0 }

/-- A channel that nothing has driven. -/
def Chan.init : Chan := { drive := .off, lastEdge := -(2 ^ 70), stage := .idle, startAt := 0, touched := 0, forArc := false, settle := 0 }

/-- A level waveform generator that has never started. -/
def Wave.init : Wave :=
  { armed := none, latched := none, latchEnd := 0, from_ := 0, base := 0, period := 0x06400000, newTs := none, started := false }

/-- What is held of facet `f`. -/
def State.fct (s : State) (f : Nat) : Facet := Store.find (fun _ => Facet.init) s.facet f

/-- Change what is held of facet `f`. -/
def modFct (f : Nat) (g : Facet → Facet) (s : State) : State :=
  { s with facet := Store.put (fun _ => Facet.init) s.facet f (g (s.fct f)) }

/-- What is held of ray `r` of facet `f`. -/
def State.ray (s : State) (f r : Nat) : Ray := Store.find (fun _ => Ray.init) s.rays (32 * f + r)

/-- Change what is held of ray `r` of facet `f`. -/
def modRay (f r : Nat) (g : Ray → Ray) (s : State) : State :=
  { s with rays := Store.put (fun _ => Ray.init) s.rays (32 * f + r) (g (s.ray f r)) }

/-- What is held of channel `c`. -/
def State.chan (s : State) (c : Nat) : Chan := Store.find (fun _ => Chan.init) s.chans c

/-- Change what is held of channel `c`. -/
def modChan (c : Nat) (g : Chan → Chan) (s : State) : State :=
  { s with chans := Store.put (fun _ => Chan.init) s.chans c (g (s.chan c)) }

/-- What is held of level waveform generator `g` of facet `f`. -/
def State.wave (s : State) (f g : Nat) : Wave := Store.find (fun _ => Wave.init) s.waves (4 * f + g)

/-- Change what is held of level waveform generator `g` of facet `f`. -/
def modWave (f g : Nat) (h : Wave → Wave) (s : State) : State :=
  { s with waves := Store.put (fun _ => Wave.init) s.waves (4 * f + g) (h (s.wave f g)) }

/-- A fill with nothing stored. -/
def AcqFill.init : AcqFill :=
  { items := [], stored := 0, part := none, prev := none, trig := none, at_ := none, gap := 0, gapAt := 0 }

/-- An acquisition unit that has never been armed. -/
def AcqUnit.init : AcqUnit :=
  { toAcqFill := AcqFill.init, pages := [], armedAt := 0, armedEl := 0, convAt := 0, conv := 0, axisDone := false
    endAt := 0, blocks := [], xfer := .idle, bseq := 0, overflow := false, report := ⟨0, 0, 0, 0, 0, 0⟩ }

/-- What is held of acquisition unit `u`. -/
def State.acqUnit (s : State) (u : Nat) : AcqUnit := Store.find (fun _ => AcqUnit.init) s.acq u

/-- Change what is held of acquisition unit `u`. -/
def modAcq (u : Nat) (g : AcqUnit → AcqUnit) (s : State) : State :=
  { s with acq := Store.put (fun _ => AcqUnit.init) s.acq u (g (s.acqUnit u)) }

/-! ## The active map -/

/-- A field of the active map, named by its place in the edit copy's registers. -/
def State.mapGet (s : State) (f : Fld) : Nat := bitsAt (Store.find (fun _ => (0 : Word64)) s.map f.addr).toNat f.lo f.w

/-- Does chord `k` exist in the active map (R47)? -/
def State.chordOn (s : State) (k : Nat) : Bool := s.mapGet (SIT_CH0_ENABLE k) = 1

/-- Is chord `k` coded-select? -/
def State.codedChord (s : State) (k : Nat) : Bool := s.mapGet (SIT_CH0_SELECT_KIND k) = 1

/-- Shared channel `i` of chord `k` (R47). -/
def State.sharedChannel (s : State) (k i : Nat) : Nat :=
  if i % 2 = 0 then s.mapGet (SIT_CHS_SHARED0 k (i / 2)) else s.mapGet (SIT_CHS_SHARED1 k (i / 2))

/-- The shared channels of chord `k`, by role. -/
def State.sharedChannels (s : State) (k : Nat) : List Nat :=
  (List.range (min 22 (s.mapGet (SIT_CH0_SHARED_COUNT k)))).map fun i => s.sharedChannel k i

/-- The used code channels of a coded chord, bit 0 first (R47). -/
def State.codeChannels (s : State) (k : Nat) : List Nat :=
  if s.codedChord k then
    [s.mapGet (SIT_CH1_CODE0_CH k), s.mapGet (SIT_CH2_CODE1_CH k), s.mapGet (SIT_CH2_CODE2_CH k),
     s.mapGet (SIT_CH3_CODE3_CH k), s.mapGet (SIT_CH3_CODE4_CH k), s.mapGet (SIT_CH4_CODE5_CH k)].take
      (s.mapGet (SIT_CH0_CODE_WIDTH k))
  else []

/-- The strobe channel of a coded chord. -/
def State.strobeChannels (s : State) (k : Nat) : List Nat :=
  if s.codedChord k then [s.mapGet (SIT_CH1_STROBE_CH k)] else []

/-- Vertex states (R50). -/
def vertexPresent : Nat := 1
@[inherit_doc vertexPresent] def vertexInked : Nat := 2

/-- SITE.STATE of vertex `v` in the active map. -/
def State.vertexState (s : State) (v : Nat) : Nat := s.mapGet (SIT_VX0_STATE v)

/-- Is vertex `v` present or inked in the active map? -/
def State.onBus (s : State) (v : Nat) : Bool := s.vertexState v = vertexPresent || s.vertexState v = vertexInked

/-- Is vertex `v` inked now (R52)? -/
def State.inked (s : State) (v : Nat) : Bool := s.bitOf (ARC_INKED_INK (v / 32)) (v % 32)

/-- The chord of vertex `v`. -/
def State.chordOf (s : State) (v : Nat) : Nat := s.mapGet (SIT_VX0_CHORD v)

/-- The numbers of the listed vertices of the active map that are present or inked, ascending. -/
def State.busVertices (s : State) : List Nat :=
  s.map.filterMap fun e =>
    if 0x600000 ≤ e.1 ∧ e.1 < 0x620000 ∧ e.1 % 0x20 = 0 ∧ s.onBus ((e.1 - 0x600000) / 0x20) then
      some ((e.1 - 0x600000) / 0x20)
    else none

/-- The enabled chords of the active map, ascending. -/
def State.busChords (s : State) : List Nat :=
  s.map.filterMap fun e =>
    if 0x620000 ≤ e.1 ∧ e.1 < 0x628000 ∧ (e.1 - 0x620000) % 0x40 = 0 ∧ s.chordOn ((e.1 - 0x620000) / 0x40) then
      some ((e.1 - 0x620000) / 0x40)
    else none

/-- The present or inked vertices of chord `k`, ascending. -/
def State.chordVertices (s : State) (k : Nat) : List Nat := s.busVertices.filter fun v => s.chordOf v = k

/-- The select channel of vertex `v` on a direct chord. -/
def State.selectChannel (s : State) (v : Nat) : Nat := s.mapGet (SIT_VX1_SELECT_CH v)

/-- The select code of vertex `v` on a coded chord. -/
def State.selectCode (s : State) (v : Nat) : Nat := s.mapGet (SIT_VX1_SELECT_CODE v)

/-- The busy channel of vertex `v`, if it is tracked by one. -/
def State.busyChannel (s : State) (v : Nat) : Option Nat :=
  if s.mapGet (SIT_VX2_BUSY_EN v) = 1 then some (s.mapGet (SIT_VX2_BUSY_CH v)) else none

/-- The gate channel of vertex `v`, if it has a supply gate. -/
def State.gateChannel (s : State) (v : Nat) : Option Nat :=
  if s.mapGet (SIT_VX2_GATE_EN v) = 1 then some (s.mapGet (SIT_VX2_GATE_CH v)) else none

/-- The vertex whose supply gate channel `c` is (R86, row 6). -/
def State.gateVertex (s : State) (c : Nat) : Option Nat := s.busVertices.find? fun v => s.gateChannel v = some c

/-- The channels that chord `k` claims for itself (R56): its shared, code and strobe channels. -/
def State.chordChannels (s : State) (k : Nat) : List Nat := s.sharedChannels k ++ s.codeChannels k ++ s.strobeChannels k

/-- The channels that vertex `v` claims (R56): its select channel on a direct chord, its busy and its gate channel. -/
def State.vertexChannels (s : State) (v : Nat) : List Nat :=
  (if s.codedChord (s.chordOf v) then [] else [s.selectChannel v]) ++ (s.busyChannel v).toList ++ (s.gateChannel v).toList

/-- Is channel `c` claimed by an enabled chord or by a present or inked vertex (R86, row 8)? -/
def State.claimed (s : State) (c : Nat) : Bool :=
  (s.busChords.any fun k => c ∈ s.chordChannels k) || (s.busVertices.any fun v => c ∈ s.vertexChannels v)

/-- The die type of vertex `v`. -/
def State.dieType (s : State) (v : Nat) : Nat := s.mapGet (SIT_VX0_DIE_TYPE v)

/-- The ray of chord `k` in facet `f` (R130). -/
def State.rayOf (s : State) (f k : Nat) : Option Nat :=
  (List.range 32).find? fun r => s.on (FCT_RAY_STAT_ASSIGNED f r) && s.get (FCT_RAY_STAT_CHORD f r) = k

/-- The facets of chord `k` with the ray that it has in each (R130). -/
def State.chordRays (s : State) (k : Nat) : List (Nat × Nat) :=
  (List.range s.facets).filterMap fun f => (s.rayOf f k).map fun r => (f, r)

/-- FCT_RAY_STAT.STATE of a ray. -/
def State.rayState (s : State) (f r : Nat) : Nat := s.get (FCT_RAY_STAT_STATE f r)

/-- Ray states (R160). -/
def rayIdle : Nat := 0
@[inherit_doc rayIdle] def rayArmed : Nat := 1
@[inherit_doc rayIdle] def rayRun : Nat := 2
@[inherit_doc rayIdle] def rayHold : Nat := 3
@[inherit_doc rayIdle] def rayFill : Nat := 4
@[inherit_doc rayIdle] def rayPad : Nat := 5

/-- Is every ray of facet `f` IDLE? -/
def State.raysIdle (s : State) (f : Nat) : Bool := (List.range 32).all fun r => s.rayState f r = rayIdle

/-- Has chord `k` a phase: is some ray of it ARMED or in a later state (R148)? -/
def State.chordRunning (s : State) (k : Nat) : Bool := (s.chordRays k).any fun x => s.rayState x.1 x.2 != rayIdle

end Sys2Proof.Machine
end

