-- ==== Sys2Proof/Machine/Timing.lean ====
section
/-!
DEFINITION. The vector grid of a facet (R116 to R120), and the edges of a channel (R122 to R125).
-/

namespace Sys2Proof.Machine
open Sys2Proof.Reg

/-! ## The grid -/

/-- The shortest and the longest period (R117), in 2^-24 tick. -/
def periodMin : Nat := 0x04000000
@[inherit_doc periodMin] def periodMax : Nat := 0x186A00000000

/-- A period entry limited to its range (R117). -/
def limitPeriod (p : Nat) : Nat := min periodMax (max periodMin p)

/-- The FCT_PERIOD entry `e` of facet `f` as it stands. -/
def State.periodEntry (s : State) (f e : Nat) : Nat := s.get (FCT_PERIOD_PERIOD f e)

/-- Grid point `n`, `period` and `anchor` given (R116): halves are rounded up. -/
def gridPoint (anchor period n : Nat) : Nat := anchor + (n * period + 2 ^ 15) / 2 ^ 16

/-- When vector `n` of facet `f` starts: its grid point, or T_s for the transition vector, which stands just below the
origin (R119). -/
def State.vectorTime (s : State) (f n : Nat) : Nat :=
  let x := s.fct f
  match x.trans with
  | some t => if n + 1 = x.origin then t.start else gridPoint x.anchor x.period n
  | none => gridPoint x.anchor x.period n

/-- The length of vector `n` of facet `f`. -/
def State.vectorLength (s : State) (f n : Nat) : Nat := s.vectorTime f (n + 1) - s.vectorTime f n

/-- Is index `n` a granule boundary of facet `f` (R118)? -/
def State.isBoundary (s : State) (f n : Nat) : Bool := (s.fct f).origin ≤ n && (n - (s.fct f).origin) % 32 = 0

/-- The vectors from index `n` to the next granule boundary, 0 at one. -/
def State.toBoundary (s : State) (f n : Nat) : Nat :=
  let g := (s.fct f).origin
  if n < g then g - n else (32 - (n - g) % 32) % 32

/-- The first grid index of facet `f` whose point is at or after stamp `t`. -/
def State.indexAt (s : State) (f t : Nat) : Nat :=
  let x := s.fct f
  if t ≤ x.anchor then 0
  else ((t - x.anchor) * 2 ^ 16 - 2 ^ 15 + x.period - 1) / x.period

/-- The first granule boundary of facet `f` at or after stamp `t`, as a grid index (R118). -/
def State.boundaryAt (s : State) (f t : Nat) : Nat :=
  let n := max (s.fct f).origin (s.indexAt f t)
  n + s.toBoundary f n

/-- A period comes into use (R117): it is limited, and PER_CLIP reports that. -/
def takePeriod (f e : Nat) (s : State) : State :=
  let p := s.periodEntry f e
  let s := modFct f (fun x => { x with period := limitPeriod p }) s
  let s := s.set (FCT_RATE_ACTIVE f) e
  if p = limitPeriod p ∨ s.on (FCT_TIMING_STAT_PER_CLIP f) then s
  else pend (16 * f + 11) (s.raise (FCT_TIMING_STAT_PER_CLIP f))

/-- Phase starts that facet `f` has not taken yet keep their time when the grid of `old` changes: each stands at the first
granule boundary of the new grid at or after it (R120, R131). (Log: 68 DEDUCED) -/
def keepStarts (f : Nat) (old s : State) : State :=
  modFct f (fun x => { x with inbox := x.inbox.map fun p => { p with start := s.boundaryAt f (old.vectorTime f p.start) } }) s

/-- A rate change outside a bus phase (R120): the origin is 0 and there is no transition vector. -/
def changeRate (f e : Nat) (s : State) : State :=
  keepStarts f s (modFct f (fun x => { x with origin := 0, trans := none, due := none }) (takePeriod f e s))

/-- A new ANCHOR comes into use (R120). -/
def changeAnchor (f : Nat) (s : State) : State :=
  keepStarts f s
    ((modFct f (fun x => { x with anchor := s.get (FCT_ANCHOR_ANCHOR f), origin := 0, trans := none }) s).set
      (FCT_TIMING_STAT_ANCHOR_DEFERRED f) 0)

/-- The last bus phase of facet `f` has ended: a rate change that waits applies now (R119), and so does a new ANCHOR (R120);
an OFS move that waits is made (R110). -/
def gridQuiet (f : Nat) (s : State) : State :=
  if s.phaseOn f then s
  else
    let s := match (s.fct f).due with
      | some d => changeRate f d.entry s
      | none => s
    applyMove f (if s.on (FCT_TIMING_STAT_ANCHOR_DEFERRED f) then changeAnchor f s else s)

/-! ## Edges -/

/-- A register of the timing settings as it is in use: words that an update changed stay in use until the first granule
boundary at or after T_app (R30, R118). (Log: 22 DEDUCED) -/
def State.timingWord (s : State) (f a : Nat) : Nat :=
  match (s.fct f).older.find? fun e => e.1 = a with
  | some e => e.2.toNat
  | none => (s.reg a).toNat

/-- A field of the timing settings as it is in use. -/
def State.timingGet (s : State) (f : Nat) (x : Fld) : Nat := bitsAt (s.timingWord f x.addr) x.lo x.w

/-- The first granule boundary at or after T_app has come: the updated settings are in use. (Log: 22 DEDUCED) -/
def useNewTiming (f t : Nat) (s : State) : State :=
  let x := s.fct f
  if x.older ≠ [] ∧ gridPoint x.anchor x.period (s.boundaryAt f x.olderAt) ≤ t then
    modFct f (fun x => { x with older := [] }) s
  else s

/-- The kinds of edges: D1, D2, DX, C1, C2. -/
def edgeD1 : Nat := 0
@[inherit_doc edgeD1] def edgeD2 : Nat := 1
@[inherit_doc edgeD1] def edgeDX : Nat := 2
@[inherit_doc edgeD1] def edgeC1 : Nat := 3
@[inherit_doc edgeD1] def edgeC2 : Nat := 4

/-- A timing set as a vector uses it (R123). -/
structure EdgeSet where
  offsets : List Nat
  window  : Bool
  deriving DecidableEq, Repr

/-- A set that is BAD (R125): D2 before D1, or a window that ends before it starts. -/
def EdgeSet.bad (e : EdgeSet) : Bool :=
  e.offsets.getD edgeD2 0 < e.offsets.getD edgeD1 0 ||
  (e.window && e.offsets.getD edgeC2 0 < e.offsets.getD edgeC1 0)

/-- Timing set `n` of facet `f` as it is in use. -/
def State.edgeSet (s : State) (f n : Nat) : EdgeSet :=
  ⟨(List.range 5).map fun w => s.timingGet f (FCT_TS_OFS f n w), s.timingGet f (FCT_TSW_WINDOW f n) = 1⟩

/-- The timing set of channel `i` of facet `f` in a vector with override `tso` for the groups of `gmask` (R123, R137). -/
def State.edgeSetOf (s : State) (f i tso gmask : Nat) : EdgeSet :=
  if gmask.testBit (s.timingGet f (FCT_CHT_GROUP f i)) then s.edgeSet f tso
  else s.edgeSet f (s.timingGet f (FCT_CHT_TSEL f i))

/-- The deskew trim of channel `i` for its slew setting, of driver or comparator (R124, R352). -/
def State.deskew (s : State) (f i : Nat) (compare : Bool) : Int :=
  let a := if compare then FCT_TRIM_CDSK f i else FCT_TRIM_DDSK f i
  signed 8 (s.get ⟨a, 8 * s.get (FCT_CH_SLEW f i), 8⟩)

/-- The ball time of an edge of kind `k` with offset `o` in a vector that starts at `t` (R124). (Log: 69 DEDUCED) -/
def State.ballTime (s : State) (f i t k o : Nat) : Int :=
  let d : Int := s.timingGet f (FCT_PPD_DELAY f i)
  if k = edgeC1 ∨ k = edgeC2 then t + o + s.replicaOfs f + s.deskew f i true + d
  else t + o + s.replicaOfs f + s.deskew f i false - d

/-- The edges that a symbol uses (R122, R138). -/
def usedEdges (sym : Nat) (ddr window : Bool) : List Nat :=
  if sym ∈ [0, 1, 14] then [edgeD1]
  else if sym ∈ [2, 3] then if ddr then [edgeD1, edgeD2] else [edgeD1]
  else if sym ∈ [11, 12] then [edgeD1, edgeD2]
  else if sym ∈ [4, 5, 6, 7, 8, 13] then if ddr || window then [edgeDX, edgeC1, edgeC2] else [edgeDX, edgeC1]
  else if sym = 10 then []
  else [edgeDX]

/-- Insert an edge into a list in order of ball time, behind those of the same time. -/
def insertEdge (e : Nat × Int) : List (Nat × Int) → List (Nat × Int)
  | [] => [e]
  | x :: xs => if e.2 < x.2 then e :: x :: xs else x :: insertEdge e xs

/-- What became of the edges of one channel in one vector: those placed, in order of ball time, and those dropped. -/
structure Placed where
  kept    : List (Nat × Int)
  dropped : List Nat
  deriving DecidableEq, Repr

/-- Place the edges of a vector of length `len` on a channel whose last placed edge was at `last` (R125): an edge less than
2 ticks after the one before it, or with an offset at or beyond the vector's length, is dropped. (Log: 69 DEDUCED) -/
def placeEdges (len : Nat) (offsets : List Nat) (last : Int) (edges : List (Nat × Int)) : Placed × Int :=
  edges.foldl (fun p e =>
    if e.2 < p.2 + 512 ∨ len ≤ offsets.getD e.1 0 then (⟨p.1.kept, p.1.dropped ++ [e.1]⟩, p.2)
    else (⟨p.1.kept ++ [e], p.1.dropped⟩, e.2)) (⟨[], []⟩, last)

/-- Count a dropped edge (R125, R129). -/
def countDrop (f : Nat) (s : State) : State :=
  let first := s.get (FCT_EDGE_DROP_COUNT f) = 0
  pendIf first (16 * f + 11) (s.countSat (FCT_EDGE_DROP_COUNT f) 1)

/-- Place the edges that a symbol uses on channel `c` of facet `f`, in a vector that starts at `t` and lasts `len`. (Log: 69 DEDUCED) -/
def playEdges (f c t len : Nat) (e : EdgeSet) (sym : Nat) (ddr : Bool) (s : State) : Placed × State :=
  let i := c % 128
  let es := (usedEdges sym ddr e.window).foldl
    (fun l k => insertEdge (k, s.ballTime f i t k (e.offsets.getD k 0)) l) []
  let (p, last) := placeEdges len e.offsets (s.chan c).lastEdge es
  let s := modChan c (fun x => { x with lastEdge := last }) s
  let s := p.kept.foldl (fun s e => s.send (.edge c e.1 e.2)) s
  (p, p.dropped.foldl (fun s _ => countDrop f s) s)

/-- After an epoch the times of the last placed edges mean nothing: the edges placed next have none before them. -/
def forgetEdges (s : State) : State :=
  s.chans.foldl (fun s e => modChan e.1 (fun x => { x with lastEdge := Chan.init.lastEdge }) s) s

/-- Set FCT_TS_BAD of timing set `n` from its contents as they are written (R125). -/
def refreshTimingSet (f n : Nat) (s : State) : State :=
  let e : EdgeSet := ⟨(List.range 5).map fun w => s.get (FCT_TS_OFS f n w), s.on (FCT_TSW_WINDOW f n)⟩
  let fld := FCT_TS_BAD_BAD f (n / 32)
  if e.bad && !s.bitOf fld (n % 32) then pend (16 * f + 11) (s.setBit fld (n % 32) true)
  else s.setBit fld (n % 32) e.bad

end Sys2Proof.Machine
end

