-- ==== Sys2Proof/Machine/Channel.lean ====
section
/-!
DEFINITION. Channels: their states (R85 to R88), level sets (R89 to R92), the PMU and its ADCs (R97 to R101) and
overcurrent protection (R102 to R104).
-/

namespace Sys2Proof.Machine
open Sys2Proof.Reg

/-! ## States -/

/-- Channel states (R85). -/
def chParked : Nat := 0
@[inherit_doc chParked] def chVector : Nat := 1
@[inherit_doc chParked] def chPmu : Nat := 2
@[inherit_doc chParked] def chGate : Nat := 3

/-- Does a running contact test cover channel `c` (R60)? -/
def State.inContact (s : State) (c : Nat) : Bool :=
  match s.contact with
  | some (m, _) => m.testBit c
  | none => false

/-- The overcurrent bit of channel `c`. -/
def ocBit (c : Nat) : Fld := ⟨FCT_OC_STAT (c / 128) (c % 128 / 32), c % 32, 1⟩

/-- The PMU_DONE bit of channel `c`. -/
def pmuDoneBit (c : Nat) : Fld := ⟨FCT_PMU_DONE (c / 128) (c % 128 / 32), c % 32, 1⟩

/-- Is facet `f` under a facet-park reaction? -/
def State.facetParked (s : State) (f : Nat) : Bool := s.bitOf FCL_FPARK_FPARK f

/-- Do rows 4 and 5 and the modes of row 1 of R86 let channel `c` out of the parked state? (Log: 60 DEDUCED) -/
def State.released (s : State) (c : Nat) : Bool := s.running && !s.facetParked (c / 128) && !s.on (ocBit c)

/-- The state of channel `c` (R86). A channel that a release concerns stays parked until it is released at a granule
boundary of its facet. (Log: 60 DEDUCED) -/
def State.channelState (s : State) (c : Nat) : Nat :=
  if s.inContact c then chPmu
  else if !s.released c || !(s.fct (c / 128)).awake.testBit (c % 128) then chParked
  else if (s.gateVertex c).isSome then chGate
  else if s.get (FCT_PMU_CTRL_MODE (c / 128) (c % 128)) ≠ 0 then chPmu
  else if s.claimed c then chVector
  else chParked

/-- FCT_CH.PARK_CAUSE of channel `c` (R93). -/
def State.parkCause (s : State) (c : Nat) : Nat :=
  if s.channelState c ≠ chParked then 0
  else if s.on (ocBit c) then 2
  else if s.facetParked (c / 128) then 3
  else 1

/-- The decoder of a chord whose strobe or code channels have parked must be recovered before its next phase (R49). -/
def requireRecovery (c : Nat) (s : State) : State :=
  s.busChords.foldl (fun s k =>
    if c ∈ s.codeChannels k ++ s.strobeChannels k then
      { s with recover := Store.put (fun _ => false) s.recover k true }
    else s) s

/-! ## PMU measurements -/

/-- The clamps of a level set are out of order, as used (R90, R91). -/
def State.clampBad (s : State) (f n : Nat) : Bool :=
  decide (clampInt (-7500) 27500 (signed 16 (s.get (FCT_LS3_CLAMP_HI f n))) ≤
    clampInt (-7500) 27500 (signed 16 (s.get (FCT_LS3_CLAMP_LO f n))))

/-- FCT_PMU_STAT.BAD_CLAMP of channel `c` (R91). -/
def State.badClamp (s : State) (c : Nat) : Bool := s.clampBad (c / 128) (s.get (FCT_CH_LS (c / 128) (c % 128)))

/-- The queue of the ADC that serves channel `c`. -/
def adcOf (c : Nat) : Nat := c / 16

/-- What is held of an ADC. -/
def State.adc (s : State) (a : Nat) : AdcQueue := Store.find (fun _ => ⟨[], 0⟩) s.adcs a

/-- Change what is held of an ADC. -/
def modAdc (a : Nat) (g : AdcQueue → AdcQueue) (s : State) : State :=
  { s with adcs := Store.put (fun _ => ⟨[], 0⟩) s.adcs a (g (s.adc a)) }

/-- Is a measurement of channel `c` settling, queued or converting? -/
def State.pmuBusy (s : State) (c : Nat) : Bool := s.on (FCT_PMU_STAT_BUSY (c / 128) (c % 128))

/-- A measurement is over: BUSY clears and the DONE bit sets (R100); Arc is told of its own. -/
def endPmu (c : Nat) (aborted : Bool) (s : State) : State :=
  let mine := (s.chan c).forArc
  let s := s.set (FCT_PMU_STAT_BUSY (c / 128) (c % 128)) 0
  let s := s.set (FCT_PMU_CTRL_START (c / 128) (c % 128)) 0
  let s := withLevel (16 * (c / 128) + 13) (fun s => s.raise (pmuDoneBit c)) s
  let s := modChan c (fun x => { x with stage := .idle, forArc := false, settle := 0 }) s
  let s := modAdc (adcOf c) (fun a => { a with queue := a.queue.filter fun e => e.1 ≠ c }) s
  if mine then { s with pmuEnds := s.pmuEnds ++ [(c, aborted)] } else s

/-- Abort a measurement of channel `c`, if one is under way (R100). -/
def abortPmu (c : Nat) (s : State) : State :=
  if s.pmuBusy c then endPmu c true (s.raise (FCT_PMU_STAT_ABORTED (c / 128) (c % 128))) else s

/-- Start a measurement (R99): in a state other than PMU it ends at once with ABORTED set; the condition of R91 aborts it
too. A measurement that runs is not disturbed (R26). -/
def startPmu (c : Nat) (s : State) : State :=
  if s.pmuBusy c then s
  else
    let s := modChan c (fun x => { x with startAt := s.elapsed, stage := .settling }) s
    let s := s.raise (FCT_PMU_STAT_BUSY (c / 128) (c % 128))
    let s := s.raise (FCT_PMU_CTRL_START (c / 128) (c % 128))
    if s.channelState c ≠ chPmu || s.inContact c || s.badClamp c then abortPmu c s else s

/-- Insert a settled measurement into its ADC's queue, behind those whose settling ended before it or, at the same tick,
of a lower channel (R99). (Log: 58 DEDUCED) -/
def queueMeasurement (e : Nat × Nat) : List (Nat × Nat) → List (Nat × Nat)
  | [] => [e]
  | x :: xs => if e.2 < x.2 ∨ (e.2 = x.2 ∧ e.1 < x.1) then e :: x :: xs else x :: queueMeasurement e xs

/-- When the settling of channel `c`'s measurement ends, in the model's running time (R99). -/
def State.settleEnd (s : State) (c : Nat) : Nat :=
  max (s.chan c).startAt (s.chan c).touched +
    256 * (if (s.chan c).settle = 0 then s.get (FCT_PMU_SETTLE_SETTLE (c / 128)) else (s.chan c).settle)

/-- The settling has passed: the measurement joins its ADC's queue. The one being served stays in front. (Log: 58 DEDUCED) -/
def settlePmu (c : Nat) (s : State) : State :=
  if (s.chan c).stage = .settling ∧ s.settleEnd c ≤ s.elapsed then
    let s := modChan c (fun x => { x with stage := .queued }) s
    modAdc (adcOf c) (fun a =>
      let served := if a.queue.head?.any fun e => max e.2 a.free < s.settleEnd c then 1 else 0
      { a with queue := a.queue.take served ++ queueMeasurement (c, s.settleEnd c / 256) (a.queue.drop served) }) s
  else s

/-- The conversions of a measurement (R97). -/
def State.pmuSamples (s : State) (c : Nat) : Nat :=
  let n := s.get (FCT_PMU_CTRL_SAMPLES (c / 128) (c % 128))
  if n = 0 then 64 else n

/-- The full scale of a current range in pA (R97). -/
def rangeFull (r : Nat) : Int := match r with | 0 => 2000000 | 1 => 20000000 | 2 => 200000000 | _ => 2000000000

/-- Does the mean exceed the range (R97): the current range in FVMI, -1.5 V to +5.5 V otherwise? -/
def State.pmuOver (s : State) (c : Nat) (mean : Int) : Bool :=
  let f := c / 128
  let i := c % 128
  if s.get (FCT_PMU_CTRL_MODE f i) = 1 then decide (rangeFull (s.get (FCT_PMU_CTRL_RANGE f i)) < mean.natAbs)
  else decide (mean < -1500000) || decide (5500000 < mean)

/-- Does an acquisition unit hold ADC `a`, from a time at or before `t` (R265)? (Log: 77 DEDUCED) -/
def State.adcHeld (s : State) (a t : Nat) : Bool :=
  (List.range 16).any fun u =>
    s.get (ACQ_U_STAT_STATE u) ≠ 0 && s.get (ACQ_U_CFG_SRC_KIND u) = 1 && s.get (ACQ_U_CFG_SRC_INDEX u) = a &&
    decide ((s.acqUnit u).armedEl ≤ t)

/-- A measurement completes (R100): RESULT is the mean of the conversions, rounded toward zero. It must stand at the head
of its ADC's queue, with its conversions taken. (Log: 56 DESIGN CHOICE) -/
def completePmu (c : Nat) (conversions : List Int) (clamped : Bool) (s : State) : State :=
  let a := s.adc (adcOf c)
  match a.queue with
  | [] => s
  | e :: _ =>
    let n := s.pmuSamples c
    let begun := max (256 * e.2) a.free
    if e.1 ≠ c ∨ conversions.length ≠ n ∨ s.elapsed < begun + 256 * 1600 * n ∨ s.adcHeld (adcOf c) begun then s
    else
      let f := c / 128
      let i := c % 128
      let mean := conversions.sum.tdiv n
      let s := s.set (FCT_PMU_RESULT_RESULT f i) (unsigned 32 mean)
      let s := s.set (FCT_PMU_STAT_CLAMPED f i) (bit01 clamped)
      let s := s.set (FCT_PMU_STAT_OVERRANGE f i) (bit01 (s.pmuOver c mean))
      let s := s.set (FCT_PMU_STAT_ABORTED f i) 0
      let s := s.set (FCT_PMU_STAT_STALE f i) 0
      endPmu c false (modAdc (adcOf c) (fun a => { a with free := s.elapsed }) s)

/-- The PMU settings of channel `c` have been written: a measurement under way is aborted, and the settling of the next one
counts from here (R98 to R100). (Log: 19 DEDUCED) -/
def touchPmu (c : Nat) (s : State) : State :=
  modChan c (fun x => { x with touched := s.elapsed }) (abortPmu c s)

/-! ## Level sets -/

/-- The channels of facet `f` that select level set `n`. -/
def State.levelUsers (s : State) (f n : Nat) : List Nat :=
  ((List.range 128).filter fun i => s.get (FCT_CH_LS f i) = n).map fun i => 128 * f + i

/-- The fields that a level set's BIND can name, with the code of each (R89). -/
def bindCode (field : Fld) (f n : Nat) : Nat :=
  if field = FCT_LS0_VIH f n then 1
  else if field = FCT_LS0_VIL f n then 2
  else if field = FCT_LS1_VOH f n then 3
  else if field = FCT_LS1_VOL f n then 4
  else if field = FCT_LS2_VT f n then 5
  else 0

/-- The code that a level field asks for: its own, or the output of the waveform generator bound to it (R90). -/
def State.levelAsked (s : State) (f n : Nat) (field : Fld) : Int :=
  if s.get (FCT_LS4_BIND f n) ≠ 0 ∧ s.get (FCT_LS4_BIND f n) = bindCode field f n then
    signed 16 (s.get (FCT_WG_OUT_V f (s.get (FCT_LS4_GEN f n))))
  else signed 16 (s.get field)

/-- The range of a level field, as codes of 200 µV (R90). -/
def levelRange (field : Fld) (f n : Nat) : Int × Int :=
  if field.addr = FCT_LS1 f n then (-7500, 25000)
  else if field.addr = FCT_LS3 f n then (-7500, 27500)
  else (-5000, 20000)

/-- The code in use of a level field (R90). -/
def State.levelUsed (s : State) (f n : Nat) (field : Fld) : Int :=
  clampInt (levelRange field f n).1 (levelRange field f n).2 (s.levelAsked f n field)

/-- The level fields of a set that the limits of R90 concern. -/
def levelFields (f n : Nat) : List Fld :=
  [FCT_LS0_VIL f n, FCT_LS0_VIH f n, FCT_LS1_VOL f n, FCT_LS1_VOH f n, FCT_LS2_VT f n, FCT_LS3_CLAMP_LO f n,
   FCT_LS3_CLAMP_HI f n]

/-- Is level set `n` BAD: VOL in use above VOH (R91)? -/
def State.levelBad (s : State) (f n : Nat) : Bool :=
  decide (s.levelUsed f n (FCT_LS1_VOH f n) < s.levelUsed f n (FCT_LS1_VOL f n))

/-- Values of a level set have come into use (R90, R91): CLIP sets when one of the given fields was limited, BAD follows
the thresholds, and the source 16f + 14 pends when either sets. -/
def useLevels (f n : Nat) (fields : List Fld) (s : State) : State :=
  let clip := fields.any fun x => s.levelUsed f n x != s.levelAsked f n x
  let newClip := clip && !s.bitOf (FCT_LS_STAT_CLIP f) n
  let newBad := s.levelBad f n && !s.bitOf (FCT_LS_STAT_BAD f) n
  let s := if clip then s.setBit (FCT_LS_STAT_CLIP f) n true else s
  let s := s.setBit (FCT_LS_STAT_BAD f) n (s.levelBad f n)
  pendIf (newClip || newBad) (16 * f + 14) s

/-- A clamp pair has been written (R91, R99, R106): the measurements of the channels that use it settle anew, and those
whose clamps are out of order are aborted. -/
def useClamps (f n : Nat) (s : State) : State :=
  let s := useLevels f n [FCT_LS3_CLAMP_LO f n, FCT_LS3_CLAMP_HI f n] s
  (s.levelUsers f n).foldl (fun s c =>
    let s := modChan c (fun x => { x with touched := s.elapsed }) s
    if s.clampBad f n then abortPmu c s else s) s

/-! ## Parking -/

/-- Channel `c` has parked (R87): nothing is driven, a PMU measurement is aborted, and a decoder that it belongs to needs
recovery. -/
def parkChannel (c : Nat) (s : State) : State :=
  let s := abortPmu c s
  let s := if s.channelState c = chParked then requireRecovery c s else s
  modChan c (fun x => { x with drive := .off }) s

/-- The channels of which something is held or claimed: those that a park can touch. -/
def State.touchedChannels (s : State) : List Nat :=
  (List.range s.channels).filter fun c => s.claimed c || s.pmuBusy c || (s.chan c) != Chan.init

/-- Park every channel of a facet: a facet-park reaction has begun. -/
def parkFacetChannels (f : Nat) (s : State) : State :=
  let s := modFct f (fun x => { x with awake := 0 }) s
  (s.touchedChannels.filter fun c => c / 128 = f).foldl (fun s c => parkChannel c s) s

/-- Park every channel of the part: the mode has left HOST or AUTO. -/
def parkAllChannels (s : State) : State :=
  (List.range s.facets).foldl (fun s f => parkFacetChannels f s) s

/-- At a granule boundary, the channels of facet `f` that rows 1 to 5 of R86 no longer park take the state that the table
gives them (R86, R104). (Log: 60 DEDUCED) -/
def unparkFacet (f : Nat) (s : State) : State :=
  let m := (List.range 128).foldl (fun m i => if s.released (128 * f + i) then m + 2 ^ i else m) 0
  modFct f (fun x => { x with awake := m }) s

/-- The overcurrent detector of channel `c` trips (R102): its bit sets, the channel parks and the trip is counted. -/
def tripChannel (c : Nat) (s : State) : State :=
  let f := c / 128
  let s := withLevel (16 * f + 12) (fun s => s.raise (ocBit c)) s
  let s := modFct f (fun x => { x with awake := andNot x.awake (2 ^ (c % 128)) }) s
  parkChannel c (s.countSat (FCT_OC_COUNT_COUNT f) 1)

/-- What channel `c` drives now: its gate, or what its vectors left (R87, R94). -/
def State.driveOf (s : State) (c : Nat) : Drive :=
  if s.channelState c = chGate then
    match s.gateVertex c with
    | some v =>
      let on := Store.find (fun _ => false) s.gates v
      if (on && s.mapGet (SIT_VX2_GATE_POL v) = 0) || (!on && s.mapGet (SIT_VX2_GATE_POL v) = 1) then .high else .low
    | none => .off
  else if s.channelState c = chVector then (s.chan c).drive
  else .off

end Sys2Proof.Machine
end

