-- ==== Sys2Proof/Machine/Acq.lean ====
section
/-!
DEFINITION. Precision measurement inputs (R259 to R262) and acquisition units (R264 to R279): arming, items and their
reduction, triggers, captures and streams, blocks and their delivery, and measurement records.
-/

namespace Sys2Proof.Machine
open Sys2Proof.Reg

/-! ## States and sources -/

/-- Unit states (R267). -/
def aqIdle : Nat := 0
@[inherit_doc aqIdle] def aqFill : Nat := 1
@[inherit_doc aqIdle] def aqReady : Nat := 2
@[inherit_doc aqIdle] def aqPost : Nat := 3
@[inherit_doc aqIdle] def aqRearm : Nat := 4
@[inherit_doc aqIdle] def aqStream : Nat := 5
@[inherit_doc aqIdle] def aqDeliver : Nat := 6

/-- ACQ_U_STAT.STATE of unit `u`. -/
def State.aqState (s : State) (u : Nat) : Nat := s.get (ACQ_U_STAT_STATE u)

/-- Set the state of unit `u`. -/
def setAq (u st : Nat) (s : State) : State := s.set (ACQ_U_STAT_STATE u) st

/-- SRC_KIND and SRC_INDEX of unit `u`. -/
def State.aqKind (s : State) (u : Nat) : Nat := s.get (ACQ_U_CFG_SRC_KIND u)
@[inherit_doc State.aqKind] def State.aqSource (s : State) (u : Nat) : Nat := s.get (ACQ_U_CFG_SRC_INDEX u)

/-- Does unit `u` reduce its input (R266)? -/
def State.aqReduces (s : State) (u : Nat) : Bool := 2 ≤ s.get (ACQ_U_REDUCE_R u)

/-- The bytes of an entry (R274). -/
def entryBytes (kind : Nat) : Nat := match kind with | 0 => 4 | 1 => 8 | _ => 16

/-- IPB: the items of a block (R268). -/
def State.aqIpb (s : State) (u : Nat) : Nat := 4064 / entryBytes (s.aqKind u) / (if s.aqReduces u then 2 else 1)

/-- B: the pages of a capture slot (R268). -/
def State.aqSlot (s : State) (u : Nat) : Nat :=
  (s.get (ACQ_U_PRE_PRE u) + s.get (ACQ_U_POST_POST u) + s.aqIpb u - 1) / s.aqIpb u + 1

/-- The sample period of PMI `n` in ticks (R260). -/
def State.pmiPeriod (s : State) (n : Nat) : Nat := 1600 * 10 ^ s.get (ACQ_PMI_CFG_RATE n)

/-- May a unit with this kind of source be armed in the present mode (R264)? -/
def State.aqModeOk (s : State) (kind : Nat) : Bool :=
  if kind = 1 then s.running else s.running || s.mode = modeIdle || s.mode = modeCal

/-- Source 400 + u. -/
def aqAlarm (u : Nat) (s : State) : State := pend (400 + u) s

/-- A flag of ACQ_U_STAT sets. -/
def raiseAq (u : Nat) (f : Fld) (s : State) : State := if s.on f then s else aqAlarm u (s.raise f)

/-! ## Arming (R268) -/

/-- The lowest-numbered reason for which an ARM is refused, 0 for none (R268). (Log: 75 DEDUCED) -/
def State.armError (s : State) (u : Nat) : Nat :=
  let kind := s.aqKind u
  let x := s.aqSource u
  let mode := s.get (ACQ_U_CFG_MODE u)
  let m := s.get (ACQ_U_CHMASK_CHMASK u)
  let pages := s.get (ACQ_U_PAGES_PAGES u)
  if kind = 3 || (kind = 0 && (decide (64 ≤ x) || !s.on (ACQ_PMI_CFG_EN x))) ||
      (kind = 1 && (decide (8 * s.facets ≤ x) || m == 0)) || (kind = 2 && decide (32 * s.facets ≤ x)) then 1
  else if !s.aqModeOk kind || mode = 3 then 2
  else if (mode ≤ 1 ∧ (s.get (ACQ_U_POST_POST u) = 0 ∨ pages < s.aqSlot u)) ∨ (mode = 2 ∧ pages < 2) then 3
  else if s.get DMA_POOL_FREE_FREE < pages then 4
  else if kind = 1 && (List.range 16).any fun w => w != u && s.aqState w != aqIdle && s.aqKind w == 1 && s.aqSource w == x then 5
  else if s.get (ACQ_U_DEST_BSIZE u) = 0 || decide (16 < s.get (ACQ_U_DEST_BSIZE u)) ||
      decide (s.vertices ≤ s.get (ACQ_U_DEST_VERTEX u)) || s.get (ACQ_U_DEST_ADDR_ADDR u) % 4096 != 0 then 6
  else if kind = 1 && s.aqReduces u && (setBits 16 m).length != 1 then 7
  else 0

/-- Take `k` pages for a buffer. -/
def takeBuffer : Nat → State → List Nat × State
  | 0, s => ([], s)
  | k + 1, s =>
    match takePages 1 s with
    | none => ([], s)
    | some (p, s) =>
      let r := takeBuffer k s
      (p :: r.1, r.2)

/-- Start a fill (R267): with nothing to store before the trigger the unit is READY at once. (Log: 75 DEDUCED) -/
def startFill (u : Nat) (s : State) : State :=
  let s := modAcq u (fun x => { x with toAcqFill := AcqFill.init }) s
  setAq u (if s.get (ACQ_U_PRE_PRE u) = 0 then aqReady else aqFill) s

/-- When the measurement that is converting at ADC `a` ends, in the model's running time; now if none is. -/
def State.adcBusyUntil (s : State) (a : Nat) : Nat :=
  match (s.adc a).queue with
  | e :: _ =>
    let begun := max (256 * e.2) (s.adc a).free
    if begun ≤ s.elapsed then max s.elapsed (begun + 256 * 1600 * s.pmuSamples e.1) else s.elapsed
  | [] => s.elapsed

/-- T0 of a unit that holds an ADC (R265): the first multiple of 1,600 ticks at or after stamp `t`. (Log: 77 DEDUCED) -/
def firstConversion (t : Nat) : Nat := (t + 1600 * 256 - 1) / (1600 * 256) * (1600 * 256)

/-- ARM is written (R267, R268). (Log: 75 DEDUCED) -/
def armUnit (u : Nat) (s : State) : State :=
  if s.aqState u ≠ aqIdle then s
  else
    let e := s.armError u
    if e ≠ 0 then aqAlarm u (s.set (ACQ_U_STAT_ERR u) e)
    else
      let wait := s.adcBusyUntil (s.aqSource u) - s.elapsed
      let (ps, s) := takeBuffer (s.get (ACQ_U_PAGES_PAGES u)) s
      let s := modAcq u (fun _ => { AcqUnit.init with
        pages := ps, armedAt := s.now, armedEl := s.elapsed
        convAt := if s.aqKind u = 1 then firstConversion (s.now + wait) else 0
        axisDone := s.past (s.get (ACQ_U_TRIG_AT_AT u)) }) s
      let s := (s.set (ACQ_U_STAT_ERR u) 0).raise (ACQ_U_CTRL_ARM u)
      if s.get (ACQ_U_CFG_MODE u) = 2 then setAq u aqStream s else startFill u s

/-! ## Blocks and delivery (R272, R273) -/

/-- The unit returns to IDLE: its pages go back to the pool and its ADC is released (R265, R267). -/
def releaseUnit (u : Nat) (s : State) : State :=
  let ps := (s.acqUnit u).pages
  let s := ps.foldl (fun s p => freePages p 1 s) s
  let s := modAcq u (fun x => { x with pages := [], part := none, items := [] }) s
  let s := if s.aqKind u = 1 then modAdc (s.aqSource u) (fun a => { a with free := max a.free s.elapsed }) s else s
  setAq u aqIdle (s.set (ACQ_U_CTRL_ARM u) 0)

/-- The unit has nothing left to deliver: it leaves DELIVER. -/
def deliverDone (u : Nat) (s : State) : State :=
  if s.aqState u = aqDeliver ∧ (s.acqUnit u).blocks = [] then releaseUnit u s else s

/-- Is the destination of unit `u` parked (R301)? -/
def State.acqParked (s : State) (u : Nat) : Bool := s.bitOf DMA_ACQ_PARK_PARK u

/-- A block that cannot be written because its destination is parked is spilled (R301): its page goes to the spill, and
the unit takes a replacement, or enters CAPTURE_OVERFLOW when none is free. -/
def spillBlocks (u : Nat) (s : State) : State :=
  (List.range (s.acqUnit u).blocks.length).foldl (fun s i =>
    let x := s.acqUnit u
    match x.blocks[i]?, x.pages with
    | some b, p :: ps =>
      if b.page.isSome ∨ x.overflow then s
      else
        match takePages 1 s with
        | none => modAcq u (fun x => { x with overflow := true }) s
        | some (q, s) =>
          let s := countSpillPages (modSpillPage p ⟨4096, 1⟩ s)
          modAcq u (fun x => { x with pages := ps ++ [q], blocks := x.blocks.set i { b with page := some p } }) s
    | _, _ => s) s

/-- The host address, or the place in the pool, of the slot that the next block goes to (R273). (Log: 80 DEDUCED) -/
def State.destSlot (s : State) (u : Nat) : Nat :=
  s.get (ACQ_U_DEST_ADDR_ADDR u) + (s.get (ACQ_U_DEST_PROD_PROD u) % 2 ^ s.get (ACQ_U_DEST_BSIZE u)) * 4096

/-- Has the destination region room (R273)? -/
def State.destRoom (s : State) (u : Nat) : Bool :=
  decide (indexDiff (s.get (ACQ_U_DEST_PROD_PROD u)) (s.get (ACQ_U_DEST_CONS_CONS u)) < 2 ^ s.get (ACQ_U_DEST_BSIZE u))

/-- Start to write the oldest block, if there is one, the region has room and the access is translated (R273, R293). -/
def startBlock (u : Nat) (s : State) : State :=
  let x := s.acqUnit u
  if x.blocks = [] ∨ x.xfer ≠ .idle then s
  else if s.acqParked u then spillBlocks u s
  else if !s.destRoom u then s
  else if s.on (ACQ_U_DEST_LOCAL u) then modAcq u (fun x => { x with xfer := .issued }) s
  else if !s.dmaReady then s
  else
    match translate (.acq u) (s.destSlot u) true s with
    | (true, s) => modAcq u (fun x => { x with xfer := .issued }) s
    | (false, s) => modAcq u (fun x => { x with xfer := .translating }) s

/-- The destination parks (R294, R301). -/
def parkDest (u cause : Nat) (s : State) : State :=
  let a := s.destSlot u
  let s := { s with dma := { s.dma with acqPark := Store.put (fun _ => none) s.dma.acqPark u (some ⟨cause, a⟩) } }
  let s := modAcq u (fun x => { x with xfer := .idle }) (s.setBit DMA_ACQ_PARK_PARK u true)
  spillBlocks u (pend 352 s)

/-- The destination's translation was refused: a fault, which parks it unless it is parked. (Log: 104 DEDUCED) -/
def refuseDest (u : Nat) (s : State) : State :=
  let s := recordFault 2 u (s.destSlot u) s
  let (c, s) := faultCause (pageOf (s.destSlot u)) s
  if s.acqParked u then
    { s with dma := { s.dma with acqPark := Store.put (fun _ => none) s.dma.acqPark u (some ⟨c, s.destSlot u⟩) } }
  else parkDest u c s

/-- The destination's translation is granted: it leaves its park and its blocks are written in order. -/
def grantDest (u : Nat) (s : State) : State :=
  let s := if s.acqParked u then
      { s.setBit DMA_ACQ_PARK_PARK u false with dma := { s.dma with acqPark := Store.erase u s.dma.acqPark } } else s
  startBlock u (modAcq u (fun x => { x with xfer := .idle }) s)

/-- The little-endian bytes of a signed number. -/
def intBytes (n : Nat) (v : Int) : List Byte := leBytes n (unsigned (8 * n) v)

/-- The bytes of an entry in a block whose AT is `t` (R274). -/
def entryData (kind t : Nat) (e : AcqEntry) : List Byte :=
  match kind with
  | 0 => leBytes 4 (unsigned 24 e.value + bit01 e.mark * 2 ^ 24 + bit01 e.stale * 2 ^ 25 + bit01 e.suspect * 2 ^ 26)
  | 1 => intBytes 4 e.value ++
    leBytes 1 (e.chan % 16 + 16 * bit01 e.noPmu + 32 * bit01 e.stale + 64 * bit01 e.mark + 128 * bit01 e.suspect) ++
    leBytes 3 ((stampDiff e.at_ t).toNat / 256)
  | _ => leBytes 8 e.at_ ++ intBytes 5 e.value ++ leBytes 1 (bit01 e.suspect + 2 * bit01 e.stale) ++ leBytes 2 0

/-- The FLAGS of a block's header (R273), as its items, its place and its page's ECC give them. (Log: 79 DEDUCED) -/
def AcqBlock.flags (b : AcqBlock) (overflow integrity : Bool) : Nat :=
  let es := b.items.flatMap AcqItem.entries
  bit01 b.trig.isSome + 2 * bit01 overflow + 4 * bit01 (es.any AcqEntry.suspect) + 8 * bit01 (es.any AcqEntry.stale) +
  16 * bit01 (b.gap != 0) + 32 * bit01 b.ended + 64 * bit01 integrity

/-- The stamp of a block's first item. -/
def AcqBlock.at_ (b : AcqBlock) : Nat := ((b.items.head?).map AcqItem.at_).getD 0

/-- The bytes of a block (R273). -/
def blockData (u : Nat) (b : AcqBlock) (flags : Nat) (s : State) : List Byte :=
  leBytes 1 (u + 16 * s.aqKind u + 64 * bit01 (s.aqReduces u) + 128 * bit01 b.last) ++ leBytes 1 flags ++
  leBytes 2 b.items.length ++ leBytes 2 (b.trig.getD 0) ++ leBytes 2 b.bseq ++ leBytes 8 b.at_ ++ leBytes 4 b.capture ++
  leBytes 4 b.gap ++ leBytes 8 b.gapAt ++
  (b.items.flatMap AcqItem.entries).flatMap (entryData (s.aqKind u) b.at_)

/-- Write a measurement record (R275) for the blocks reported so far, and start a new report. -/
def writeReport (u : Nat) (s : State) : State :=
  let r := (s.acqUnit u).report
  let v := s.get (ACQ_U_DEST_VERTEX u)
  let s := modAcq u (fun x => { x with report := ⟨0, 0, 0, 0, 0, 0⟩ }) s
  if !s.on (ACQ_U_DEST_NOTIFY u) then s
  else
    let f := r.flags
    let flags := bit01 (f.testBit 6) + 2 * bit01 (f.testBit 2) + 4 * bit01 (f.testBit 3) + 8 * bit01 (f.testBit 4) +
      16 * bit01 (f.testBit 1) + 32 * bit01 (f.testBit 5)
    let d := leBytes 2 (s.get (ACQ_U_TAG_TAG u)) ++ leBytes 2 v ++
      leBytes 1 (if s.get (ACQ_U_CFG_MODE u) = 2 then 2 else 1) ++ leBytes 1 (u + 16 * s.aqKind u) ++ leBytes 2 flags ++
      leBytes 8 r.at_ ++ leBytes 4 r.first ++ leBytes 2 r.blocks ++ leBytes 2 (min 0xFFFF r.ignored) ++ leBytes 4 r.items ++
      leBytes 4 (s.get (ACQ_MSEQ_MSEQ v))
    (handover (4 * v + 3) d (s.count (ACQ_MSEQ_MSEQ v) 1)).2

/-- The blocks of a STREAM record (R277). -/
def State.aqGroup (s : State) (u : Nat) : Nat := max 1 (s.get (ACQ_U_TAG_NBLK u))

/-- The oldest block has been written to its destination (R273, R275, R301). -/
def blockWritten (u : Nat) (ecc : Ecc) (s : State) : State :=
  let x := s.acqUnit u
  match x.blocks with
  | [] => s
  | b :: bs =>
    if x.xfer ≠ .issued then s
    else
      let stream : Bool := s.get (ACQ_U_CFG_MODE u) = 2
      let s := if ecc = .double then pulseLine 64 s else s
      let flags := b.flags x.overflow (ecc = .double)
      let d := blockData u b flags s
      let a := s.destSlot u
      let s := if s.on (ACQ_U_DEST_LOCAL u) then { s with pool := Memory.putBytes s.pool (a % (12288 * 4096)) d }
               else s.send (.hostWrite a d)
      let s := match b.page with
        | some p => leaveSpillPage p s
        | none => s
      let r := x.report
      let r : AcqReport :=
        { blocks := r.blocks + 1, items := r.items + b.items.length, flags := r.flags ||| flags
          first := if r.blocks = 0 then s.get (ACQ_U_DEST_PROD_PROD u) else r.first
          at_ := if stream then (if r.blocks = 0 then b.at_ else r.at_) else b.trigAt
          ignored := r.ignored }
      let s := modAcq u (fun x => { x with blocks := bs, xfer := .idle, overflow := false, report := r }) s
      let s := s.count (ACQ_U_DEST_PROD_PROD u) 1
      let s := if x.overflow then raiseAq u (ACQ_U_STAT_OVERFLOW u) s else s
      let s := if b.last || (stream && decide (s.aqGroup u ≤ r.blocks)) then pend (384 + u) (writeReport u s) else s
      startBlock u (deliverDone u s)

/-- Put a block into the queue for delivery. -/
def queueBlock (u : Nat) (b : AcqBlock) (s : State) : State :=
  startBlock u (modAcq u (fun x => { x with blocks := x.blocks ++ [b] }) s)

/-- Cut a list of items into blocks of at most `ipb`; under ADC also where an offset from the block's AT would exceed
2^24 - 1 ticks (R274). -/
def cutBlocks (ipb : Nat) (adc : Bool) : List AcqItem → List AcqItem → List (List AcqItem)
  | cur, [] => if cur = [] then [] else [cur]
  | cur, i :: is =>
    let far : Bool := adc && match cur with
      | c :: _ => i.entries.any fun e => decide (2 ^ 32 ≤ (stampDiff e.at_ c.at_).toNat)
      | [] => false
    if cur.length < ipb ∧ !far then cutBlocks ipb adc (cur ++ [i]) is
    else cur :: cutBlocks ipb adc [i] is

/-- Queue the blocks of a capture whose items are given; `trig` is the index of the trigger item (R271, R273). (Log: 79 DEDUCED) -/
def queueCapture (u : Nat) (items : List AcqItem) (trig : Option Nat) (ended : Bool) (s : State) : State :=
  let bs := cutBlocks (s.aqIpb u) (s.aqKind u = 1) [] items
  let c := s.get (ACQ_U_CAPTURES_COUNT u)
  let t := s.get (ACQ_U_LAST_TRIG_AT_AT u)
  let mk := bs.zipIdx.foldl (fun (acc : List AcqBlock × Nat) x =>
    let last : Bool := x.2 + 1 = bs.length
    let inside : Option Nat := trig.bind fun j => if acc.2 ≤ j ∧ j < acc.2 + x.1.length then some (j - acc.2) else none
    (acc.1 ++ [{ items := x.1, bseq := x.2, last := last, ended := ended && last, trig := inside, capture := c, trigAt := t
                 gap := 0, gapAt := 0, page := none }], acc.2 + x.1.length)) ([], 0)
  mk.1.foldl (fun s b => queueBlock u b s) s

/-! ## Storing items (R266, R267, R272) -/

/-- The pages of a unit that hold no block and no item. -/
def State.aqFreePages (s : State) (u : Nat) : Nat :=
  let x := s.acqUnit u
  x.pages.length - (x.blocks.filter fun b => b.page.isNone).length - bit01 (x.items != [] || x.part.isSome)

/-- Close the STREAM block that is being filled and queue it. (Log: 78 DEDUCED) -/
def closeStreamBlock (u : Nat) (last ended : Bool) (s : State) : State :=
  let x := s.acqUnit u
  if x.items = [] then s
  else
    let b : AcqBlock := { items := x.items, bseq := x.bseq % 65536, last := last, ended := ended, trig := none
                          capture := 0, trigAt := 0, gap := x.gap, gapAt := x.gapAt, page := none }
    queueBlock u b (modAcq u (fun x => { x with items := [], bseq := x.bseq + 1, gap := 0, gapAt := 0 }) s)

/-- The capture of a unit has ended with all its items stored, or early (R267, R271). -/
def endCapture (u : Nat) (ended : Bool) (s : State) : State :=
  let x := s.acqUnit u
  let pre := s.get (ACQ_U_PRE_PRE u)
  let items := match x.at_ with
    | some j => x.items.drop (j - pre)
    | none => x.items.drop (x.items.length - pre)
  let trig := x.at_.map fun j => min j pre
  let endAt := ((items.getLast?).map fun i => ((i.entries.getLast?).map AcqEntry.at_).getD i.at_).getD s.now
  let s := if ended then raiseAq u (ACQ_U_STAT_ENDED u) s else s
  let s := modAcq u (fun x => { x with toAcqFill := AcqFill.init, endAt := endAt }) s
  let more : Bool := s.get (ACQ_U_CFG_MODE u) = 1 && !ended
  deliverDone u (queueCapture u items trig ended (setAq u (if more then aqRearm else aqDeliver) s))

/-- An item is complete: it is stored (R267, R271, R272). -/
def storeItem (u : Nat) (i : AcqItem) (s : State) : State :=
  let st := s.aqState u
  let pre := s.get (ACQ_U_PRE_PRE u)
  if st = aqStream then
    let x := s.acqUnit u
    let far : Bool := s.aqKind u = 1 && match x.items with
      | c :: _ => i.entries.any fun e => decide (2 ^ 32 ≤ (stampDiff e.at_ c.at_).toNat)
      | [] => false
    let s := if far then closeStreamBlock u false false s else s
    let s := modAcq u (fun x => { x with items := x.items ++ [i] }) s
    if s.aqIpb u ≤ (s.acqUnit u).items.length then closeStreamBlock u false false s else s
  else if st = aqFill ∨ st = aqReady ∨ st = aqPost then
    let x := s.acqUnit u
    let hit : Bool := st = aqPost && x.at_.isNone && (x.trig.any fun t => decide (0 ≤ stampDiff i.at_ t))
    -- before the trigger item only as many items as a slot of the buffer holds are kept
    let keep := s.aqSlot u * s.aqIpb u
    let old := if x.at_.isNone && decide (keep ≤ x.items.length) then x.items.drop (x.items.length + 1 - keep) else x.items
    let s := modAcq u (fun x => { x with items := old ++ [i], stored := x.stored + 1
                                         at_ := if hit then some old.length else x.at_ }) s
    let s := if hit then s.set (ACQ_U_LAST_TRIG_AT_AT u) i.at_ else s
    let x := s.acqUnit u
    if st = aqFill ∧ pre ≤ x.stored then setAq u aqReady s
    else
      match x.at_ with
      | some j => if s.get (ACQ_U_POST_POST u) ≤ x.items.length - j then endCapture u false s else s
      | none => s
  else s

/-- The pair of entries of an interval with one more sample (R266): the smallest, the largest, ties to the earlier one,
and the flags ORed. (Log: 78 DEDUCED) -/
def mergePair (e : AcqEntry) (i : AcqItem) : AcqItem :=
  match i.entries with
  | [lo, hi] =>
    let lo' := if e.value < lo.value then e else lo
    let hi' := if hi.value < e.value then e else hi
    let fl (x : AcqEntry) : AcqEntry :=
      { x with mark := lo.mark || hi.mark || e.mark, stale := lo.stale || hi.stale || e.stale
               suspect := lo.suspect || hi.suspect || e.suspect, noPmu := lo.noPmu || hi.noPmu || e.noPmu }
    { i with entries := [fl lo', fl hi'] }
  | _ => { i with entries := [e, e] }

/-- An input sample is stored, through the reduction (R266); with no page free a STREAM loses it (R272). (Log: 78 DEDUCED) -/
def storeSample (u : Nat) (e : AcqEntry) (s : State) : State :=
  let x := s.acqUnit u
  let starts : Bool := s.aqState u = aqStream && x.items == [] && x.part.isNone
  if starts && (s.aqFreePages u == 0 || x.overflow) then
    let s := modAcq u (fun x => { x with gap := x.gap + 1, gapAt := if x.gap = 0 then e.at_ else x.gapAt }) s
    s.countSat (ACQ_U_LOST_COUNT u) 1
  else
    let s := if starts && x.gap != 0 then raiseAq u (ACQ_U_STAT_GAP u) (aqAlarm u s) else s
    if s.aqReduces u then
      let (n, i) := match x.part with
        | some (n, i) => (n + 1, mergePair e i)
        | none => (1, ⟨e.at_, [e, e]⟩)
      if s.get (ACQ_U_REDUCE_R u) ≤ n then storeItem u i (modAcq u (fun x => { x with part := none }) s)
      else modAcq u (fun x => { x with part := some (n, i) }) s
    else storeItem u ⟨e.at_, [e]⟩ s

/-! ## Triggers (R269, R270) -/

/-- Count an ignored trigger (R270). -/
def ignoreTrigger (u : Nat) (fill : Bool) (s : State) : State :=
  let s := modAcq u (fun x => { x with report := { x.report with ignored := x.report.ignored + 1 } }) s
  if fill then s.countSat (ACQ_U_IGN_FILL_COUNT u) 1 else s.countSat (ACQ_U_IGN_REARM_COUNT u) 1

/-- A trigger with stamp `t` on unit `u` (R270): true when it is accepted. The trigger item may be stored already. -/
def triggerUnit (u t : Nat) (s : State) : Bool × State :=
  let st := s.aqState u
  let x := s.acqUnit u
  if st = aqIdle ∨ st = aqStream then (false, s)
  else if st = aqFill then (false, ignoreTrigger u true s)
  else if st ≠ aqReady then
    if st = aqPost ∧ x.trig = some t then (false, s) else (false, ignoreTrigger u false s)
  else
    let j := x.items.findIdx? fun i => decide (0 ≤ stampDiff i.at_ t)
    let before := x.stored - x.items.length + j.getD x.items.length
    if before < s.get (ACQ_U_PRE_PRE u) then (false, ignoreTrigger u true s)
    else
      let s := modAcq u (fun x => { x with trig := some t, at_ := j }) s
      let s := setAq u aqPost (s.count (ACQ_U_CAPTURES_COUNT u) 1)
      match j with
      | some j =>
        let s := s.set (ACQ_U_LAST_TRIG_AT_AT u) (((x.items[j]?).map AcqItem.at_).getD t)
        (true, if s.get (ACQ_U_POST_POST u) ≤ x.items.length - j then endCapture u false s else s)
      | none => (true, s)

/-- A trigger, and the triggers of the units that take this unit's accepted ones (R269, KIND 4). The chain of units is
followed at most once through each. -/
def triggerChain : Nat → Nat → Nat → State → State
  | 0, _, _, s => s
  | n + 1, u, t, s =>
    match triggerUnit u t s with
    | (false, s) => s
    | (true, s) =>
      ((List.range 16).filter fun w => s.get (ACQ_U_TRIG_CFG_KIND w) = 4 ∧ s.get (ACQ_U_TRIG_CFG_UNIT w) = u).foldl
        (fun s w => triggerChain n w t s) s

/-- A trigger with stamp `t` on unit `u`. -/
def trigger (u t : Nat) (s : State) : State := triggerChain 16 u t s

/-- Does an input sample trigger the unit (R269, KIND 2 and 3)? Under ADC only the lowest channel is tested. -/
def State.crosses (s : State) (u : Nat) (e : AcqEntry) : Bool :=
  let th := signed 32 (s.get (ACQ_U_THRESH_THRESH u))
  let tested : Bool := s.aqKind u != 1 || (setBits 16 (s.get (ACQ_U_CHMASK_CHMASK u))).headD 0 == e.chan
  match (s.acqUnit u).prev with
  | some p =>
    tested && ((s.get (ACQ_U_TRIG_CFG_KIND u) == 2 && decide (th ≤ e.value) && decide (p < th)) ||
      (s.get (ACQ_U_TRIG_CFG_KIND u) == 3 && decide (e.value < th) && decide (th ≤ p)))
  | none => false

/-- An input sample of unit `u` (R266, R269): it can trigger, and it is stored while the unit samples. -/
def inputSample (u : Nat) (e : AcqEntry) (s : State) : State :=
  let st := s.aqState u
  if !(st ∈ [aqFill, aqReady, aqPost, aqStream]) || decide (stampDiff e.at_ (s.acqUnit u).armedAt < 0) then s
  else
    let s' := if st ≠ aqStream && s.crosses u e then trigger u e.at_ s else s
    let tested : Bool := s.aqKind u != 1 || (setBits 16 (s.get (ACQ_U_CHMASK_CHMASK u))).headD 0 == e.chan
    let s' := if tested then modAcq u (fun x => { x with prev := some e.value }) s' else s'
    storeSample u e s'

/-! ## Sources -/

/-- The units that take the stream of a source. -/
def State.aqUnits (s : State) (kind index : Nat) : List Nat :=
  (List.range 16).filter fun u => s.aqState u != aqIdle && s.aqKind u == kind && s.aqSource u == index

/-- Does PMI `n` run now (R259)? -/
def State.pmiRuns (s : State) (n : Nat) : Bool :=
  s.on (ACQ_PMI_CFG_EN n) && s.mode ∈ [modeIdle, modeHost, modeAuto, modeCal, modeSafe]

/-- The stamp of the sample of PMI `n` that is available now, if one is (R261): the last multiple of its period that lies
three periods back. (Log: 76 DEDUCED) -/
def State.pmiStamp (s : State) (n : Nat) : Option Nat :=
  let p := 256 * s.pmiPeriod n
  if s.now < 3 * p then none
  else
    let t := (s.now - 3 * p) / p * p
    if Store.find (fun _ => none) s.pmiAt n = some t then none else some t

/-- A PMI code limited to its range (R261), and whether it saturated. -/
def limitCode (v : Int) : Int × Bool :=
  let w := clampInt (-(2 ^ 23 - 1)) (2 ^ 23 - 1) v
  (w, w != v)

/-- A sample of PMI `n` becomes available (R261): it is shown in ACQ_PMI_LAST and feeds the units that take it. (Log: 56 DESIGN CHOICE, 76 DEDUCED) -/
def pmiSample (n t : Nat) (code : Int) (stale : Bool) (s : State) : State :=
  let (v, ovr) := limitCode code
  let s := { s with pmiAt := Store.put (fun _ => none) s.pmiAt n (some t) }
  let s := (s.set (ACQ_PMI_LAST_CODE n) (unsigned 24 v)).set (ACQ_PMI_LAST_OVR n) (bit01 ovr)
  let s := s.set (ACQ_PMI_LAST_STALE n) (bit01 stale)
  let e : AcqEntry := ⟨t, v, ovr, stale, s.suspect 16, false, 0⟩
  (s.aqUnits 0 n).foldl (fun s u => inputSample u e s) s

/-- The conversion that a unit's held ADC makes next ends (R265): a value for its channel, or NOPMU. (Log: 77 DEDUCED) -/
def adcConversion (u : Nat) (value : Int) (clamped : Bool) (s : State) : State :=
  let x := s.acqUnit u
  let chans := setBits 16 (s.get (ACQ_U_CHMASK_CHMASK u))
  let t := x.convAt + x.conv * 1600 * 256
  if s.aqKind u ≠ 1 || !(s.aqState u ∈ [aqFill, aqReady, aqPost, aqRearm, aqStream]) || !s.past (t + 1600 * 256) then s
  else
    let i := chans.getD (x.conv % chans.length) 0
    let c := 16 * s.aqSource u + i
    let ok : Bool := s.channelState c = chPmu
    let e : AcqEntry := ⟨t, if ok then value else 0, ok && clamped, false, s.suspect (c / 128), !ok, i⟩
    inputSample u e (modAcq u (fun x => { x with conv := x.conv + 1 }) s)

/-- A shot of a fine TDC unit is offered to the units that take its stream (R248). (Log: 81 DEDUCED) -/
def offerShot (f unit t x : Nat) (suspect stale : Bool) (s : State) : State :=
  let e : AcqEntry := ⟨t, x, false, stale, suspect, false, 0⟩
  (s.aqUnits 2 (32 * f + unit)).foldl (fun s u => inputSample u e s) s

/-! ## Ends -/

/-- The unit stops capturing (R267, R271): nothing is delivered from FILL or READY; a capture or a stream ends with ENDED
and its stored items, an incomplete interval included, are delivered. (Log: 79 DEDUCED) -/
def stopUnit (u : Nat) (s : State) : State :=
  let st := s.aqState u
  let flush (s : State) : State :=
    match (s.acqUnit u).part with
    | some (_, i) => storeItem u i (modAcq u (fun x => { x with part := none }) s)
    | none => s
  if st = aqFill ∨ st = aqReady ∨ st = aqRearm then
    deliverDone u (setAq u aqDeliver (modAcq u (fun x => { x with toAcqFill := AcqFill.init }) s))
  else if st = aqPost then
    let s := flush s
    if s.aqState u = aqPost then endCapture u true s else s
  else if st = aqStream then
    let s := raiseAq u (ACQ_U_STAT_ENDED u) (flush s)
    let s := setAq u aqDeliver s
    let x := s.acqUnit u
    if x.items = [] then
      match x.blocks.getLast? with
      | some b => modAcq u (fun x => { x with blocks := x.blocks.dropLast ++ [{ b with last := true, ended := true }] }) s
      | none => deliverDone u (pend (384 + u) s)
    else closeStreamBlock u true true s
  else s

/-- Every armed unit ends with ENDED: an epoch that acts, or a block reset of the acquisition block (R271, R279, R326). (Log: 79 DEDUCED) -/
def endAllUnits (s : State) : State :=
  (List.range 16).foldl (fun s u =>
    if s.aqState u = aqIdle ∨ s.aqState u = aqDeliver then s else stopUnit u (raiseAq u (ACQ_U_STAT_ENDED u) s)) s

/-- The mode has changed: units whose source it no longer permits end (R271). -/
def acqModeChange (s : State) : State :=
  (List.range 16).foldl (fun s u =>
    if s.aqState u = aqIdle ∨ s.aqState u = aqDeliver ∨ s.aqModeOk (s.aqKind u) then s else stopUnit u s) s

/-- The capture slots of a REPEAT unit that hold undelivered blocks in its own pages. -/
def State.slotsHeld (s : State) (u : Nat) : Nat :=
  (((s.acqUnit u).blocks.filter fun b => b.page.isNone).map AcqBlock.capture).dedup.length

/-- REARM ends after HOLD, once a capture slot is free and the unit is not in CAPTURE_OVERFLOW (R267, R301). -/
def rearmUnit (u : Nat) (s : State) : State :=
  let x := s.acqUnit u
  if s.aqState u = aqRearm && s.past (stampAdd x.endAt (ticksOf (s.get (ACQ_U_HOLD_HOLD u)))) && !x.overflow &&
      decide (s.slotsHeld u < s.get (ACQ_U_PAGES_PAGES u) / s.aqSlot u) then
    startFill u s
  else s

/-- HOLD ticks after its first item a STREAM block is delivered (R272). -/
def flushStream (u : Nat) (s : State) : State :=
  let x := s.acqUnit u
  match x.items with
  | i :: _ =>
    if s.aqState u = aqStream && s.get (ACQ_U_HOLD_HOLD u) != 0 &&
        s.past (stampAdd i.at_ (ticksOf (s.get (ACQ_U_HOLD_HOLD u)))) then closeStreamBlock u false false s
    else s
  | [] => s

/-- The AXIS trigger of a unit has come (R269, R270). -/
def axisTrigger (u : Nat) (s : State) : State :=
  let t := s.get (ACQ_U_TRIG_AT_AT u)
  if s.get (ACQ_U_TRIG_CFG_KIND u) = 1 && !(s.acqUnit u).axisDone && s.aqState u != aqIdle && s.past t then
    trigger u t (modAcq u (fun x => { x with axisDone := true }) s)
  else s

/-- A write to ACQ_U_CTRL (R277). STOP wins over a trigger of the same write (R279). -/
def writeAcqCtrl (u data : Nat) (s : State) : State :=
  let s := if data.testBit 1 then stopUnit u s else s
  let s := if data.testBit 2 && !data.testBit 1 then trigger u s.now s else s
  if data.testBit 0 then armUnit u s else s

/-- A write to DEST_CONS while it is accepted frees slots of the region for waiting blocks (R273). -/
def destFreed (u : Nat) (s : State) : State := startBlock u s

/-- Is PMI `n` in use by a unit that is not IDLE (R262)? -/
def State.pmiUsed (s : State) (n : Nat) : Bool := s.aqUnits 0 n != []

end Sys2Proof.Machine
end

