-- ==== Sys2Proof/Machine/Tdc.lean ====
section
/-!
DEFINITION. The fine TDC units (R244 to R251) and the regression frequency counters (R253 to R255).
-/

namespace Sys2Proof.Machine
open Sys2Proof.Reg

/-! ## Fine TDC units -/

/-- The run of unit `u` of facet `f`, if one is in progress. -/
def State.tdcRun (s : State) (f u : Nat) : Option TdcRun := Store.find (fun _ => none) s.tdc (32 * f + u)

/-- Set the run of unit `u` of facet `f`. -/
def setTdc (f u : Nat) (r : Option TdcRun) (s : State) : State :=
  { s with tdc := Store.put (fun _ => none) s.tdc (32 * f + u) r }

/-- A W1C flag of a unit or a counter sets (R256): source 16f + 2 pends when it was 0. (Log: 28 DEDUCED) -/
def raiseTmu (f : Nat) (flag : Fld) (s : State) : State := if s.on flag then s else pend (16 * f + 2) (s.raise flag)

/-- The square root rounded down of a quotient. -/
def rootDiv (a b : Nat) : Nat := Nat.sqrt (a / b)

/-- The run of a unit ends (R249, R250): END 1 COMPLETE or 2 ABORTED; the statistics of the shots counted are written, and
the unit's DONE bit sets. -/
def endTdc (f u code : Nat) (s : State) : State :=
  match s.tdcRun f u with
  | none => s
  | some r =>
    let n := s.get (FCT_TDC_COUNT_COUNT f u)
    let s := setTdc f u none s
    let s := s.set (FCT_TDC_MEAN_MEAN f u) (if n = 0 then 0 else (2 ^ 17 * r.sum + n) / (2 * n))
    let d := n * r.sumSq - r.sum * r.sum
    let s := s.set (FCT_TDC_STDEV_STDEV f u) (if n ≤ 1 then 0 else rootDiv (2 ^ 32 * d) (n * (n - 1)))
    let s := (s.set (FCT_TDC_MIN_MIN f u) (if n = 0 then 0 else r.least)).set (FCT_TDC_MAX_MAX f u)
      (if n = 0 then 0 else r.most)
    let s := ((s.set (FCT_TDC_STAT_BUSY f u) 0).set (FCT_TDC_CTRL_START f u) 0).set (FCT_TDC_STAT_END f u) code
    withLevel (16 * f) (fun s => s.setBit (FCT_TMU_DONE_DONE f) u true) s

/-- The KIND of a unit's start or stop endpoint (R245). -/
def State.tdcKind (s : State) (f u : Nat) (stop : Bool) : Nat :=
  if stop then s.get (FCT_TDC_STOP_SEL_KIND f u) else s.get (FCT_TDC_START_SEL_KIND f u)

/-- The argument of an endpoint. -/
def State.tdcArg (s : State) (f u : Nat) (stop : Bool) : Nat :=
  if stop then s.get (FCT_TDC_STOP_ARG_ARG f u) else s.get (FCT_TDC_START_ARG_ARG f u)

/-- The stamp of the AXIS event of shot `k` at an endpoint (R245). (Log: 73 DEDUCED) -/
def State.axisEvent (s : State) (f u : Nat) (stop : Bool) (k : Nat) : Nat :=
  stampAdd (s.tdcArg f u stop) (k * ticksOf (s.get (FCT_TDC_INTERVAL_TICKS f u)))

/-- The unit begins to wait for a start (R248): AXIS starts whose stamps are past are skipped, MISSED sets, and the shot
number advances. (Log: 73 DEDUCED) -/
def awaitStart (f u : Nat) (r : TdcRun) (s : State) : State :=
  let i := ticksOf (s.get (FCT_TDC_INTERVAL_TICKS f u))
  let t := s.axisEvent f u false r.shot
  let late := stampDiff s.now t
  if s.tdcKind f u false = 2 ∧ 0 < late ∧ i ≠ 0 then
    raiseTmu f (FCT_TDC_STAT_MISSED f u)
      (setTdc f u (some { r with start := none, shot := r.shot + (late.toNat + i - 1) / i }) s)
  else setTdc f u (some { r with start := none }) s

/-- START is written (R244, R249): outside HOST and AUTO the run ends at once. -/
def startTdc (f u : Nat) (s : State) : State :=
  if (s.tdcRun f u).isSome then s
  else
    let s := (s.set (FCT_TDC_COUNT_COUNT f u) 0).set (FCT_TDC_STAT_STALE f u) 0
    let s := (s.raise (FCT_TDC_CTRL_START f u)).set (FCT_TDC_STAT_BUSY f u) 1
    let r : TdcRun :=
      { shot := 0, start := none, edgeA := none, edgeB := none, sum := 0, sumSq := 0, least := 2 ^ 64 - 1, most := 0 }
    let s := setTdc f u (some r) s
    if s.running then awaitStart f u r s else endTdc f u 2 s

/-- ABORT is written, or an event of R258 ends the run. -/
def abortTdc (f u : Nat) (s : State) : State := endTdc f u 2 s

/-- The shot is discarded (R248); the next begins at once. -/
def discardShot (f u : Nat) (r : TdcRun) (ovf : Bool) (s : State) : State :=
  let s := if ovf then raiseTmu f (FCT_TDC_STAT_OVF f u) s
           else pend (16 * f + 2) (s.countSat (FCT_TDC_TIMEOUTS_COUNT f u) 1)
  awaitStart f u { r with shot := r.shot + 1 } s

/-- The shot in progress is over without a stop when TDC_TIMEOUT has passed, or x would reach 2^40 (R248): the state with it
discarded, or nothing when it still runs at stamp `t`. -/
def shotExpired (f u : Nat) (r : TdcRun) (t : Nat) (s : State) : Option State :=
  match r.start with
  | none => none
  | some b =>
    let x := stampDiff t b
    let lim := ticksOf (s.get (FCT_TDC_TIMEOUT_TICKS f u))
    if lim ≠ 0 ∧ (lim : Int) < x then some (discardShot f u r false s)
    else if (2 ^ 40 : Int) ≤ x then some (discardShot f u r true s)
    else none

/-- The timeout of the shot in progress has passed. -/
def timeoutShot (f u : Nat) (s : State) : State :=
  match s.tdcRun f u with
  | none => s
  | some r => (shotExpired f u r s.now s).getD s

/-- A shot is counted (R248): the statistics, COUNT, LAST and LAST_AT, and the result stream. -/
def countShot (f u : Nat) (r : TdcRun) (b x : Nat) (s : State) : State :=
  let s := s.count (FCT_TDC_COUNT_COUNT f u) 1
  let s := (s.set (FCT_TDC_LAST_LAST f u) x).set (FCT_TDC_LAST_AT_AT f u) b
  let r := { r with shot := r.shot + 1, sum := r.sum + x, sumSq := r.sumSq + x * x, least := min r.least x
                    most := max r.most x }
  let s := setTdc f u (some r) s
  let s := offerShot f u b x (s.on (FCT_TDC_STAT_TIME_SUSPECT f u)) (s.on (FCT_TDC_STAT_STALE f u)) s
  if s.get (FCT_TDC_COUNT_COUNT f u) = s.get (FCT_TDC_CTRL_N_M1 f u) + 1 then endTdc f u 1 s else awaitStart f u r s

/-- Does an edge at stamp `t` pass the conditioning of an endpoint (R247)? The second part says whether it was too close to
the endpoint's last accepted edge. (Log: 72 DEDUCED) -/
def State.conditioned (s : State) (f u : Nat) (r : TdcRun) (stop : Bool) (t : Nat) : Bool × Bool :=
  let own := if stop then r.edgeB else r.edgeA
  let near : Bool := own.any fun e => decide (stampDiff t e < 4 * 256)
  let hold := ticksOf (if stop then s.get (FCT_TDC_HOLDOFF_STOP_HOLDOFF f u) else s.get (FCT_TDC_HOLDOFF_START_HOLDOFF f u))
  let held : Bool := (r.edgeA.toList ++ r.edgeB.toList).any fun e => decide (stampDiff t e < hold)
  (!near && !held, near)

/-- An event with stamp `t` at an endpoint of a unit that runs (R248); `edge` says that it is a comparator edge. -/
def tdcEvent (f u : Nat) (stop edge : Bool) (t : Nat) (s : State) : State :=
  match s.tdcRun f u with
  | none => s
  | some r =>
    let c : Bool × Bool := if edge then s.conditioned f u r stop t else (true, false)
    let s := if c.2 then raiseTmu f (FCT_TDC_STAT_RATE f u) s else s
    if !c.1 then s
    else
      let mark (s : State) : State := s.raiseIf (FCT_TDC_STAT_TIME_SUSPECT f u) (s.suspect f)
      match stop, r.start with
      | false, none =>
        mark (setTdc f u (some { r with start := some t, edgeA := if edge then some t else r.edgeA }) s)
      | true, some b =>
        match shotExpired f u r t s with
        | some s => s
        | none =>
          let same : Bool := s.tdcKind f u false = 0 && s.tdcKind f u true = 0 &&
            s.get (FCT_TDC_START_SEL_CH f u) == s.get (FCT_TDC_STOP_SEL_CH f u)
          let x := stampDiff t b
          if x < 0 || (same && decide (x < 4 * 256)) then s
          else countShot f u { r with edgeB := if edge then some t else r.edgeB } b x.toNat (mark s)
      | _, _ => s

/-- An event at the endpoints of every unit of a facet that match: the stop of a shot before the start of one, so that one
event does not both end a shot and begin the next. (Log: 72 DEDUCED) -/
def tdcEvents (f : Nat) (edge : Bool) (hits : Nat → Bool → Bool) (stamp : Nat → Bool → Nat) (s : State) : State :=
  (List.range 32).foldl (fun s u =>
    match s.tdcRun f u with
    | none => s
    | some r =>
      let waiting := r.start.isNone
      if waiting then
        -- an event that starts a shot may also be its stop (R248: stop and start with equal stamps)
        let s' := if hits u false then tdcEvent f u false edge (stamp u false) s else s
        if hits u true then tdcEvent f u true edge (stamp u true) s' else s'
      else
        let s' := if hits u true then tdcEvent f u true edge (stamp u true) s else s
        if hits u false ∧ ((s'.tdcRun f u).any fun q => q.start.isSome) then tdcEvent f u false edge (stamp u false) s'
        else s') s

/-- The stamp of an edge of channel index `i` at an endpoint: at the ball, or at the needle tip (R246). (Log: 59 DESIGN CHOICE) -/
def State.tipStamp (s : State) (f i t : Nat) (tip : Bool) : Nat :=
  if tip then (t + 2 ^ 64 - s.get (FCT_PPD_DELAY f i)) % 2 ^ 64 else t

/-- A comparator edge of channel `c`, EDGE code `e`, crosses at the ball at stamp `t` (R246). (Log: 59 DESIGN CHOICE) -/
def tdcEdge (c e t : Nat) (s : State) : State :=
  let f := c / 128
  let i := c % 128
  tdcEvents f true
    (fun u stop =>
      if stop then s.get (FCT_TDC_STOP_SEL_KIND f u) = 0 && s.get (FCT_TDC_STOP_SEL_CH f u) = i &&
        s.get (FCT_TDC_STOP_SEL_EDGE f u) = e
      else s.get (FCT_TDC_START_SEL_KIND f u) = 0 && s.get (FCT_TDC_START_SEL_CH f u) = i &&
        s.get (FCT_TDC_START_SEL_EDGE f u) = e)
    (fun u stop => s.tipStamp f i t (if stop then s.on (FCT_TDC_STOP_SEL_TIP f u) else s.on (FCT_TDC_START_SEL_TIP f u))) s

/-- An event of ray `r` (R245): VEV 0 the vector with VCOUNT `v`, 1 the phase's start, 2 its end, at stamp `t`. -/
def tdcVector (f r vev v t : Nat) (s : State) : State :=
  if s.tdc = [] then s
  else
    tdcEvents f false
      (fun u stop =>
        s.tdcKind f u stop = 1 &&
        (if stop then s.get (FCT_TDC_STOP_SEL_RAY f u) = r && s.get (FCT_TDC_STOP_SEL_VEV f u) = vev
         else s.get (FCT_TDC_START_SEL_RAY f u) = r && s.get (FCT_TDC_START_SEL_VEV f u) = vev) &&
        (vev != 0 || s.tdcArg f u stop == v))
      (fun _ _ => t) s

/-- The AXIS event of the shot in progress at an endpoint of a unit, if its time has come (R245). (Log: 73 DEDUCED) -/
def tdcAxis (f u : Nat) (stop : Bool) (s : State) : State :=
  match s.tdcRun f u with
  | none => s
  | some r =>
    let t := s.axisEvent f u stop r.shot
    if s.tdcKind f u stop = 2 && s.past t then tdcEvent f u stop false t s else s

/-! ## Regression counters -/

/-- The run of facet `f`'s counter, if one is in progress. -/
def State.rcRun (s : State) (f : Nat) : Option RcRun := Store.find (fun _ => none) s.rc f

/-- Set the run of facet `f`'s counter. -/
def setRc (f : Nat) (r : Option RcRun) (s : State) : State := { s with rc := Store.put (fun _ => none) s.rc f r }

/-- Write the results of R254. (Log: 74 DEDUCED) -/
def writeRc (f : Nat) (r : RcRun) (s : State) : State :=
  let m := r.count
  let s := s.set (FCT_RC_STAT_FEW f) (bit01 (m < 3))
  let s := (s.set (FCT_RC_FIRST_AT_AT f) r.first).set (FCT_RC_LAST_AT_AT f) r.last
  if m < 3 then ((s.set (FCT_RC_PERIOD_PERIOD f) 0).set (FCT_RC_FREQ_FREQ f) 0).set (FCT_RC_RESID_RESID f) 0
  else
    let q := m * m * (m * m - 1) / 12
    let num := m * r.skt - m * (m - 1) / 2 * r.st
    let period := (2 ^ 17 * num + q) / (2 * q)
    let freq := (2 * (1000 * 1600000000 * 2 ^ 24) + period) / (2 * period)
    let ssr := r.stt * m * q - r.st * r.st * q - num * num
    let resid := rootDiv (2 ^ 32 * ssr) (m * q * (m - 2))
    ((s.set (FCT_RC_PERIOD_PERIOD f) period).set (FCT_RC_FREQ_FREQ f) freq).set (FCT_RC_RESID_RESID f)
      (min (2 ^ 32 - 1) resid)

/-- The run of the counter ends (R253): END 1 GATE, 2 FULL, 3 ABORTED. -/
def endRc (f code : Nat) (s : State) : State :=
  match s.rcRun f with
  | none => s
  | some r =>
    let s := writeRc f r (setRc f none s)
    let s := ((s.set (FCT_RC_STAT_BUSY f) 0).set (FCT_RC_STAT_END f) code).set (FCT_RC_CTRL_START f) 0
    pend (16 * f + 1) (s.raise (FCT_TMU_STAT_RC_DONE f))

/-- START is written (R253). -/
def startRc (f : Nat) (s : State) : State :=
  if (s.rcRun f).isSome then s
  else
    let soon := stampAdd s.now (ticksOf 64)
    let at_ := s.get (FCT_RC_GATE_AT_AT f)
    let t := if s.on (FCT_RC_CTRL_TIMED f) && decide (0 ≤ stampDiff at_ soon) then at_ else soon
    let g := s.get (FCT_RC_GATE_TICKS f)
    let s := ((s.raise (FCT_RC_CTRL_START f)).set (FCT_RC_STAT_BUSY f) 1).set (FCT_RC_STAT_STALE f) 0
    let s := s.set (FCT_RC_M_M f) 0
    let s := setRc f (some
      { from_ := t, until_ := if g = 0 then none else some (stampAdd t (ticksOf g)), opened := false, edge := none
        first := 0, last := 0, count := 0, st := 0, skt := 0, stt := 0 }) s
    if s.running then s else endRc f 3 s

/-- The gate opens (R253). -/
def openGate (f : Nat) (s : State) : State :=
  match s.rcRun f with
  | some r => if s.past r.from_ then setRc f (some { r with opened := true }) s else s
  | none => s

/-- The gate ends (R253). -/
def closeGate (f : Nat) (s : State) : State :=
  match s.rcRun f with
  | some r =>
    match r.until_ with
    | some t => if s.past t then endRc f 1 s else s
    | none => s
  | none => s

/-- M_MAX (R253). (Log: 74 DEDUCED) -/
def State.rcMax (s : State) (f : Nat) : Nat :=
  if s.get (FCT_RC_CTRL_M_MAX f) = 0 then 2 ^ 20 else s.get (FCT_RC_CTRL_M_MAX f)

/-- A comparator edge meets the counter of its facet (R247, R253): it is stamped while the gate is open, both ends
included. -/
def rcEdge (c e t : Nat) (s : State) : State :=
  let f := c / 128
  let s := openGate f s
  match s.rcRun f with
  | none => s
  | some r =>
    if !r.opened || s.get (FCT_RC_SRC_CH f) != c % 128 || s.get (FCT_RC_SRC_EDGE f) != e ||
        (r.until_.any fun x => decide (0 < stampDiff t x)) then s
    else
      let near : Bool := r.edge.any fun x => decide (stampDiff t x < 4 * 256)
      let held : Bool := r.edge.any fun x => decide (stampDiff t x < ticksOf (s.get (FCT_RC_HOLDOFF_TICKS f)))
      let s := if near then raiseTmu f (FCT_RC_STAT_RATE f) s else s
      if near || held then s
      else
        let s := s.raiseIf (FCT_RC_STAT_TIME_SUSPECT f) (s.suspect f)
        let first := if r.count = 0 then t else r.first
        let x := (stampDiff t first).toNat
        let r := { r with edge := some t, first := first, last := t, count := r.count + 1, st := r.st + x
                          skt := r.skt + r.count * x, stt := r.stt + x * x }
        let s := setRc f (some r) (s.set (FCT_RC_M_M f) r.count)
        if s.rcMax f ≤ r.count then endRc f 2 s else s

/-! ## Together -/

/-- Every run of a facet ends ABORTED (R258). -/
def abortMeasurements (f : Nat) (s : State) : State :=
  endRc f 3 ((List.range 32).foldl (fun s u => abortTdc f u s) s)

/-- A calibration of facet `f` starts (R258, R363): the results held are stale. (Log: 125 DEDUCED) -/
def staleMeasurements (f : Nat) (s : State) : State :=
  let s := (List.range 32).foldl (fun s u => s.set (FCT_TDC_STAT_STALE f u) 1) s
  s.set (FCT_RC_STAT_STALE f) 1

/-- A write to TDC_CTRL (R251): while a run is in progress only ABORT acts. -/
def writeTdcCtrl (f u data : Nat) (s : State) : State :=
  if (s.tdcRun f u).isSome then if data.testBit 25 then abortTdc f u s else s
  else
    let s := s.set (FCT_TDC_CTRL_N_M1 f u) data
    let s := if data.testBit 24 then startTdc f u s else s
    if data.testBit 25 then abortTdc f u s else s

/-- A write to RC_CTRL (R255). -/
def writeRcCtrl (f data : Nat) (s : State) : State :=
  let s := (s.set (FCT_RC_CTRL_TIMED f) (data / 4)).set (FCT_RC_CTRL_M_MAX f) (data / 32)
  let s := if data.testBit 0 then startRc f s else s
  if data.testBit 1 then endRc f 3 s else s

end Sys2Proof.Machine
end

