-- ==== Sys2Proof/Machine/Wave.lean ====
section
/-!
DEFINITION. The level waveform generators of a facet (R181 to R186).
-/

namespace Sys2Proof.Machine
open Sys2Proof.Reg

/-- Generator states (R186). -/
def wgIdle : Nat := 0
@[inherit_doc wgIdle] def wgArmed : Nat := 1
@[inherit_doc wgIdle] def wgPlay : Nat := 2
@[inherit_doc wgIdle] def wgHeld : Nat := 3

/-- WG_STAT.STATE of generator `g`. -/
def State.wgState (s : State) (f g : Nat) : Nat := s.get (FCT_WG_STAT_STATE f g)

/-- The segments of the program (R182). -/
def State.wgSegments (s : State) (f g : Nat) : Nat :=
  let n := s.get (FCT_WG_CFG_NSEG f g)
  if n = 0 then 8 else n

/-- The first sample, the samples of one play and the plays of segment `k`. -/
def State.wgSegment (s : State) (f g k : Nat) : Nat × Nat × Nat :=
  (64 * s.get (FCT_WG_SEG_BASE_G f g k), 64 * s.get (FCT_WG_SEG_LEN_G f g k),
   s.get (FCT_WG_LOOPS_LOOPS f g k) + 1)

/-- A segment that a START refuses (R182). -/
def State.wgSegmentBad (s : State) (f g k : Nat) : Bool :=
  let x := s.wgSegment f g k
  decide (x.2.1 < 256) || decide (16384 < x.1 + x.2.1)

/-- The samples of the whole program. -/
def State.wgLength (s : State) (f g : Nat) : Nat :=
  ((List.range (s.wgSegments f g)).map fun k => (s.wgSegment f g k).2.1 * (s.wgSegment f g k).2.2).sum

/-- Where position `q` of the program falls: the segment, the position at which the current iteration of it ends, and the
sample's address. -/
def State.wgPlace (s : State) (f g : Nat) : Nat → List Nat → Nat × Nat × Nat
  | _, [] => (0, 0, 0)
  | q, k :: ks =>
    let x := s.wgSegment f g k
    if q < x.2.1 * x.2.2 then (k, (q / x.2.1 + 1) * x.2.1, x.1 + q % x.2.1)
    else
      let r := s.wgPlace f g (q - x.2.1 * x.2.2) ks
      (r.1, r.2.1 + x.2.1 * x.2.2, r.2.2)

/-- Sample `a` of the facet's waveform memory (R181). -/
def State.wgSample (s : State) (f a : Nat) : Int :=
  signed 16 (if a % 2 = 0 then s.get (FCT_WMEM_S0 f (a / 2)) else s.get (FCT_WMEM_S1 f (a / 2)))

/-- The position in the program that a position in the stream stands for, under REPEAT. -/
def State.wgWrap (s : State) (f g q : Nat) : Nat :=
  if s.on (FCT_WG_CFG_REPEAT f g) then q % s.wgLength f g else q

/-- Sample `q` of the stream (R182, R184): past the end of a stream that does not repeat, its last sample. -/
def State.wgStream (s : State) (f g q : Nat) : Int :=
  let n := s.wgLength f g
  let q := if s.on (FCT_WG_CFG_REPEAT f g) then q % n else min q (n - 1)
  s.wgSample f (s.wgPlace f g q (List.range (s.wgSegments f g))).2.2

/-- The sample period in use for a written TS (R185). -/
def limitTs (ts : Nat) : Nat := max 0x00400000 ts

/-- A W1C flag of WG_STAT sets (R180, R186): the source 16f + 15 pends when it was 0. (Log: 28 DEDUCED) -/
def raiseWg (f : Nat) (flag : Fld) (s : State) : State :=
  if s.on flag then s else pend (16 * f + 15) (s.raise flag)

/-- The generator enters HELD (R180). -/
def holdWg (f g : Nat) (s : State) : State :=
  if s.wgState f g = wgHeld then s else pend (16 * f + 15) (s.set (FCT_WG_STAT_STATE f g) wgHeld)

/-- The level sets of facet `f` that are bound to generator `g` take its output (R90). -/
def bindOutput (f g : Nat) (s : State) : State :=
  (List.range 16).foldl (fun s n =>
    if s.get (FCT_LS4_BIND f n) ≠ 0 ∧ s.get (FCT_LS4_GEN f n) = g then
      useLevels f n ((levelFields f n).filter fun x => bindCode x f n = s.get (FCT_LS4_BIND f n)) s
    else s) s

/-- The generator outputs a code. -/
def outputWg (f g : Nat) (v : Int) (s : State) : State :=
  let u := unsigned 16 v
  if s.get (FCT_WG_OUT_V f g) = u then s else bindOutput f g (s.set (FCT_WG_OUT_V f g) u)

/-- A sample period comes into use (R185). -/
def takeTs (f g : Nat) (s : State) : State :=
  let ts := s.get (FCT_WG_TS_TS f g)
  let s := modWave f g (fun w => { w with period := limitTs ts, newTs := none }) s
  if ts = limitTs ts then s else raiseWg f (FCT_WG_STAT_TS_CLIP f g) s

/-- A generator starts to play at stamp `t` (R183). -/
def playWg (f g t : Nat) (s : State) : State :=
  let s := modWave f g (fun w => { w with armed := none, from_ := t, base := 0, started := true }) s
  let s := takeTs f g s
  let s := (s.set (FCT_WG_STAT_STATE f g) wgPlay).set (FCT_WG_STARTED_AT_AT f g) t
  s.set (FCT_WG_STAT_SEG f g) 0

/-- Is the program refused (R182)? -/
def State.wgRefused (s : State) (f g : Nat) : Bool := (List.range (s.wgSegments f g)).any fun k => s.wgSegmentBad f g k

/-- The position at stamp `u` in units of 2^-16 sample (R184, R185): the quotient is kept exact until it is cut here. (Log: 71 DEDUCED) -/
def State.wgPosition (s : State) (f g u : Nat) : Nat :=
  let w := s.wave f g
  65536 * w.base + (stampDiff u w.from_).toNat * 2 ^ 24 / w.period

/-- The stamp at which the stream position reaches sample `q`, to the next 1/256 tick. (Log: 71 DEDUCED) -/
def State.wgTimeOf (s : State) (f g q : Nat) : Nat :=
  let w := s.wave f g
  stampAdd w.from_ (((q - w.base) * w.period + 255) / 256)

/-- The stream position at which the segment iteration that plays at stamp `u` ends. -/
def State.wgIterationEnd (s : State) (f g u : Nat) : Nat :=
  let i := s.wgPosition f g u / 65536
  let w := s.wgWrap f g i
  i - w + (s.wgPlace f g w (List.range (s.wgSegments f g))).2.1

/-- Latch a request, true for START, in place of an older one (R183). -/
def latchWg (f g : Nat) (b : Bool) (s : State) : State :=
  let s := if (s.wave f g).latched.isSome then raiseWg f (FCT_WG_STAT_REQ_LOST f g) s else s
  modWave f g (fun w => { w with latched := some b, latchEnd := s.wgIterationEnd f g s.now }) s

/-- START from WG_CMD (R183): armed for WG_AT or for 64 ticks from now, or latched in PLAY. -/
def startWg (f g : Nat) (timed : Bool) (s : State) : State :=
  if s.wgRefused f g then raiseWg f (FCT_WG_STAT_SEG_BAD f g) s
  else
    let soon := stampAdd s.now (ticksOf 64)
    let at_ := s.get (FCT_WG_AT_AT f g)
    let t := if timed && decide (0 ≤ stampDiff at_ soon) then at_ else soon
    if s.wgState f g = wgPlay then latchWg f g true s
    else
      let s := if s.wgState f g = wgArmed then raiseWg f (FCT_WG_STAT_REQ_LOST f g) s else s
      (modWave f g (fun w => { w with armed := some t }) s).set (FCT_WG_STAT_STATE f g) wgArmed

/-- START from a vector's WTRIG at stamp `t` (R183): it is taken at once, before a register request of the same stamp. -/
def triggerWg (f g t : Nat) (s : State) : State :=
  if s.wgRefused f g then raiseWg f (FCT_WG_STAT_SEG_BAD f g) s
  else if s.wgState f g = wgPlay then latchWg f g true s
  else
    let s := if s.wgState f g = wgArmed then raiseWg f (FCT_WG_STAT_REQ_LOST f g) s else s
    playWg f g t s

/-- STOP (R183): an armed start is cancelled; in PLAY it is latched. -/
def stopWg (f g : Nat) (s : State) : State :=
  if s.wgState f g = wgArmed then
    (modWave f g (fun w => { w with armed := none }) s).set (FCT_WG_STAT_STATE f g) wgIdle
  else if s.wgState f g = wgPlay then latchWg f g false s
  else s

/-- HALT (R183): the output holds its value, and armed and latched requests are discarded. -/
def haltWg (f g : Nat) (s : State) : State :=
  holdWg f g (modWave f g (fun w => { w with armed := none, latched := none, newTs := none }) s)

/-- HALT every generator of facet `f` (R64, R187). -/
def haltWaves (f : Nat) (s : State) : State := (List.range 4).foldl (fun s g => haltWg f g s) s

/-- HALT the generators of facet `f` that play (R187). -/
def haltPlaying (f : Nat) (s : State) : State :=
  (List.range 4).foldl (fun s g => if s.wgState f g = wgPlay ∨ s.wgState f g = wgArmed then haltWg f g s else s) s

/-- The start of an armed generator has come (R183). -/
def reachStart (f g : Nat) (s : State) : State :=
  match (s.wave f g).armed with
  | some t => if s.wgState f g = wgArmed && s.past t then playWg f g t s else s
  | none => s

/-- The output at an update at stamp `u` during PLAY (R184), with the ECC result of the sample reads (R186). (Log: 71 DEDUCED) -/
def updateWg (f g u : Nat) (ecc : Ecc) (s : State) : State :=
  if s.wgState f g ≠ wgPlay then s
  else if ecc = .double then raiseWg f (FCT_WG_STAT_UECC f g) (pulseLine (4 * f) (haltWg f g s))
  else
    let s := if ecc = .single then modFct f (fun x => { x with corrected := x.corrected + 1 }) s else s
    let p := s.wgPosition f g u
    let i := p / 65536
    let fr : Int := p % 65536
    let a := s.wgStream f g i
    let b := s.wgStream f g (i + 1)
    let s := s.set (FCT_WG_STAT_SEG f g) (s.wgPlace f g (s.wgWrap f g i) (List.range (s.wgSegments f g))).1
    let s := outputWg f g (a + ((b - a) * fr + 32768) / 65536) s
    if !s.on (FCT_WG_CFG_REPEAT f g) && decide (s.wgLength f g ≤ i + 1) then
      holdWg f g (modWave f g (fun w => { w with latched := none, newTs := none }) s)
    else s

/-- The end of the segment iteration in which a request was latched (R183): a START starts the program anew there, a STOP
holds the iteration's last sample. -/
def segmentEndWg (f g : Nat) (s : State) : State :=
  let w := s.wave f g
  let t := s.wgTimeOf f g w.latchEnd
  if s.wgState f g ≠ wgPlay || !s.past t then s
  else
    match w.latched with
    | some true => playWg f g t (modWave f g (fun w => { w with latched := none }) s)
    | some false =>
      let s := modWave f g (fun w => { w with latched := none, newTs := none }) s
      holdWg f g (outputWg f g (s.wgStream f g (w.latchEnd - 1)) s)
    | none => s

/-- A new TS comes into use where the position reaches the first multiple of 64 samples at or after T_app (R185). -/
def applyTs (f g : Nat) (s : State) : State :=
  match (s.wave f g).newTs with
  | some tapp =>
    let q := (s.wgPosition f g tapp + 64 * 65536 - 1) / (64 * 65536) * 64
    let t := s.wgTimeOf f g q
    if s.wgState f g = wgPlay && s.past t then takeTs f g (modWave f g (fun w => { w with from_ := t, base := q }) s)
    else s
  | none => s

/-- WG_IDLE has been written: it is the output until the first start (R184). -/
def idleOutput (f g : Nat) (s : State) : State :=
  if (s.wave f g).started || s.wgState f g = wgHeld then s else outputWg f g (signed 16 (s.get (FCT_WG_IDLE_V f g))) s

end Sys2Proof.Machine
end

