-- ==== Sys2Proof/Machine/Gen.lean ====
section
/-!
DEFINITION. The address, data and march generators of a ray (R164 to R177).
-/

namespace Sys2Proof.Machine
open Sys2Proof.Reg

/-! ## The GEN field (R165) -/

/-- The operation codes of a GEN field. -/
structure GenOps where
  x : Nat
  y : Nat
  z : Nat
  bus : Nat
  march : Bool
  dop : Nat
  wtrig : Nat
  reserved : Bool
  deriving DecidableEq, Repr

/-- Read a GEN field (R165); `reserved` says that it carries an encoding that R165 does not assign. (Log: 70 DEDUCED) -/
def genOps (g : Nat) : GenOps :=
  { x := bitsAt g 0 4, y := bitsAt g 4 4, z := bitsAt g 8 4, bus := bitsAt g 12 3, march := g.testBit 15
    dop := bitsAt g 16 4, wtrig := bitsAt g 20 4
    reserved := decide (8 ≤ bitsAt g 0 4) || decide (8 ≤ bitsAt g 4 4) || decide (8 ≤ bitsAt g 8 4) ||
      decide (6 ≤ bitsAt g 12 3) || decide (6 ≤ bitsAt g 16 4) || decide (bitsAt g 24 40 ≠ 0) }

/-! ## Address generators -/

/-- The configuration of one address generator. -/
structure AddrGen where
  width : Nat
  lo    : Nat
  hi    : Nat
  step  : Nat
  param : Nat
  deriving DecidableEq, Repr

/-- The X generator of a ray. -/
def State.genX (s : State) (f r : Nat) : AddrGen :=
  ⟨32, s.get (FCT_GEN_X_LO_V f r), s.get (FCT_GEN_X_HI_V f r), s.get (FCT_GEN_X_STEP_V f r),
   s.get (FCT_RAY_PARAM_PARAM f r 1)⟩

/-- The Y generator of a ray. -/
def State.genY (s : State) (f r : Nat) : AddrGen :=
  ⟨24, s.get (FCT_GEN_Y_LO_V f r), s.get (FCT_GEN_Y_HI_V f r), s.get (FCT_GEN_Y_STEP_V f r),
   s.get (FCT_RAY_PARAM_PARAM f r 2)⟩

/-- The Z generator of a ray. -/
def State.genZ (s : State) (f r : Nat) : AddrGen :=
  ⟨16, s.get (FCT_GEN_Z_BND_LO f r), s.get (FCT_GEN_Z_BND_HI f r), s.get (FCT_GEN_Z_STEP_V f r),
   s.get (FCT_RAY_PARAM_PARAM f r 3)⟩

/-- The outcome of an address operation: the value, the carry, and the limit flag (R168). -/
structure AddrOut where
  value : Nat
  carry : Bool
  limit : Bool
  deriving DecidableEq, Repr

/-- One address operation (R167) on value `v` with limit flag `lim`, and the flag as R168 leaves it. -/
def addrOp (g : AddrGen) (code v : Nat) (lim cin : Bool) : AddrOut :=
  let out (w : Nat) (c : Bool) : AddrOut := ⟨w % 2 ^ g.width, c, if c then true else if w % 2 ^ g.width = v then lim else false⟩
  let inc := if g.hi ≤ v ∨ g.hi - v < g.step then out g.lo true else out (v + g.step) false
  let dec := if v ≤ g.lo ∨ v - g.lo < g.step then out g.hi true else out (v - g.step) false
  match code with
  | 1 => inc
  | 2 => dec
  | 3 => if cin then inc else ⟨v, false, lim⟩
  | 4 => if cin then dec else ⟨v, false, lim⟩
  | 5 => out g.lo false
  | 6 => out g.hi false
  | 7 => out g.param false
  | _ => ⟨v, false, lim⟩

/-- INC and INCC act as DEC and DECC in a descending march element (R175). -/
def turnOp (code : Nat) : Nat := if code = 1 then 2 else if code = 3 then 4 else code

/-- The three address operations of a vector with the carry chain Y, X, Z (R168); `down` is a descending element. The
answer says whether the last generator whose operation is not HOLD gave carry 1. (Log: 70 DEDUCED) -/
def addrOps (f r : Nat) (o : GenOps) (down : Bool) (s : State) : Bool × State :=
  let t (c : Nat) : Nat := if down then turnOp c else c
  let y := addrOp (s.genY f r) (t o.y) (s.get (FCT_GEN_Y_V f r)) (s.on (FCT_GEN_Z_YLIM f r)) true
  let x := addrOp (s.genX f r) (t o.x) (s.get (FCT_GEN_X_V f r)) (s.on (FCT_GEN_Z_XLIM f r)) y.carry
  let z := addrOp (s.genZ f r) (t o.z) (s.get (FCT_GEN_Z_V f r)) (s.on (FCT_GEN_Z_ZLIM f r)) x.carry
  let last := if o.z ≠ 0 then z.carry else if o.x ≠ 0 then x.carry else if o.y ≠ 0 then y.carry else false
  let s := (s.set (FCT_GEN_Y_V f r) y.value).set (FCT_GEN_Z_YLIM f r) (bit01 y.limit)
  let s := (s.set (FCT_GEN_X_V f r) x.value).set (FCT_GEN_Z_XLIM f r) (bit01 x.limit)
  (last, (s.set (FCT_GEN_Z_V f r) z.value).set (FCT_GEN_Z_ZLIM f r) (bit01 z.limit))

/-! ## Scrambling and composite addresses -/

/-- The scramble stage (R169) of the generator with SCR register `j` (0 X, 1 Y, 2 Z). -/
def State.scramble (s : State) (f r j width v : Nat) : Nat :=
  if !s.on (FCT_GEN_SCR_EN f r j) then v
  else
    let lsb := s.get (FCT_GEN_SCR_LSB f r j)
    let bits := max 1 (min 12 (s.get (FCT_GEN_SCR_BITS f r j)))
    let e := s.get (FCT_SCR_ENTRY f ((s.get (FCT_GEN_SCR_BASE f r j) + bitsAt v lsb bits) % 4096))
    if s.on (FCT_GEN_SCR_MODE f r j) then (v ^^^ e) % 2 ^ width
    else (andNot v ((2 ^ bits - 1) <<< lsb) ||| ((e % 2 ^ bits) <<< lsb)) % 2 ^ width

/-- The physical values XP, YP and ZP (R169). -/
def State.genXP (s : State) (f r : Nat) : Nat := s.scramble f r 0 32 (s.get (FCT_GEN_X_V f r))
@[inherit_doc State.genXP] def State.genYP (s : State) (f r : Nat) : Nat := s.scramble f r 1 24 (s.get (FCT_GEN_Y_V f r))
@[inherit_doc State.genXP] def State.genZP (s : State) (f r : Nat) : Nat := s.scramble f r 2 16 (s.get (FCT_GEN_Z_V f r))

/-- ROW (R170). -/
def State.genRow (s : State) (f r : Nat) : Nat :=
  wrap 32 (s.genXP f r ||| (s.genZP f r <<< s.get (FCT_GEN_MAP_ZSHIFT f r)))

/-- The address word A (R170). -/
def State.genAddr (s : State) (f r : Nat) : Nat :=
  wrap 32 (s.genYP f r ||| (s.genRow f r <<< min 24 (s.get (FCT_GEN_MAP_YWIDTH f r))))

/-- Byte `j` of the ADR sequence for a die type (R170). -/
def State.genAdrByte (s : State) (f r dt j : Nat) : Nat :=
  let c := s.mapGet (ARC_DT0_COL_CYCLES dt)
  let w := s.mapGet (ARC_DT0_ROW_CYCLES dt)
  if j < c then bitsAt (s.genYP f r) (8 * j) 8
  else if j < c + w then bitsAt (s.genRow f r) (8 * (j - c)) 8
  else 0

/-! ## Data -/

/-- The background B (R172). -/
def State.background (s : State) (f r : Nat) : Nat :=
  let d := s.get (FCT_GEN_DPAT_V f r)
  let x := s.genXP f r
  let y := s.genYP f r
  let inv : Bool :=
    match s.get (FCT_GEN_DCFG_BG f r) with
    | 1 => (x ^^^ y).testBit 0
    | 2 => x.testBit 0
    | 3 => y.testBit 0
    | 4 =>
      let m := (x &&& s.get (FCT_GEN_AMASK_X_V f r)) ^^^ (y &&& s.get (FCT_GEN_AMASK_Y_V f r))
      (setBits 32 m).length % 2 = 1
    | _ => false
  if inv then d ^^^ 0xFFFFFFFF else d

/-- The source of the data generator, with SRC 3 acting as 0 (R172). -/
def State.dataSource (s : State) (f r : Nat) : Nat := s.get (FCT_GEN_DCFG_SRC f r) % 3

/-- The width of LFSR data, with DWIDTH 3 acting as 2 (R172, R173). -/
def State.dataWidth (s : State) (f r : Nat) : Nat :=
  match s.get (FCT_GEN_DCFG_DWIDTH f r) with | 0 => 8 | 1 => 16 | _ => 32

/-- One LFSR step (R173). -/
def lfsrStep (x : Nat) : Nat := if x.testBit 0 then (x / 2) ^^^ 0x80200003 else x / 2

/-- `n` LFSR steps. -/
def lfsrSteps : Nat → Nat → Nat
  | 0, x => x
  | n + 1, x => lfsrSteps n (lfsrStep x)

/-- The LFSR state of a gang position. -/
def State.lfsrState (s : State) (f r pos : Nat) : Nat := Store.find (fun _ => 1) (s.ray f r).lfsr pos

/-- The seed of R173 for a vertex. -/
def State.lfsrSeed (s : State) (f r v x z : Nat) : Nat :=
  let vv := if s.on (FCT_GEN_DCFG_VSEED f r) then v else 0
  let sw := if s.on (FCT_GEN_DCFG_SEED_SRC f r) then s.get (FCT_RAY_PARAM_PARAM f r 7) else s.get (FCT_GEN_SEED_V f r)
  let h := sw ^^^ wrap 32 (vv * 0x9E3779B1)
  let h := wrap 32 ((h ^^^ wrap 32 (z * 65536) ^^^ x) * 0x85EBCA6B)
  let h := h ^^^ (h >>> 15)
  let h := wrap 32 (h * 0xC2B2AE35)
  let h := h ^^^ (h >>> 13)
  if h = 0 then 1 else h

/-- The elements of the march table, 0 where the number is out of range (R175). -/
def State.marchElems (s : State) (f r : Nat) : Nat :=
  let n := s.get (FCT_GEN_MARCH_CFG_ELEMS f r)
  if n ≤ 16 then n else 0

/-- Would a march vector be an overrun (R175)? (Log: 65 DEDUCED) -/
def State.marchOver (s : State) (f r : Nat) : Bool := s.on (FCT_GEN_MPOS_DONE f r) || s.marchElems f r = 0

/-- The POL bit of the march engine's current operation (R175). -/
def State.marchPol (s : State) (f r : Nat) : Bool :=
  (s.get (FCT_MARCH_POL f r (s.get (FCT_GEN_MPOS_ELEM f r)))).testBit (s.get (FCT_GEN_MPOS_OP f r))

/-- Does the march engine's current operation write (R175)? -/
def State.marchWrites (s : State) (f r : Nat) : Bool :=
  (s.get (FCT_MARCH_WRITE f r (s.get (FCT_GEN_MPOS_ELEM f r)))).testBit (s.get (FCT_GEN_MPOS_OP f r))

/-- W of a beat under DATA for a gang position (R172, R173, R175). -/
def State.dataWord (s : State) (f r pos beat : Nat) (o : GenOps) : Nat :=
  let inv (b : Bool) (w : Nat) : Nat := if b then w ^^^ 0xFFFFFFFF else w
  if o.march then inv (s.marchPol f r) (s.background f r)
  else if s.dataSource f r = 1 then
    inv ((s.on (FCT_GEN_MPOS_STARTED f r) || decide (s.get (FCT_GEN_MPOS_ELEM f r) ≠ 0)) && !s.on (FCT_GEN_MPOS_DONE f r) && s.marchPol f r) (s.background f r)
  else if s.dataSource f r = 2 then
    let n := s.dataWidth f r
    let x := s.lfsrState f r pos
    let x := if o.dop = 1 then lfsrSteps (n * beat) x else x
    if s.on (FCT_GEN_Z_DINV f r) then (x % 2 ^ n) ^^^ (2 ^ n - 1) else x % 2 ^ n
  else inv (s.on (FCT_GEN_Z_DINV f r)) (s.background f r)

/-- W of a beat (R171): `j` is the vector's index within its word, `dt` the die type of the chord. -/
def State.busWord (s : State) (f r pos beat j dt : Nat) (ddr : Bool) (o : GenOps) : Nat :=
  let n := j * (1 + bit01 ddr) + beat
  match o.bus with
  | 1 => s.genXP f r
  | 2 => s.genYP f r
  | 3 => s.genZP f r
  | 4 => s.genAdrByte f r dt n
  | 5 => bitsAt (s.get (FCT_RAY_PARAM_PARAM f r 0)) (8 * (n % 4)) 8
  | _ => s.dataWord f r pos beat o

/-- The bit that DN, DI, CN and CI use on a role (R171). -/
def State.roleBit (s : State) (f r pos beat j dt role : Nat) (ddr : Bool) (o : GenOps) : Bool :=
  let a := s.get (FCT_GEN_MAP_AFIRST f r)
  if a ≤ role ∧ role < a + s.get (FCT_GEN_MAP_AWIDTH f r) then (s.genAddr f r).testBit (role - a)
  else (s.busWord f r pos beat j dt ddr o).testBit ((role + 32 - s.get (FCT_GEN_MAP_DFIRST f r)) % 32)

/-! ## The course of a phase -/

/-- A GFLAGS bit sets: the source 16f + 7 pends when it was 0 (R180). (Log: 28 DEDUCED) -/
def raiseGen (f : Nat) (flag : Fld) (s : State) : State := if s.on flag then s else pend (16 * f + 7) (s.raise flag)

/-- The generator set as the ray enters RUN (R164), with the checks of R167 and R172. -/
def startGen (f r : Nat) (s : State) : State :=
  let x := s.genX f r
  let y := s.genY f r
  let z := s.genZ f r
  let s := (s.set (FCT_GEN_X_V f r) x.lo).set (FCT_GEN_Y_V f r) y.lo
  let s := s.setReg (FCT_GEN_Z f r) (BitVec.ofNat 64 z.lo)
  let s := s.set (FCT_GEN_Z_DINV f r) (s.get (FCT_GEN_DCFG_INV0 f r))
  let s := s.setReg (FCT_GEN_MPOS f r) 0
  let s := modRay f r (fun y => { y with lfsr := [] }) s
  let s := if x.hi < x.lo ∨ y.hi < y.lo ∨ z.hi < z.lo then raiseGen f (FCT_GEN_GFLAGS_GEN_RANGE f r) s else s
  if s.get (FCT_GEN_DCFG_SRC f r) = 3 ∨ 5 ≤ s.get (FCT_GEN_DCFG_BG f r) ∨ s.get (FCT_GEN_DCFG_DWIDTH f r) = 3 then
    raiseGen f (FCT_GEN_GFLAGS_DCFG_BAD f r) s
  else s

/-- Is an operation code neither HOLD nor a load (R175)? -/
def moves (code : Nat) : Bool := 1 ≤ code && code ≤ 4

/-- The start of a march element (R175, step 1). (Log: 70 DEDUCED) -/
def startElement (f r : Nat) (o : GenOps) (s : State) : State :=
  if s.on (FCT_GEN_MPOS_STARTED f r) then s
  else
    let down := s.on (FCT_MARCH_DIR f r (s.get (FCT_GEN_MPOS_ELEM f r)))
    let first (g : AddrGen) : Nat := if down then g.hi else g.lo
    let s := if moves o.x then s.set (FCT_GEN_X_V f r) (first (s.genX f r)) else s
    let s := if moves o.y then s.set (FCT_GEN_Y_V f r) (first (s.genY f r)) else s
    let s := if moves o.z then s.set (FCT_GEN_Z_V f r) (first (s.genZ f r)) else s
    s.raise (FCT_GEN_MPOS_STARTED f r)

/-- What a vector does before its words are formed: an overrun is flagged, and a march element starts (R175). (Log: 61 DEDUCED, 65 DEDUCED) -/
def beforeVector (f r : Nat) (o : GenOps) (s : State) : State :=
  if !o.march then s
  else if s.marchOver f r then raiseGen f (FCT_GEN_GFLAGS_MARCH_OVERRUN f r) s
  else startElement f r o s

/-- What a march vector does after it (R175, steps 3 and 4). -/
def afterMarch (f r : Nat) (o : GenOps) (s : State) : State :=
  let e := s.get (FCT_GEN_MPOS_ELEM f r)
  let k := s.get (FCT_GEN_MPOS_OP f r)
  if k < s.get (FCT_MARCH_NOPS_M1 f r e) then s.set (FCT_GEN_MPOS_OP f r) (k + 1)
  else
    let (carry, s) := addrOps f r o (s.on (FCT_MARCH_DIR f r e)) s
    let s := s.set (FCT_GEN_MPOS_OP f r) 0
    if carry then
      let s := (s.set (FCT_GEN_MPOS_ELEM f r) (e + 1)).set (FCT_GEN_MPOS_STARTED f r) 0
      if s.marchElems f r ≤ e + 1 then s.raise (FCT_GEN_MPOS_DONE f r) else s
    else s

/-- The data operation of a vector (R174), with X and Z as they stood at its start. (Log: 70 DEDUCED) -/
def afterData (f r : Nat) (o : GenOps) (ddr : Bool) (x z : Nat) (s : State) : State :=
  let y := s.ray f r
  let positions := List.range (max 1 y.gang.length)
  match o.dop with
  | 1 =>
    if s.dataSource f r = 2 then
      let n := s.dataWidth f r * (1 + bit01 ddr)
      let l := positions.foldl (fun m p => Store.put (fun _ => 1) m p (lfsrSteps n (s.lfsrState f r p))) y.lfsr
      modRay f r (fun y => { y with lfsr := l }) s
    else s
  | 2 =>
    let l := positions.foldl (fun m p => Store.put (fun _ => 1) m p (s.lfsrSeed f r (y.gang.getD p 0) x z)) y.lfsr
    modRay f r (fun y => { y with lfsr := l }) s
  | 3 => s.set (FCT_GEN_Z_DINV f r) (1 - s.get (FCT_GEN_Z_DINV f r))
  | 4 => s.set (FCT_GEN_Z_DINV f r) 1
  | 5 => s.set (FCT_GEN_Z_DINV f r) 0
  | _ => s

/-- The address and data operations that act together after a vector (R166, R175). -/
def afterVector (f r : Nat) (o : GenOps) (ddr : Bool) (s : State) : State :=
  if o.march then if s.marchOver f r then s else afterMarch f r o s
  else
    let x := s.get (FCT_GEN_X_V f r)
    let z := s.get (FCT_GEN_Z_V f r)
    afterData f r o ddr x z (addrOps f r o false s).2

end Sys2Proof.Machine
end

