-- ==== Sys2Proof/Machine/Locus.lean ====
section
/-!
DEFINITION. The Locus engine (R131 to R157): words and their control operations, streams, vectors, segments, requests and
the ends of phases.
-/

namespace Sys2Proof.Machine
open Sys2Proof.Reg

/-! ## The instruction word (R137) -/

/-- A microcode or stream word. -/
structure UWord where
  sym    : Nat
  rep    : Nat
  tso    : Nat
  seg    : Bool
  ss     : Bool
  gmask  : Nat
  gen    : Nat
  addr   : Nat
  opc    : Nat
  cond   : Nat
  csrc   : Nat
  rsel   : Nat
  rateEn : Bool
  count  : Nat
  ddr    : Bool
  rsvd   : Nat
  deriving DecidableEq, Repr

/-- The fields of a 256-bit word (R137). -/
def uword (x : Nat) : UWord :=
  { sym := bitsAt x 0 96, rep := bitsAt x 96 16, tso := bitsAt x 112 6, seg := x.testBit 118, ss := x.testBit 119
    gmask := bitsAt x 120 8, gen := bitsAt x 128 64, addr := bitsAt x 192 16, opc := bitsAt x 208 5
    cond := bitsAt x 213 4, csrc := bitsAt x 217 3, rsel := bitsAt x 220 3, rateEn := x.testBit 223
    count := bitsAt x 224 24, ddr := x.testBit 248, rsvd := bitsAt x 249 7 }

/-- Control operations (R139). -/
def opcNop : Nat := 0
@[inherit_doc opcNop] def opcLoop : Nat := 1
@[inherit_doc opcNop] def opcCall : Nat := 2
@[inherit_doc opcNop] def opcRet : Nat := 3
@[inherit_doc opcNop] def opcBr : Nat := 4
@[inherit_doc opcNop] def opcGang : Nat := 5
@[inherit_doc opcNop] def opcStrm : Nat := 6
@[inherit_doc opcNop] def opcEnd : Nat := 7

/-- Error codes (R157). -/
def errNoEntry : Nat := 1
@[inherit_doc errNoEntry] def errBadWord : Nat := 2
@[inherit_doc errNoEntry] def errAlign : Nat := 3
@[inherit_doc errNoEntry] def errStack : Nat := 4
@[inherit_doc errNoEntry] def errGangSize : Nat := 5
@[inherit_doc errNoEntry] def errSegPos : Nat := 6
@[inherit_doc errNoEntry] def errUecc : Nat := 7
@[inherit_doc errNoEntry] def errStreamFormat : Nat := 8
@[inherit_doc errNoEntry] def errStreamSize : Nat := 9
@[inherit_doc errNoEntry] def errQueueCfg : Nat := 10

/-- End causes (R157). -/
def endEnd : Nat := 0
@[inherit_doc endEnd] def endStop : Nat := 1
@[inherit_doc endEnd] def endAbort : Nat := 2
@[inherit_doc endEnd] def endUnderflow : Nat := 3
@[inherit_doc endEnd] def endError : Nat := 4
@[inherit_doc endEnd] def endCut : Nat := 5

/-- A word with a reserved bit, encoding or condition, or an unassigned OPC (R138, R139, R165). -/
def UWord.bad (w : UWord) : Bool :=
  w.rsvd != 0 || decide (opcEnd < w.opc) || (genOps w.gen).reserved || (w.opc == opcBr && decide (5 ≤ w.cond % 8))

/-- The vectors of a word (R137, R143). (Log: 61 DEDUCED) -/
def UWord.vectors (w : UWord) : Nat := if w.opc = opcGang then (w.rep + 1) * w.count else w.rep + 1

/-! ## Fetching -/

/-- Where word `a` of facet `f`'s microcode lies. -/
def ucodeAddr (f a : Nat) : Nat := f * 0x200000 + a * 32

/-- Where word `i` of the queue of ray `r` lies in the facet's stream buffer (R149). -/
def State.queueAddr (s : State) (f r i : Nat) : Nat :=
  f * 0x100000 + (s.get (FCT_SQ_CFG_BASE f r) + i % max 1 (s.get (FCT_SQ_CFG_SIZE f r))) * 32

/-- Has word `i` of the queue been fetched (R149)? -/
def State.queueHas (s : State) (f r i : Nat) : Bool :=
  let d := indexDiff (s.get (FCT_SQ_FETCHED_FETCHED f r)) i
  0 < d && d ≤ 32768

/-- Where a ray fetches: its position, stacks and stream, as it is or as it will be. -/
structure Cursor where
  pc     : Nat
  inStream : Bool
  loops  : List Loop
  calls  : List (Nat × Bool)
  played : Nat
  block  : Option Block
  header : Nat
  ret    : Nat
  vcount : Nat
  segAt  : Nat
  deriving DecidableEq, Repr

/-- The cursor of a ray. -/
def State.cursor (s : State) (f r : Nat) : Cursor :=
  let y := s.ray f r
  { pc := s.get (FCT_RAY_PC_ADDR f r), inStream := s.on (FCT_RAY_PC_IN_STREAM f r), loops := y.loops, calls := y.calls
    played := y.played, block := y.block, header := y.header, ret := y.ret
    vcount := s.get (FCT_RAY_VCOUNT_VCOUNT f r), segAt := y.segAt }

/-- Store a cursor in its ray. -/
def putCursor (f r : Nat) (c : Cursor) (s : State) : State :=
  let s := modRay f r (fun y => { y with loops := c.loops, calls := c.calls, played := c.played, block := c.block
                                         header := c.header, ret := c.ret, segAt := c.segAt }) s
  let s := (s.set (FCT_RAY_PC_ADDR f r) c.pc).set (FCT_RAY_PC_IN_STREAM f r) (bit01 c.inStream)
  (s.set (FCT_RAY_PC_LOOP_DEPTH f r) c.loops.length).set (FCT_RAY_PC_CALL_DEPTH f r) c.calls.length

/-- The word at a cursor. -/
def State.wordAt (s : State) (f r : Nat) (c : Cursor) : UWord :=
  match c.inStream, c.block with
  | true, some b => uword (Memory.word s.stream (s.queueAddr f r (b.header + 1 + c.pc)) 32)
  | _, _ => uword (Memory.word s.ucode (ucodeAddr f c.pc) 32)

/-- A stream's queue is disabled, out of range or overlaps another queue of the facet (R149). -/
def State.queueBad (s : State) (f r : Nat) : Bool :=
  let b (r : Nat) := s.get (FCT_SQ_CFG_BASE f r)
  let n (r : Nat) := s.get (FCT_SQ_CFG_SIZE f r)
  n r = 0 || decide (32768 < b r + n r) ||
  (List.range 32).any fun q => q != r && n q != 0 && decide (b q < b r + n r) && decide (b r < b q + n q)

/-- Read the header word of the next block (R150): the block, or the error with which the phase ends. (Log: 63 DEDUCED) -/
def State.readHeader (s : State) (f r : Nat) (c : Cursor) : Except Nat Block :=
  let h := Memory.word s.stream (s.queueAddr f r c.header) 32
  let words := bitsAt h 0 16
  let vectors := bitsAt h 32 32
  if s.queueBad f r then .error errQueueCfg
  else if words = 0 ∨ 32767 < words ∨ bitsAt h 16 16 ≠ 0xA55A ∨ vectors < 256 ∨ vectors % 32 ≠ 0 ∨ bitsAt h 65 191 ≠ 0 then
    .error errStreamFormat
  else if s.get (FCT_SQ_CFG_SIZE f r) < words + 1 then .error errStreamSize
  else .ok ⟨c.header, words, vectors, h.testBit 64, c.vcount⟩

/-- A word of a block that makes the block invalid (R150). (Log: 63 DEDUCED) -/
def blockWordBad (b : Block) (w : UWord) : Bool :=
  w.seg || w.opc == opcStrm || ((w.opc == opcLoop || w.opc == opcBr) && decide (b.words ≤ w.addr))

/-! ## Control -/

/-- What follows a word: fetch goes on at a cursor, the phase ends at END, or it ends with an error. -/
inductive Next where
  | go (c : Cursor)
  | finish (c : Cursor)
  | fail (err : Nat)
  deriving DecidableEq, Repr

/-- Does a loop body end at this word? -/
def Loop.endsAt (l : Loop) (c : Cursor) : Bool := l.last == c.pc && l.inStream == c.inStream

/-- The evaluation of the loops that end at a word (R141): the loops left open, innermost first, and the word to which
fetch returns, if one loop goes on. -/
def evalLoops (c : Cursor) : List Loop → List Loop × Option Nat
  | [] => ([], none)
  | l :: ls =>
    if l.endsAt c then
      if 1 < l.left then ({ l with left := l.left - 1 } :: ls, some l.first) else evalLoops c ls
    else
      let x := evalLoops c ls
      (l :: x.1, x.2)

/-- A control word (R140). -/
def controlWord (c : Cursor) (w : UWord) : Bool :=
  w.opc ∈ [opcLoop, opcCall, opcRet, opcBr, opcStrm, opcEnd] || w.seg || w.rateEn || c.loops.any fun l => l.endsAt c

/-- The condition of a BR word (R139). -/
def State.branchTaken (s : State) (f r : Nat) (w : UWord) : Bool :=
  let b : Bool :=
    match w.cond % 8 with
    | 0 => true
    | 1 => s.on (FCT_GEN_Z_XLIM f r)
    | 2 => s.on (FCT_GEN_Z_YLIM f r)
    | 3 => s.on (FCT_GEN_Z_ZLIM f r)
    | _ => (s.ray f r).failed
  if w.cond.testBit 3 then !b else b

/-- The control operation of a word after its last vector (R139, R142). -/
def State.controlOp (s : State) (f r : Nat) (c : Cursor) (w : UWord) : Next :=
  let next : Cursor := { c with pc := (c.pc + 1) % 65536 }
  match w.opc with
  | 1 =>
    let n := if w.csrc = 0 then w.count else s.get (FCT_RAY_PARAM_PARAM f r w.csrc)
    if n = 0 then .go { c with pc := (w.addr + 1) % 65536 }
    else if 8 ≤ c.loops.length then .fail errStack
    else .go { next with loops := ⟨next.pc, w.addr, n, c.inStream⟩ :: c.loops }
  | 2 =>
    if 16 ≤ c.calls.length then .fail errStack
    else .go { c with calls := (next.pc, c.inStream) :: c.calls, pc := w.addr, inStream := false }
  | 3 =>
    match c.calls with
    | [] => .fail errStack
    | (a, b) :: cs => .go { c with calls := cs, pc := a, inStream := b }
  | 4 => if s.branchTaken f r w then .go { c with pc := w.addr } else .go next
  | 6 =>
    if c.block.isSome then .fail errStreamFormat
    else if c.vcount - c.segAt < 256 then .fail errSegPos
    else .go { c with inStream := true, block := none, ret := next.pc, pc := 0 }
  | 7 => .finish c
  | _ => .go next

/-- A block whose words are all played (R150, R152): it must have played its VECTORS; fetch goes on at the next header, or
in microcode after the last block. (Log: 63 DEDUCED) -/
def endBlock (c : Cursor) : Next :=
  match c.inStream, c.block with
  | true, some b =>
    if c.pc < b.words then .go c
    else if c.vcount - b.start ≠ b.vectors then .fail errStreamFormat
    else if b.final then .go { c with inStream := false, block := none, pc := c.ret, header := b.header + 1 + b.words }
    else .go { c with block := none, pc := 0, header := b.header + 1 + b.words }
  | _, _ => .go c

/-- What follows a word whose last vector has been played, `c` counting that vector (R140, R141). -/
def State.afterWord (s : State) (f r : Nat) (c : Cursor) (w : UWord) : Next :=
  if controlWord c w && c.vcount % 32 != 0 then .fail errAlign
  else
    let (ls, back) := evalLoops c c.loops
    let c := { c with loops := ls, played := 0 }
    match back with
    | some a => .go { c with pc := a }
    | none =>
      match s.controlOp f r c w with
      | .go c' => endBlock c'
      | .finish c' =>
        match c'.block with
        | some b => if c'.vcount - b.start = b.vectors then .finish c' else .fail errStreamFormat
        | none => .finish c'
      | .fail e => .fail e

/-! ## Availability of granules (R152) -/

/-- Are the words of the `need` vectors that follow the next `skip` vectors in the queue? The control path is followed with
the flags as they stand; a path that ends or fails needs nothing more. (Log: 66 DEDUCED) -/
def State.walk (s : State) (f r : Nat) : Nat → Cursor → Nat → Nat → Bool
  | 0, _, _, _ => true
  | fuel + 1, c, skip, need =>
    if need = 0 then true
    else
      let opened : Option (Except Nat Cursor) :=
        if c.inStream && c.block.isNone then
          if !s.queueHas f r c.header then none
          else
            match s.readHeader f r c with
            | .ok b => some (.ok { c with block := some b })
            | .error e => some (.error e)
        else some (.ok c)
      match opened with
      | none => false
      | some (.error _) => true
      | some (.ok c) =>
        let here : Bool :=
          match c.inStream, c.block with
          | true, some b => s.queueHas f r (b.header + 1 + c.pc)
          | _, _ => true
        if !here then false
        else
          let w := s.wordAt f r c
          let rem := w.vectors - c.played
          if skip + need ≤ rem then true
          else
            match s.afterWord f r { c with vcount := c.vcount + rem } w with
            | .go c' => s.walk f r fuel c' (skip - rem) (need - (rem - skip))
            | _ => true

/-- Is the granule that starts `skip` vectors from here available in this facet? -/
def State.granuleHere (s : State) (f r skip : Nat) : Bool := s.walk f r 130 (s.cursor f r) skip 32

/-- Is it available in every facet of the ray's chord (R152)? -/
def State.granuleAll (s : State) (k skip : Nat) : Bool := (s.chordRays k).all fun x => s.granuleHere x.1 x.2 skip

/-- The decision about the next granule of the chord's rays (R152): the one after the granule being played, or after the
hold granule. (Log: 66 DEDUCED) -/
def decideGranule (k : Nat) (s : State) : State :=
  let rays := (s.chordRays k).filter fun x => s.rayState x.1 x.2 = rayRun ∨ s.rayState x.1 x.2 = rayHold
  match rays with
  | [] => s
  | (f, r) :: _ =>
    let v := s.get (FCT_RAY_VCOUNT_VCOUNT f r)
    let skip := if s.rayState f r = rayHold then 0 else 32 - v % 32
    let ok := s.granuleAll k skip
    rays.foldl (fun s x => modRay x.1 x.2 (fun y => { y with ready := some (v + skip, ok) }) s) s

/-! ## Flags, fills and ends -/

/-- A flag of FCT_RAY_FLAGS sets; `src` pends when it was 0. (Log: 28 DEDUCED) -/
def raiseRay (flag : Fld) (src : Nat) (s : State) : State := if s.on flag then s else pend src (s.raise flag)

/-- Capture the position (R154): the segment, VCOUNT, and the loop counters, outermost first. -/
def capturePosition (f r : Nat) (s : State) : State :=
  let s := s.set (FCT_RAY_UPOS_SEG_SEG f r) (s.get (FCT_RAY_SEGS_SEGS f r))
  let s := s.set (FCT_RAY_UPOS_VCOUNT_VCOUNT f r) (s.get (FCT_RAY_VCOUNT_VCOUNT f r))
  let ls := (s.ray f r).loops.reverse.map Loop.left
  (List.range 8).foldl (fun s i => s.set (FCT_RAY_UPOS_LOOP_LOOP f r i) (ls.getD i 0)) s

/-- A ray enters FILL (R154, R157) for `left` vectors; `err` 0 is an underflow. (Log: 67 DEDUCED) -/
def enterFill (f r err left : Nat) (s : State) : State :=
  let s := modRay f r (fun y => { y with err := err, left := left }) s
  capturePosition f r (s.set (FCT_RAY_STAT_STATE f r) rayFill)

/-- A phase ends with an error at the position of the ray: FILL, to the next granule boundary only (R157). (Log: 67 DEDUCED) -/
def failRay (f r err : Nat) (s : State) : State := enterFill f r err (s.toBoundary f (s.ray f r).index) s

/-- A latched JUMP or STOP is discarded (R148): a JUMP leaves JUMP_LOST. -/
def discardRequest (f r : Nat) (s : State) : State :=
  match (s.ray f r).latched with
  | none => s
  | some q =>
    let s := modRay f r (fun y => { y with latched := none, due := false, late := false }) s
    let s := s.set (ARC_JREQ_STAT_LATCHED (s.get (FCT_RAY_STAT_CHORD f r))) 0
    if q.kind = 0 then raiseRay (FCT_RAY_FLAGS_JUMP_LOST f r) (16 * f + 10) s else s

/-- Flush a stream queue to PROD (R155). -/
def flushQueue (f r : Nat) (s : State) : State :=
  let p := s.get (FCT_SQ_PROD_PROD f r)
  (s.set (FCT_SQ_CONS_CONS f r) p).set (FCT_SQ_FETCHED_FETCHED f r) p

/-- The block that has been played is freed (R151). -/
def freeBlocks (f r header : Nat) (s : State) : State := s.set (FCT_SQ_CONS_CONS f r) header

/-- Send an end marker after the facet's events (R218). -/
def sendMarker (f r : Nat) (s : State) : State :=
  let y := s.ray f r
  let lost := y.gang.map fun v => (v, Store.find (fun _ => 0) y.dropped v)
  modFct f (fun x => { x with queue := x.queue ++ [.marker (s.get (FCT_RAY_STAT_CHORD f r)) y.serial lost] }) s

/-- The phase of a ray ends (R155, R157, R159, R218). -/
def endPhase (f r cause err : Nat) (s : State) : State :=
  if s.rayState f r = rayIdle then s
  else
    let y := s.ray f r
    let stream := s.on (FCT_RAY_PC_IN_STREAM f r) || y.block.isSome
    let s := if rayBusy (s.rayState f r) then
        tdcVector f r 2 0 (if cause = endCut then s.now else s.vectorTime f y.index) s else s
    let s := discardRequest f r s
    let s := (s.set (FCT_RAY_STAT_STATE f r) rayIdle).set (FCT_RAY_STAT_END_CAUSE f r) cause
    let s := s.set (FCT_RAY_STAT_ERR f r) err
    let s := if cause = endError then pend (16 * f + 8) s else s
    let s := if cause = endUnderflow then raiseRay (FCT_RAY_FLAGS_UNDERFLOW f r) (16 * f + 9) s else s
    let s := if stream && 2 ≤ cause then flushQueue f r s
             else match y.block with
               | some b => freeBlocks f r (b.header + 1 + b.words) s
               | none => s
    let t := if cause = endCut then s.now else s.vectorTime f y.index
    let s := modRay f r (fun y => { y with abort := none, block := none, ready := none, endAt := t }) s
    gridQuiet f (sendMarker f r s)

/-- Every ray of facet `f` that is not IDLE, and the rays of the same chords in other facets, end at once with CUT
(R157). -/
def cutFacet (f : Nat) (s : State) : State :=
  let ks := (List.range 32).filterMap fun r =>
    if s.rayState f r = rayIdle then none else some (s.get (FCT_RAY_STAT_CHORD f r))
  ks.foldl (fun s k => (s.chordRays k).foldl (fun s x => endPhase x.1 x.2 endCut 0 s) s) s

/-- Every ray of the part ends at once with CUT. -/
def cutAll (s : State) : State := (List.range s.facets).foldl (fun s f => cutFacet f s) s

/-! ## Segments and requests -/

/-- A segment has ended at index `n` (R144, R147): a latched request made before its last granule, or held over from the
segment before, is due; one made within it is late. (Log: 62 DEDUCED) -/
def endSegment (f r n : Nat) (s : State) : State :=
  let s := s.count (FCT_RAY_SEGS_SEGS f r) 1
  let s := modRay f r (fun y => { y with segAt := s.get (FCT_RAY_VCOUNT_VCOUNT f r) }) s
  let y := s.ray f r
  match y.latched with
  | none => s
  | some q =>
    if y.late || decide (stampDiff q.treq y.granuleAt < 0) then modRay f r (fun y => { y with due := true }) s
    else if stampDiff q.treq (s.vectorTime f n) < 0 then
      raiseRay (FCT_RAY_FLAGS_JUMP_LATE f r) (16 * f + 10) (modRay f r (fun y => { y with late := true }) s)
    else s

/-- A JUMP or STOP that is due is taken (R147, R156): a STOP ends the phase; a JUMP clears the stacks, leaves the stream
and continues at FCT_JVEC. (Log: 62 DEDUCED) -/
def takeRequest (f r : Nat) (s : State) : State :=
  let y := s.ray f r
  match y.latched with
  | none => s
  | some q =>
    if !y.due || s.rayState f r ≠ rayRun then s
    else
      let s := modRay f r (fun y => { y with latched := none, due := false, late := false }) s
      let s := s.set (ARC_JREQ_STAT_LATCHED (s.get (FCT_RAY_STAT_CHORD f r))) 0
      if q.kind = 1 then endPhase f r endStop 0 s
      else if !s.on (FCT_JVEC_VALID f q.vec) then failRay f r errNoEntry s
      else
        let c := s.cursor f r
        let s := match c.block with
          | some b => freeBlocks f r (b.header + 1 + b.words) s
          | none => s
        let s := putCursor f r { c with pc := s.get (FCT_JVEC_ADDR f q.vec), inStream := false, loops := [], calls := []
                                        played := 0, block := none } s
        modRay f r (fun y => { y with jumped := true }) s

/-- The stamp from which a granule boundary takes an ABORT (R147). -/
def abortFrom (treq : Nat) : Nat := stampAdd treq (ticksOf 128)

/-- A pending ABORT whose boundary has come is taken (R147, R157). -/
def takeAbort (f r : Nat) (s : State) : State :=
  let y := s.ray f r
  match y.abort with
  | none => s
  | some t =>
    let st := s.rayState f r
    let here := s.vectorTime f y.index
    if !s.past here then s
    else if st = rayRun ∨ st = rayHold then
      if s.isBoundary f y.index && decide (0 ≤ stampDiff here (abortFrom t)) then endPhase f r endAbort 0 s else s
    else if st = rayArmed then
      if s.boundaryAt f (abortFrom t) ≤ y.start then endPhase f r endAbort 0 s else s
    else s

/-- Make a request to every ray of chord `k` (R147, R148). Requests with equal stamps are ordered Arc, timed, host. (Log: 62 DEDUCED) -/
def makeRequest (k : Nat) (q : Request) (s : State) : State :=
  if !s.chordRunning k then s.raise (ARC_JREQ_STAT_IDLE_DROP k)
  else
    let rays := (s.chordRays k).filter fun x => s.rayState x.1 x.2 ≠ rayIdle
    if q.kind = 2 then
      rays.foldl (fun s x =>
        let s := discardRequest x.1 x.2 s
        modRay x.1 x.2 (fun y => { y with abort := some (match y.abort with
          | some t => if stampDiff q.treq t < 0 then q.treq else t
          | none => q.treq) }) s) s
    else
      match rays with
      | [] => s
      | (f, r) :: _ =>
        let latch (q : Request) (s : State) : State :=
          rays.foldl (fun s x => modRay x.1 x.2 (fun y => { y with latched := some q, due := false, late := false }) s) s
        match (s.ray f r).latched with
        | none => (latch q s).raise (ARC_JREQ_STAT_LATCHED k)
        | some p =>
          let (a, b) := if p.treq = q.treq ∧ q.origin < p.origin then (q, p) else (p, q)
          if a.kind = 0 ∧ b.kind = 1 then
            rays.foldl (fun s x => raiseRay (FCT_RAY_FLAGS_JUMP_LOST x.1 x.2) (16 * x.1 + 10) s) (latch b s)
          else if a = p then s.raise (ARC_JREQ_STAT_DROPPED k)
          else (latch a s).raise (ARC_JREQ_STAT_DROPPED k)

/-! ## Rate changes (R119, R146) -/

/-- The rays of facet `f` whose next vector is the last of a word that selects a period, at index `n`. -/
def State.selectors (s : State) (f n : Nat) : List (Nat × Nat) :=
  (List.range 32).filterMap fun r =>
    let c := s.cursor f r
    let w := s.wordAt f r c
    if s.rayState f r = rayRun && (s.ray f r).index == n && w.rateEn && !w.bad && c.played + 1 == w.vectors &&
        !(c.inStream && c.block.isNone) then some (r, w.rsel)
    else none

/-- The grid index at which facet `f` may change its rate next: the one that its busy rays play next. While every phase of
the facet is ARMED it is that of the transition vector of the update that waits (R119). (Log: 68 DEDUCED) -/
def State.nextIndex (s : State) (f : Nat) : Option Nat :=
  match (List.range 32).find? fun r => rayBusy (s.rayState f r) with
  | some r => some (s.ray f r).index
  | none =>
    match s.phaseOn f, (s.fct f).due with
    | true, some ⟨some t, _⟩ =>
      let n := max (s.fct f).origin (s.indexAt f t) + 1
      some (n + s.toBoundary f n - 1)
    | _, _ => none

/-- Switch facet `f` to period entry `e` with the vector of index `n` as the transition vector (R119). -/
def switchRate (f e n : Nat) (s : State) : State :=
  let ts := s.vectorTime f n
  let s := takePeriod f e s
  let m := s.indexAt f (ts + ticksOf 4)
  let shift (i : Nat) : Nat := i + m - (n + 1)
  let s := modFct f (fun x => { x with origin := m, due := none, trans := some ⟨ts, gridPoint x.anchor x.period m⟩
                                       inbox := x.inbox.map fun p => { p with start := shift p.start } }) s
  (List.range 32).foldl (fun s r =>
    if s.rayState f r = rayIdle then s
    else modRay f r (fun y => { y with index := shift y.index, start := shift y.start }) s) s

/-- The rate change of facet `f` at the boundary that ends its next vector, if one is due and that vector's start has come
(R119, R146). (Log: 68 DEDUCED) -/
def rateChange (f : Nat) (s : State) : State :=
  match s.nextIndex f with
  | none => s
  | some n =>
    let x := s.fct f
    let ts := s.vectorTime f n
    if !s.isBoundary f (n + 1) || (x.trans.isSome && n + 1 == x.origin) || !s.past ts then s
    else
      let update : Option Nat :=
        match x.due with
        | some d => (match d.tapp with
          | some t => if 0 ≤ stampDiff ts t then some d.entry else none
          | none => some d.entry)
        | none => none
      match s.selectors f n, update with
      | (_, e) :: others, u =>
        let s := others.foldl (fun s o => s.raise (FCT_RAY_FLAGS_RATE_RAYCONF f o.1)) s
        let s := if u.isSome then
            (if s.on (FCT_TIMING_STAT_RATE_CONFLICT f) then s
             else pend (16 * f + 11) (s.raise (FCT_TIMING_STAT_RATE_CONFLICT f)))
          else s
        let due := if u.isSome then none else x.due
        modFct f (fun x => { x with due := due }) (switchRate f e n s)
      | [], some e => switchRate f e n s
      | [], none => s

/-! ## Vectors -/

/-- The driver's off state of a channel (R94). -/
def State.offState (s : State) (c : Nat) : Drive :=
  if s.on (FCT_CH_OFF_MODE (c / 128) (c % 128)) then .term else .off

/-- The drive that a placed edge gives a channel (R94): `b0` and `b1` are the bits of the two beats. -/
def State.edgeDrive (s : State) (c sym kind : Nat) (b0 b1 : Bool) (d : Drive) : Drive :=
  let level (b : Bool) : Drive := if b then .high else .low
  if kind = edgeD1 then
    match sym with
    | 0 => .low | 1 => .high | 2 => level b0 | 3 => level (!b0) | 11 => .high | 12 => .low | 14 => .term | _ => d
  else if kind = edgeD2 then
    match sym with
    | 2 => level b1 | 3 => level (!b1) | 11 => .low | 12 => .high | _ => d
  else if kind = edgeDX then s.offState c
  else d

/-- Play a symbol on channel `c` in a vector of facet `f` that starts at `t` (R94, R103, R122 to R125). The answer is
nothing on a channel that takes no part: one that is not in the VECTOR state, or whose timing set is BAD. -/
def playChannel (f c t len sym : Nat) (w : UWord) (b0 b1 : Bool) (s : State) : Option (EdgeSet × Placed) × State :=
  let e := s.edgeSetOf f (c % 128) w.tso w.gmask
  if s.channelState c ≠ chVector then (none, s)
  else if e.bad then (none, modChan c (fun x => { x with drive := .off }) s)
  else
    let (p, s) := playEdges f c t len e sym w.ddr s
    let d := (s.chan c).drive
    let d := if sym = 10 then (if d = .low ∨ d = .high then d else s.offState c)
             else p.kept.foldl (fun d k => s.edgeDrive c sym k.1 b0 b1 d) d
    (some (e, p), modChan c (fun x => { x with drive := d }) s)

/-- Is a symbol judged (R96)? -/
def judged (sym : Nat) : Bool := 4 ≤ sym && sym ≤ 8

/-- Does a class meet a symbol's expectation (R96)? -/
def meets (sym : Nat) (bit : Bool) (c : Class) : Bool :=
  match sym with
  | 4 => c == .low
  | 5 => c == .high
  | 6 => if bit then c == .high else c == .low
  | 7 => if bit then c == .low else c == .high
  | _ => c == .mid

/-- What the comparator of channel `c` shows in this vector; a channel without a reading shows the mid band. -/
def seenOf (seen : List Seen) (c : Nat) : Seen := (seen.find? fun x => x.channel = c).getD ⟨c, .mid, .mid, true⟩

/-- Does the compare of one beat pass (R91, R96, R103, R125, R138)? `bit` is the expected bit. -/
def State.comparePass (s : State) (c sym beat : Nat) (bit ddr : Bool) (x : Option (EdgeSet × Placed)) (v : Seen) : Bool :=
  match x with
  | none => false
  | some (e, p) =>
    if s.bitOf (FCT_LS_STAT_BAD (c / 128)) (s.get (FCT_CH_LS (c / 128) (c % 128))) then false
    else if e.window then !(p.dropped.any fun k => k == edgeC1 || k == edgeC2) && v.steady && meets sym bit v.c1
    else if ddr && beat == 1 then edgeC2 ∉ p.dropped && meets sym bit v.c2
    else edgeC1 ∉ p.dropped && meets sym bit v.c1

/-- The beats in which a compare is judged (R138). -/
def beatsOf (w : UWord) (x : Option (EdgeSet × Placed)) : List Nat :=
  if w.ddr && !(match x with | some (e, _) => e.window | none => false) then [0, 1] else [0]

/-- The bit that a CB symbol captures (R96, R103, R125). -/
def captureBit (x : Option (EdgeSet × Placed)) (v : Seen) : Bool :=
  match x with
  | none => false
  | some (e, p) => edgeC1 ∉ p.dropped && !(e.window && edgeC2 ∈ p.dropped) && v.c1 == .high

/-- Put a fail event into the facet's queue (R217): with 1,024 events there, it is dropped and counted against its
vertex. -/
def pushEvent (f r : Nat) (e : FailEvent) (s : State) : State :=
  let n := ((s.fct f).queue.filter fun x => match x with | .event _ => true | .marker _ _ _ => false).length
  if 1024 ≤ n then
    modRay f r (fun y => { y with dropped := Store.put (fun _ => 0) y.dropped e.vertex
                                    (Store.find (fun _ => 0) y.dropped e.vertex + 1) }) s
  else modFct f (fun x => { x with queue := x.queue ++ [.event e] }) s

/-- The symbol of a role in a 96-bit set of symbols (R137). -/
def symOf (syms role : Nat) : Nat := bitsAt syms (4 * role) 4

/-- 24 times the same symbol. -/
def allSym (x : Nat) : Nat := (List.range 24).foldl (fun n i => n + x * 16 ^ i) 0

/-- The symbols of the special roles as R135 reads them: compares on SEL, and all but D0, D1, DN, DI and K on CODE, act as
X. -/
def selSym (x : Nat) : Nat := if (4 ≤ x && x ≤ 8) || x == 13 then 9 else x
@[inherit_doc selSym] def codeSym (x : Nat) : Nat := if x ∈ [0, 1, 2, 3, 10] then x else 9

/-- Play a symbol without data on a list of channels, those of the facet. -/
def playStatic (f t len sym : Nat) (w : UWord) (cs : List Nat) (s : State) : State :=
  cs.foldl (fun s c => if c / 128 = f then (playChannel f c t len sym w false false s).2 else s) s

/-- Play the select channels of a direct chord (R48, R133, R135): the gang's take `sym`, the others are driven high. (Log: 64 DEDUCED) -/
def playSelects (f r k t len sym : Nat) (w : UWord) (s : State) : State :=
  if s.codedChord k then playStatic f t len (selSym sym) w (s.strobeChannels k) s
  else
    let gang := (s.ray f r).gang
    let vs := s.chordVertices k
    let s := playStatic f t len (selSym sym) w ((vs.filter fun v => v ∈ gang && !s.inked v).map s.selectChannel) s
    playStatic f t len 1 w ((vs.filter fun v => !(v ∈ gang && !s.inked v)).map s.selectChannel) s

/-- Play the code channels of a coded chord (R135): DN and DI drive the bits of CURCODE. -/
def playCodes (f r k t len sym : Nat) (w : UWord) (s : State) : State :=
  let code := s.get (FCT_RAY_CODE_CURCODE f r)
  (s.codeChannels k).zipIdx.foldl (fun s x =>
    if x.1 / 128 = f then
      (playChannel f x.1 t len (codeSym sym) w (code.testBit x.2) (code.testBit x.2) s).2
    else s) s

/-- One failing judgement: the gang position and the beat, with the mask of the failing role. -/
abbrev FailMark := Nat × Nat × Nat

/-- Play the shared roles of a vector and judge their compares (R136): the marks of the failing judgements. `pos` are the
gang positions that are judged, `lead` the one whose bit is driven, `j` the vector's index in its word. -/
def playRoles (f r k t len syms j lead : Nat) (pos : List Nat) (w : UWord) (seen : List Seen) (gangStart : Bool)
    (s : State) : List FailMark × State :=
  let o := genOps w.gen
  let dt := s.dieType ((s.ray f r).gang.getD lead 0)
  (s.sharedChannels k).zipIdx.foldl (fun acc x =>
    let s := acc.2
    let c := x.1
    let role := x.2
    if c / 128 ≠ f then acc
    else
      let sym := symOf syms role
      let bit (p b : Nat) : Bool := s.roleBit f r p b j dt role w.ddr o
      let (res, s') := playChannel f c t len sym w (bit lead 0) (bit lead 1) s
      let v := seenOf seen c
      let marks : List FailMark :=
        if judged sym then
          pos.flatMap fun p => (beatsOf w res).filterMap fun b =>
            if s.comparePass c sym b (bit p b) w.ddr res v then none else some (p, b, 2 ^ role)
        else []
      let s' :=
        if gangStart && sym == 13 && role < 8 && captureBit res v then
          modRay f r (fun y => { y with status := y.status.set (pos.headD 0) (y.status.getD (pos.headD 0) 0 ||| 2 ^ role) }) s'
        else s'
      (acc.1 ++ marks, s')) ([], s)

/-- Report the failing judgements of a vector (R136, R216): one event for each vertex and beat, and FAIL for the BR
words of every ray of the chord. -/
def reportFails (f r k t : Nat) (marks : List FailMark) (s : State) : State :=
  if marks = [] then s
  else
    let y := s.ray f r
    let s := (List.range y.gang.length).foldl (fun s p =>
      [0, 1].foldl (fun s b =>
        let m := ((marks.filter fun x => x.1 = p ∧ x.2.1 = b).map fun x => x.2.2).sum
        if m = 0 then s
        else pushEvent f r ⟨y.gang.getD p 0, y.kind, s.get (FCT_RAY_VCOUNT_VCOUNT f r), b, m, y.serial, t, s.suspect f⟩ s) s) s
    (s.chordRays k).foldl (fun s x => modRay x.1 x.2 (fun y => { y with failed := true }) s) s

/-- The 96 bits of a march symbol register triple (R176). -/
def State.marchSyms (s : State) (f r : Nat) (write : Bool) : Nat :=
  let w (i : Nat) : Nat := if write then s.get (FCT_GEN_WSYM_V f r i) else s.get (FCT_GEN_RSYM_V f r i)
  w 0 + w 1 * 2 ^ 32 + w 2 * 2 ^ 64

/-- The symbols of a vector of the routine (R137, R175, R176). (Log: 65 DEDUCED) -/
def State.vectorSyms (s : State) (f r : Nat) (w : UWord) (pad : Bool) : Nat :=
  if pad then allSym 10
  else if (genOps w.gen).march then
    if s.marchOver f r then allSym 9 else s.marchSyms f r (s.marchWrites f r)
  else w.sym

/-- Play one vector of the routine at index `n` (R132 to R138, R143, R166). (Log: 61 DEDUCED) -/
def playVector (f r n : Nat) (w : UWord) (seen : List Seen) (s : State) : State :=
  let k := s.get (FCT_RAY_STAT_CHORD f r)
  let y := s.ray f r
  let t := s.vectorTime f n
  let len := s.vectorLength f n
  let gang := w.opc = opcGang
  let it := y.played / (w.rep + 1)
  let j := y.played % (w.rep + 1)
  let pad : Bool := gang && y.codes.length ≤ it
  let o := genOps w.gen
  let s := tdcVector f r 0 (s.get (FCT_RAY_VCOUNT_VCOUNT f r)) t (useNewTiming f t s)
  let s := if y.played = 0 ∧ gang then modRay f r (fun y => { y with status := List.replicate y.codes.length 0 }) s else s
  let s := if gang && !pad then s.set (FCT_RAY_CODE_CURCODE f r) (y.codes.getD it 0) else s
  let s := if pad then s else beforeVector f r o s
  let ovr : Bool := o.march && s.marchOver f r
  let syms := s.vectorSyms f r w pad
  let s := if (List.range 24).any fun i => symOf syms i = 15 then s.raise (FCT_RAY_FLAGS_RSVD_SYM f r) else s
  let lead := (y.gang.zipIdx.foldl (fun b x => if x.1 < b.1 then x else b) (y.gang.headD 0, 0)).2
  let pos := if pad then [] else if gang then (if it < y.gang.length then [it] else []) else List.range y.gang.length
  let (marks, s) := playRoles f r k t len syms j lead pos w seen (gang && !pad && j == 0) s
  let s := playSelects f r k t len (symOf syms 22) w s
  let s := playCodes f r k t len (symOf syms 23) w s
  let s := reportFails f r k t marks s
  let s := if pad || ovr then s else (setBits 4 o.wtrig).foldl (fun s g => triggerWg f g t s) s
  let s := if pad then s else afterVector f r o w.ddr s
  let v := s.get (FCT_RAY_VCOUNT_VCOUNT f r)
  let s := s.set (FCT_RAY_VCOUNT_VCOUNT f r) (v + 1)
  let g := if v % 32 = 0 then t else y.granuleAt
  modRay f r (fun y => { y with index := n + 1, played := y.played + 1, safe := w.ss, granuleAt := g }) s

/-- A vector of a gap (R153) or of PAD (R144): every role keeps its drive, nothing is compared, GEN is not applied. -/
def playKeep (f r n : Nat) (s : State) : State :=
  let k := s.get (FCT_RAY_STAT_CHORD f r)
  let t := s.vectorTime f n
  let s := useNewTiming f t s
  let cs := s.chordChannels k ++ (if s.codedChord k then [] else (s.chordVertices k).map s.selectChannel)
  let s := playStatic f t (s.vectorLength f n) 10 (uword 0) cs s
  modRay f r (fun y => { y with index := n + 1 }) s

/-- A fill vector (R154): every role off, direct selects high. -/
def playFill (f r n : Nat) (s : State) : State :=
  let k := s.get (FCT_RAY_STAT_CHORD f r)
  let t := s.vectorTime f n
  let len := s.vectorLength f n
  let s := useNewTiming f t s
  let s := playStatic f t len 9 (uword 0) (s.chordChannels k) s
  let s := if s.codedChord k then s
           else playStatic f t len 1 (uword 0) ((s.chordVertices k).map s.selectChannel) s
  modRay f r (fun y => { y with index := n + 1, left := y.left - 1 }) s

/-- What follows the last vector of a word (R139 to R144). An error of the word's operation finds the loops that end there
closed. -/
def endWord (f r : Nat) (w : UWord) (s : State) : State :=
  let c := s.cursor f r
  let n := (s.ray f r).index
  let len := c.vcount - c.segAt
  match s.afterWord f r c w with
  | .fail e => failRay f r e (if e = errAlign then s else putCursor f r { c with loops := (evalLoops c c.loops).1 } s)
  | .finish c' =>
    let s := putCursor f r c' s
    if 256 ≤ len then endPhase f r endEnd 0 (s.count (FCT_RAY_SEGS_SEGS f r) 1)
    else modRay f r (fun y => { y with left := 256 - len }) (s.set (FCT_RAY_STAT_STATE f r) rayPad)
  | .go c' =>
    let blockEnd := c.block.isSome && c'.block.isNone
    let strm := c'.inStream && !c.inStream && c'.block.isNone && !blockEnd && w.opc == opcStrm
    let s := putCursor f r c' s
    if blockEnd then endSegment f r n (freeBlocks f r c'.header s)
    else if strm then
      let s := modRay f r (fun y => { y with header := s.get (FCT_SQ_CONS_CONS f r) }) s
      endSegment f r n s
    else if w.seg then
      if 256 ≤ len then endSegment f r n s else s.raise (FCT_RAY_FLAGS_SEG_SHORT f r)
    else s

/-- The error with which a word cannot be played: a double-bit ECC error, a bad word, a gang too large, or a word that
makes its block invalid (R138, R143, R150, R157). (Log: 63 DEDUCED) -/
def State.wordError (s : State) (f r : Nat) (c : Cursor) (w : UWord) (ecc : Ecc) : Option Nat :=
  if ecc = .double then some errUecc
  else if c.played ≠ 0 then none
  else if w.bad then some errBadWord
  else if w.opc = opcGang ∧ w.count < (s.ray f r).codes.length then some errGangSize
  else
    match c.inStream, c.block with
    | true, some b => if blockWordBad b w then some errStreamFormat else none
    | _, _ => none

/-- A ray in RUN plays its next vector, opening a stream block and checking the word first. -/
def runVector (f r : Nat) (seen : List Seen) (ecc : Ecc) (s : State) : State :=
  let c := s.cursor f r
  let opened : Except Nat Cursor :=
    if c.inStream && c.block.isNone then
      match s.readHeader f r c with
      | .ok b => .ok { c with block := some b, pc := 0 }
      | .error e => .error e
    else .ok c
  match opened with
  | .error e => failRay f r e s
  | .ok c =>
    let s := putCursor f r c s
    let w := s.wordAt f r c
    let ovr : Bool := match c.inStream, c.block with
      | true, some b => decide (b.vectors ≤ c.vcount - b.start)
      | _, _ => false
    match (if ovr then some errStreamFormat else s.wordError f r c w ecc) with
    | some e => failRay f r e s
    | none =>
      let s := playVector f r (s.ray f r).index w seen s
      if (s.ray f r).played = w.vectors then endWord f r w s else s

/-- An unavailable granule at a boundary (R153, R154): a hold granule begins where the boundary is stall-safe and the gap
may grow, and FILL to the end of the segment otherwise. -/
def starve (f r n : Nat) (s : State) : State :=
  let y := s.ray f r
  let fresh := s.rayState f r = rayRun
  let gap := if fresh then 0 else y.gap
  if !y.safe || s.get (FCT_HOLD_MAX_GRANULES f) ≤ gap then
    let left := match y.block with
      | some b => b.vectors - (s.get (FCT_RAY_VCOUNT_VCOUNT f r) - b.start)
      | none => 0
    enterFill f r 0 left s
  else
    let s := s.set (FCT_RAY_STAT_STATE f r) rayHold
    let s := if fresh then s.set (FCT_RAY_LASTGAP_AT_AT f r) (s.vectorTime f n) else s
    let s := (s.countSat (FCT_RAY_GAPS_COUNT f r) 1).set (FCT_RAY_LASTGAP_LEN_LEN f r) (gap + 1)
    let s := raiseRay (FCT_RAY_FLAGS_GAP f r) (16 * f + 9) s
    modRay f r (fun y => { y with gap := gap + 1, left := 32, gapSeen := true, ready := none }) s

/-- At a granule boundary the decision about the granule that starts here takes effect (R152 to R154). -/
def meetBoundary (f r : Nat) (s : State) : State :=
  let y := s.ray f r
  let st := s.rayState f r
  if !((st = rayRun || (st = rayHold && y.left == 0)) && s.isBoundary f y.index) then s
  else
    let v := s.get (FCT_RAY_VCOUNT_VCOUNT f r)
    let k := s.get (FCT_RAY_STAT_CHORD f r)
    let ok : Bool := match y.ready with
      | some (a, b) => if a = v then b else s.granuleAll k 0
      | none => s.granuleAll k 0
    if ok then modRay f r (fun y => { y with ready := none }) (s.set (FCT_RAY_STAT_STATE f r) rayRun)
    else starve f r y.index s

/-- One vector of a ray at its grid point (R132, R157). A vector whose start has not come is not played. Requests and rate
changes that are due at this vector act first. (Log: 68 DEDUCED) -/
def playRay (f r : Nat) (seen : List Seen) (ecc : Ecc) (s : State) : State :=
  if !rayBusy (s.rayState f r) || !s.past (s.vectorTime f (s.ray f r).index) then s
  else
    let s := if s.isBoundary f (s.ray f r).index then applyMove f s else s
    let s := meetBoundary f r (rateChange f (takeRequest f r (takeAbort f r s)))
    let n := (s.ray f r).index
    let s := match ecc with
      | .single => modFct f (fun x => { x with corrected := x.corrected + 1 }) s
      | .double => pulseLine (4 * f) s
      | .good => s
    match s.rayState f r with
    | 2 => runVector f r seen ecc s
    | 3 => modRay f r (fun y => { y with left := y.left - 1 }) (playKeep f r n s)
    | 4 => if (s.ray f r).left = 0 then s else playFill f r n s
    | 5 =>
      let s := modRay f r (fun y => { y with left := y.left - 1 }) (playKeep f r n s)
      if (s.ray f r).left = 0 then endPhase f r endEnd 0 (s.count (FCT_RAY_SEGS_SEGS f r) 1) else s
    | _ => s

/-- The end of fill (R154, R157). (Log: 67 DEDUCED) -/
def endFill (f r : Nat) (s : State) : State :=
  let y := s.ray f r
  if s.rayState f r = rayFill ∧ y.left = 0 ∧ s.past (s.vectorTime f y.index) then
    endPhase f r (if y.err = 0 then endUnderflow else endError) y.err s
  else s

/-! ## Phase starts -/

/-- A facet takes a phase start that Arc has sent (R131, R160): the ray loads it and is ARMED, or reports NO_ENTRY. -/
def acceptStart (f k : Nat) (s : State) : State :=
  match (s.fct f).inbox.find? fun p => p.chord = k with
  | none => s
  | some p =>
    let s := modFct f (fun x => { x with inbox := x.inbox.filter fun q => q != p }) s
    match s.rayOf f k with
    | none => s
    | some r =>
      let t := s.mapGet (SIT_CH0_TEMPLATE k)
      let fresh : Ray := { Ray.init with serial := p.serial, kind := p.kind }
      if s.rayState f r ≠ rayIdle then s
      else if !s.on (FCT_ENTRY_VALID f t p.routine) then modRay f r (fun _ => { fresh with refused := true }) s
      else
        let s := modRay f r (fun _ => { fresh with gang := p.gang, codes := p.codes, routine := p.routine
                                                   start := p.start, index := p.start
                                                   entry := s.get (FCT_ENTRY_ADDR f t p.routine) }) s
        let s := (List.range 8).foldl (fun s i => s.set (FCT_RAY_PARAM_PARAM f r i) (p.params.getD i 0)) s
        let s := s.setReg (FCT_RAY_PC f r) 0
        let s := (s.set (FCT_RAY_CODE_CURCODE f r) 0).set (FCT_RAY_CODE_GANG_N f r) p.codes.length
        let s := (s.set (FCT_RAY_VCOUNT_VCOUNT f r) 0).set (FCT_RAY_SEGS_SEGS f r) 0
        s.set (FCT_RAY_STAT_STATE f r) rayArmed

/-- An ARMED ray enters RUN with PC at the entry address (R131). -/
def enterRun (f r : Nat) (s : State) : State :=
  (s.set (FCT_RAY_STAT_STATE f r) rayRun).set (FCT_RAY_PC_ADDR f r) (s.ray f r).entry

/-- At the start boundary an ARMED ray enters RUN, or takes an ABORT (R131, R147, R164). -/
def reachBoundary (f r : Nat) (s : State) : State :=
  if s.rayState f r ≠ rayArmed || !s.past (s.vectorTime f (s.ray f r).start) then s
  else
    let s := takeAbort f r s
    if s.rayState f r ≠ rayArmed then s
    else tdcVector f r 1 0 (s.vectorTime f (s.ray f r).start) (startGen f r (enterRun f r s))

/-! ## Stream queues -/

/-- A write to FCT_SQ_CFG (R161). -/
def writeQueueCfg (f r data : Nat) (s : State) : State :=
  if s.rayState f r ≠ rayIdle then s.raise (FCT_LOC_STAT_UWRITE_DROP f)
  else
    let s := (s.set (FCT_SQ_CFG_BASE f r) data).set (FCT_SQ_CFG_SIZE f r) (data / 65536)
    ((s.set (FCT_SQ_PROD_PROD f r) 0).set (FCT_SQ_FETCHED_FETCHED f r) 0).set (FCT_SQ_CONS_CONS f r) 0

/-- How many words the DMA engine may fetch next for a queue (R149): those below PROD that fit its free space. -/
def State.queueWants (s : State) (f r : Nat) : Nat :=
  let fetched := s.get (FCT_SQ_FETCHED_FETCHED f r)
  min (indexDiff (s.get (FCT_SQ_PROD_PROD f r)) fetched)
    (s.get (FCT_SQ_CFG_SIZE f r) - indexDiff fetched (s.get (FCT_SQ_CONS_CONS f r)))

/-- Words fetched for a queue land in the stream buffer (R149): as many as the queue still wants. -/
def wordsArrive (f r : Nat) (words : List Nat) (s : State) : State :=
  (words.take (s.queueWants f r)).foldl (fun s w =>
    let i := s.get (FCT_SQ_FETCHED_FETCHED f r)
    let s := { s with stream := Memory.putWord s.stream (s.queueAddr f r i) 32 w }
    s.count (FCT_SQ_FETCHED_FETCHED f r) 1) s

/-! ## Microcode memory -/

/-- A write into the microcode window (R158): doublewords 0 to 6 are staged, doubleword 7 commits the word. -/
def writeMicrocode (f off data : Nat) (s : State) : State :=
  if !s.raysIdle f then s.raise (FCT_LOC_STAT_UWRITE_DROP f)
  else
    let d := off / 4 % 8
    let st := fun i => (s.fct f).staging.getD i 0
    if d < 7 then modFct f (fun x => { x with staging := (List.range 7).map fun i => if i = d then data else st i }) s
    else
      let a := ucodeAddr f (8192 * s.get (FCT_UPAGE_PAGE f) + off / 32)
      let m := (List.range 8).foldl (fun m i => Memory.putWord m (a + 4 * i) 4 (if i = 7 then data else st i)) s.ucode
      { s with ucode := m }

/-- A read of the microcode window: the stored word (R158). -/
def State.readMicrocode (s : State) (f off : Nat) : Nat :=
  Memory.word s.ucode (ucodeAddr f (8192 * s.get (FCT_UPAGE_PAGE f) + off / 32) + off % 32) 4

end Sys2Proof.Machine
end

