-- ==== Sys2Proof/Machine/Site.lean ====
section
/-!
DEFINITION. The site map's checks and commit (R43 to R46, R56, R57), the assignment of rays (R130), and the contact test
(R60, R61).
-/

namespace Sys2Proof.Machine
open Sys2Proof.Reg

/-! ## The edit copy -/

/-- Is `a` a register of the vertex, chord or die-type table (R43)? -/
def inSiteTables (a : Nat) : Bool := (0x600000 ≤ a && a < 0x628000) || (0x3E0000 ≤ a && a < 0x3E0400)

/-- The words of the edit copy. -/
def State.editCopy (s : State) : Store Word64 := s.regs.filter fun e => inSiteTables e.1

/-- The state as it would be with the edit copy for its active map. -/
def State.edited (s : State) : State := { s with map := s.editCopy }

/-- RESULT codes of ARC_SITE_STAT (R59). -/
def sitePass : Nat := 1
@[inherit_doc sitePass] def siteFail : Nat := 2
@[inherit_doc sitePass] def siteRefused : Nat := 3
@[inherit_doc sitePass] def siteEditedCode : Nat := 4
@[inherit_doc sitePass] def siteBusy : Nat := 5
@[inherit_doc sitePass] def siteAborted : Nat := 6

/-- Does a CHECK or COMMIT run? -/
def State.siteRuns (s : State) : Bool := s.on ARC_SITE_CTRL_CHECK || s.on ARC_SITE_CTRL_COMMIT

/-- The edit copy has been written (R45). -/
def markEdited (s : State) : State :=
  let s := s.raise ARC_SITE_STAT_DIRTY
  if s.siteRuns then { s with siteEdited := true } else s

/-- A failure of the checks (R56, R59): code, index kind, index and channel. -/
structure SiteErr where
  code : Nat
  kind : Nat
  index : Nat
  channel : Nat
  deriving DecidableEq, Repr

/-- A failure if `c` holds. -/
def errIf (c : Bool) (code kind index channel : Nat) : List SiteErr := if c then [⟨code, kind, index, channel⟩] else []

/-- Does a list hold an entry twice? -/
def hasTwice (l : List Nat) : Bool := l.any fun x => 1 < l.count x

/-- The numbers of vertices whose STATE is not ABSENT, ascending, those with STATE 3 included. -/
def State.namedVertices (s : State) : List Nat :=
  s.map.filterMap fun e =>
    if 0x600000 ≤ e.1 ∧ e.1 < 0x620000 ∧ e.1 % 0x20 = 0 ∧ s.vertexState ((e.1 - 0x600000) / 0x20) ≠ 0 then
      some ((e.1 - 0x600000) / 0x20)
    else none

/-- The channels of chord `k` as SPAN counts them (R56): with its vertices' select and busy channels. -/
def State.spanChannels (s : State) (k : Nat) : List Nat :=
  s.chordChannels k ++ (s.chordVertices k).flatMap fun v =>
    (if s.codedChord k then [] else [s.selectChannel v]) ++ (s.busyChannel v).toList

/-- The facets that a list of channels lies in, ascending. -/
def facetsOf (cs : List Nat) : List Nat := (List.range 16).filter fun f => cs.any fun c => c / 128 = f

/-- The lowest channel of a list that lies in facet `f`. -/
def lowestIn (f : Nat) (cs : List Nat) : Nat :=
  ((cs.filter fun c => c / 128 = f).foldl (fun m c => match m with | some x => some (min x c) | none => some c) none).getD 0

/-- The die types that the vertices of chord `k` name. -/
def State.chordTypes (s : State) (k : Nat) : List Nat := ((s.chordVertices k).map s.dieType).dedup

/-- The failures of die-type entry `d` (R56, code 2). -/
def State.dieErrors (s : State) (d : Nat) : List SiteErr :=
  let data := s.mapGet (ARC_DT3_CW_DATA d)
  let cw := data + s.mapGet (ARC_DT3_CW_SPARE d)
  let referenced := s.busVertices.any fun v => s.dieType v = d
  errIf (referenced && s.mapGet (ARC_DT0_DEFINED d) = 1 &&
    (4 ≤ s.mapGet (ARC_DT0_CLASS d) || s.mapGet (ARC_DT0_PLANES d) = 0 || data = 0 ||
      (s.mapGet (ARC_DT0_CLASS d) = 0 && s.mapGet (ARC_DT2_PAGE_BYTES d) % cw != 0) ||
      8 * cw < s.mapGet (ARC_DT4_CORR_THRESH d))) 2 0 d 0

/-- Do two enabled chords of one template differ (R56, code 12)? -/
def State.templatesDiffer (s : State) (j k : Nat) : Bool :=
  s.mapGet (SIT_CH0_TEMPLATE j) = s.mapGet (SIT_CH0_TEMPLATE k) &&
  (s.codedChord j != s.codedChord k || s.mapGet (SIT_CH0_CODE_WIDTH j) != s.mapGet (SIT_CH0_CODE_WIDTH k) ||
    s.mapGet (SIT_CH0_SHARED_COUNT j) != s.mapGet (SIT_CH0_SHARED_COUNT k) ||
    (match s.chordTypes j, s.chordTypes k with | [a], [b] => a != b | _, _ => false))

/-- The failures of enabled chord `k` (R56). (Log: 55 DEDUCED) -/
def State.chordErrors (s : State) (k : Nat) : List SiteErr :=
  let n := s.mapGet (SIT_CH0_SHARED_COUNT k)
  let w := s.mapGet (SIT_CH0_CODE_WIDTH k)
  let cs := s.spanChannels k
  let fs := facetsOf cs
  errIf (1 < (s.chordTypes k).length) 2 1 k 0 ++
  errIf (n = 0 || 22 < n || (!s.codedChord k && w != 0) || (s.codedChord k && (w = 0 || 6 < w))) 3 1 k 0 ++
  ((s.chordChannels k).filter fun c => s.channels ≤ c).map (fun c => ⟨5, 1, k, c⟩) ++
  errIf (64 < (s.chordVertices k).length) 9 1 k 0 ++
  errIf (4 < fs.length) 10 1 k (lowestIn (fs.getD 4 0) cs) ++
  errIf (s.busChords.any fun j => decide (j < k) && s.templatesDiffer j k) 12 1 k 0

/-- The failures of vertex `v`, given the present and inked vertices before it (R56). (Log: 55 DEDUCED) -/
def State.vertexErrors (s : State) (before : List Nat) (v : Nat) : List SiteErr :=
  let k := s.chordOf v
  if s.vertexState v = 3 then [⟨1, 2, v, 0⟩]
  else
    let mates := before.filter fun u => s.chordOf u = k
    errIf (s.mapGet (ARC_DT0_DEFINED (s.dieType v)) = 0) 2 2 v 0 ++
    if s.chords ≤ k then [⟨3, 2, v, 0⟩]
    else
      errIf (!s.chordOn k) 4 2 v 0 ++
      ((s.vertexChannels v).filter fun c => s.channels ≤ c).map (fun c => ⟨5, 2, v, c⟩) ++
      errIf (mates.any fun u => s.mapGet (SIT_VX0_SLOT u) = s.mapGet (SIT_VX0_SLOT v)) 7 2 v 0 ++
      errIf (s.codedChord k && (2 ^ s.mapGet (SIT_CH0_CODE_WIDTH k) ≤ s.selectCode v ||
        mates.any fun u => s.selectCode u = s.selectCode v)) 8 2 v 0

/-- The channels claimed by the enabled chords and the present and inked vertices, with repetitions (R56, code 6). -/
def State.claims (s : State) : List Nat :=
  (s.busChords.filter fun k => k < s.chords).flatMap s.chordChannels ++ s.busVertices.flatMap s.vertexChannels

/-- The chords that facet `f` carries (R56, code 11), ascending. -/
def State.carried (s : State) (f : Nat) : List Nat := s.busChords.filter fun k => f ∈ facetsOf (s.spanChannels k)

/-- The failures of a facet's budget (R56, code 11). -/
def State.facetErrors (s : State) (f : Nat) : List SiteErr :=
  let ks := s.carried f
  errIf (32 < ks.length) 11 4 f (lowestIn f (s.spanChannels (ks.getD 32 0)))

/-- Every failure of the map that `s` holds as its active map, in scan order (R56, R57). (Log: 55 DEDUCED) -/
def State.siteErrors (s : State) : List SiteErr :=
  (List.range 16).flatMap s.dieErrors ++
  (s.busChords.filter fun k => k < s.chords).flatMap s.chordErrors ++
  s.namedVertices.flatMap (fun v => s.vertexErrors (s.busVertices.filter fun u => u < v) v) ++
  ((List.range 2048).filter fun c => 1 < s.claims.count c).map (fun c => ⟨6, 3, c, c⟩) ++
  (List.range 16).flatMap s.facetErrors

/-! ## CHECK and COMMIT -/

/-- CHECK is written (R44, R59). (Log: 53 DEDUCED) -/
def startCheck (s : State) : State :=
  if s.siteRuns then s else { s.raise ARC_SITE_CTRL_CHECK with siteEdited := false }

/-- COMMIT is written (R44, R59): refused in a mode other than IDLE and BOOT, and while a contact test runs. (Log: 53 DEDUCED) -/
def startCommit (s : State) : State :=
  if s.siteRuns then s
  else if s.contact.isSome then s.set ARC_SITE_STAT_RESULT siteBusy
  else if s.mode ≠ modeIdle ∧ s.mode ≠ modeBoot then s.set ARC_SITE_STAT_RESULT siteRefused
  else { s.raise ARC_SITE_CTRL_COMMIT with siteEdited := false, siteMode := s.mode }

/-- Assign the rays of facet `f` to the chords it carries (R130). -/
def assignRays (f : Nat) (s : State) : State :=
  let ks := s.carried f
  (List.range 32).foldl (fun s r =>
    let s := s.set (FCT_RAY_STAT_CHORD f r) (ks.getD r 0)
    s.set (FCT_RAY_STAT_ASSIGNED f r) (bit01 (r < ks.length))) s

/-- The edit copy becomes the active map (R44). -/
def commitMap (s : State) : State :=
  let s := { s with map := s.editCopy }
  let s := (s.raise ARC_SITE_STAT_VALID).set ARC_SITE_STAT_DIRTY 0
  let s := s.count ARC_SITE_GEN_GEN 1
  let s := (List.range 128).foldl (fun s i => s.set (ARC_INKED_INK i) 0) s
  let s := (s.busVertices.filter fun v => s.vertexState v = vertexInked).foldl
    (fun s v => s.setBit (ARC_INKED_INK (v / 32)) (v % 32) true) s
  let s := (List.range s.facets).foldl (fun s f => assignRays f s) s
  { s with recover := (s.busChords.filter s.codedChord).foldl (fun m k => Store.put (fun _ => false) m k true) [] }

/-- The checks end (R57): the status is written and, for a COMMIT without failure, the map takes effect. -/
def concludeCheck (s : State) : State :=
  let commit := s.on ARC_SITE_CTRL_COMMIT
  let last := if commit then 2 else 1
  let s := (s.set ARC_SITE_CTRL_CHECK 0).set ARC_SITE_CTRL_COMMIT 0
  let s := s.set ARC_SITE_STAT_LAST last
  if s.siteEdited then pend 270 (s.set ARC_SITE_STAT_RESULT siteEditedCode)
  else
    let errs := s.edited.siteErrors
    let moved := commit && s.mode ≠ s.siteMode
    let s := s.set ARC_SITE_STAT_ERR_COUNT (min 0xFFF errs.length)
    let e := errs.headD ⟨0, 0, 0, 0⟩
    let s := ((s.set ARC_SITE_ERR_CODE e.code).set ARC_SITE_ERR_KIND e.kind).set ARC_SITE_ERR_INDEX e.index
    let s := s.set ARC_SITE_ERR_CHANNEL e.channel
    let s := s.set ARC_SITE_STAT_RESULT (if moved then siteRefused else if errs = [] then sitePass else siteFail)
    let s := if commit && !moved && errs = [] then commitMap s else s
    pend 270 s

/-! ## Contact test (R60, R61) -/

/-- The channels that a contact test would cover, as a mask. (Log: 54 DEDUCED) -/
def State.contactScope (s : State) : Nat :=
  ((List.range s.channels).filter fun c =>
    (s.gateVertex c).isNone &&
    (if s.on ARC_CONTACT_CFG_SCOPE then (s.get (ARC_CONTACT_MASK_MASK (c / 32))).testBit (c % 32) else s.claimed c)).foldl
    (fun m c => m + 2 ^ c) 0

/-- CONTACT is written (R59, R60). (Log: 53 DEDUCED, 54 DEDUCED) -/
def startContact (s : State) : State :=
  if s.contact.isSome then s.set ARC_SITE_STAT_RESULT siteBusy
  else if s.mode ≠ modeIdle || (!s.on ARC_CONTACT_CFG_SCOPE && !s.on ARC_SITE_STAT_VALID) then
    s.set ARC_SITE_STAT_RESULT siteRefused
  else
    let s := s.clearRegs fun a => 0x3F1000 ≤ a && a < 0x3F3000
    { s.raise ARC_SITE_CTRL_CONTACT with contact := some (s.contactScope, s.elapsed) }

/-- A contact test ends with a RESULT: the channels park. (Log: 54 DEDUCED) -/
def endContact (result : Nat) (s : State) : State :=
  let s := { s with contact := none }
  let s := (s.set ARC_SITE_CTRL_CONTACT 0).set ARC_SITE_STAT_LAST 3
  pend 271 (s.set ARC_SITE_STAT_RESULT result)

/-- A running contact test is aborted (R60). (Log: 53 DEDUCED) -/
def abortContact (s : State) : State := if s.contact.isSome then endContact siteAborted s else s

/-- The class of a reading (R61). -/
def State.contactCode (s : State) (mv : Int) : Nat :=
  if mv ≤ -(s.get ARC_CONTACT_CFG_OPEN_MV : Int) then 2
  else if -(s.get ARC_CONTACT_CFG_SHORT_MV : Int) ≤ mv then 3
  else 1

/-- The readings of a contact test have been taken (R60, R61): each is the mean of a channel's conversions in mV. -/
def finishContact (readings : List (Nat × Int)) (s : State) : State :=
  match s.contact with
  | none => s
  | some (m, start) =>
    if s.elapsed < start + 256 * s.get ARC_CONTACT_SETTLE_SETTLE then s
    else
      let rs := readings.filter fun x => m.testBit x.1
      let s := rs.foldl (fun s x => (s.set (ARC_CONTACT_RES_MV x.1) (unsigned 16 x.2)).set (ARC_CONTACT_RES_CODE x.1)
        (s.contactCode x.2)) s
      let pass := (setBits 2048 m).all fun c => s.get (ARC_CONTACT_RES_CODE c) = 1
      endContact (if pass then sitePass else siteFail) s

end Sys2Proof.Machine
end

