-- ==== Sys2Proof/Machine/Lattice.lean ====
section
/-!
DEFINITION. Lattice (R216 to R243): the merger, accounting slots, position maps, codeword counts, the column map, the
first-N log, collectors, verdicts and closes, and repair analysis.
-/

namespace Sys2Proof.Machine
open Sys2Proof.Reg

/-! ## What is held -/

/-- Change what Lattice holds. -/
def modLat (g : LatState → LatState) (s : State) : State := { s with lat := g s.lat }

/-- The accounting slot of vertex `v`, if it is open. -/
def State.slot (s : State) (v : Nat) : Option Slot := Store.find (fun _ => none) s.lat.slots v

/-- Set the accounting slot of vertex `v`. -/
def setSlot (v : Nat) (x : Option Slot) (s : State) : State :=
  modLat (fun l => { l with slots := Store.put (fun _ => none) l.slots v x }) s

/-- Change the accounting slot of vertex `v`, if it is open. -/
def modSlot (v : Nat) (g : Slot → Slot) (s : State) : State :=
  match s.slot v with
  | some x => setSlot v (some (g x)) s
  | none => s

/-- An empty state of a collector. -/
def CollSide.init : CollSide := ⟨[], [], [], false⟩

/-- Collector `c`. -/
def State.collector (s : State) (c : Nat) : Collector :=
  Store.find (fun _ => ⟨CollSide.init, CollSide.init, false⟩) s.lat.coll c

/-- Set collector `c`, with the fields of LAT_COLL that show it. -/
def setCollector (c : Nat) (x : Collector) (s : State) : State :=
  let s := modLat (fun l => { l with coll := Store.put (fun _ => ⟨CollSide.init, CollSide.init, false⟩) l.coll c x }) s
  let s := (s.set (LAT_COLL_STAT_STORED c) x.committed.cells.length).set (LAT_COLL_STAT_MUST_ROWS c) x.committed.rows.length
  let s := (s.set (LAT_COLL_STAT_MUST_COLS c) x.committed.cols.length).set (LAT_COLL_STAT_EARLY c) (bit01 x.committed.early)
  s.set (LAT_COLL_STAT_PENDING c) (bit01 (x.working != x.committed))

/-- A double-bit error in a memory of Lattice (R238). -/
def latUecc (s : State) : State := pend 295 (pulseLine 65 (s.countSat LAT_UECC_COUNT 1))

/-! ## The LATTICE word and position maps -/

/-- Position map `m` as a slot reads it (R221, R240). -/
def State.posMap (s : State) (m : Nat) : PosMap :=
  let n := s.get (LAT_MAP0_NSPAN m)
  { dqFirst := s.get (LAT_MAP0_DQ_FIRST m), width := if s.on (LAT_MAP0_DQ16 m) then 16 else 8
    ddr := s.on (LAT_MAP0_DDR m), dstart := s.get (LAT_DSTART_DSTART m), colBits := s.get (LAT_MAP0_COL_BITS m)
    spans := (List.range (if n = 0 then 8 else n)).map fun k =>
      ⟨s.get (LAT_SPAN_START_START m k), s.get (LAT_SPAN_FIRST_FIRST m k), s.get (LAT_SPAN_CFG_VPC_M1 m k) + 1,
       s.on (LAT_SPAN_CFG_DIR m k)⟩ }

/-- The START values of a list of spans are strictly ascending. -/
def ascending : List Span → Bool
  | a :: b :: l => decide (a.start < b.start) && ascending (b :: l)
  | _ => true

/-- A map that fails its checks (R221). -/
def PosMap.bad (m : PosMap) : Bool :=
  decide (22 < m.dqFirst + m.width) || !ascending m.spans || decide (65536 < 2 ^ m.colBits * m.width)

/-- The reason for which a LATTICE word is invalid, 0 when it is valid (R220). -/
def State.latticeReason (s : State) (word : Nat) : Nat :=
  let mode := word % 4
  let m := bitsAt word 10 4
  if word.testBit 15 || bitsAt word 24 8 != 0 then 1
  else if (mode = 1 ∨ mode = 2) ∧ !s.on (LAT_MAP0_VALID m) then 2
  else if (mode = 1 ∨ mode = 2) ∧ (s.posMap m).bad then 3
  else 0

/-! ## Records (R234 to R237) -/

/-- KIND of a fail record. -/
def recSummary : Nat := 1
@[inherit_doc recSummary] def recCwCounts : Nat := 2
@[inherit_doc recSummary] def recLog : Nat := 3
@[inherit_doc recSummary] def recBadBlock : Nat := 4
@[inherit_doc recSummary] def recRepairNand : Nat := 5
@[inherit_doc recSummary] def recRepair2d : Nat := 6
@[inherit_doc recSummary] def recRepairResult : Nat := 7
@[inherit_doc recSummary] def recConfig : Nat := 8

/-- Hand a fail record over: the header of R234, FLAGS and BODY; FSEQ takes the vertex's number and advances. Once a record of
an operation is lost, its later ones carry OVERFLOW (R300). -/
def failRecord (v tag kind info flags at_ : Nat) (body : List Byte) (s : State) : State :=
  let analysis : Bool := recRepairNand ≤ kind && kind ≤ recRepairResult
  let lost := !analysis && Store.find (fun _ => false) s.lat.lossy v
  let d := leBytes 2 tag ++ leBytes 2 v ++ leBytes 1 kind ++ leBytes 1 info ++ leBytes 2 (flags + 8 * bit01 lost) ++
    leBytes 8 at_ ++ leBytes 4 (s.get (LAT_FSEQ_FSEQ v)) ++ body
  match handover (4 * v + 2) (fit 64 d) (s.count (LAT_FSEQ_FSEQ v) 1) with
  | (true, s) => s
  | (false, s) =>
    if analysis then s else modLat (fun l => { l with lossy := Store.put (fun _ => false) l.lossy v true }) s

/-- The flags of R235 that a slot gives its records, TIME_SUSPECT aside. (Log: 100 DEDUCED) -/
def Slot.flags (x : Slot) : Nat :=
  bit01 x.integrity + 4 * bit01 x.loss + 16 * bit01 x.ctrl + 32 * bit01 x.fold

/-- A record of a slot formed now. -/
def slotRecord (v kind extra : Nat) (x : Slot) (body : List Byte) (s : State) : State :=
  failRecord v x.tag kind (x.attempt % 4) (x.flags + 2 * bit01 (s.suspect 16) + extra) s.now body s

/-! ## Slots (R218) -/

/-- The accounting of an attempt that has not begun. -/
def SlotCounts.init : SlotCounts :=
  { counts := List.replicate 64 0, fold := false, ctrl := false, loss := false, bits := 0, events := 0, first := none
    lost := 0, logged := 0 }

/-- A slot opens (R218, R220): an invalid LATTICE word makes it run as MODE OFF and writes a CONFIG record. -/
def openSlot (v tag die word page block : Nat) (readPage : Bool) (s : State) : State :=
  let reason := s.latticeReason word
  let h : SlotHead :=
    { tag := tag, die := die, word := word, page := page, block := block, readPage := readPage
      mode := if reason = 0 then word % 4 else 0, map := s.posMap (bitsAt word 10 4)
      layout := s.get (LAT_DT_LAYOUT die), bbMax := s.get (LAT_DT_BB_MAX die) }
  let x : Slot :=
    { toSlotHead := h, toSlotCounts := SlotCounts.init, attempt := 0, before := 0, from_ := 0, integrity := false
      split := false, serial := 0, waiting := [], closing := none, verdict := none, dup := false }
  let s := setSlot v (some x) (modLat (fun l => { l with lossy := Store.erase v l.lossy }) s)
  if reason = 0 then s
  else pend 291 (slotRecord v recConfig 0 x (leBytes 4 word ++ leBytes 1 reason) s)

/-- The collectors that vertex `v`'s slot feeds (R230). -/
def State.slotCollectors (s : State) (v region : Nat) : List Nat :=
  (List.range 128).filter fun c =>
    s.on (LAT_COLL_EN c) && s.get (LAT_COLL_VERTEX c) = v && s.get (LAT_COLL_REGION c) = region

/-- Restore the working states of a slot's collectors (R225, R230). (Log: 99 DEDUCED) -/
def restoreCollectors (v : Nat) (x : Slot) (s : State) : State :=
  if x.mode = 2 then
    (s.slotCollectors v (bitsAt x.word 16 8)).foldl (fun s c =>
      setCollector c { s.collector c with working := (s.collector c).committed } s) s
  else s

/-- Arc reissues the operation of vertex `v` after underflow (R225); its phases are numbered from `from_`. (Log: 99 DEDUCED) -/
def reissueSlot (v from_ : Nat) (s : State) : State :=
  match s.slot v with
  | none => s
  | some x =>
    let y : Slot := { x with toSlotCounts := SlotCounts.init, attempt := x.attempt + 1, before := x.logged, from_ := from_ }
    restoreCollectors v y (setSlot v (some y) s)

/-- A phase of vertex `v` has been issued in these facets: it is the vertex's last. -/
def expectMarkers (v serial : Nat) (facets : List Nat) (s : State) : State :=
  modSlot v (fun x => { x with serial := serial, waiting := facets }) s

/-- Arc sends the close with its completion status (R218). -/
def sendClose (v status : Nat) (s : State) : State := modSlot v (fun x => { x with closing := some status }) s

/-! ## Mapping -/

/-- Is role `r` a data role (R221)? -/
def PosMap.data (m : PosMap) (r : Nat) : Bool := m.dqFirst ≤ r && decide (r < m.dqFirst + m.width)

/-- Does the event's phase kind count as data for the slot (R221)? (Log: 98 DEDUCED) -/
def Slot.dataPhase (x : Slot) (e : FailEvent) : Bool := e.kind = if x.readPage then 1 else 0

/-- Where a byte of a page falls (R223): its codeword, whether it is data, and its offset in its area. -/
structure Place where
  cw   : Nat
  data : Bool
  off  : Nat
  deriving DecidableEq, Repr

/-- The place of page byte `b`, if the layout gives it one (R223). -/
def codewordOf (layout pageBytes cwData cwSpare b : Nat) : Option Place :=
  let sz := cwData + cwSpare
  let n := pageBytes / sz
  if pageBytes ≤ b then none
  else if layout = 0 then
    if n * sz ≤ b then none
    else if b % sz < cwData then some ⟨b / sz, true, b % sz⟩
    else some ⟨b / sz, false, b % sz - cwData⟩
  else if b < n * cwData then some ⟨b / cwData, true, b % cwData⟩
  else if cwSpare = 0 ∨ n * sz ≤ b then none
  else some ⟨(b - n * cwData) / cwSpare, false, (b - n * cwData) % cwSpare⟩

/-- The page byte of a failing data role (R223). -/
def PosMap.byteOf (m : PosMap) (e : FailEvent) (r : Nat) : Nat :=
  ((e.vcount - m.dstart) * (1 + bit01 m.ddr) + e.beat) * (m.width / 8) + (r - m.dqFirst) / 8

/-- The page bytes of an event's failing data roles, with a repetition for each fail bit, ascending (R223). -/
def Slot.pageBits (x : Slot) (e : FailEvent) : List Nat :=
  if x.dataPhase e ∧ x.map.dstart ≤ e.vcount then
    ((setBits 22 e.mask).filter x.map.data).map fun r => x.map.byteOf e r
  else []

/-- The cell of an event (R222), if it lies in a span. -/
def PosMap.cellOf (m : PosMap) (n : Nat) : Option Nat :=
  match (m.spans.filter fun k => k.start ≤ n).getLast? with
  | none => none
  | some k =>
    let q := (n - k.start) / k.vpc
    some (unsigned 32 (if k.down then (k.first : Int) - q else (k.first : Int) + q))

/-- The row and the column address of a cell (R222). -/
def PosMap.rowOf (m : PosMap) (c : Nat) : Nat := c >>> m.colBits
@[inherit_doc PosMap.rowOf] def PosMap.colOf (m : PosMap) (c : Nat) : Nat := c % 2 ^ m.colBits

/-! ## Column map (R226, R227) -/

/-- Entry `e` of vertex `v`. -/
def State.cmapEntry (s : State) (v e : Nat) : Nat :=
  bitsAt (Memory.byte s.cmap (v * 4096 + e / 4)).toNat (2 * (e % 4)) 2

/-- Set entry `e` of vertex `v`. -/
def setCmapEntry (v e n : Nat) (s : State) : State :=
  let a := v * 4096 + e / 4
  let b := (Memory.byte s.cmap a).toNat
  let old := bitsAt b (2 * (e % 4)) 2
  { s with cmap := Memory.putByte s.cmap a (BitVec.ofNat 8 (b + (n % 4) * 4 ^ (e % 4) - old * 4 ^ (e % 4))) }

/-- One observation of a fail in a byte-column (R226): it saturates at 3, and an index beyond the map is counted. -/
def observeColumn (v e : Nat) (s : State) : State :=
  if e < 16384 then setCmapEntry v e (min 3 (s.cmapEntry v e + 1)) s else s.countSat LAT_CMAP_BEYOND_COUNT 1

/-- Does the column map take the events of this block (R226)? -/
def State.planeMapped (s : State) (x : Slot) : Bool :=
  !s.on LAT_CMAP_CFG_PLANE_EN || x.block % s.mapGet (ARC_DT0_PLANES x.die) = s.get LAT_CMAP_CFG_PLANE

/-- The entries of the column map that the bytes of an event fall on (R226). -/
def State.mapColumns (s : State) (x : Slot) (ps : List Place) : List Nat :=
  let area := s.on LAT_CMAP_CFG_AREA
  (ps.filter fun p => p.data == !area).map fun p =>
    p.cw * (if area then s.mapGet (ARC_DT3_CW_SPARE x.die) else s.mapGet (ARC_DT3_CW_DATA x.die)) + p.off

/-! ## Collectors (R230) -/

/-- Take a fail at (y, x) into a state of a collector with R spare rows and C spare columns (R230). -/
def CollSide.take (R C y x : Nat) (w : CollSide) : CollSide :=
  if w.early || y ∈ w.rows || x ∈ w.cols || (y, x) ∈ w.cells then w
  else
    let w : CollSide := { w with cells := w.cells ++ [(y, x)] }
    let w : CollSide := if C < (w.cells.filter fun p => p.1 = y).length then
        { w with rows := w.rows ++ [y], cells := w.cells.filter fun p => p.1 ≠ y } else w
    let w : CollSide := if R < (w.cells.filter fun p => p.2 = x).length then
        { w with cols := w.cols ++ [x], cells := w.cells.filter fun p => p.2 ≠ x } else w
    let r : Int := R - w.rows.length
    let c : Int := C - w.cols.length
    if r < 0 || c < 0 || decide (r * C + c * R < w.cells.length) || decide (512 < w.cells.length) then
      { w with early := true } else w

/-- The spares of a vertex's regions (R230); the tables count to 16. (Log: 102 DEDUCED) -/
def State.spareRows (s : State) (v : Nat) : Nat := min 16 (s.mapGet (ARC_DT10_SPARE_ROWS_2D (s.dieType v)))
@[inherit_doc State.spareRows] def State.spareCols (s : State) (v : Nat) : Nat :=
  min 16 (s.mapGet (ARC_DT10_SPARE_COLS_2D (s.dieType v)))

/-- Commit a collector's working state (R230); source 293 pends when EARLY sets. -/
def commitCollector (c : Nat) (s : State) : State :=
  let x := s.collector c
  pendIf (x.working.early && !x.committed.early) 293 (setCollector c { x with committed := x.working } s)

/-- LAT_COLL.CLEAR (R230). -/
def clearCollector (c : Nat) (s : State) : State :=
  setCollector c { s.collector c with working := CollSide.init, committed := CollSide.init } s

/-- A double-bit error in a collector (R238): its EARLY sets. -/
def spoilCollector (c : Nat) (s : State) : State :=
  let x := s.collector c
  pendIf (!x.committed.early) 293 (setCollector c
    { working := { x.working with early := true }, committed := { x.committed with early := true }, uecc := true } s)

/-! ## Accounting -/

/-- What accounting an event yields: the slot, and the position that a LOG record shows, if the event has one. -/
structure Taken where
  slot : Slot
  ctrl : Bool
  pos  : Option Nat
  cw   : Nat
  deriving DecidableEq, Repr

/-- Count the fail bits of codewords (R223). (Log: 98 DEDUCED) -/
def countBits (ps : List Place) (x : Slot) : Slot :=
  ps.foldl (fun x p =>
    let i := min p.cw 63
    { x with counts := x.counts.set i (min 65535 (x.counts.getD i 0 + 1)), fold := x.fold || decide (63 < p.cw) }) x

/-- Account an event in PAGE mode (R223, R226). (Log: 98 DEDUCED) -/
def accountPage (v : Nat) (e : FailEvent) (ecc : LatEcc) (x : Slot) (s : State) : Taken × State :=
  let d := x.die
  let bs := x.pageBits e
  let place (b : Nat) : Option Place :=
    codewordOf x.layout (s.mapGet (ARC_DT2_PAGE_BYTES d)) (s.mapGet (ARC_DT3_CW_DATA d)) (s.mapGet (ARC_DT3_CW_SPARE d)) b
  let ps := bs.filterMap place
  let ctrl := decide (ps.length < (setBits 22 e.mask).length)
  let cols := if x.word.testBit 2 && s.planeMapped x then s.mapColumns x (bs.dedup.filterMap place) else []
  let s := cols.foldl (fun s c => observeColumn v c s) s
  let s :=
    match ecc, cols.filter fun c => c < 16384 with
    | .cmap, c :: _ =>
      let s := (List.range 16).foldl (fun s i => setCmapEntry v (c / 16 * 16 + i) 3 s) s
      latUecc (modLat (fun l => { l with mapBad := Store.put (fun _ => false) l.mapBad v true }) s)
    | _, _ => s
  let shown := bs.find? fun b => (place b).isSome
  (⟨countBits ps x, ctrl, shown.orElse fun _ => bs.head?, match shown with
    | some b => ((place b).map Place.cw).getD 0xFFFF
    | none => 0xFFFF⟩, s)

/-- Account an event in CELL mode (R222, R230). (Log: 98 DEDUCED) -/
def accountCell (v : Nat) (e : FailEvent) (ecc : LatEcc) (x : Slot) (s : State) : Taken × State :=
  let m := x.map
  let cell := if x.dataPhase e then m.cellOf e.vcount else none
  let roles := setBits 22 e.mask
  let inside : Option Nat := cell.bind fun c => if m.rowOf c < 65536 then some c else none
  let ctrl := inside.isNone || roles.any fun r => !m.data r
  let fails : List (Nat × Nat) :=
    match inside with
    | some c => (roles.filter m.data).map fun r => (m.rowOf c, m.colOf c * m.width + (r - m.dqFirst))
    | none => []
  let cs := s.slotCollectors v (bitsAt x.word 16 8)
  let s := cs.foldl (fun s c =>
    let k := s.collector c
    let w := fails.foldl (fun w p => CollSide.take (s.spareRows v) (s.spareCols v) p.1 p.2 w) k.working
    let s := setCollector c { k with working := w } s
    if ctrl then s.raise (LAT_COLL_STAT_OUTSIDE c) else s) s
  let s := match ecc, cs with
    | .collector, c :: _ => latUecc (spoilCollector c s)
    | _, _ => s
  (⟨x, ctrl, cell.map fun c => m.rowOf c % 65536 + (m.colOf c % 65536) * 65536, 0⟩, s)

/-- Write the LOG record of an event (R228, R236); a position that the event does not have is a free value. (Log: 101 DEDUCED) -/
def logFail (v : Nat) (e : FailEvent) (t : Taken) (s : State) : State :=
  let x := t.slot
  let (pos, s) : Nat × State :=
    match t.pos with
    | some p => (p, s)
    | none => if x.mode = 3 then (0, s) else s.fresh
  let body := leBytes 8 e.vcount ++ leBytes 4 e.beat ++ leBytes 4 (e.mask % 2 ^ 22) ++ leBytes 2 x.block ++ leBytes 2 0 ++
    leBytes 4 x.page ++ leBytes 4 pos ++ (if x.mode = 1 then leBytes 2 t.cw else [])
  let flags := bit01 x.integrity + 2 * bit01 e.suspect + 4 * bit01 x.loss + 16 * bit01 t.ctrl
  failRecord v x.tag recLog (x.attempt % 4 + 4 * bit01 (e.kind = 1)) flags e.at_ body s

/-- Account an event to a slot (R222, R223, R228). -/
def accountTo (v : Nat) (e : FailEvent) (ecc : LatEcc) (x : Slot) (s : State) : Slot × State :=
  let s := s.countSat LAT_EVENTS_COUNT 1
  let x := { x with events := min (2 ^ 32 - 1) (x.events + 1)
                    bits := min (2 ^ 32 - 1) (x.bits + (setBits 22 e.mask).length)
                    first := x.first.orElse fun _ => some e.vcount }
  let x := if ecc = .slot then { x with integrity := true } else x
  let s := if ecc = .slot then latUecc s else s
  let (t, s) : Taken × State :=
    if x.mode = 1 then accountPage v e ecc x s
    else if x.mode = 2 then accountCell v e ecc x s
    else (⟨x, false, none, 0⟩, s)
  let x := { t.slot with ctrl := t.slot.ctrl || t.ctrl }
  if x.logged < bitsAt x.word 5 5 then
    let x := { x with logged := x.logged + 1 }
    (x, logFail v e { t with slot := x } s)
  else (x, s)

/-- Account a merged event to its vertex's open slot, or ignore it (R218). An event of an attempt that a reissue has
abandoned is accounted to that attempt: only its column-map increments and its records stay (R225, R243). -/
def accountEvent (e : FailEvent) (ecc : LatEcc) (s : State) : State :=
  match s.slot e.vertex with
  | none => s.countSat LAT_IGNORED_COUNT 1
  | some x =>
    if 2 ≤ e.kind ∨ x.mode = 0 then s.countSat LAT_IGNORED_COUNT 1
    else if e.serial < x.from_ then
      let old := s.lat.coll
      let (y, s) := accountTo e.vertex e ecc { x with attempt := x.attempt - 1, logged := x.before } s
      let s := (s.slotCollectors e.vertex (bitsAt x.word 16 8)).foldl (fun s c =>
        setCollector c (Store.find (fun _ => ⟨CollSide.init, CollSide.init, false⟩) old c) s) s
      setSlot e.vertex (some { x with before := y.logged }) s
    else
      let (y, s) := accountTo e.vertex e ecc x s
      setSlot e.vertex (some y) s

/-! ## The merger (R216) -/

/-- What identifies an event to the merger. -/
def FailEvent.key (e : FailEvent) : Nat × Nat × Nat × Nat := (e.vertex, e.serial, e.vcount, e.beat)

/-- Events whose merge window of 64 ticks has ended are accounted (R216); `all` ends the windows of vertex `v` at once. -/
def endWindows (all : Option Nat) (ecc : LatEcc) (s : State) : State :=
  let ended (x : FailEvent × Nat) : Bool := x.2 + 64 * 256 < s.elapsed || all = some x.1.vertex
  let es := s.lat.merging.filter ended
  let s := modLat (fun l => { l with merging := l.merging.filter fun x => !ended x
                                     taken := l.taken ++ es.map fun x => x.1.key }) s
  es.foldl (fun s x => accountEvent x.1 ecc s) s

/-- An event reaches the hub (R216): one of a chord that spans facets is merged with those of the same vertex, phase, VCOUNT
and beat. -/
def ingest (e : FailEvent) (ecc : LatEcc) (s : State) : State :=
  if (s.chordRays (s.chordOf e.vertex)).length ≤ 1 then accountEvent e ecc s
  else
    let s := endWindows none .good s
    if s.lat.merging.any fun x => x.1.key = e.key then
      modLat (fun l => { l with merging := l.merging.map fun x =>
        if x.1.key = e.key then ({ x.1 with mask := x.1.mask ||| e.mask, suspect := x.1.suspect || e.suspect }, x.2)
        else x }) s
    else if e.key ∈ s.lat.taken then
      accountEvent e ecc (modSlot e.vertex (fun x => { x with split := true }) (s.countSat LAT_MERGE_LATE_COUNT 1))
    else modLat (fun l => { l with merging := l.merging ++ [(e, s.elapsed)] }) s

/-- Does Lattice stand still (R68, R84)? (Log: 103 DEDUCED) -/
def State.latticeStopped (s : State) : Bool :=
  s.mode = modeDoze || s.mode = modeReset || Store.find (fun _ => 0) s.fcl.reacting 17 != 0

/-- The oldest item of facet `f`'s queue, if it is an event, reaches the hub (R217). -/
def failArrives (f : Nat) (ecc : LatEcc) (s : State) : State :=
  if s.latticeStopped then s
  else
    match (s.fct f).queue with
    | .event e :: q => ingest e ecc (modFct f (fun x => { x with queue := q }) s)
    | _ => s

/-- A facet reports events lost of a vertex (R217). -/
def countLost (v n serial : Nat) (s : State) : State :=
  if n = 0 then s
  else
    let s := pend 289 (s.countSat LAT_LOST_COUNT n)
    modSlot v (fun x => if serial < x.from_ then x else { x with loss := true, lost := min (2 ^ 32 - 1) (x.lost + n) }) s

/-- The oldest item of facet `f`'s queue, if it is an end marker, reaches the hub (R217, R218). -/
def markerArrives (f : Nat) (s : State) : State :=
  if s.latticeStopped then s
  else
    match (s.fct f).queue with
    | .marker _ serial lost :: q =>
      lost.foldl (fun s x =>
        modSlot x.1 (fun y => if y.serial = serial then { y with waiting := y.waiting.filter fun g => g ≠ f } else y)
          (countLost x.1 x.2 serial s)) (modFct f (fun x => { x with queue := q }) s)
    | _ => s

/-! ## Closing (R224, R229, R237) -/

/-- Verdicts (R224). -/
def verdictNone : Nat := 0
@[inherit_doc verdictNone] def verdictPass : Nat := 1
@[inherit_doc verdictNone] def verdictFail : Nat := 2
@[inherit_doc verdictNone] def verdictIncomplete : Nat := 3

/-- The codeword counts above CORR_THRESH. -/
def State.overThreshold (s : State) (x : Slot) : Nat :=
  (x.counts.filter fun n => s.mapGet (ARC_DT4_CORR_THRESH x.die) < n).length

/-- The verdict of a close, and whether the close is committing (R224). -/
def State.verdictOf (s : State) (x : Slot) (status : Nat) : Nat × Bool :=
  let fail : Bool := if x.mode = 1 then x.ctrl || decide (0 < s.overThreshold x) else decide (0 < x.events)
  if x.mode = 0 ∨ status = 3 then (verdictNone, false)
  else if x.loss || x.integrity || decide (2 < status) then
    (if fail then verdictFail else verdictIncomplete, fail && decide (status ≤ 2) && !x.loss && !x.integrity)
  else (if fail then verdictFail else verdictPass, true)

/-- The codewords of a page of the slot's die type (R223). -/
def State.codewords (s : State) (x : Slot) : Nat :=
  s.mapGet (ARC_DT2_PAGE_BYTES x.die) / (s.mapGet (ARC_DT3_CW_DATA x.die) + s.mapGet (ARC_DT3_CW_SPARE x.die))

/-- Write the CW_COUNTS records of a close (R236): up to 20 counts each. (Log: 100 DEDUCED) -/
def writeCounts (v : Nat) (x : Slot) (s : State) : State :=
  if x.mode = 1 ∧ x.word.testBit 14 then
    let n := min 64 (s.codewords x)
    (List.range ((n + 19) / 20)).foldl (fun s i =>
      let cs := (x.counts.take n).drop (20 * i) |>.take 20
      slotRecord v recCwCounts 0 x (leBytes 1 (20 * i) ++ leBytes 1 cs.length ++ cs.flatMap (leBytes 2)) s) s
  else s

/-- The cause with which a committing close adds the block to the bad-block list (R229, R236), 0 for none. -/
def badBlockCause (x : Slot) (verdict status : Nat) : Nat :=
  if x.word.testBit 4 ∧ status = 1 then 2
  else if x.word.testBit 4 ∧ status = 2 then 3
  else if x.word.testBit 3 ∧ verdict = verdictFail then 1
  else 0

/-- The bad-block count of plane `p` of vertex `v`. -/
def badBlockCount (v p : Nat) : Fld := if p % 2 = 0 then LAT_BB_COUNT0 v (p / 2) else LAT_BB_COUNT1 v (p / 2)

/-- Add a block to a vertex's list (R229): true when it was the last added one already. -/
def addBadBlock (v cause : Nat) (x : Slot) (s : State) : Bool × State :=
  let b := x.block % 65536
  if s.on (LAT_BB_LAST_LAST_VALID v) ∧ s.get (LAT_BB_LAST_LAST v) = b then (true, s)
  else
    let p := b % s.mapGet (ARC_DT0_PLANES x.die)
    let n := min 65535 (s.get (badBlockCount v p) + 1)
    let s := (s.set (badBlockCount v p) n).set (LAT_BB_LAST_LAST v) b
    let s := s.set (LAT_BB_LAST_LAST_VALID v) 1
    let limit := x.bbMax ≠ 0 ∧ x.bbMax < n
    let s := slotRecord v recBadBlock (64 * bit01 limit) x
      (leBytes 2 b ++ leBytes 1 p ++ leBytes 1 cause ++ leBytes 2 n) s
    (false, pendIf limit 294 s)

/-- The index of the largest count, the lowest of equal ones. (Log: 100 DEDUCED) -/
def worstIndex (l : List Nat) : Nat :=
  (l.zipIdx.foldl (fun b x => if b.1 < x.1 then x else b) (l.headD 0, 0)).2

/-- The body of a SUMMARY record (R236). (Log: 100 DEDUCED) -/
def summaryBody (x : Slot) (verdict status : Nat) (s : State) : List Byte :=
  let page : Bool := x.mode = 1
  let n := if page then s.codewords x else 0
  let w := if page then worstIndex x.counts else 0
  leBytes 1 (verdict + 4 * bit01 x.ctrl) ++ leBytes 1 status ++ leBytes 2 n ++
  leBytes 2 (if page then s.overThreshold x else 0) ++ leBytes 2 w ++ leBytes 2 (if page then x.counts.getD w 0 else 0) ++
  leBytes 2 0 ++ leBytes 4 x.bits ++ leBytes 4 x.events ++ leBytes 8 (x.first.getD (2 ^ 64 - 1)) ++ leBytes 2 x.block ++
  leBytes 2 0 ++ leBytes 4 x.page ++ leBytes 4 x.lost ++ leBytes 4 x.logged

/-- Arc's close and the last end markers are there (R218, R224): the verdict is formed, the counts and the bad block are
written, and collectors commit or are restored. -/
def closeSlot (v : Nat) (ecc : LatEcc) (s : State) : State :=
  match s.slot v with
  | none => s
  | some x0 =>
    match x0.closing, x0.verdict with
    | some status, none =>
      if x0.waiting ≠ [] || s.latticeStopped then s
      else
        let s := endWindows (some v) .good s
        let s := if ecc = .slot then latUecc (modSlot v (fun x => { x with integrity := true }) s) else s
        match s.slot v with
        | none => s
        | some x =>
          let (verdict, commit) := s.verdictOf x status
          let s := writeCounts v x s
          let cause := if commit then badBlockCause x verdict status else 0
          let (dup, s) := if cause = 0 then (false, s) else addBadBlock v cause x s
          let s := if commit ∧ x.mode = 2 then
              (s.slotCollectors v (bitsAt x.word 16 8)).foldl (fun s c => commitCollector c s) s
            else restoreCollectors v x s
          modLat (fun l => { l with taken := l.taken.filter fun k => k.1 ≠ v })
            (modSlot v (fun x => { x with verdict := some verdict, dup := dup }) s)
    | _, _ => s

/-- SUMMARY is handed over and the slot closes (R237): the verdict for Arc, or nothing when the close is not formed. (Log: 103 DEDUCED) -/
def finishClose (v : Nat) (s : State) : Option Nat × State :=
  match s.slot v with
  | none => (none, s)
  | some x =>
    match x.closing, x.verdict with
    | some status, some verdict =>
      let s := if x.mode = 0 then s
        else pendIf (verdict = verdictIncomplete) 290
          (slotRecord v recSummary (128 * bit01 x.dup + 256 * bit01 x.split) x (summaryBody x verdict status s) s)
      (some verdict, setSlot v none s)
    | _, _ => (none, s)

/-! ## Clears (R227, R229) -/

/-- The vertices of LAT_CLEAR_RANGE, as limited. -/
def State.clearRange (s : State) : List Nat :=
  (List.range s.vertices).filter fun v => s.get LAT_CLEAR_RANGE_VFIRST ≤ v && decide (v ≤ s.get LAT_CLEAR_RANGE_VLAST)

/-- Zero the column map of a vertex. (Log: 97 DEDUCED) -/
def clearColumns (v : Nat) (s : State) : State := { s with cmap := s.cmap.filter fun c => c.1 / 4096 ≠ v }

/-- Zero the bad-block counts and LAST of a vertex. -/
def clearBadBlocks (v : Nat) (s : State) : State :=
  s.clearRegs fun a => 0x410000 + v * 0x40 ≤ a && decide (a < 0x410000 + v * 0x40 + 0x24)

/-- The clear ends (R227). (Log: 97 DEDUCED) -/
def endClear (s : State) : State := if s.on LAT_CLEAR_START then pend 292 (s.set LAT_CLEAR_START 0) else s

/-- LAT_CLEAR.START is written, with the choices of the register as written (R227, R229). (Log: 97 DEDUCED) -/
def startClear (s : State) : State :=
  if s.on LAT_CLEAR_START ∨ s.mode ≤ modeBoot then s
  else
    let vs := s.clearRange
    let s := if s.on LAT_CLEAR_CMAP then vs.foldl (fun s v => clearColumns v s) s else s
    let s := if s.on LAT_CLEAR_BB then vs.foldl (fun s v => clearBadBlocks v s) s else s
    let s := s.raise LAT_CLEAR_START
    if vs = [] then endClear s else s

/-- A doubleword of the column map's window (R227): the vertex and the doubleword's byte in its map, if the member has it. -/
def State.windowPlace (s : State) (off : Nat) : Option Nat :=
  let v := 256 * s.get LAT_CMAP_PAGE_PAGE + off / 4096
  if v < s.vertices then some (v * 4096 + off % 4096 / 4 * 4) else none

/-! ## Repair analysis (R231 to R233) -/

/-- Verdicts of an analysis (R236). -/
def raRepaired : Nat := 0
@[inherit_doc raRepaired] def raUnrepairable : Nat := 1
@[inherit_doc raRepaired] def raUndecided : Nat := 2

/-- Entries of a vertex's column map with their counts, the non-zero ones, ascending. -/
def State.columnCounts (s : State) (v : Nat) : List (Nat × Nat) :=
  (List.range 16384).filterMap fun e => if s.cmapEntry v e = 0 then none else some (e, s.cmapEntry v e)

/-- The columns that the NAND analysis takes, and its verdict (R232): `p` spares, must-repair count `m`, required count
`q`. (Log: 102 DEDUCED) -/
def nandSolve (p m q : Nat) (cs : List (Nat × Nat)) : List Nat × Nat :=
  let must := (cs.filter fun x => m ≤ x.2).map Prod.fst
  if p < must.length then (must.take p, raUnrepairable)
  else
    let rest := [2, 1].flatMap fun n => (cs.filter fun x => x.2 = n ∧ x.2 < m).map Prod.fst
    let got := (must ++ rest).take p
    (got, if cs.all fun x => x.2 < q || x.1 ∈ got then raRepaired else raUnrepairable)

/-- How a search ended: with lines chosen, without a solution, or stopped by the node limit. -/
inductive SearchEnd where
  | found (rows cols : List Nat)
  | none
  | stopped
  deriving DecidableEq, Repr

/-- The search of R233 over cells sorted by row and column, and the nodes visited. -/
def search2d (R C : Nat) : Nat → List (Nat × Nat) → Nat → Nat → List Nat → List Nat → Nat → SearchEnd × Nat
  | 0, _, _, _, _, _, nodes => (.none, nodes)
  | fuel + 1, cells, r, c, rows, cols, nodes =>
    if 65536 < nodes + 1 then (.stopped, nodes + 1)
    else
      match cells with
      | [] => (.found rows cols, nodes + 1)
      | (y, x) :: _ =>
        if r * C + c * R < cells.length then (.none, nodes + 1)
        else
          let a : SearchEnd × Nat :=
            if 0 < r then search2d R C fuel (cells.filter fun p => p.1 ≠ y) (r - 1) c (rows ++ [y]) cols (nodes + 1)
            else (.none, nodes + 1)
          match a.1 with
          | .none =>
            if 0 < c then search2d R C fuel (cells.filter fun p => p.2 ≠ x) r (c - 1) rows (cols ++ [x]) a.2 else a
          | _ => a

/-- Insert a cell into a list sorted by row and column. -/
def insertCell (p : Nat × Nat) : List (Nat × Nat) → List (Nat × Nat)
  | [] => [p]
  | q :: l => if p.1 < q.1 ∨ (p.1 = q.1 ∧ p.2 < q.2) then p :: q :: l else q :: insertCell p l

/-- A record of an analysis. -/
def raRecord (v tag kind : Nat) (integrity : Bool) (body : List Byte) (s : State) : State :=
  failRecord v tag kind 0 (bit01 integrity + 2 * bit01 (s.suspect 16)) s.now body s

/-- Count a verdict in LAT_RA_STAT. -/
def countVerdict (verdict : Nat) (s : State) : State :=
  match verdict with
  | 0 => s.count LAT_RA_STAT_REPAIRED 1
  | 1 => s.count LAT_RA_STAT_UNREPAIRABLE 1
  | _ => s.count LAT_RA_STAT2_UNDECIDED 1

/-- The NAND analysis of a vertex, with its records (R232, R236). -/
def analyseNand (v plane tag : Nat) (s : State) : State :=
  let cs := s.columnCounts v
  let m := if s.get LAT_RA_CFG_NAND_MUST = 0 then 3 else s.get LAT_RA_CFG_NAND_MUST
  let q := if s.get LAT_RA_CFG_NAND_REQ = 0 then 1 else s.get LAT_RA_CFG_NAND_REQ
  let (got, verdict) := nandSolve (s.mapGet (ARC_DT10_SPARE_COLS (s.dieType v))) m q cs
  let bad := Store.find (fun _ => false) s.lat.mapBad v
  let s := modLat (fun l => { l with mapBad := Store.erase v l.mapBad }) s
  let s := (List.range ((got.length + 19) / 20)).foldl (fun s i =>
    let part := (got.drop (20 * i)).take 20
    raRecord v tag recRepairNand bad
      (leBytes 1 plane ++ leBytes 1 i ++ leBytes 2 part.length ++ part.flatMap (leBytes 2)) s) s
  let body := leBytes 1 verdict ++ leBytes 1 0 ++ leBytes 1 plane ++ leBytes 1 0 ++
    leBytes 2 (cs.filter fun x => m ≤ x.2).length ++ leBytes 2 0 ++ leBytes 2 got.length ++ leBytes 2 0 ++ leBytes 4 0 ++
    leBytes 2 cs.length
  countVerdict verdict (raRecord v tag recRepairResult bad body s)

/-- The 2-D analysis of a collector, with its records (R233, R236). (Log: 102 DEDUCED) -/
def analyse2d (c tag : Nat) (s : State) : State :=
  let k := s.collector c
  let v := s.get (LAT_COLL_VERTEX c)
  let x := k.committed
  let R := s.spareRows v
  let C := s.spareCols v
  let r := R - x.rows.length
  let n := C - x.cols.length
  let (res, nodes) : SearchEnd × Nat :=
    if x.early then (.none, 0)
    else search2d R C (r + n + 1) (x.cells.foldr insertCell []) r n x.rows x.cols 0
  let verdict := match res with | .found _ _ => raRepaired | .none => raUnrepairable | .stopped => raUndecided
  let lines := match res with | .found rows cols => (rows, cols) | _ => ([], [])
  let s := setCollector c { k with uecc := false } s
  let half (kind : Nat) (l : List Nat) (s : State) : State :=
    raRecord v tag recRepair2d k.uecc (leBytes 1 kind ++ leBytes 1 l.length ++ l.flatMap (leBytes 2)) s
  let s := if verdict = raRepaired then half 1 lines.2 (half 0 lines.1 s) else s
  let body := leBytes 1 verdict ++ leBytes 1 1 ++ leBytes 1 (s.get (LAT_COLL_REGION c)) ++ leBytes 1 0 ++
    leBytes 2 x.rows.length ++ leBytes 2 x.cols.length ++ leBytes 2 lines.1.length ++ leBytes 2 lines.2.length ++
    leBytes 4 nodes ++ leBytes 2 x.cells.length
  countVerdict verdict (raRecord v tag recRepairResult k.uecc body s)

/-- The run ends with a RESULT: 1 COMPLETE, 2 ABORTED (R231). -/
def endAnalysis (result : Nat) (s : State) : State :=
  let s := modLat (fun l => { l with ra := none }) s
  pend 288 ((s.set LAT_RA_CMD_START 0).set LAT_RA_STAT_RESULT result)

/-- What a run over the range analyses (R231). -/
def State.raTargets (s : State) : List Nat :=
  let inRange (v : Nat) : Bool := s.get LAT_RA_RANGE_VFIRST ≤ v && decide (v ≤ s.get LAT_RA_RANGE_VLAST)
  if s.on LAT_RA_CMD_KIND then
    (List.range 128).filter fun c => s.on (LAT_COLL_EN c) && inRange (s.get (LAT_COLL_VERTEX c))
  else s.busVertices.filter fun v => s.vertexState v = vertexPresent && inRange v

/-- LAT_RA_CMD.START is written (R231). -/
def startAnalysis (s : State) : State :=
  if s.lat.ra.isSome then s
  else if !(s.mode ∈ [modeIdle, modeHost, modeAuto, modeCal]) || decide (s.get LAT_RA_RANGE_VLAST < s.get LAT_RA_RANGE_VFIRST) ||
      decide (s.vertices ≤ s.get LAT_RA_RANGE_VLAST) then
    pend 288 (s.set LAT_RA_STAT_RESULT 3)
  else
    let todo := s.raTargets
    let s := ((s.set LAT_RA_STAT_REPAIRED 0).set LAT_RA_STAT_UNREPAIRABLE 0).set LAT_RA_STAT2_UNDECIDED 0
    let s := modLat (fun l => { l with ra := some ⟨todo, s.on LAT_RA_CMD_KIND, s.get LAT_RA_CMD_PLANE, s.get LAT_RA_CMD_TAG,
                                                   false⟩ }) (s.raise LAT_RA_CMD_START)
    if todo = [] then endAnalysis 1 s else s

/-- LAT_RA_CMD.ABORT is written (R231). -/
def abortAnalysis (s : State) : State :=
  modLat (fun l => { l with ra := l.ra.map fun x => { x with abort := true } }) s

/-- The analysis of the run's current vertex or collector ends (R231). -/
def analysisDone (s : State) : State :=
  if s.latticeStopped then s
  else
    match s.lat.ra with
    | none => s
    | some x =>
      match x.todo with
      | [] => endAnalysis 1 s
      | t :: ts =>
        let s := if x.twoD then analyse2d t x.tag s else analyseNand t x.plane x.tag s
        if x.abort then endAnalysis 2 s
        else if ts = [] then endAnalysis 1 s
        else modLat (fun l => { l with ra := some { x with todo := ts } }) s

/-- A block reset of Lattice (R84, R243): open slots are marked LOSS, a running analysis ends ABORTED, a running clear
ends. (Log: 103 DEDUCED) -/
def resetLattice (s : State) : State :=
  let s := s.lat.slots.foldl (fun s e => modSlot e.1 (fun x => { x with loss := true }) s) s
  let s := modLat (fun l => { l with merging := [] }) s
  endClear (if s.lat.ra.isSome then endAnalysis 2 s else s)

end Sys2Proof.Machine
end

