-- ==== Sys2Proof/Machine/Dma.lean ====
section
/-!
DEFINITION. The DMA engine's requesters without a ring context (R149, R301), the host's answers about pages (R293 to R296), and
the copy engine (R302).
-/

namespace Sys2Proof.Machine
open Sys2Proof.Reg

/-- Change what the DMA engine holds. -/
def modDma (g : DmaState → DmaState) (s : State) : State := { s with dma := g s.dma }

/-! ## Stream queues (R149, R301) -/

/-- The park of the stream queue of ray `r` of facet `f`. -/
def State.queuePark (s : State) (f r : Nat) : Option AuxPark := Store.find (fun _ => none) s.dma.sqPark (32 * f + r)

/-- Set or end the park of a stream queue. -/
def setQueuePark (f r : Nat) (p : Option AuxPark) (s : State) : State :=
  modDma (fun d => { d with sqPark := Store.put (fun _ => none) d.sqPark (32 * f + r) p }) s

/-- The host address of word `i` of a queue (R149). -/
def State.queueWordAt (s : State) (f r i : Nat) : Nat :=
  s.get (FCT_SQ_HADDR_HADDR f r) + (i % 2 ^ s.get (FCT_SQ_HSIZE_HSIZE f r)) * 32

/-- The host address of the next word to fetch. -/
def State.queueNextAt (s : State) (f r : Nat) : Nat := s.queueWordAt f r (s.get (FCT_SQ_FETCHED_FETCHED f r))

/-- Can a queue fetch now: it wants words, is not parked, and the engine runs? -/
def State.queueFetches (s : State) (f r : Nat) : Bool :=
  0 < s.queueWants f r && (s.queuePark f r).isNone && s.dmaReady && !s.islandDown f

/-- The engine asks for the next word of a queue: its translation first (R293), then the read. -/
def fetchQueue (f r : Nat) (s : State) : State :=
  if !s.queueFetches f r then s
  else
    let a := s.queueNextAt f r
    match translate (.stream f r) a false s with
    | (true, s) => s.send (.hostRead a 32)
    | (false, s) => s

/-- Words fetched for a queue arrive (R149): as many as it still wants, each from a page that is translated. -/
def queueWordsArrive (f r : Nat) : List Nat → State → State
  | [], s => s
  | w :: ws, s =>
    if !s.queueFetches f r then s
    else
      match translate (.stream f r) (s.queueNextAt f r) false s with
      | (true, s) => queueWordsArrive f r ws (wordsArrive f r [w] s)
      | (false, s) => s

/-- The translation of a queue's next word is refused (R294, R301). -/
def refuseQueue (f r : Nat) (s : State) : State :=
  let a := s.queueNextAt f r
  let s := pendIf (s.queuePark f r).isNone 352 (recordFault 1 (32 * f + r) a s)
  let (c, s) := faultCause (pageOf a) s
  setQueuePark f r (some ⟨c, a⟩) s

/-- It is granted: the queue fetches again. -/
def grantQueue (f r : Nat) (s : State) : State := fetchQueue f r (setQueuePark f r none s)

/-- Retry the access that parked a queue. -/
def retryQueue (f r : Nat) (s : State) : State :=
  match s.queuePark f r with
  | none => s
  | some p =>
    match translate (.stream f r) p.addr false s with
    | (true, s) => grantQueue f r s
    | (false, s) => s

/-! ## Acquisition destinations (R301) -/

/-- Retry the access that parked the destination of unit `u`. -/
def retryDest (u : Nat) (s : State) : State :=
  match Store.find (fun _ => none) s.dma.acqPark u with
  | none => s
  | some p =>
    match translate (.acq u) p.addr true s with
    | (true, s) => grantDest u s
    | (false, s) => s

/-! ## The copy engine (R302) -/

/-- The copy ends: 1 COMPLETE, 2 ABORTED, 3 FAULT. -/
def endCopy (code : Nat) (s : State) : State :=
  let s := ((s.set DMA_XFER_STAT_BUSY 0).set DMA_XFER_STAT_END code).set DMA_XFER_CTRL_START 0
  pend 359 (modDma (fun d => { d with copyPark := none, copyStop := false
                                      waiters := d.waiters.filter fun w => w.who != .copy }) s)

/-- START is written (R302): in RESET and BOOT it is ignored, and a copy that runs goes on. (Log: 109 DEDUCED) -/
def startCopy (s : State) : State :=
  if s.mode ≤ modeBoot ∨ s.on DMA_XFER_STAT_BUSY then s
  else
    let first := s.get DMA_XFER_SRC_FIRST
    let n := s.get DMA_XFER_SRC_COUNT
    let s := ((s.set DMA_XFER_STAT_BUSY 1).set DMA_XFER_STAT_END 0).set DMA_XFER_CTRL_START 1
    let s := modDma (fun d => { d with copyNext := first, copyEnd := first + n, copyStop := false, copyPark := none }) s
    if n = 0 then endCopy 1 s else s

/-- ABORT is written: the copy ends after the current page. -/
def abortCopy (s : State) : State :=
  if s.on DMA_XFER_STAT_BUSY then modDma (fun d => { d with copyStop := true }) s else s

/-- The address to which the current page of a copy goes. -/
def State.copyAddr (s : State) : Nat := s.get DMA_XFER_DST_DST + (s.dma.copyNext - s.get DMA_XFER_SRC_FIRST) * 4096

/-- The 4,096 bytes of the current page of a copy. Beyond the vertices and the pages that exist the spec names no content: the
bytes are free values. (Log: 109 DEDUCED) -/
def copyPage (s : State) : List Byte × State :=
  let p := s.dma.copyNext
  if !s.on DMA_XFER_CTRL_SRC && p < s.vertices then (Memory.bytes s.cmap (p * 4096) 4096, s)
  else if s.on DMA_XFER_CTRL_SRC && p < 12288 then (Memory.bytes s.pool (p * 4096) 4096, s)
  else ((List.range 4096).map fun i => BitVec.ofNat 8 (Config.freeValue (s.free + i)), { s with free := s.free + 4096 })

/-- Up to `n` pages of the copy are written, until its end, its ABORT or a page whose translation is awaited. (Log: 109 DEDUCED) -/
def copyPages : Nat → State → State
  | 0, s => s
  | n + 1, s =>
    if !s.on DMA_XFER_STAT_BUSY || !s.dmaReady || s.dma.copyPark.isSome then s
    else
      match translate .copy s.copyAddr true s with
      | (false, s) => s
      | (true, s) =>
        let a := s.copyAddr
        let (bs, s) := copyPage s
        let s := modDma (fun d => { d with copyNext := d.copyNext + 1 }) (s.send (.hostWrite a bs))
        if s.dma.copyEnd ≤ s.dma.copyNext then endCopy 1 s
        else if s.dma.copyStop then endCopy 2 s
        else copyPages n s

/-- A translation of the copy is refused (R302): it parks while PRI can be used, and ends with FAULT otherwise. -/
def refuseCopy (s : State) : State :=
  if !s.on DMA_XFER_STAT_BUSY then s
  else
    let a := s.copyAddr
    let s := recordFault 3 0 a s
    if s.priUsable then
      let s := if s.dma.copyPark.isNone then pend 352 s else s
      askPage (pageOf a) (modDma (fun d => { d with copyPark := some ⟨parkFault, a⟩ }) s)
    else endCopy 3 s

/-- It is granted: the copy resumes. -/
def grantCopy (s : State) : State := modDma (fun d => { d with copyPark := none }) s

/-- Retry the access that parked the copy. -/
def retryCopy (s : State) : State :=
  match s.dma.copyPark with
  | none => s
  | some p =>
    match translate .copy p.addr true s with
    | (true, s) => grantCopy s
    | (false, s) => s

/-! ## The host's answers (R293 to R295) -/

/-- A requester retries no more after a Page Response. -/
def endPriRetry (w : Requester) (s : State) : State := modDma (fun d => { d with priRetry := d.priRetry.filter fun x => x != w }) s

/-- The translation that a requester waited for is granted. (Log: 108 DEDUCED) -/
def grant (w : Requester) (s : State) : State :=
  let s := endPriRetry w s
  match w with
  | .ring n => grantRing n s
  | .writeBack n => if s.ringState n = ringParked ∧ !s.on (RNG_STAT_DRAINING n) then beginDrain n s else writeBack n s
  | .stream f r => grantQueue f r s
  | .acq u => grantDest u s
  | .copy => grantCopy s

/-- The retry that a Page Response of Success allowed is refused (R295): the park's cause becomes FAULT_FINAL, and a copy ends. -/
def refuseFinally (w : Requester) (s : State) : State :=
  match w with
  | .ring n | .writeBack n => (recordFault 0 n (s.get (RNG_FAULT_ADDR_ADDR n)) s).set (RNG_STAT_CAUSE n) parkFinal
  | .stream f r =>
    let a := s.queueNextAt f r
    setQueuePark f r (some ⟨parkFinal, a⟩) (recordFault 1 (32 * f + r) a s)
  | .acq u =>
    let a := s.destSlot u
    modDma (fun d => { d with acqPark := Store.put (fun _ => none) d.acqPark u (some ⟨parkFinal, a⟩) }) (recordFault 2 u a s)
  | .copy => endCopy 3 (recordFault 3 0 s.copyAddr s)

/-- Is a requester parked, so that its access is a retry (R296, R301, R302)? -/
def State.requesterParked (s : State) (w : Requester) : Bool :=
  match w with
  | .ring n | .writeBack n => s.ringState n = ringParked && !s.on (RNG_STAT_DRAINING n)
  | .stream f r => (s.queuePark f r).isSome
  | .acq u => s.acqParked u
  | .copy => s.dma.copyPark.isSome

/-- It is refused (R294). (Log: 108 DEDUCED) -/
def refuse (w : Requester) (s : State) : State :=
  let after : Bool := w ∈ s.dma.priRetry && s.requesterParked w
  let s := endPriRetry w s
  if after then refuseFinally w s
  else match w with
  | .ring n => refuseRing n s
  | .writeBack n => faultRing n (s.get (RNG_WB_ADDR_ADDR n)) s
  | .stream f r => refuseQueue f r s
  | .acq u => refuseDest u s
  | .copy => refuseCopy s

/-- A Translation Completion for a page: the pages it covers from that page's translation on, and the access it grants; an
unsuccessful one grants none (R293, R294). -/
def translationCompletes (page pages : Nat) (read write : Bool) (s : State) : State :=
  if page ∉ s.dma.requested then s
  else
    let mine := s.dma.waiters.filter fun w => w.page = page
    let n := max 1 pages
    let s := modDma (fun d => { d with requested := d.requested.filter fun p => p != page
                                       waiters := d.waiters.filter fun w => w.page != page }) s
    let s := if read || write then cacheInsert ⟨page / n * n, n, read, write, page⟩ s else s
    let s := mine.foldl (fun s w => if (if w.write then write else read) then grant w.who s else refuse w.who s) s
    sendTranslations s

/-- The rings that are PARKED with a cause, ascending. -/
def State.parkedRings (s : State) (cause : Nat) : List Nat :=
  s.regs.filterMap fun e =>
    if 0x100000 ≤ e.1 ∧ e.1 < 0x200000 ∧ e.1 % 0x40 = 4 then
      let n := (e.1 - 0x100000) / 0x40
      if s.ringState n = ringParked ∧ s.get (RNG_STAT_CAUSE n) = cause then some n else none
    else none

/-- The keys of a store of parks with cause FAULT, those at a page if one is given. -/
def parksAt (page : Option Nat) (ps : Store (Option AuxPark)) : List Nat :=
  ps.filterMap fun e =>
    match e.2 with
    | some p => if p.cause = parkFault ∧ (page.isNone ∨ page = some (pageOf p.addr)) then some e.1 else none
    | none => none

/-- The parks with cause FAULT, at a page or anywhere, become FAULT_FINAL; a copy ends (R295, R302). (Log: 110 DEDUCED) -/
def finalFaults (page : Option Nat) (s : State) : State :=
  let here (a : Nat) : Bool := page.isNone || page == some (pageOf a)
  let rs := (s.parkedRings parkFault).filter fun n => here (s.get (RNG_FAULT_ADDR_ADDR n))
  let s := rs.foldl (fun s n => s.set (RNG_STAT_CAUSE n) parkFinal) s
  let final (ps : Store (Option AuxPark)) : Store (Option AuxPark) :=
    (parksAt page ps).foldl (fun m k =>
      match Store.find (fun _ => none) m k with
      | some p => Store.put (fun _ => none) m k (some { p with cause := parkFinal })
      | none => m) ps
  let s := modDma (fun d => { d with sqPark := final d.sqPark, acqPark := final d.acqPark }) s
  match s.dma.copyPark with
  | some p => if here p.addr then endCopy 3 s else s
  | none => s

/-- The accesses that a page's fault parked are retried (R295). -/
def retryPage (page : Nat) (s : State) : State :=
  let rs := (s.parkedRings parkFault).filter fun n => pageOf (s.get (RNG_FAULT_ADDR_ADDR n)) = page
  let again (n : Nat) : Requester := if (s.ring n).wbHeld then .writeBack n else .ring n
  let who := rs.map again ++ (parksAt (some page) s.dma.sqPark).map (fun k => .stream (k / 32) (k % 32)) ++
    (parksAt (some page) s.dma.acqPark).map .acq ++
    (match s.dma.copyPark with
     | some p => if pageOf p.addr = page then [.copy] else []
     | none => [])
  let s := modDma (fun d => { d with priRetry := d.priRetry.filter (fun w => w ∉ who) ++ who }) s
  let s := rs.foldl (fun s n => retryRing n s) s
  let s := (parksAt (some page) s.dma.sqPark).foldl (fun s k => retryQueue (k / 32) (k % 32) s) s
  let s := (parksAt (some page) s.dma.acqPark).foldl (fun s u => retryDest u s) s
  match s.dma.copyPark with
  | some p => if pageOf p.addr = page then retryCopy s else s
  | none => s

/-- A Page Response (R295): 0 Success, 1 Invalid Request, any other code Response Failure, which is an event of fault source 124 (R319). (Log: 110 DEDUCED) -/
def pageResponds (page code : Nat) (s : State) : State :=
  if page ∉ s.dma.asked then s
  else
    let s := modDma (fun d => { d with asked := d.asked.filter fun p => p != page }) s
    let s := sendPageRequests s
    match code with
    | 0 => retryPage page (cacheDrop page s)
    | 1 => finalFaults (some page) s
    | _ =>
      let s := modDma (fun d => { d with toAsk := [], priReset := false }) s
      let s := pulseLine 124 s
      finalFaults none (withLevel 357 (fun s => s.set DMA_LINK_STAT_PRI_HALTED 1) s)

/-- Act on an answer of the host, or keep it while the engine stands in DOZE (R305). (Log: 41 DEDUCED) -/
def hostAnswers (a : HostAnswer) (s : State) : State :=
  if s.mode = modeDoze then modDma (fun d => { d with kept := d.kept ++ [a] }) s
  else
    match a with
    | .translated p n r w => translationCompletes p n r w s
    | .paged p c => pageResponds p c s

/-- The answers kept through DOZE are acted on once the part is awake. (Log: 41 DEDUCED) -/
def takeKept (s : State) : State :=
  if s.mode = modeDoze ∨ s.dma.kept = [] then s
  else s.dma.kept.foldl (fun s a => hostAnswers a s) (modDma (fun d => { d with kept := [] }) s)

/-- A write of 1 to DMA_PRI_RESTART (R295). (Log: 110 DEDUCED) -/
def restartPri (s : State) : State :=
  if s.on DMA_LINK_STAT_PRI_HALTED && s.dma.priReset then
    modDma (fun d => { d with priReset := false }) (s.set DMA_LINK_STAT_PRI_HALTED 0)
  else s

/-- The host writes 1 to the Reset bit of the PRI capability (R295): it counts while the capability's Enable bit is 0. (Log: 110 DEDUCED) -/
def resetPri (s : State) : State :=
  if s.on DMA_LINK_STAT_PRI_CAP_EN then s else modDma (fun d => { d with priReset := true }) s

/-- An Invalidate Request (R293): the entries that cover one of the pages go, and its completion is owed. -/
def invalidate (tag page pages : Nat) (s : State) : State :=
  modDma (fun d => { d with cache := d.cache.filter fun e => !(e.page < page + pages && page < e.page + e.pages)
                            owed := d.owed ++ [(tag, page, pages)] }) s

/-- Does an access that has been issued use one of the pages? -/
def State.pagesInUse (s : State) (page pages : Nat) : Bool :=
  let hit (a : Nat) : Bool := page ≤ pageOf a && pageOf a < page + pages
  (s.dma.rings.any fun e => e.2.xfer == .issued && !s.on (RNG_CTRL_PLACE e.1) &&
    hit (s.entryAddr e.1 (s.get (RNG_PROD_PROD e.1)))) ||
  (List.range 16).any fun u => (s.acqUnit u).xfer == .issued && !s.on (ACQ_U_DEST_LOCAL u) && hit (s.destSlot u)

/-- The Invalidate Completion of a tag is sent once the accesses that used its pages have completed (R293). -/
def invalidateCompletes (tag : Nat) (s : State) : State :=
  match s.dma.owed.find? fun o => o.1 = tag with
  | none => s
  | some o =>
    if s.pagesInUse o.2.1 o.2.2 then s
    else (modDma (fun d => { d with owed := d.owed.filter fun x => x != o }) s).send (.invalidateDone tag)

/-- A read of ring `n` ends with Unsupported Request, Completer Abort or a timeout (R293): the ring parks with cause
COMPLETION. A timeout is an event of fault source 123 (R319). (Log: 111 DEDUCED) -/
def readFails (n : Nat) (timeout : Bool) (s : State) : State :=
  let s := if timeout then pulseLine 123 s else s
  if !s.ringLive n ∨ n % 4 ≠ 0 then s
  else if s.ringState n = ringParked then
    if s.get (RNG_STAT_CAUSE n) = parkCompletion then modRing n (fun r => { r with xfer := .idle }) s else s
  else parkRing n parkCompletion s

/-- A write to DMA_RETRY_AUX (R301, R303). -/
def retryAux (acq sq : Bool) (s : State) : State :=
  let s := if acq then s.dma.acqPark.foldl (fun s e => retryDest e.1 s) s else s
  if sq then s.dma.sqPark.foldl (fun s e => retryQueue (e.1 / 32) (e.1 % 32) s) s else s

end Sys2Proof.Machine
end

