-- ==== Sys2Proof/Machine/Spn.lean ====
section
/-!
DEFINITION. The serial port (R375 to R389): transfers and the engines, execute-in-place reads and writes, page programs and
erases, and the boot NVM's bytes.
-/

namespace Sys2Proof.Machine
open Sys2Proof.Reg

/-! ## The boot NVM -/

/-- A byte of the boot NVM. (Log: 7 DESIGN CHOICE) -/
def State.flashByte (s : State) (a : Nat) : Byte := Store.find erasedByte s.flash a

/-- `n` bytes of the boot NVM. -/
def State.flashBytes (s : State) (a n : Nat) : List Byte := (List.range n).map fun i => s.flashByte (a + i)

/-- A little-endian number in the boot NVM. -/
def State.flashWord (s : State) (a n : Nat) : Nat := leNat (s.flashBytes a n)

/-- Program bytes: a cell that is 0 stays 0 (R386). -/
def flashProgram (m : Mem) : Nat → List Byte → Mem
  | _, [] => m
  | a, b :: bs => flashProgram (Store.put erasedByte m a (Store.find erasedByte m a &&& b)) (a + 1) bs

/-- Erase `n` bytes. -/
def flashErase (m : Mem) (a n : Nat) : Mem := m.filter fun c => !(a ≤ c.1 && c.1 < a + n)

/-- Program bytes of the boot NVM. -/
def programFlash (a : Nat) (bs : List Byte) (s : State) : State := { s with flash := flashProgram s.flash a bs }

/-- Erase bytes of the boot NVM. -/
def eraseFlash (a n : Nat) (s : State) : State := { s with flash := flashErase s.flash a n }

/-! ## The engines -/

/-- Change what the serial port holds. -/
def modSpn (g : SpnState → SpnState) (s : State) : State := { s with spn := g s.spn }

/-- A field of engine `e`: 0 Apex firmware's, in its own map (R403), 1 the host's. -/
def engineField (e : Nat) (f : Fld) : Fld := if e = 0 then ⟨f.addr - 0x60000 + 0x23000000, f.lo, f.w⟩ else f

/-- The value of an engine's field. -/
def State.eng (s : State) (e : Nat) (f : Fld) : Nat := s.get (engineField e f)

/-- Set an engine's field. -/
def setEng (e : Nat) (f : Fld) (v : Nat) (s : State) : State := s.set (engineField e f) v

/-- Results of a transfer (R399). -/
def xferOk : Nat := 0
@[inherit_doc xferOk] def xferEdge : Nat := 1
@[inherit_doc xferOk] def xferAborted : Nat := 2
@[inherit_doc xferOk] def xferTimeout : Nat := 3
@[inherit_doc xferOk] def xferRefused : Nat := 4
@[inherit_doc xferOk] def xferFailed : Nat := 5

/-- An engine's transfer ends with a RESULT; sources 464 and 465 report the host engine's (R401). -/
def endEngine (e result : Nat) (s : State) : State :=
  let s := setEng e SPN_XSTAT_BUSY 0 (setEng e SPN_XSTAT_RESULT result s)
  let s := setEng e SPN_XFER_CTRL_START 0 s
  let s := modSpn (fun p => { p with engines := p.engines.filter fun x => x != e, polling := p.polling.filter fun x => x != e }) s
  if e = 1 then pend (if result = xferOk then 464 else 465) s else s

/-! ## Devices (R387, R388) -/

/-- A device that is ready. -/
def Device.init : Device := { kind := 0, since := 0, edge := false, suspend := 0, flush := false }

/-- What the port knows of the device at select `k`. -/
def State.device (s : State) (k : Nat) : Device := Store.find (fun _ => Device.init) s.spn.devices k

/-- Change it. -/
def modDevice (k : Nat) (g : Device → Device) (s : State) : State :=
  modSpn (fun p => { p with devices := Store.put (fun _ => Device.init) p.devices k (g (s.device k)) }) s

/-- Does a status byte say that the device is ready (R387)? -/
def State.deviceReady (s : State) (k status : Nat) : Bool :=
  decide (bitsAt status (s.get (SPN_SEL3_BUSY_BIT k)) 1 = s.get (SPN_SEL3_BUSY_POL k))

/-- Does it report a failure (R387)? -/
def State.deviceFailed (s : State) (k status : Nat) : Bool := decide ((status &&& s.get (SPN_SEL4_PFAIL_MASK k)) ≠ 0)

/-- Suspend an erase at select `k` (R388): `how` is 1 for a window read, 2 for good. (Log: 128 DEDUCED) -/
def suspendDevice (k how : Nat) (s : State) : State :=
  if (s.device k).kind ≠ 2 ∨ (s.device k).suspend ≠ 0 then s
  else
    let s := s.send (.serial k [BitVec.ofNat 8 (s.get (SPN_SEL4_SUS_CMD k))])
    pend 469 ((modDevice k (fun d => { d with suspend := how }) s).raise SPN_STAT_ERASE_SUSP)

/-- Every erase in progress is suspended and not resumed (R388, R402); an engine that polls one ends. (Log: 128 DEDUCED) -/
def suspendPort (s : State) : State :=
  (List.range 4).foldl (fun s k =>
    if (s.device k).kind ≠ 2 then s
    else
      let s := modDevice k (fun d => { d with kind := 0, suspend := 2 }) (suspendDevice k 2 s)
      (s.spn.polling.filter fun e => s.eng e SPN_XFER_CTRL_SEL = k).foldl (fun s e => endEngine e xferAborted s) s) s

/-- The port counts an edge mismatch (R381). (Log: 127 DEDUCED) -/
def edgeFault (s : State) : State :=
  let fresh := !s.on SPN_STAT_EDGE_FAULT
  let s := (s.raise SPN_STAT_EDGE_FAULT).countSat SPN_EDGE_FAULTS_COUNT 1
  pendIf fresh 466 (assertLine 100 s)

/-- A page program has failed (R387). (Log: 127 DEDUCED) -/
def programFailed (page : Nat) (s : State) : State :=
  let s := (s.raise SPN_XIP_STAT_WR_FAIL).set SPN_WR_FAIL_ADDR_ADDR page
  pend 467 (pulseLine 101 s)

/-! ## What a transfer sends (R377, R380, R384 to R386) -/

/-- An engine's data buffer. -/
def State.engineData (s : State) (e : Nat) : List Byte :=
  (List.range 64).flatMap fun i => leBytes 4 (s.eng e (SPN_DATA_DATA i))

/-- The bytes that an engine's transfer sends: command, address and, in the out direction, data. -/
def State.engineOut (s : State) (e : Nat) : List Byte :=
  let c := beBytes 2 (s.eng e SPN_CMD_CMD)
  let n := min 2 (s.eng e SPN_PHASE_CMD_BYTES)
  c.drop (2 - n) ++ (beBytes 4 (s.eng e SPN_ADDR_ADDR)).drop (4 - min 4 (s.eng e SPN_PHASE_ADDR_BYTES)) ++
    if s.eng e SPN_XFER_CTRL_DIR = 0 then (s.engineData e).take (min 256 (s.eng e SPN_LEN_LEN)) else []

/-- The address bytes of select `k`'s window transfers, most significant first. -/
def State.windowAddr (s : State) (k a : Nat) : List Byte :=
  (beBytes 4 a).drop (if s.get (SPN_SEL2_RD_ADDR k) = 4 then 0 else 1)

/-- The 256 bytes of a gathered page; bytes that were not written are 0xFF (R386). -/
def Gather256.data (g : Gather256) : List Byte := (List.range 256).map fun i => Store.find erasedByte g.bytes i

/-- The window read that is served next of a path. -/
def State.readOf (s : State) (host : Bool) : Option WindowRead := s.spn.reads.find? fun r => r.host == host

/-- The bytes of the transfer by requester `who`. -/
def State.transferOut (s : State) (who : Nat) : List Byte :=
  match who with
  | 0 | 1 => s.engineOut who
  | 2 | 3 =>
    match s.readOf (who = 3) with
    | some r => [BitVec.ofNat 8 (s.get (SPN_SEL2_RD_CMD r.sel))] ++ s.windowAddr r.sel r.next
    | none => []
  | 4 =>
    match s.spn.flush with
    | some (g, _) => [BitVec.ofNat 8 (s.get (SPN_SEL3_WREN_CMD g.sel))]
    | none => []
  | _ =>
    match s.spn.flush with
    | some (g, _) => [BitVec.ofNat 8 (s.get (SPN_SEL3_PP_CMD g.sel))] ++ s.windowAddr g.sel g.page ++ g.data
    | none => []

/-! ## Service (R383, R389) -/

/-- The select that requester `who` asks for, if it asks. -/
def State.asks (s : State) (who : Nat) : Option Nat :=
  match who with
  | 0 | 1 => if who ∈ s.spn.engines then some (s.eng who SPN_XFER_CTRL_SEL) else none
  | 2 | 3 => if s.spn.flush.isSome then none else (s.readOf (who = 3)).map fun r => r.sel
  | _ =>
    match s.spn.flush with
    | some (g, 0) => some g.sel
    | _ => none

/-- Can requester `who` be served at its select: no page program runs there, nor, for a window read or a flush, an erase that
may not be suspended? -/
def State.servable (s : State) (who : Nat) : Bool :=
  match s.asks who with
  | none => false
  | some k =>
    match (s.device k).kind with
    | 1 => false
    | 2 => who < 2 || (s.device k).suspend = 1 || (who < 4 && s.on (SPN_SEL2_SUS_ON_READ k))
    | _ => true

/-- The requester that is served next: a flush first, then the others in rotation. -/
def State.nextServed (s : State) : Option Nat :=
  if s.servable 4 then some 4
  else ((List.range 4).map fun i => (s.spn.turn + 1 + i) % 4).find? fun w => s.servable w

/-- The port starts the transfer of a requester; an erase is in progress from its first edge (R387). -/
def beginTransfer (who k : Nat) (s : State) : State :=
  let s := s.send (.serial k (s.transferOut who))
  let s := modSpn (fun p => { p with cur := some ⟨who, k, false⟩, turn := if who < 4 then who else p.turn }) s
  let erase : Bool := who < 2 && s.eng who SPN_XFER_CTRL_ERASE = 1 && s.eng who SPN_XFER_CTRL_WAIT_READY = 1
  if erase then modDevice k (fun _ => { Device.init with kind := 2, since := s.elapsed })
      (modSpn (fun p => { p with engines := p.engines.filter fun x => x != who }) s)
  else if who < 2 then modSpn (fun p => { p with engines := p.engines.filter fun x => x != who }) s
  else if who = 4 then modSpn (fun p => { p with flush := p.flush.map fun x => (x.1, 1) }) s
  else if who = 5 then modDevice k (fun _ => { Device.init with kind := 1, since := s.elapsed, flush := true })
      (modSpn (fun p => { p with flush := p.flush.map fun x => (x.1, 2) }) s)
  else s

/-- At a transfer boundary the next requester is served. -/
def servePort (s : State) : State :=
  if s.spn.cur.isSome then s
  else
    match s.nextServed with
    | none => s
    | some w =>
      match s.asks w with
      | none => s
      | some k => beginTransfer w k (if w = 2 ∨ w = 3 then suspendDevice k 1 s else s)

/-! ## Window writes (R386) -/

/-- The gathered page is flushed. (Log: 127 DEDUCED) -/
def startFlush (s : State) : State :=
  match s.spn.gather with
  | none => s
  | some g => servePort (modSpn (fun p => { p with gather := none, flush := some (g, 0) }) s)

/-- Put bytes into a gather. -/
def Gather256.add (g : Gather256) (off : Nat) (bs : List Byte) (now : Nat) : Gather256 :=
  { g with last := now
           bytes := (bs.zipIdx).foldl (fun m b => Store.put erasedByte m ((off + b.2) % 256) b.1) g.bytes }

/-- A window write by Apex firmware (R386): it waits while a flush runs, and flushes first when it leaves the page. -/
def windowWrite (k a : Nat) (bs : List Byte) (s : State) : State :=
  let page := a / 256 * 256
  let wait (s : State) : State := modSpn (fun p => { p with writes := p.writes ++ [(k, a, bs)] }) s
  let put (g : Gather256) (s : State) : State :=
    let s := modSpn (fun p => { p with gather := some (g.add (a % 256) bs s.elapsed) }) s
    if a % 256 + bs.length ≥ 256 then startFlush s else s
  if s.spn.flush.isSome then wait s
  else
    match s.spn.gather with
    | none => put ⟨k, page, [], s.elapsed⟩ s
    | some g => if g.sel = k ∧ g.page = page then put g s else wait (startFlush s)

/-- A flush is over: the writes that waited are made, and the port serves the next requester. -/
def flushDone (s : State) : State :=
  let ws := s.spn.writes
  let s := modSpn (fun p => { p with flush := none, writes := [] }) s
  servePort (ws.foldl (fun s w => windowWrite w.1 w.2.1 w.2.2 s) s)

/-- A flush's program has ended (R387): the bytes stand in the boot NVM, or, after a failure, what the page holds is open. (Log: 127 DEDUCED) -/
def flushEnd (ok : Bool) (s : State) : State :=
  match s.spn.flush with
  | none => s
  | some (g, _) =>
    let s := modDevice g.sel (fun _ => Device.init) s
    if ok then flushDone (if g.sel = 0 then programFlash g.page g.data s else s)
    else
      let (v, s) := s.fresh
      let s := if g.sel = 0 then programFlash g.page (leBytes 256 v) s else s
      flushDone (programFailed g.page s)

/-! ## Window reads (R385, R389) -/

/-- The bytes that the next transfer of a window read clocks: up to the 256-byte boundary. -/
def WindowRead.piece (r : WindowRead) : Nat := min r.left (256 - r.next % 256)

/-- A window read of `len` bytes. (Log: 14 DESIGN CHOICE) -/
def windowRead (host : Bool) (k a len : Nat) (s : State) : State :=
  let p : Path := if host then .host else .apex
  if host ∧ s.mode ≤ modeBoot then s.send (.windowData p k a (List.replicate len 0))
  else if !s.on (SPN_SEL2_XIP_EN k) then
    if host then capture .host causeUnimpl false 2 a 0xF (s.send (.unsupported a)) else s.send (.busError a)
  else
    let first := a / 4 * 4
    let r : WindowRead := ⟨host, k, a, len, first, (a + len + 3) / 4 * 4 - first, [], s.elapsed⟩
    servePort (startFlush (modSpn (fun p => { p with reads := p.reads ++ [r] }) s))

/-- Remove a window read. -/
def dropRead (r : WindowRead) (s : State) : State := modSpn (fun p => { p with reads := p.reads.erase r }) s

/-- A window read ends badly: a bus error for Apex firmware, Completer Abort for the host (R385). -/
def failRead (r : WindowRead) (s : State) : State :=
  (dropRead r s).send (if r.host then .abortRead r.addr else .busError r.addr)

/-- A piece of a window read has been clocked. The boot NVM returns its own bytes. -/
def readPiece (r : WindowRead) (data : List Byte) (s : State) : State :=
  let n := r.piece
  let bs := if r.sel = 0 then s.flashBytes r.next n else (data ++ List.replicate n 0).take n
  let r' : WindowRead := { r with next := r.next + n, left := r.left - n, got := r.got ++ bs }
  if r'.left = 0 then
    (dropRead r s).send (.windowData (if r.host then .host else .apex) r.sel r.addr ((r'.got.drop (r.addr % 4)).take r.len))
  else modSpn (fun p => { p with reads := p.reads.map fun x => if x = r then r' else x }) s

/-- A host window read has waited HOST_WAIT (R389). -/
def windowTimeout (s : State) : State :=
  match s.readOf true with
  | none => s
  | some r =>
    let running : Bool := match s.spn.cur with | some t => t.who == 3 | none => false
    if running ∨ s.elapsed < r.since + 256 * 1600 * s.get SPN_HOST_WAIT_HOST_WAIT then s
    else
      let fresh := !s.on SPN_XIP_STAT_HOST_TMO
      pendIf fresh 467 ((failRead r s).raise SPN_XIP_STAT_HOST_TMO)

/-- An erase that was suspended for window reads resumes once none waits (R388). -/
def resumeErase (k : Nat) (s : State) : State :=
  if (s.device k).suspend ≠ 1 ∨ (s.spn.reads.any fun r => r.sel = k) then s
  else modDevice k (fun d => { d with suspend := 0 }) (s.send (.serial k [BitVec.ofNat 8 (s.get (SPN_SEL4_RES_CMD k))]))

/-! ## Transfers -/

/-- START of engine `e` (R384). -/
def startEngine (e : Nat) (s : State) : State :=
  if s.eng e SPN_XSTAT_BUSY = 1 then s
  else
    let k := s.eng e SPN_XFER_CTRL_SEL
    let s := setEng e SPN_LEN_DONE_LEN_DONE 0 (setEng e SPN_XSTAT_POLLS 0 s)
    if e = 1 ∧ (k = 0 ∨ !s.bitOf SPN_HOST_CFG_SEL_EN (k - 1)) then endEngine 1 xferRefused s
    else
      let s := setEng e SPN_XFER_CTRL_START 1 (setEng e SPN_XSTAT_BUSY 1 s)
      servePort (modSpn (fun p => { p with engines := p.engines ++ [e] }) s)

/-- ABORT of engine `e` (R382): a transfer in progress completes its byte first; one that waits for the port, or polls, ends. -/
def abortEngine (e : Nat) (s : State) : State :=
  if s.eng e SPN_XSTAT_BUSY = 0 then s
  else
    match s.spn.cur with
    | some t =>
      if t.who = e then modSpn (fun p => { p with cur := some ⟨t.who, t.sel, true⟩ }) s else endEngine e xferAborted s
    | none => endEngine e xferAborted s

/-- The status bytes of a prefix as they are clocked (R380): up to the first READY byte, at most STATUS_POLL_MAX. -/
def State.prefixBytes (s : State) (k : Nat) (status : List Byte) : List Byte :=
  let m := s.get (SPN_SEL0_STATUS_POLL_MAX k)
  let bs := status.take (if m = 0 then 256 else m)
  let n := (bs.takeWhile fun b => b.toNat < 128).length
  bs.take (n + 1)

/-- Write the received bytes to an engine's buffer. -/
def putEngineData (e : Nat) (bs : List Byte) (s : State) : State :=
  let old := s.engineData e
  let all := (bs ++ old.drop bs.length).take 256
  (List.range 64).foldl (fun s i => setEng e (SPN_DATA_DATA i) (leNat ((all.drop (4 * i)).take 4)) s) s

/-- An engine's transfer has ended (R377 to R382, R384). `data` are the whole data bytes clocked, received in the in direction. -/
def engineEnd (t : Transfer) (edge : Bool) (status data : List Byte) (s : State) : State :=
  let e := t.who
  let len := min 256 (s.eng e SPN_LEN_LEN)
  let inward := s.eng e SPN_XFER_CTRL_DIR = 1
  let framed : Bool := inward && s.on (SPN_SEL0_STATUS_FIRST t.sel)
  let pre := if framed then s.prefixBytes t.sel status else []
  let ready := !framed || pre.getLast?.any fun b => decide (128 ≤ b.toNat)
  let whole := !edge && !t.abort
  let bs := if ready then (if whole && inward then (data ++ List.replicate len 0).take len else data.take len) else []
  let done := if !ready then 0 else if whole then len else bs.length
  let s := if framed then setEng e SPN_XSTAT_POLLS pre.length (setEng e SPN_XSTAT_STATUS (pre.getLastD 0).toNat s) else s
  let s := setEng e SPN_LEN_DONE_LEN_DONE done (if inward then putEngineData e bs s else s)
  if edge then endEngine e xferEdge s
  else if t.abort then endEngine e xferAborted s
  else if !ready then endEngine e xferTimeout s
  else if s.eng e SPN_XFER_CTRL_WAIT_READY = 1 then modSpn (fun p => { p with polling := p.polling ++ [e] }) s
  else endEngine e xferOk s

/-- The transfer on the port ends (R377, R381): `edge` tells of a mismatch in the count of edges, `status` and `data` are what the
device sent. -/
def transferEnd (edge : Bool) (status data : List Byte) (s : State) : State :=
  match s.spn.cur with
  | none => s
  | some t =>
    let s := modSpn (fun p => { p with cur := none }) s
    let s := if edge then edgeFault s else s
    match t.who with
    | 0 | 1 => servePort (engineEnd t edge status data s)
    | 2 | 3 =>
      match s.readOf (t.who = 3) with
      | none => servePort s
      | some r => servePort (if edge || t.abort then failRead r s else readPiece r data s)
    | 4 => if edge then flushEnd false s else beginTransfer 5 t.sel s
    | _ =>
      let s := modDevice t.sel (fun d => { d with edge := edge }) s
      servePort (modSpn (fun p => { p with flush := p.flush.map fun x => (x.1, 3) }) s)

/-- A busy poll of select `k` has read a status byte (R384, R387). -/
def busyPoll (k status : Nat) (s : State) : State :=
  let ready := s.deviceReady k status
  let failed := s.deviceFailed k status
  let flushing : Bool := match s.spn.flush with | some (g, 3) => g.sel = k | _ => false
  if flushing then (if ready then flushEnd (!failed && !(s.device k).edge) s else s)
  else
    match s.spn.polling.find? fun e => s.eng e SPN_XFER_CTRL_SEL = k with
    | none => s
    | some e =>
      let s := setEng e SPN_XSTAT_STATUS status s
      if !ready ∨ (s.device k).suspend = 1 then s
      else
        let erase := (s.device k).kind = 2
        let s := if erase then modDevice k (fun _ => Device.init) s else s
        let s := if erase && failed then pulseLine 102 s else s
        servePort (endEngine e (if failed then xferFailed else xferOk) s)

/-- A page program is not ready 8,000,000 ticks after its start (R387). -/
def programTimeout (k : Nat) (s : State) : State :=
  if (s.device k).kind ≠ 1 ∨ s.elapsed < (s.device k).since + 256 * 8000000 then s else flushEnd false s

/-- An erase is not ready ERASE_MAX ms after its start (R387). -/
def eraseTimeout (k : Nat) (s : State) : State :=
  let d := s.device k
  if d.kind ≠ 2 ∨ d.suspend ≠ 0 ∨ s.elapsed < d.since + 256 * 1600000 * s.get (SPN_SEL1_ERASE_MAX k) then s
  else
    let s := pulseLine 102 (modDevice k (fun _ => Device.init) s)
    match s.spn.polling.find? fun e => s.eng e SPN_XFER_CTRL_SEL = k with
    | some e => servePort (endEngine e xferFailed s)
    | none => servePort s

/-- The flush timer (R386). -/
def flushTimer (s : State) : State :=
  match s.spn.gather with
  | some g => if s.elapsed < g.last + 256 * 16000 then s else startFlush s
  | none => s

/-- The port is reset: a page program in progress completes first, an erase is suspended (R70, R402). -/
def resetPort (s : State) : State :=
  let s := suspendPort s
  let s :=
    match s.spn.flush with
    | some (g, n) => if 2 ≤ n ∧ g.sel = 0 then programFlash g.page g.data s else s
    | none => s
  { s with spn := SpnState.init }

end Sys2Proof.Machine
end

