-- ==== Sys2Proof/Machine/Nvm.lean ====
section
/-!
DEFINITION. What the part reads from and writes to the boot NVM: the directory (R390 to R392), signed containers (R409, R410),
firmware slots (R414 to R416), the event log (R406, R407) and calibration records (R353, R421).
-/

namespace Sys2Proof.Machine
open Sys2Proof.Reg

/-! ## The directory -/

/-- CRC-32 of IEEE 802.3, one byte. -/
def crc32Byte (c : Nat) (b : Byte) : Nat :=
  (List.range 8).foldl (fun c _ => if c % 2 = 1 then (c / 2) ^^^ 0xEDB88320 else c / 2) (c ^^^ b.toNat)

/-- CRC-32 over a list of bytes (R390). -/
def crc32 (bs : List Byte) : Nat := bs.foldl crc32Byte 0xFFFFFFFF ^^^ 0xFFFFFFFF

/-- Is the directory copy at `a` valid (R390)? -/
def State.copyValid (s : State) (a : Nat) : Bool :=
  s.flashWord a 4 = 0x4449524A && s.flashWord (a + 11) 1 ≤ 126 && crc32 (s.flashBytes a 4092) = s.flashWord (a + 4092) 4

/-- The copy of the directory that the ROM uses (R390): the valid one with the higher SEQ. -/
def State.directory (s : State) : Option Nat :=
  match s.copyValid 0, s.copyValid 0x10000 with
  | true, true => if s.flashWord 0x10004 4 > s.flashWord 4 4 then some 0x10000 else some 0
  | true, false => some 0
  | false, true => some 0x10000
  | false, false => none

/-- An entry of the directory (R391). -/
structure DirEntry where
  type   : Nat
  index  : Nat
  offset : Nat
  length : Nat
  deriving DecidableEq, Repr

/-- The entries of a directory copy, whether they count or not. -/
def State.rawEntries (s : State) (d : Nat) : List DirEntry :=
  (List.range (s.flashWord (d + 11) 1)).map fun k =>
    let a := d + 32 + 32 * k
    ⟨s.flashWord a 1, s.flashWord (a + 1) 1, s.flashWord (a + 4) 4, s.flashWord (a + 8) 4⟩

/-- Do two regions overlap? -/
def overlap (a n b m : Nat) : Bool := a < b + m && b < a + n && 0 < n && 0 < m

/-- Is entry `k` of a directory ignored (R392)? (Log: 47 DESIGN CHOICE) -/
def entryIgnored (es : List DirEntry) (k : Nat) : Bool :=
  match es[k]? with
  | none => true
  | some e =>
    let others := (es.zipIdx.filter fun x => x.2 != k)
    !(e.type ∈ [1, 2, 3, 4, 5, 6, 15]) || e.offset % 65536 != 0 || e.length % 65536 != 0 ||
    overlap e.offset e.length 0 0x20000 || (others.any fun x => overlap e.offset e.length x.1.offset x.1.length) ||
    (others.any fun x => x.2 < k && x.1.type == e.type && x.1.index == e.index) ||
    (e.type = 5 && e.length != 0x400000)

/-- The entries that count. -/
def State.dirEntries (s : State) : List DirEntry :=
  match s.directory with
  | none => []
  | some d =>
    let es := s.rawEntries d
    (es.zipIdx.filter fun x => !entryIgnored es x.2).map fun x => x.1

/-- The entries that are ignored, as BOOT counts them. -/
def State.dirBad (s : State) : Nat :=
  match s.directory with
  | none => 0
  | some d => let es := s.rawEntries d; es.length - s.dirEntries.length

/-- The region of a TYPE and INDEX. -/
def State.region (s : State) (type index : Nat) : Option DirEntry :=
  s.dirEntries.find? fun e => e.type = type ∧ e.index = index

/-! ## Containers (R409, R410) -/

/-- A number at a place of a list of bytes. -/
def numAt (bs : List Byte) (a n : Nat) : Nat := leNat ((bs.drop a).take n)

/-- PAYLOAD_LEN of a container. -/
def payloadLen (c : List Byte) : Nat := numAt c 20 4

/-- The length of a container, by its header. -/
def containerLen (c : List Byte) : Nat := 192 + payloadLen c + 96

/-- The payload of a container. -/
def payloadOf (c : List Byte) : List Byte := (c.drop 192).take (payloadLen c)

/-- MAGIC, KIND and length are as expected (R410). -/
def containerForm (kind : Nat) (c : List Byte) : Bool :=
  numAt c 0 4 = 0x43534A43 && numAt c 4 1 = kind && containerLen c ≤ c.length

/-- The signers accepted for a kind (R410). -/
def signerAccepted (kind signer : Nat) : Bool :=
  match kind with
  | 1 => signer = 0
  | 2 => 1 ≤ signer && signer ≤ 3
  | _ => signer = 4

/-- Does the signer's key stand in OTP (R410)? (Log: 10 DESIGN CHOICE) -/
def State.keyKnown (s : State) (signer : Nat) (pub : List Byte) : Bool :=
  if signer = 4 then pub == fit 96 s.deviceKey
  else s.bitOf APX_KEY_STAT_PROGRAMMED signer && Store.find (fun _ => ([] : List Byte)) s.otp.keys signer == sha384 pub

/-- The checks of R410 other than MAGIC, KIND and length. -/
def State.containerTrusted (s : State) (kind : Nat) (c : List Byte) : Bool :=
  let flags := numAt c 6 2
  let pub := (c.drop 88).take 96
  let bound := flags % 2 = 1
  signerAccepted kind (numAt c 5 1) && flags ≤ 1 && numAt c 184 8 = 0 && (numAt c 8 4).testBit s.member &&
  (!bound || numAt c 24 8 = s.get GLB_SERIAL_SERIAL) && (kind ≤ 2 || bound) &&
  (c.drop 40).take 48 == sha384 (payloadOf c) && s.keyKnown (numAt c 5 1) pub &&
  Config.signatureValid pub (sha384 (c.take 192)) ((c.drop (192 + payloadLen c)).take 96) &&
  (kind != 1 || (s.get APX_FW_SVN_ROLLBACK ≤ numAt c 16 4 && numAt c 16 4 ≤ 64))

/-- Does a container of a kind verify (R410)? -/
def State.verifies (s : State) (kind : Nat) (c : List Byte) : Bool := containerForm kind c && s.containerTrusted kind c

/-! ## Firmware slots (R414 to R416) -/

/-- The region of firmware slot 0 (A) or 1 (B). -/
def State.slotRegion (s : State) (k : Nat) : Option DirEntry := s.region (1 + k) 0

/-- The container in a firmware slot. -/
def State.slotImage (s : State) (k : Nat) : List Byte :=
  match s.slotRegion k with
  | some e => let c := s.flashBytes e.offset 0x7F000; c.take (containerLen c)
  | none => []

/-- Does the container of a slot verify? -/
def State.slotVerifies (s : State) (k : Nat) : Bool := s.verifies 1 (s.slotImage k)

/-- Flag `i` of a slot: 0 STAGED, 1 ATTEMPTED, 2 CONFIRMED, 3 REJECTED (R414). -/
def State.slotFlag (s : State) (k i : Nat) : Bool :=
  match s.slotRegion k with
  | some e => s.flashByte (e.offset + 0x7F000 + i) == 0
  | none => false

/-- Write a flag of a slot. -/
def writeFlag (k i : Nat) (s : State) : State :=
  match s.slotRegion k with
  | some e => programFlash (e.offset + 0x7F000 + i) [0] s
  | none => s

/-- Show the slots' flags and whether they verify (R426). -/
def showSlots (s : State) : State :=
  let flags (k : Nat) : Nat := (List.range 4).foldl (fun m i => if s.slotFlag k i then m + 2 ^ i else m) 0
  let v := bit01 (s.slotVerifies 0) + 2 * bit01 (s.slotVerifies 1)
  ((s.set APX_FW_SLOTSTAT_A (flags 0)).set APX_FW_SLOTSTAT_B (flags 1)).set APX_FW_SLOTSTAT_VERIFIES v

/-- A candidate of R415. -/
def State.candidate (s : State) (k : Nat) : Bool := s.slotFlag k 0 && !s.slotFlag k 3 && s.slotVerifies k

/-- A trial: ATTEMPTED is not written. -/
def State.trial (s : State) (k : Nat) : Bool := s.candidate k && !s.slotFlag k 1

/-- A candidate that was attempted and never confirmed is rejected (R415). -/
def rejectSlot (k : Nat) (s : State) : State :=
  if s.candidate k && s.slotFlag k 1 && !s.slotFlag k 2 then writeFlag k 3 s else s

/-- Is slot B preferred to slot A: the higher SVN, then the higher VERSION (R415)? -/
def State.preferB (s : State) : Bool :=
  let a := s.slotImage 0
  let b := s.slotImage 1
  numAt a 16 4 < numAt b 16 4 || (numAt a 16 4 = numAt b 16 4 && numAt a 12 4 < numAt b 12 4)

/-- The slot that the ROM starts (R415), once rejections are written. -/
def State.chosenSlot (s : State) : Option Nat :=
  if s.trial 0 then some 0
  else if s.trial 1 then some 1
  else
    match s.candidate 0, s.candidate 1 with
    | true, true => if s.preferB then some 1 else some 0
    | true, false => some 0
    | false, true => some 1
    | false, false => none

/-- The ROM chooses and starts a firmware slot (R71 step 5, R415); FW_RESULT is 0 OK, 1 FALLBACK, 2 NONE. -/
def startFirmware (s : State) : State :=
  let r := rejectSlot 1 (rejectSlot 0 s)
  match r.chosenSlot with
  | none =>
    let r := showSlots r
    r.set APX_BOOT_STAT_FW_RESULT 2
  | some k =>
    let o := 1 - k
    let failed := !s.slotVerifies o || (r.slotFlag o 3 && !s.slotFlag o 3)
    let r := if r.trial k then writeFlag k 1 r else r
    let c := r.slotImage k
    let r := showSlots r
    let r := (r.set APX_BOOT_STAT_FW_SLOT k).set APX_BOOT_STAT_FW_RESULT (bit01 failed)
    let r := (r.set APX_FW_VERSION_VERSION (numAt c 12 4)).set APX_FW_SVN_SVN (numAt c 16 4)
    let x := { r.apex.run with confirm := true, image := sha384 c }
    { r with apex := { r.apex with run := x } }

/-- The first entry to IDLE after BOOT (R416): CONFIRMED is written, and the rollback counter rises to the slot's SVN. (Log: 34 DEDUCED) -/
def confirmSlot (s : State) : State :=
  if !s.apex.run.confirm then s
  else
    let k := s.get APX_BOOT_STAT_FW_SLOT
    let x := { s.apex.run with confirm := false }
    let s := { s with apex := { s.apex with run := x } }
    let fresh := !s.slotFlag k 2
    let rises : Bool := s.get APX_FW_SVN_ROLLBACK < s.get APX_FW_SVN_SVN
    let s := if fresh then writeFlag k 2 s else s
    let s := if rises then s.set APX_FW_SVN_ROLLBACK (s.get APX_FW_SVN_SVN) else s
    if fresh || rises then
      let (v, s) := s.fresh
      logEvent logFirmware v [] (pend 457 (showSlots s))
    else s

/-! ## The event log (R406, R407) -/

/-- The EVENT_LOG region's offset. -/
def State.logBase (s : State) : Option Nat := (s.region 5 0).map fun e => e.offset

/-- Are `n` bytes erased? -/
def State.blank (s : State) (a n : Nat) : Bool := !(s.flash.any fun c => a ≤ c.1 && c.1 < a + n)

/-- The sector of the log with the highest SEQ, with that SEQ. -/
def State.logSector (s : State) (base : Nat) : Option (Nat × Nat) :=
  (List.range 64).foldl (fun m i =>
    let a := base + 65536 * i
    if s.flashWord a 4 = 0x4C474F4C then
      match m with
      | some x => if x.2 < s.flashWord (a + 4) 4 then some (i, s.flashWord (a + 4) 4) else some x
      | none => some (i, s.flashWord (a + 4) 4)
    else m) none

/-- The first blank entry of a sector. -/
def State.blankEntry (s : State) (a : Nat) : Option Nat :=
  (List.range 2047).find? fun j => s.blank (a + 32 + 32 * j) 32

/-- Begin a sector: its header. -/
def beginSector (a seq : Nat) (s : State) : State := programFlash a (leBytes 4 0x4C474F4C ++ leBytes 4 seq ++ List.replicate 24 0) s

/-- Write one entry at the write point; nothing where the log has no erased room. -/
def writeEntry (base : Nat) (bs : List Byte) (s : State) : Option State :=
  let at_ (i : Nat) (s : State) : Option State :=
    (s.blankEntry (base + 65536 * i)).map fun j => programFlash (base + 65536 * i + 32 + 32 * j) bs s
  let begin_ (i seq : Nat) : Option State :=
    if s.blank (base + 65536 * i) 65536 then at_ i (beginSector (base + 65536 * i) seq s) else none
  match s.logSector base with
  | none => begin_ 0 0
  | some (i, q) => if (s.blankEntry (base + 65536 * i)).isSome then at_ i s else begin_ ((i + 1) % 64) (q + 1)

/-- Erase a sector of the log ahead of the write point, counting its entries. -/
def eraseSector (a : Nat) (s : State) : State :=
  if s.blank a 65536 then s
  else
    let n := ((List.range 2047).filter fun j => !s.blank (a + 32 + 32 * j) 32).length
    eraseFlash a 65536 (s.countSat APX_LOG_ERASED_COUNT n)

/-- LOG_COMPACT's work (R407): the buffered entries are written in SEQ order, then the oldest sectors are erased until two erased
sectors lie ahead. A write that fails is reported on fault source 103 and leaves the entries buffered. -/
def compactLog (s : State) : State :=
  match s.logBase with
  | none => if s.apex.log = [] then s else pulseLine 103 s
  | some base =>
    let step (x : Bool × State) (e : Nat × LogEntry) : Bool × State :=
      if !x.1 then x
      else
        match writeEntry base (logBytes e.1 e.2) x.2 with
        | some s => (true, { s with apex := { s.apex with log := s.apex.log.drop 1 } })
        | none => (false, x.2)
    let (ok, s) := s.apex.log.foldl step (true, s)
    let s := withLevel 455 (fun s => s.set APX_LOG_STAT_BUFFERED s.apex.log.length) s
    let s := if ok then s else pulseLine 103 s
    match s.logSector base with
    | none => s
    | some (i, _) => eraseSector (base + 65536 * ((i + 2) % 64)) (eraseSector (base + 65536 * ((i + 1) % 64)) s)

/-- At boot the next entry's SEQ follows that of the log's last entry (R406). (Log: 44 DEDUCED) -/
def resumeLog (s : State) : State :=
  match s.logBase with
  | none => s
  | some base =>
    match s.logSector base with
    | none => s
    | some (i, _) =>
      match s.blankEntry (base + 65536 * i) with
      | some 0 => s
      | some j => s.set APX_LOG_SEQ_SEQ (s.flashWord (base + 65536 * i + 32 * j) 4 + 1)
      | none => s.set APX_LOG_SEQ_SEQ (s.flashWord (base + 65536 * i + 32 * 2047) 4 + 1)

/-! ## Calibration records (R353, R365, R421) -/

/-- The 4 KB places of the CAL_RECORDS region that hold the beginning of a record. -/
def State.recordPlaces (s : State) : List Nat :=
  match s.region 4 0 with
  | none => []
  | some e =>
    ((List.range (e.length / 4096)).map fun i => e.offset + 4096 * i).filter fun a =>
      s.flashWord a 4 = 0x43534A43 ∧ s.flashWord (a + 4) 1 = 3

/-- The container at a place of the region. -/
def State.recordAt (s : State) (a : Nat) : List Byte :=
  match s.region 4 0 with
  | none => []
  | some e =>
    let n := containerLen (s.flashBytes a 192)
    s.flashBytes a (min n (e.offset + e.length - a))

/-- Does a record qualify: it verifies, and its serial number and member are the part's (R353)? -/
def State.recordGood (s : State) (a : Nat) : Bool :=
  let c := s.recordAt a
  let p := payloadOf c
  s.verifies 3 c && numAt p 0 8 = s.get GLB_SERIAL_SERIAL && numAt p 8 4 % 16 = s.member

/-- The record that BOOT would load (R353): the qualifying one with the highest CAL_COUNT. -/
def State.bestRecord (s : State) : Option Nat :=
  (s.recordPlaces.filter s.recordGood).foldl (fun m a =>
    match m with
    | some b => if numAt (payloadOf (s.recordAt b)) 16 4 < numAt (payloadOf (s.recordAt a)) 16 4 then some a else some b
    | none => some a) none

/-- The trim registers of a channel: nine words (R352). -/
def trimWords (c : Nat) : List Nat := (List.range 9).map fun i => FCT_TRIM0 (c / 128) (c % 128) + 4 * i

/-- Is `a` a trim register: a facet's (R352) or a PMI's (R373)? -/
def isTrim (a : Nat) : Bool :=
  (0x1000000 ≤ a && a < 0x1800000 && 0x74000 ≤ (a - 0x1000000) % 0x80000 && (a - 0x1000000) % 0x80000 < 0x76000) ||
  (0x70100 ≤ a && a < 0x70200)

/-- Load the trims of a record (R353, R367). -/
def loadRecord (c : List Byte) (s : State) : State :=
  let p := payloadOf c
  let n := s.channels
  let s := (List.range n).foldl (fun s i =>
    ((trimWords i).zipIdx).foldl (fun s w => s.setReg w.1 (BitVec.ofNat 64 (numAt p (128 + 40 * i + 4 * w.2) 4))) s) s
  let s := (List.range 64).foldl (fun s i => s.setReg (CAL_PMI_TRIM i) (BitVec.ofNat 64 (numAt p (128 + 40 * n + 8 * i) 4))) s
  let s := ((s.set CAL_COUNT_COUNT (numAt p 16 4)).set CAL_LAST_WALL_WALL (numAt p 24 8)).set CAL_LAST_AT_AT (numAt p 32 8)
  let s := (s.set CAL_STAT_WALL_VALID (numAt p 20 1 % 2)).set CAL_STAT_MODIFIED 0
  let x := { s.apex.run with record := sha384 c }
  { s with apex := { s.apex with run := x } }

/-- Load the manufacture trims of OTP (R353). (Log: 57 DESIGN CHOICE) -/
def loadOtpTrims (s : State) : State :=
  let s := s.clearRegs isTrim
  let s := s.otp.trims.foldl (fun s e => if isTrim e.1 then s.setReg e.1 e.2 else s) s
  let s := ((s.set CAL_COUNT_COUNT 0).set CAL_LAST_WALL_WALL 0).set CAL_LAST_AT_AT 0
  let x := { s.apex.run with record := [] }
  { (s.set CAL_STAT_MODIFIED 0) with apex := { s.apex with run := x } }

/-- Step 9 of BOOT (R71, R353): CAL_RESULT is 0 OK, 1 NONE, 2 AUTH_FAIL. -/
def bootTrims (s : State) : State :=
  match s.bestRecord with
  | some a => (loadRecord (s.recordAt a) s).set APX_BOOT_STAT_CAL_RESULT 0
  | none =>
    let failed := s.recordPlaces.any fun a => !s.verifies 3 (s.recordAt a)
    (loadOtpTrims s).set APX_BOOT_STAT_CAL_RESULT (if failed then 2 else 1)

/-- Where the next record goes (R421): behind the newest one, or at the region's start when the room is short. -/
def State.recordRoom (s : State) (len : Nat) : Option Nat :=
  match s.region 4 0 with
  | none => none
  | some e =>
    let next := match s.bestRecord with
      | some a => (a + (s.recordAt a).length + 4095) / 4096 * 4096
      | none => e.offset
    if next + len ≤ e.offset + e.length then some next else if len ≤ e.length then some e.offset else none

/-- Write a record, and erase ahead for one more without touching the sector of the newest verified record (R421). -/
def writeRecord (c : List Byte) (s : State) : State :=
  match s.recordRoom c.length with
  | none => s
  | some a =>
    let s := programFlash a c s
    match s.recordRoom c.length with
    | none => s
    | some b =>
      let first := b / 65536
      let n := (b + c.length + 65535) / 65536 - first
      let keep : List Nat := match s.bestRecord with
        | some r => (List.range 8).map fun i => r / 65536 + i
        | none => []
      let used := fun k => k ∈ keep ∧ k * 65536 < (match s.bestRecord with | some r => r + (s.recordAt r).length | none => 0)
      (List.range n).foldl (fun s i => if used (first + i) then s else eraseFlash ((first + i) * 65536) 65536 s) s

end Sys2Proof.Machine
end

