-- ==== Sys2Proof/Machine/Cal.lean ====
section
/-!
DEFINITION. Calibration and maintenance (R352 to R374): calibration and self-test runs, TRIM_REFRESH, the arbiter's two queues, and
the NVM activities LOG_COMPACT and FW_STAGE (R407, R417).
-/

namespace Sys2Proof.Machine
open Sys2Proof.Reg

/-! ## The queues (R369) -/

/-- Change what the arbiter holds. -/
def modMaint (g : MaintState → MaintState) (s : State) : State := { s with maint := g s.maint }

/-- Set the calibration-bus queue. -/
def setCalq (q : List CalJob) (s : State) : State :=
  withLevel 483 (fun s => (modMaint (fun m => { m with calq := q }) s).set CAL_STAT_CALQ q.length) s

/-- Set the NVM queue. -/
def setNvmq (q : List NvmJob) (s : State) : State :=
  withLevel 483 (fun s => (modMaint (fun m => { m with nvmq := q }) s).set CAL_STAT_NVMQ q.length) s

/-- Is an NVM activity a step of FW_STAGE? -/
def NvmWork.isStage : NvmWork → Bool
  | .stageBegin _ | .stageChunk _ _ | .stageCommit => true
  | .compact | .trimRead | .calCommit => false

/-- Does FW_STAGE run or wait? -/
def State.staging (s : State) : Bool := s.maint.nvmq.any fun j => j.work.isStage

/-- The requests that count against the NVM queue's four (R369): a commit has a slot of its own. -/
def State.nvmCount (s : State) : Nat := (s.maint.nvmq.filter fun j => j.work != .calCommit).length

/-- Does any calibration-bus activity run or wait? -/
def State.calBusy (s : State) : Bool := s.maint.calq != []

/-- Is a page program of the boot NVM in progress: a flush's, or one of the firmware's own activities? -/
def State.nvmProgramming (s : State) : Bool :=
  (s.device 0).kind = 1 ||
  (match s.maint.nvmq.head? with
   | some j => (match j.work with | .compact | .stageChunk _ _ | .stageCommit | .calCommit => true | _ => false)
   | none => false)

/-! ## A run (R357 to R366) -/

/-- Change the run. -/
def modRun (g : CalRun → CalRun) (s : State) : State := modMaint (fun m => { m with run := m.run.map g }) s

/-- Does the run check the reference (R355)? -/
def CalRun.checksRef (r : CalRun) : Bool := !r.test && (r.kinds % 4 != 0 || r.pmi)

/-- The channels of facet `f`. -/
def facetChannels (f : Nat) : List Nat := (List.range 128).map fun i => 128 * f + i

/-- The registers that item `i` of a run stages: a channel's trims, or those of PMI i - 2048. -/
def stagedOf (i a : Nat) : Bool := if i < 2048 then a ∈ trimWords i else a = CAL_PMI_TRIM (i - 2048)

/-- Skip item `i`, a channel or PMI i - 2048, with a reason (R359): what was staged for it is dropped. -/
def skipItem (i reason : Nat) (s : State) : State :=
  match s.maint.run with
  | none => s
  | some r =>
    if Store.find (fun _ => false) r.skips i then s
    else
      let s :=
        if i ≥ 2048 then (s.set (CAL_PMI_RES_RESULT (i - 2048)) 2).set (CAL_PMI_RES_REASON (i - 2048)) reason
        else
          let s := s.set (CAL_CH_RES_REASON i) reason
          if r.test then s.set (CAL_CH_RES_ST i) 3 else s.set (CAL_CH_RES_RESULT i) 2
      pend 482 (modRun (fun r => { r with skips := Store.put (fun _ => false) r.skips i true
                                          staged := r.staged.filter fun e => !stagedOf i e.1 }) s)

/-- Does the run still work on item `i`? -/
def State.runHas (s : State) (i : Nat) : Bool :=
  match s.maint.run with
  | none => false
  | some r => !Store.find (fun _ => false) r.skips i

/-- Stage a code in a field of a trim register. -/
def stageCode (fld : Fld) (v : Int) (s : State) : State :=
  modRun (fun r =>
    let w := Store.find s.reg r.staged fld.addr
    { r with staged := Store.insert fld.addr (insertBits w fld.lo fld.w (unsigned fld.w v)) r.staged }) s

/-- Does a code fit its field, as a signed code (R352)? (Log: 122 DESIGN CHOICE) -/
def codeFits (fld : Fld) (v : Int) : Bool := -(2 ^ (fld.w - 1) : Int) ≤ v && v < 2 ^ (fld.w - 1)

/-- Stage the codes of item `i`, each in its field; one outside its field skips the item (R359). (Log: 122 DESIGN CHOICE) -/
def stageCodes (i : Nat) (fields : List Fld) (codes : List Int) (s : State) : State :=
  let xs := fields.zip codes
  if xs.all fun x => codeFits x.1 x.2 then xs.foldl (fun s x => stageCode x.1 x.2 s) s else skipItem i 3 s

/-- The trims of a channel that a step calibrates, in the order in which its codes are given (R352, R360); under PARKED_DOWN the
gains keep their values (R358). -/
def stepFields (step c : Nat) (down : Bool) (codes : List Int) : List Fld × List Int :=
  let f := c / 128
  let i := c % 128
  let all : List (Fld × Bool) :=
    match step with
    | 2 => [(FCT_TRIM0_DRV_OFS f i, true), (FCT_TRIM0_DRV_GAIN f i, false), (FCT_TRIM1_CMP_HI_OFS f i, true),
            (FCT_TRIM1_CMP_LO_OFS f i, true)]
    | 3 => ((List.range 4).flatMap fun r => [(FCT_TRIM_PMUI_OFS f i r, true), (FCT_TRIM_PMUI_GAIN f i r, false)]) ++
           [(FCT_TRIM_PMUV_OFS f i, true), (FCT_TRIM_PMUV_GAIN f i, true)]
    | _ => ((List.range 4).map fun k => ((⟨FCT_TRIM_DDSK f i, 8 * k, 8⟩ : Fld), true)) ++
           ((List.range 4).map fun k => ((⟨FCT_TRIM_CDSK f i, 8 * k, 8⟩ : Fld), true))
  ((all.zip codes).filter fun x => x.1.2 || !down).map (fun x => (x.1.1, x.2)) |>.unzip

/-- PMU, TDC and counter results of facet `f` are stale (R363). -/
def staleFacet (f : Nat) (s : State) : State :=
  let s := (List.range 128).foldl (fun s i => s.set (FCT_PMU_STAT_STALE f i) 1) s
  staleMeasurements f s

/-- Was a PMI sample stamped `t` taken while its PMI was calibrated, or just after a TRIM_REFRESH (R363)? (Log: 125 DEDUCED) -/
def State.pmiStale (s : State) (n t : Nat) : Bool :=
  (match s.maint.staleFrom with
   | some a => 0 ≤ stampDiff t a && (match s.maint.staleTo with | some b => decide (stampDiff t b < 0) | none => true)
   | none => false) ||
  (match s.maint.refreshAt with
   | some a => 0 ≤ stampDiff t a && stampDiff t a ≤ (3 * ticksOf (s.pmiPeriod n) : Int)
   | none => false)

/-- Every channel of facet `f` that was not skipped reports its result (R358, R373). -/
def markFacet (f : Nat) (s : State) : State :=
  match s.maint.run with
  | none => s
  | some r =>
    if r.test then s
    else (facetChannels f).foldl (fun s c =>
      if Store.find (fun _ => false) r.skips c then s
      else (s.set (CAL_CH_RES_RESULT c) (if r.down then 3 else 1)).set (CAL_CH_RES_REASON c) 0) s

/-- The skipped items of a run. -/
def CalRun.skipped (r : CalRun) : Nat := r.skips.length

/-- The next calibration-bus request leaves the queue; CAL ends when it is empty (R65, R370). -/
def leaveCal (s : State) : State :=
  let s := setCalq (s.maint.calq.drop 1) s
  let s := (s.set CAL_STAT_ACTIVITY 0).set CAL_STAT_FACET 0
  if s.mode = modeCal ∧ s.maint.calq = [] then acqModeChange (enterMode modeIdle s) else s

/-- Answer the command of a run: its final status, or BUSY with ABANDONED (R70, R360, R366). -/
def answerRun (c : Cmd) (abandoned : Bool) (d0 d1 : Nat) (s : State) : State :=
  answerJob c (if abandoned then stBusy else stOk) abandoned d0 d1 s

/-- A run is over with a RESULT (R361, R368, R374): `stay` keeps the mode for the caller to change. -/
def endRun (result : Nat) (abandoned stay : Bool) (s : State) : State :=
  match s.maint.run with
  | none => s
  | some r =>
    let s := modMaint (fun m => { m with run := none, staleTo := if m.staleFrom.isSome && m.staleTo.isNone then some s.now else m.staleTo }) s
    let s := setNvmq (s.maint.nvmq.filter fun j => j.work != .calCommit) s
    let s := if r.test then s else s.set CAL_STAT_RESULT result
    let s := pendIf (!r.test && decide (3 ≤ result)) 481 (pend 480 s)
    let s := if r.test then s else logEvent logCalibration result (leBytes 4 result ++ leBytes 4 (s.get CAL_COUNT_COUNT)) s
    let s := if stay then (s.set CAL_STAT_ACTIVITY 0).set CAL_STAT_FACET 0 else leaveCal s
    answerRun r.cmd abandoned (if r.test then r.fails else result) r.skipped s

/-- The record's head and trims (R421). -/
def calPayload (r : CalRun) (s : State) : List Byte :=
  let w (a : Nat) : List Byte := leBytes 4 (Store.find s.reg r.staged a).toNat
  leBytes 8 (s.get GLB_SERIAL_SERIAL) ++ leBytes 4 (s.reg GLB_IDENT).toNat ++ leBytes 4 (s.get APX_FW_VERSION_VERSION) ++
  leBytes 4 (s.get CAL_COUNT_COUNT + 1) ++ leBytes 4 (bit01 (s.get ARC_WALLCLOCK_SECONDS != 0) + 2 * bit01 r.modified) ++
  leBytes 8 r.wall ++ leBytes 8 r.atM ++ leBytes 4 (s.get CAL_REF_DECLARED_D) ++ leBytes 4 (s.get CAL_REF_MEAS_M) ++
  leBytes 4 (s.reg ARC_CHUCK_TEMP).toNat ++ leBytes 4 r.temp0 ++ leBytes 4 r.temp1 ++
  leBytes 4 (r.cmd.args.getD 0 0) ++ leBytes 4 (r.cmd.args.getD 1 0) ++ leBytes 4 (r.cmd.args.getD 2 0) ++
  List.replicate 56 0 ++
  ((List.range s.channels).flatMap fun c => (trimWords c).flatMap w ++ leBytes 4 (s.reg (CAL_CH_RES c)).toNat) ++
  ((List.range 64).flatMap fun n => w (CAL_PMI_TRIM n) ++ leBytes 4 (s.reg (CAL_PMI_RES n)).toNat)

/-- T_m is now: the run goes on to its commit, which takes its slot in the NVM queue behind the activity that runs (R361,
R369). (Log: 124 DEDUCED) -/
def beginCommit (s : State) : State :=
  let s := modRun (fun r => { r with step := 9, atM := s.now, wall := s.wallTime, temp1 := (s.reg THM_TEMP).toNat }) s
  setNvmq (s.maint.nvmq.take 1 ++ [⟨.calCommit, none⟩] ++ s.maint.nvmq.drop 1) s

/-- The run reaches the work behind its facets. -/
def afterFacets (s : State) : State :=
  match s.maint.run with
  | none => s
  | some r =>
    if r.test then endRun 0 false false s
    else if r.pmi then modRun (fun r => { r with step := 6 }) s
    else if r.checksRef then modRun (fun r => { r with step := 8 }) s
    else beginCommit s

/-- Begin the next facet that can be calibrated (R359, R362): one under a park is skipped whole, and a channel whose overcurrent bit
is set is skipped. (Log: 123 DEDUCED) -/
def openFacet : Nat → State → State
  | 0, s => s
  | n + 1, s =>
    match s.maint.run with
    | none => s
    | some r =>
      match r.facets with
      | [] => afterFacets s
      | f :: fs =>
        if s.facetParked f then
          openFacet n (modRun (fun r => { r with facets := fs }) ((facetChannels f).foldl (fun s c => skipItem c 4 s) s))
        else
          let s := modRun (fun r => { r with step := if r.checksRef then 0 else 1 }) (s.set CAL_STAT_FACET f)
          (facetChannels f).foldl (fun s c => if s.on (ocBit c) then skipItem c 2 s else s) s

/-- A step of the current facet has ended: the next step, or the next facet. -/
def nextStep (s : State) : State :=
  match s.maint.run with
  | none => s
  | some r =>
    let later : List Nat := if r.test then [5] else [2, 3, 4].filter fun k => r.kinds.testBit (k - 2)
    match (if r.step = 0 then [1] else later.filter fun k => r.step < k) with
    | k :: _ => modRun (fun r => { r with step := k }) s
    | [] => openFacet 17 (modRun (fun r => { r with facets := r.facets.drop 1 }) (markFacet (r.facets.headD 0) s))

/-- Is the reference accepted (R354)? (Log: 122 DESIGN CHOICE) -/
def State.refGood (s : State) (m : Nat) : Bool :=
  let d := s.get CAL_REF_DECLARED_D
  2250000 ≤ d && d ≤ 2750000 && decide (((m : Int) - d).natAbs ≤ d / 200)

/-- The readings of an item in what a step reports; an item that is not listed reads zeros. -/
def itemData (data : List (Nat × List Int)) (i : Nat) : List Int := ((data.find? fun x => x.1 = i).map fun x => x.2).getD []

/-- The pin check of one channel (R357). -/
def pinCheck (c : Nat) (na : Int) (s : State) : State :=
  match s.maint.run with
  | none => s
  | some r =>
    let limit := if r.down then s.get CAL_PIN_ILIM_PD_NA else s.get CAL_PIN_ILIM_OPEN_NA
    let s := s.set (CAL_CH_RES_LEAK_NA c) (unsigned 16 na)
    if na.natAbs ≤ limit then s else skipItem c 1 s

/-- The self-test of one channel (R366): the first failing test, or 0. -/
def testChannel (c code : Nat) (s : State) : State :=
  let s := (s.set (CAL_CH_RES_ST c) (if code = 0 then 1 else 2)).set (CAL_CH_RES_ST_CODE c) code
  if code = 0 then s else modRun (fun r => { r with fails := r.fails + 1 }) s

/-- Apply `g` to every item of a list that the run still works on. -/
def eachItem (is : List Nat) (g : Nat → State → State) (s : State) : State :=
  is.foldl (fun s i => if s.runHas i then g i s else s) s

/-- A step of a run ends (R361, R366): `m` is the reference voltage measured, in µV, and `data` holds each channel's or PMI's
leakage, codes or failing test. (Log: 122 DESIGN CHOICE) -/
def calStepEnd (m : Nat) (data : List (Nat × List Int)) (s : State) : State :=
  match s.maint.run with
  | none => s
  | some r =>
    let f := r.facets.headD 0
    let cs := facetChannels f
    let refCheck (g : State → State) (s : State) : State :=
      let s := s.set CAL_REF_MEAS_M m
      if s.refGood m then g s else endRun 3 false false s
    match r.step with
    | 0 => refCheck nextStep s
    | 1 => nextStep (eachItem cs (fun c => pinCheck c ((itemData data c).headD 0)) s)
    | 2 | 3 | 4 =>
      nextStep (eachItem cs (fun c s => let x := stepFields r.step c r.down (itemData data c); stageCodes c x.1 x.2 s) s)
    | 5 => nextStep (eachItem cs (fun c => testChannel c (((itemData data c).headD 0).toNat % 6)) s)
    | 6 => refCheck (fun s => modMaint (fun m => { m with staleFrom := some s.now, staleTo := none })
        (modRun (fun r => { r with step := 7 }) s)) s
    | 7 =>
      let s := (List.range 64).foldl (fun s n =>
        let s := (s.set (CAL_PMI_RES_RESULT n) 1).set (CAL_PMI_RES_REASON n) 0
        stageCodes (2048 + n) [CAL_PMI_TRIM_OFS n, CAL_PMI_TRIM_GAIN n] (itemData data (2048 + n)) s) s
      modRun (fun r => { r with step := 8 }) s
    | 8 => refCheck beginCommit s
    | _ => s

/-- Every staged trim is written, and the run is counted (R361). (Log: 57 DESIGN CHOICE, 124 DEDUCED) -/
def applyTrims (r : CalRun) (s : State) : State :=
  let s := r.staged.foldl (fun s e => s.setReg e.1 e.2) s
  let s := s.count CAL_COUNT_COUNT 1
  let s := (setBits 16 r.mask).foldl (fun s f => s.count (CAL_COUNT_F_COUNT f) 1) s
  let s := (s.set CAL_LAST_WALL_WALL r.wall).set CAL_LAST_AT_AT r.atM
  (s.set CAL_STAT_WALL_VALID (bit01 (s.get ARC_WALLCLOCK_SECONDS != 0))).set CAL_STAT_MODIFIED 0

/-- The record is committed and verified by read-back, and the trims are written; or the commit has failed (R361, R421). -/
def commitDone (ok : Bool) (s : State) : State :=
  match s.maint.run, s.maint.nvmq.head? with
  | some r, some j =>
    if r.step ≠ 9 ∨ j.work ≠ .calCommit then s
    else
      let (c, s) := signContainer 3 (calPayload r s) s
      if !ok || (s.recordRoom c.length).isNone then endRun 5 false false s
      else
        let s := applyTrims r (writeRecord c s)
        let x := { s.apex.run with record := sha384 c }
        let s := { s with apex := { s.apex with run := x } }
        endRun (if r.skipped = 0 then 1 else 2) false false s
  | _, _ => s

/-- CAL_CTRL.ABORT (R368). (Log: 123 DEDUCED) -/
def abortCal (s : State) : State :=
  match s.maint.run with
  | some r => if r.test then s else endRun 4 true false s
  | none => s

/-- A facet park or block reset of facet `f` reaches a run (R368): every channel of `f` is skipped, and the run goes on. (Log: 123 DEDUCED) -/
def abandonFacet (f : Nat) (s : State) : State :=
  match s.maint.run with
  | none => s
  | some r =>
    if !r.mask.testBit f ∨ 9 ≤ r.step then s
    else
      let s := (facetChannels f).foldl (fun s c => skipItem c 4 s) s
      if r.step ≤ 5 ∧ r.facets.head? = some f then openFacet 17 (modRun (fun r => { r with facets := r.facets.drop 1 }) s)
      else s

/-- An overcurrent trip of a channel that is being calibrated (R359). -/
def calTrip (c : Nat) (s : State) : State :=
  match s.maint.run with
  | none => s
  | some r => if r.step ≤ 5 ∧ r.facets.head? = some (c / 128) then skipItem c 2 s else s

/-! ## The arbiter (R369 to R371) -/

/-- Start the first request of the calibration-bus queue. -/
def startCal (s : State) : State :=
  match s.maint.calq with
  | [] => s
  | j :: _ =>
    if s.get CAL_STAT_ACTIVITY ≠ 0 then s
    else
      let s := s.set CAL_STAT_ACTIVITY j.kind
      if j.kind = 3 then
        let s := (List.range s.facets).foldl (fun s f => staleFacet f s) s
        setNvmq (s.maint.nvmq ++ [⟨.trimRead, none⟩]) s
      else
        let s := if s.mode = modeCal then s else acqModeChange (enterMode modeCal s)
        let mask := j.cmd.args.getD 0 0 % 65536
        let s := if j.kind = 1 then (setBits 16 mask).foldl (fun s f => staleFacet f s) s else s
        let r : CalRun :=
          { cmd := j.cmd, test := j.kind = 2, mask := mask, pmi := j.kind = 1 && (j.cmd.args.getD 0 0).testBit 16
            kinds := if j.kind = 1 then j.cmd.args.getD 1 0 % 8 else 0, down := (j.cmd.args.getD 2 0).testBit 0, step := 0
            facets := setBits 16 mask, staged := [], skips := [], fails := 0, modified := s.on CAL_STAT_MODIFIED
            temp0 := (s.reg THM_TEMP).toNat, temp1 := 0, atM := 0, wall := 0 }
        openFacet 17 (modMaint (fun m => { m with run := some r }) s)

/-- A calibration-bus request is taken into the queue, and starts if the bus is free. -/
def queueCal (kind : Nat) (c : Cmd) (s : State) : State := startCal (setCalq (s.maint.calq ++ [⟨kind, c⟩]) s)

/-- An NVM request is taken into the queue. -/
def queueNvm (w : NvmWork) (c : Option Cmd) (s : State) : State := setNvmq (s.maint.nvmq ++ [⟨w, c⟩]) s

/-- Answer the command of an NVM activity; source 451 reports the steps of FW_STAGE (R427). -/
def answerNvm (j : NvmJob) (status : Nat) (s : State) : State :=
  let s := match j.cmd with | some c => finishJob c status 0 s | none => s
  if j.work.isStage then
    let (v, s) := s.fresh
    logEvent logFirmware v [] (pend 451 s)
  else s

/-- The read turn of a TRIM_REFRESH completes (R367). (Log: 125 DEDUCED) -/
def refreshDone (s : State) : State :=
  match s.maint.nvmq, s.maint.calq with
  | n :: ns, j :: _ =>
    if n.work ≠ .trimRead ∨ j.kind ≠ 3 then s
    else
      let s := setNvmq ns s
      let (status, s) :=
        match s.bestRecord with
        | some a => (stOk, modMaint (fun m => { m with refreshAt := some s.now }) (loadRecord (s.recordAt a) s))
        | none => (if s.recordPlaces = [] then stNotPresent else stAuthFail, s)
      finishJob j.cmd status 0 (leaveCal (pend 480 s))
  | _, _ => s

/-- The firmware slot that FW_STAGE writes (R417). -/
def State.stageSlot (s : State) (c : Option Cmd) : Nat :=
  if s.on APX_SAFE_CAUSE_NO_FIRMWARE then
    match c with
    | some c => bitsAt (c.args.getD 0 0) 8 1
    | none => 0
  else 1 - s.get APX_BOOT_STAT_FW_SLOT

/-- The bytes of the staging window from offset 0. -/
def State.staged (s : State) (n : Nat) : List Byte := (s.regBytes (APX_STAGING 0) ((n + 3) / 4)).take n

/-- The work of a step of FW_STAGE (R417): its final status and its effect. (Log: 126 DEDUCED) -/
def stageWork (w : NvmWork) (c : Option Cmd) (s : State) : Nat × State :=
  match w, s.maint.stage with
  | .stageBegin len, _ =>
    let k := s.stageSlot c
    match s.slotRegion k with
    | none => (stNotPresent, s)
    | some e => (stOk, showSlots (modMaint (fun m => { m with stage := some ⟨k, len, 0⟩ }) (eraseFlash e.offset 0x80000 s)))
  | .stageChunk off len, some g =>
    if off ≠ g.written ∨ 0x7F000 < off + len then (stBadArg, s)
    else
      match s.slotRegion g.slot with
      | none => (stNotPresent, s)
      | some e =>
        let s := programFlash (e.offset + off) (s.staged len) s
        (stOk, modMaint (fun m => { m with stage := some { g with written := off + len } }) s)
  | .stageCommit, some g =>
    if g.written ≠ g.len then (stBadArg, s)
    else if !s.slotVerifies g.slot then (stAuthFail, s)
    else (stOk, showSlots (modMaint (fun m => { m with stage := none }) (writeFlag g.slot 0 s)))
  | .stageChunk _ _, none | .stageCommit, none => (stBadArg, s)
  | .compact, _ | .trimRead, _ | .calCommit, _ => (stOk, s)

/-- The NVM activity that runs ends, and the oldest that waits starts (R369). A commit and a TRIM_REFRESH read end by themselves. (Log: 126 DEDUCED) -/
def dispatchNvm (s : State) : State :=
  match s.maint.nvmq with
  | [] => s
  | j :: js =>
    match j.work with
    | .trimRead | .calCommit => s
    | .compact => answerNvm j stOk (compactLog (setNvmq js s))
    | w =>
      let (status, s) := stageWork w j.cmd (setNvmq js s)
      answerNvm j status s

/-- The arbiter starts the oldest request of a queue whose resource frees (R369). (Log: 126 DEDUCED) -/
def dispatch (nvm : Bool) (s : State) : State := if nvm then dispatchNvm s else startCal s

/-- Firmware starts LOG_COMPACT by itself (R407). -/
def autoCompact (s : State) : State :=
  let due := 128 ≤ s.apex.log.length ∨ (s.apex.log ≠ [] ∧ s.apex.logOldest + 1600000000 ≤ s.mono)
  if due ∧ s.mode ∈ [modeIdle, modeHost, modeAuto, modeCal, modeSafe] ∧ !s.on APX_SAFE_CAUSE_NO_FIRMWARE ∧
      !(s.maint.nvmq.any fun j => j.work == .compact) ∧ s.nvmCount < 4 ∧ s.therm.stage = 0 then
    queueNvm .compact none s
  else s

/-! ## Ends from outside -/

/-- A calibration or self-test ends abandoned, and no request is left in the calibration-bus queue (R368). -/
def abandonCal (s : State) : State :=
  let s := endRun 4 true true s
  let s := setCalq [] (s.set CAL_STAT_ACTIVITY 0)
  setNvmq (s.maint.nvmq.filter fun j => j.work != .trimRead && j.work != .calCommit) s

/-- The NVM activity that runs is cut short (R388, R428): a chunk has programmed some of its pages and a BEGIN erased some of its
sectors, how many is open; a suspended erase is reported. (Log: 126 DEDUCED) -/
def cutNvm (s : State) : State :=
  match s.maint.nvmq.head? with
  | none => s
  | some j =>
    match j.work, s.maint.stage with
    | .stageBegin _, _ =>
      let (v, s) := s.fresh
      let s := modMaint (fun m => { m with stage := none }) s
      let s := match s.slotRegion (s.stageSlot j.cmd) with
        | some e => showSlots (eraseFlash e.offset (v % 9 * 65536) s)
        | none => s
      pend 469 (s.raise SPN_STAT_ERASE_SUSP)
    | .stageChunk off len, some g =>
      let (v, s) := s.fresh
      let n := min len (v % 129 * 256)
      match s.slotRegion g.slot with
      | some e => if off = g.written then programFlash (e.offset + off) (s.staged n) s else s
      | none => s
    | _, _ => s

/-- SAFE is entered: firmware's own staging ends; a log compaction goes on without its command (R64, R407). -/
def stopStaging (s : State) : State :=
  let s := match s.maint.nvmq.head? with
    | some j => if j.work.isStage then cutNvm s else s
    | none => s
  setNvmq ((s.maint.nvmq.filter fun j => j.work == .compact).map fun j => ⟨j.work, none⟩) s

/-- An erase in progress is suspended and not resumed (R388). (Log: 128 DEDUCED) -/
def suspendErase (s : State) : State := suspendPort s

/-- The arbiter is reset (R70, R83). -/
def resetMaint (s : State) : State := setNvmq [] (setCalq [] { (cutNvm s) with maint := MaintState.init })

end Sys2Proof.Machine
end

