-- ==== Sys2Proof/Machine/Power.lean ====
section
/-!
DEFINITION. The power governor (R343 to R345): the cost of a request, the standing load, the credit, and the figures that
the THM registers show.
-/

namespace Sys2Proof.Machine
open Sys2Proof.Reg

/-- Division rounded up. -/
def ceilDiv (a b : Nat) : Nat := (a + b - 1) / b

/-- The cost in µW of a channel in the VECTOR state, at the period in use on its facet (R343). -/
def State.channelCost (s : State) (c : Nat) : Nat :=
  s.get THM_CH_STATIC_UW +
    ceilDiv (s.get THM_E_TOGGLE_FJ * s.get THM_ALPHA_ALPHA * 16 * 2 ^ 24) (10 * 256 * (s.fct (c / 128)).period)

/-- The channels of a phase of chord `k` (R343): its used shared, code and strobe channels, and the selects of its vertices. -/
def State.phaseChannels (s : State) (k : Nat) : List Nat :=
  s.chordChannels k ++ if s.codedChord k then [] else (s.chordVertices k).map s.selectChannel

/-- The cost of a phase or poll round of chord `k` now (R343). -/
def State.phaseCost (s : State) (k : Nat) : Nat := ((s.phaseChannels k).map s.channelCost).sum

/-- A chord of which Arc holds nothing. -/
def ArcChord.init : ArcChord :=
  { gathers := [], gangs := [], granted := none, phase := none, replays := [], tries := 0, held := none }

/-- What Arc holds of chord `k`. -/
def State.chord (s : State) (k : Nat) : ArcChord := Store.find (fun _ => ArcChord.init) s.arc.chords k

/-- Change what Arc holds. -/
def modArc (g : ArcState → ArcState) (s : State) : State := { s with arc := g s.arc }

/-- Change what Arc holds of chord `k`. -/
def modChord (k : Nat) (g : ArcChord → ArcChord) (s : State) : State :=
  modArc (fun a => { a with chords := Store.put (fun _ => ArcChord.init) a.chords k (g (s.chord k)) }) s

/-- The operation of vertex `v`, if Arc has fetched one. -/
def State.op (s : State) (v : Nat) : Option ArcOp := Store.find (fun _ => none) s.arc.ops v

/-- A little-endian field of `n` bytes at byte `i` of a descriptor (R188). -/
def descField (d : List Byte) (i n : Nat) : Nat := leNat ((d.drop i).take n)

/-- PARAMk of a descriptor (R188). -/
def descParam (d : List Byte) (k : Nat) : Nat := descField d (16 + 4 * k) 4

/-- The channel that a MEASURE of a PMU target measures for vertex `v` (R191). -/
def State.measureChannel (s : State) (d : List Byte) (v : Nat) : Nat :=
  match descParam d 0 % 4 with
  | 0 => s.sharedChannel (s.chordOf v) (bitsAt (descParam d 0) 2 5)
  | 1 => s.selectChannel v
  | _ => s.mapGet (SIT_VX2_BUSY_CH v)

/-- The PMU channels that a MEASURE of a gang measures (R191): one for a shared role, one for each vertex otherwise, and none
for a precision input. -/
def State.measureTargets (s : State) (d : List Byte) (members : List Nat) : List (Nat × Nat) :=
  match descParam d 0 % 4 with
  | 0 => (members.take 1).map fun v => (s.measureChannel d v, v)
  | 3 => []
  | _ => members.map fun v => (s.measureChannel d v, v)

/-- OPTYPE of a descriptor (R189). -/
def opType (d : List Byte) : Nat := descField d 2 1

/-- The cost of the first phase of a gang whose descriptor is `d` (R343). -/
def State.gangCost (s : State) (k : Nat) (d : List Byte) (members : List Nat) : Nat :=
  if opType d = 8 then (s.measureTargets d members).length * s.get THM_PMU_COST_UW else s.phaseCost k

/-- The descriptor that a gang's members share. -/
def State.gangDesc (s : State) (members : List Nat) : List Byte :=
  match members with
  | [] => []
  | v :: _ => match s.op v with
    | some o => o.desc
    | none => []

/-- Σ of the costs held (R344): those of the chords' phases, and of first phases granted and about to be issued. -/
def State.heldCost (s : State) : Nat :=
  (s.arc.chords.map fun e =>
    (match e.2.phase with | some p => p.cost | none => 0) +
    (match e.2.granted with | some g => s.gangCost e.1 (s.gangDesc g.members) g.members | none => 0)).sum

/-- The standing load in µW as it is now (R343). -/
def State.standingNow (s : State) : Nat :=
  ((List.range s.channels).map fun c =>
    if s.channelState c = chGate then s.get THM_CH_STATIC_UW
    else if s.channelState c = chPmu && !(s.chan c).forArc then s.get THM_PMU_COST_UW
    else 0).sum

/-- The allowance in µW at the current factor (R344): THM_BUDGET is limited to 15,000 mW. -/
def State.allowance (s : State) : Int :=
  (((min 15000 (s.get THM_BUDGET_MW) : Nat) : Int) - (s.get THM_P_BASE_MW : Int)) * 1000 * (s.get THM_FACTOR_F : Int) / 256

/-- The credit C of R344. -/
def State.credit (s : State) : Int := s.allowance - (s.therm.standing : Int) - (s.heldCost : Int)

/-- The estimate of R345: phases at the period actually in use. -/
def State.estimate (s : State) : Nat :=
  s.get THM_P_BASE_MW * 1000 + s.therm.standing +
    (s.arc.chords.map fun e => match e.2.phase with
      | some p => if p.kind = 4 then p.cost else s.phaseCost e.1
      | none => 0).sum

/-- Bring the governor's registers up to date (R344, R345). -/
def refreshPower (s : State) : State :=
  let s := s.set THM_P_COMMIT_P_COMMIT (s.therm.standing + s.heldCost)
  let s := (s.set THM_CREDIT_CREDIT (unsigned 32 s.credit)).set THM_P_EST_P_EST s.estimate
  if (s.get THM_P_BASE_MW : Int) * 1000 + s.allowance < (s.estimate : Int) ∧ !s.on THM_STAT_OVER_BUDGET then
    pend 421 (s.raise THM_STAT_OVER_BUDGET)
  else s

/-- The governor's answer to a request (R344): granted when the cost is within the credit, and also when no cost at all is
held, which sets SOLE. -/
def grantCost (cost : Nat) (s : State) : Bool × State :=
  if (cost : Int) ≤ s.credit then (true, s)
  else if s.heldCost = 0 then (true, s.raise THM_STAT_SOLE)
  else (false, s)

end Sys2Proof.Machine
end

