-- ==== Sys2Proof/Machine/Arc.lean ====
section
/-!
DEFINITION. Arc's descriptors, vertex states and result records (R188 to R193, R208 to R210), fetching, gathering and
admission (R192 to R197), and what ends an operation from outside (R206, R207, R331).
-/

namespace Sys2Proof.Machine
open Sys2Proof.Reg

/-! ## Descriptors (R188 to R191) -/

/-- OPTYPE values (R189). -/
def opCmd : Nat := 1
@[inherit_doc opCmd] def opProgram : Nat := 2
@[inherit_doc opCmd] def opRead : Nat := 3
@[inherit_doc opCmd] def opErase : Nat := 4
@[inherit_doc opCmd] def opReadStatus : Nat := 5
@[inherit_doc opCmd] def opWaitReady : Nat := 6
@[inherit_doc opCmd] def opSetTrim : Nat := 7
@[inherit_doc opCmd] def opMeasure : Nat := 8
@[inherit_doc opCmd] def opPower : Nat := 9
@[inherit_doc opCmd] def opCustom : Nat := 10

/-- TAG of a descriptor. -/
def descTag (d : List Byte) : Nat := descField d 0 2

/-- Bit `i` of FLAGS of a descriptor: 0 INDIV, 1 NO_REPLAY, 2 STATUS_CHECK. -/
def descFlag (d : List Byte) (i : Nat) : Bool := (descField d 3 1).testBit i

/-- ROUTINE and ROUTINE_OUT of a descriptor. -/
def descRoutine (d : List Byte) : Nat := descField d 4 1 % 16
@[inherit_doc descRoutine] def descRoutineOut (d : List Byte) : Nat := descField d 4 1 / 16

/-- Does an operation type run its phases under R189 and track busy after them? READ_STATUS, MEASURE and POWER never do. -/
def opTracks (t : Nat) : Bool := t ∉ [opReadStatus, opMeasure, opPower]

/-- Does the operation have a busy interval (R188, R189): its busy kind, the type's DEFAULT for 0, is not NONE? -/
def descBusy (d : List Byte) : Bool :=
  let k := descField d 5 1 % 8
  opTracks (opType d) &&
    (if k = 0 then decide (opType d ∈ [opProgram, opRead, opErase, opWaitReady]) else k != 1)

/-- MEASURE arguments that are invalid (R191). -/
def State.measureBad (s : State) (v : Nat) (d : List Byte) : Bool :=
  let p := descParam d 0
  let role := bitsAt p 2 5
  let k := s.chordOf v
  bitsAt p 7 2 = 0 || decide (22 ≤ role) || decide (s.mapGet (SIT_CH0_SHARED_COUNT k) ≤ role) ||
  (p % 4 == 1 && s.codedChord k) || (p % 4 == 2 && (s.busyChannel v).isNone) || (p % 4 == 3 && s.mapGet (SIT_VX3_PMI_EN v) == 0)

/-- The reason for which a descriptor of vertex `v` is bad, the first of R190 that applies; 0 for a good one. (Log: 82 DEDUCED) -/
def State.badDesc (s : State) (v : Nat) (d : List Byte) : Nat :=
  let t := opType d
  let coded := s.onBus v && s.codedChord (s.chordOf v)
  if t = 0 ∨ 10 < t then 1
  else if descField d 3 1 / 8 ≠ 0 ∨ descField d 5 1 / 8 ≠ 0 ∨ 5 ≤ descField d 5 1 % 8 ∨ descField d 12 4 ≠ 0 ∨
      descField d 56 8 ≠ 0 then 2
  else if coded && (descRoutine d == 15 || (t == opRead && descRoutineOut d == 15)) then 3
  else if s.onBus v && t == opMeasure && s.measureBad v d then 4
  else if !s.onBus v then 5
  else 0

/-! ## Operations and vertex states -/

/-- Codes of ARC_VSTAT.STATE (R193). -/
def vsIdle : Nat := 0
@[inherit_doc vsIdle] def vsWait : Nat := 1
@[inherit_doc vsIdle] def vsGather : Nat := 2
@[inherit_doc vsIdle] def vsPhase : Nat := 3
@[inherit_doc vsIdle] def vsBusy : Nat := 4
@[inherit_doc vsIdle] def vsNext : Nat := 5
@[inherit_doc vsIdle] def vsClose : Nat := 6
@[inherit_doc vsIdle] def vsHeld : Nat := 7

/-- STATUS codes (R209). -/
def opPass : Nat := 0
@[inherit_doc opPass] def opFailStatus : Nat := 1
@[inherit_doc opPass] def opTimeout : Nat := 2
@[inherit_doc opPass] def opInked : Nat := 3
@[inherit_doc opPass] def opReplayNeeded : Nat := 4
@[inherit_doc opPass] def opAborted : Nat := 5
@[inherit_doc opPass] def opInterrupted : Nat := 6
@[inherit_doc opPass] def opError : Nat := 7
@[inherit_doc opPass] def opBadDesc : Nat := 8
@[inherit_doc opPass] def opNoStart : Nat := 9
@[inherit_doc opPass] def opNoGate : Nat := 10
@[inherit_doc opPass] def opCancelled : Nat := 11

/-- Set the operation of vertex `v`. -/
def setOp (v : Nat) (o : Option ArcOp) (s : State) : State :=
  modArc (fun a => { a with ops := Store.put (fun _ => none) a.ops v o }) s

/-- Change the operation of vertex `v`, if there is one. -/
def modOp (v : Nat) (g : ArcOp → ArcOp) (s : State) : State :=
  match s.op v with
  | some o => setOp v (some (g o)) s
  | none => s

/-- Set a bit of FLAGS of an operation's record (R210). -/
def flagOp (v bit : Nat) (s : State) : State := modOp v (fun o => { o with flags := o.flags ||| 2 ^ bit }) s

/-- A stamp used for an operation has been taken in an island: TIME_SUSPECT (R111, R210). -/
def suspectOp (v island : Nat) (s : State) : State := if s.suspect island then flagOp v 1 s else s

/-- The state of vertex `v`. -/
def State.vstate (s : State) (v : Nat) : Nat := s.get (ARC_VSTAT_STATE v)

/-- Vertex `v` enters a state. -/
def enterV (v st : Nat) (s : State) : State :=
  (s.set (ARC_VSTAT_STATE v) st).set (ARC_SINCE_SINCE v) s.now

/-- The ARC_VHOLD bit of vertex `v`. -/
def State.vhold (s : State) (v : Nat) : Bool := s.bitOf (ARC_VHOLD_HOLD (v / 32)) (v % 32)

/-- Set or clear the ARC_VHOLD bit of vertex `v` (R201). -/
def setVhold (v : Nat) (b : Bool) (s : State) : State :=
  withLevel 256 (fun s => s.setBit (ARC_VHOLD_HOLD (v / 32)) (v % 32) b) s

/-- An operation that has been fetched. -/
def ArcOp.init (d : List Byte) : ArcOp :=
  { flags := 0, status := none, doneAt := 0, busyTicks := 0, dutStatus := 0, info := 0, data := 0, gangSize := 0
    tEnd := 0, deadline := 0, fall := none, level := 1, due := 0, desc := d, admitted := none, gang := []
    attempts := 0, further := 0, readyAt := 0 }

/-- Is the operation of `v` admitted and not yet in CLOSE? -/
def State.opLive (s : State) (v : Nat) : Bool :=
  match s.op v with
  | some o => o.admitted.isSome && s.vstate v != vsClose
  | none => false

/-! ## Result records (R208 to R210) -/

/-- DATA of a record: the reason of a status that has one, the result of a MEASURE or READ_STATUS that passed. -/
def ArcOp.recordData (o : ArcOp) : Nat :=
  let (st, reason) := o.status.getD (0, 0)
  if st ∈ [opAborted, opError, opBadDesc, opNoStart] then reason
  else if st = opPass ∧ opType o.desc ∈ [opMeasure, opReadStatus] then unsigned 32 o.data
  else 0

/-- FLAGS of a record: INCOMPLETE (R300), REPLAYED (R204) and GANGED besides those that were set on the way. -/
def State.recordFlags (s : State) (v : Nat) (o : ArcOp) : Nat :=
  let st := (o.status.getD (0, 0)).1
  o.flags ||| 16 * bit01 (o.admitted.isSome && Store.find (fun _ => false) s.lat.lossy v) |||
    32 * bit01 (0 < o.attempts && st ≤ opFailStatus) ||| 64 * bit01 (2 ≤ o.gangSize)

/-- The 32 bytes of a record (R208). -/
def State.resultRecord (s : State) (v verdict : Nat) (o : ArcOp) : List Byte :=
  leBytes 2 (descTag o.desc) ++ leBytes 2 v ++ leBytes 1 (opType o.desc) ++ leBytes 1 (o.status.getD (0, 0)).1 ++
  leBytes 2 (s.recordFlags v o) ++ leBytes 8 o.doneAt ++ leBytes 4 o.busyTicks ++ leBytes 1 o.dutStatus ++
  leBytes 1 (o.attempts % 4 + 4 * verdict + 16 * o.info) ++ leBytes 2 (o.gangSize + 128 * s.chordOf v) ++
  leBytes 4 o.recordData ++ leBytes 4 (s.get (ARC_RSEQ_RSEQ v))

/-- The record of vertex `v`'s operation is handed over, and the operation is over (R193, R208). -/
def writeResult (v verdict : Nat) (s : State) : State :=
  match s.op v with
  | none => s
  | some o =>
    let d := s.resultRecord v verdict o
    let s := (handover (4 * v + 1) d (s.count (ARC_RSEQ_RSEQ v) 1)).2
    let s := setOp v none s
    let s := if o.admitted.isSome then s.set ARC_STAT_INFLIGHT (s.get ARC_STAT_INFLIGHT - 1) else s
    let polled := o.flags.testBit 8 && o.doneAt == o.readyAt && s.ringCount (4 * v) != 0
    let e := if polled then some o.doneAt else none
    let s := modArc (fun a => { a with pollDone := Store.put (fun _ => none) a.pollDone v e }) s
    enterV v (if s.vhold v then vsHeld else vsIdle) s

/-- The interrupt of a status (R214). -/
def pendStatus (st : Nat) (s : State) : State :=
  if st = opError then pend 257 s
  else if st = opReplayNeeded then pend 258 s
  else if st = opNoStart then pend 260 s
  else if st = opBadDesc then pend 262 s
  else s

/-- Switch the supply gate of vertex `v`. -/
def setGate (v : Nat) (b : Bool) (s : State) : State :=
  { s with gates := Store.put (fun _ => false) s.gates v b }

/-- The waiting replays without vertex `v`. -/
def withoutVertex (v : Nat) (l : List (List Nat × Bool)) : List (List Nat × Bool) :=
  (l.map fun x => (x.1.filter (fun u => u ≠ v), x.2)).filter fun x => x.1 ≠ []

/-- The status of an admitted operation is determined (R193): the vertex enters CLOSE and Lattice is sent the close. In a
thermal drain its supply gate switches off (R347). -/
def finishOp (v st reason t : Nat) (s : State) : State :=
  if !s.opLive v then s
  else
    let s := modOp v (fun o => { o with status := some (st, reason), doneAt := t, further := 0 }) s
    let s := if s.arc.drain = 2 then setGate v false s else s
    let s := modChord (s.chordOf v) (fun c => { c with replays := withoutVertex v c.replays }) s
    sendClose v st (enterV v vsClose (pendStatus st (suspectOp v 16 s)))

/-- While the result ring is PARKED and the reserve slot occupied, nothing completes for a vertex (R299). -/
def State.completionHeld (s : State) (v : Nat) : Bool := s.ringState (4 * v + 1) = ringParked && s.reserveHeld v

/-- Back-pressure for vertex `v` (R299). -/
def State.backPressure (s : State) (v : Nat) : Bool :=
  ([0, 1, 2, 3].any fun i => s.ringState (4 * v + i) = ringParked) && (s.on DMA_POOL_STAT_LOW || s.reserveHeld v)

/-- Vertex `v` leaves its gather, and its gang if that has no phase yet. -/
def leaveGather (v : Nat) (s : State) : State :=
  let gather (g : Gather) : Gather := { g with members := g.members.filter fun u => u ≠ v }
  let gang (g : Gang) : Gang := { g with members := g.members.filter fun u => u ≠ v }
  modChord (s.chordOf v) (fun c =>
    { c with gathers := (c.gathers.map gather).filter (fun g => g.members ≠ []),
             gangs := (c.gangs.map gang).filter (fun g => g.members ≠ []) }) s

/-- Arc lets go of a descriptor that has not been admitted: it stays at the ring head. -/
def letGo (v : Nat) (s : State) : State := enterV v vsIdle (setOp v none (leaveGather v s))

/-- An operation that has not been admitted completes at once (R190, R192, R207): its ring head advances and its record is
written; where no completion may happen it stays at the ring head (R299). (Log: 93 DEDUCED) -/
def completeAtOnce (v st reason : Nat) (s : State) : State :=
  if s.completionHeld v then letGo v s
  else
    let s := leaveGather v s
    let s := modOp v (fun o => { o with status := some (st, reason), doneAt := s.now }) s
    writeResult v 0 (indexAdvanced (4 * v) (pendStatus st (suspectOp v 16 s)))

/-! ## Gathering (R195) -/

/-- Does a ray of chord `k` drive data that differs from vertex to vertex (R177, R195)? -/
def State.perVertexData (s : State) (k : Nat) : Bool :=
  (s.chordRays k).any fun x => s.get (FCT_GEN_DCFG_SRC x.1 x.2) = 2 && s.on (FCT_GEN_DCFG_VSEED x.1 x.2)

/-- Is the first phase of a descriptor gangable on chord `k` (R189, R195)? -/
def State.gangable (s : State) (k : Nat) (d : List Byte) : Bool :=
  !descFlag d 0 && !(opType d ∈ [opProgram, opSetTrim, opCustom] && s.perVertexData k)

/-- A gang comes to compete for the bus (R195, R197). -/
def addGang (k : Nat) (members : List Nat) (s : State) : State :=
  let g : Gang := { members := members, order := s.arc.order, waits := none, passes := 0, urgent := none }
  modChord k (fun c => { c with gangs := c.gangs ++ [g] }) (modArc (fun a => { a with order := a.order + 1 }) s)

/-- The regang window in stamp units. (Log: 84 DEDUCED) -/
def State.regang (s : State) : Nat := ticksOf (s.get ARC_REGANG_WIN_TICKS)

/-- Vertex `v` enters GATHER (R193, R195): it joins the open gather of its key, opens one, or is a gang of its own. (Log: 84 DEDUCED) -/
def enterGather (v : Nat) (s : State) : State :=
  match s.op v with
  | none => s
  | some o =>
    let k := s.chordOf v
    let e := (Store.find (fun _ => none) s.arc.pollDone v).getD s.now
    let s := modArc (fun a => { a with pollDone := Store.put (fun _ => none) a.pollDone v none }) s
    let s := enterV v vsGather s
    let key := o.desc.take 56
    if opType o.desc ∈ [opWaitReady, opPower] then s
    else if !s.gangable k o.desc then addGang k [v] s
    else
      let joins (g : Gather) : Bool := g.key == key && decide (stampDiff e (stampAdd g.opened s.regang) ≤ 0)
      if (s.chord k).gathers.any joins then
        modChord k (fun c => { c with
          gathers := c.gathers.map fun g =>
          if joins g then { g with members := g.members ++ [v] } else g }) s
      else modChord k (fun c => { c with gathers := c.gathers ++ [⟨key, [v], e⟩] }) s

/-- A poll round of chord `k` that started by stamp `t` still runs. -/
def State.pollRuns (s : State) (k t : Nat) : Bool :=
  match (s.chord k).phase with
  | some p => p.kind = 2 && decide (stampDiff p.start t ≤ 0)
  | none => false

/-- Has every non-inked vertex of the chord that is known to have a descriptor with the gathered TAG joined (R195)? The
entries that have not been fetched are the command's to know. -/
def State.allJoined (s : State) (k : Nat) (g : Gather) : Bool :=
  (s.chordVertices k).all fun v =>
    s.inked v || v ∈ g.members ||
    match s.op v with
    | some o => o.admitted.isSome || descTag o.desc != descField g.key 0 2
    | none => true

/-- The gather that holds vertex `v` closes (R195): at the end of its window, or early when every vertex with its TAG has
joined; never before the poll rounds that started within the window have ended. (Log: 84 DEDUCED) -/
def closeGather (v : Nat) (joined : Bool) (s : State) : State :=
  let k := s.chordOf v
  match (s.chord k).gathers.find? fun g => v ∈ g.members with
  | none => s
  | some g =>
    let e := stampAdd g.opened s.regang
    if s.pollRuns k e || !(s.past e || (joined && s.allJoined k g)) then s
    else
      let ms := (s.chordVertices k).filter fun u => u ∈ g.members
      addGang k ms (modChord k (fun c => { c with gathers := c.gathers.filter fun x => x != g }) s)

/-! ## Fetching (R192) -/

/-- Has NOT_BEFORE been reached (R188)? -/
def State.notBeforeReached (s : State) (d : List Byte) : Bool :=
  let t := descField d 48 8 / 256
  t = 0 || s.past (t * 256)

/-- What holds vertex `v` in WAIT (R193, R194). (Log: 95 DEDUCED) -/
def State.waits (s : State) (v : Nat) : Bool :=
  match s.op v with
  | some o => !s.notBeforeReached o.desc || s.vhold v || s.backPressure v
  | none => false

/-- Arc looks again at what holds a vertex in WAIT. (Log: 95 DEDUCED) -/
def reconsider (v : Nat) (s : State) : State :=
  if s.vstate v = vsWait ∧ !s.waits v then enterGather v s else s

/-- Does a cancel made before concern the entry of vertex `v` at index `i` with this tag (R207)? (Log: 83 DEDUCED) -/
def State.marked (s : State) (v tag i : Nat) : Bool :=
  s.arc.marks.any fun m => m.1 = tag && m.2.1 = v && decide (0 < indexDiff m.2.2 i) && decide (indexDiff m.2.2 i ≤ 65536)

/-- The bytes of vertex `v`'s head descriptor: from the pool for a LOCAL ring, given with the command for a HOST one. -/
def State.headEntry (s : State) (v : Nat) (data : List Byte) : List Byte :=
  let n := 4 * v
  if s.on (RNG_CTRL_PLACE n) then Memory.bytes s.pool (s.entryAddr n (s.get (RNG_CONS_CONS n))) 64 else fit 64 data

/-- Take a fetched descriptor (R190, R192, R207). A double-bit error is an event of the page pool's fault source for a LOCAL ring, and
of Arc's for its copy of a HOST one (R14, R319). (Log: 82 DEDUCED) -/
def takeDescriptor (v : Nat) (d : List Byte) (ecc : Ecc) (s : State) : State :=
  let active := s.running && s.arc.drain = 0
  let cancel := s.marked v (descTag d) (s.get (RNG_CONS_CONS (4 * v)))
  if (!active && !cancel) || s.completionHeld v then s
  else
    let s := if ecc = .double then pulseLine (if s.on (RNG_CTRL_PLACE (4 * v)) then 64 else 66) s else s
    let s := setOp v (some { ArcOp.init d with flags := bit01 (ecc == .double) }) s
    let s := (s.set (ARC_VSTAT_OPTYPE v) (opType d)).set (ARC_VSTAT_TAG v) (descTag d)
    let s := s.set (ARC_VSTAT_ATTEMPTS v) 0
    let bad := if ecc = .double then 2 else s.badDesc v d
    if cancel then completeAtOnce v opCancelled 0 s
    else if s.onBus v && s.inked v then completeAtOnce v opInked 0 s
    else if bad ≠ 0 then completeAtOnce v opBadDesc bad s
    else if s.waits v then enterV v vsWait s
    else enterGather v s

/-- Arc fetches the head descriptor of vertex `v`'s command ring (R192); a vertex in WAIT is looked at again. A fetch that was
retried after a failed read ends its ring's park (R296). -/
def fetchDescriptor (v : Nat) (data : List Byte) (ecc : Ecc) (s : State) : State :=
  let n := 4 * v
  let s := if s.ringState n = ringParked ∧ s.get (RNG_STAT_CAUSE n) = parkCompletion ∧ (s.ring n).xfer = .issued ∧ s.dmaReady then
      unparkRing n (modRing n (fun r => { r with xfer := .idle }) s) else s
  if s.vertices ≤ v ∨ s.mode ≤ modeBoot ∨ s.mode = modeDoze then s
  else if s.vstate v = vsWait then reconsider v s
  else if s.vstate v ≠ vsIdle ∨ s.ringState n ≠ ringRun ∨ s.ringCount n = 0 then s
  else if s.on (RNG_CTRL_PLACE n) then takeDescriptor v (s.headEntry v data) ecc s
  else if !s.dmaReady then s
  else
    let a := s.entryAddr n (s.get (RNG_CONS_CONS n))
    match translate (.ring n) a false s with
    | (true, s) => takeDescriptor v (s.headEntry v data) ecc (s.send (.hostRead a 64))
    | (false, s) => s

/-- A write to ARC_CANCEL (R207): descriptors that Arc holds unadmitted complete at once, those still in their rings when
they come to the head. In DOZE it is held. (Log: 83 DEDUCED) -/
def cancelTag (tag : Nat) (s : State) : State :=
  if s.mode ≤ modeBoot then s
  else if s.mode = modeDoze then modArc (fun a => { a with cancels := a.cancels ++ [tag] }) s
  else
    let vs := (List.range s.vertices).filter fun v => s.ringLive (4 * v) && s.ringCount (4 * v) != 0
    let s := modArc (fun a => { a with marks := a.marks ++ vs.map fun v => (tag, v, s.get (RNG_PROD_PROD (4 * v))) }) s
    s.arc.ops.foldl (fun s e =>
      match e.2 with
      | some o => if o.admitted.isNone && descTag o.desc == tag then completeAtOnce e.1 opCancelled 0 s else s
      | none => s) s

/-! ## Choice and admission (R194, R196, R197) -/

/-- A channel of the chord lies in a facet that a reaction has parked (R326). -/
def State.chordParked (s : State) (k : Nat) : Bool := (s.chordRays k).any fun x => s.facetParked x.1

/-- The facets of the chord disagree in FCT_TPL_ID, or it is zero (R131, R196). -/
def State.templateHold (s : State) (k : Nat) : Bool :=
  let ids := (s.chordRays k).map fun x => s.get (FCT_TPL_ID_ID x.1 (s.mapGet (SIT_CH0_TEMPLATE k)))
  ids.any fun i => i = 0 || i != ids.headD 0

/-- The facets of the chord disagree in anchor, period in use or origin (R121, R196). -/
def State.gridHold (s : State) (k : Nat) : Bool :=
  let gs := (s.chordRays k).map fun x => ((s.fct x.1).anchor, (s.fct x.1).period, (s.fct x.1).origin)
  gs.any fun g => some g != gs.head?

/-- A facet of the chord waits with a new ANCHOR for its last bus phase to end (R120). -/
def State.anchorHold (s : State) (k : Nat) : Bool :=
  (s.chordRays k).any fun x => s.on (FCT_TIMING_STAT_ANCHOR_DEFERRED x.1)

/-- Is a phase of chord `k` held (R196)? A MEASURE has no template and no grid. (Log: 91 DEDUCED) -/
def State.phaseHeld (s : State) (k : Nat) (measure : Bool) : Bool :=
  s.chordParked k || (!measure && (s.templateHold k || s.gridHold k || s.anchorHold k))

/-- A phase that would be issued is held (R196). (Log: 91 DEDUCED) -/
def noteHold (k : Nat) (measure : Bool) (s : State) : State :=
  if measure || !(s.templateHold k || s.gridHold k) then s
  else
    let s := (s.set (ARC_CHORD_STAT_HOLD_TPL k) (bit01 (s.templateHold k))).set (ARC_CHORD_STAT_HOLD_GRID k)
      (bit01 (s.gridHold k))
    modChord k (fun c => { c with held := some ((c.held.map Prod.fst).getD s.now, if s.templateHold k then 2 else 3) }) s

/-- Holds are judged again (R196): those whose disagreement has ended are over. -/
def judgeHolds (s : State) : State :=
  s.arc.chords.foldl (fun s e =>
    if (s.chord e.1).held.isSome && !(s.templateHold e.1 || s.gridHold e.1) then
      modChord e.1 (fun c => { c with held := none })
        ((s.set (ARC_CHORD_STAT_HOLD_TPL e.1) 0).set (ARC_CHORD_STAT_HOLD_GRID e.1) 0)
    else s) s

/-- Is chord `k`'s bus free? -/
def State.busFree (s : State) (k : Nat) : Bool := (s.chord k).phase.isNone

/-- The decoder of chord `k` needs the recovery routine first (R143, R205). -/
def State.needsRecovery (s : State) (k : Nat) : Bool := s.codedChord k && Store.find (fun _ => false) s.recover k

/-- The vertices of chord `k` whose operation waits for a further phase of kind `n`. -/
def State.furtherOf (s : State) (k n : Nat) : List (Nat × ArcOp) :=
  s.arc.ops.filterMap fun e =>
    match e.2 with
    | some o => if o.further = n ∧ s.chordOf e.1 = k ∧ s.vstate e.1 = vsNext then some (e.1, o) else none
    | none => none

/-- The out phase that is next on chord `k` (R202): the earliest T_done, the lowest vertex of equal ones. -/
def State.nextOut (s : State) (k : Nat) : Option (Nat × ArcOp) :=
  (s.furtherOf k 1).foldl (fun b x =>
    match b with
    | none => some x
    | some y => if stampDiff x.2.readyAt y.2.readyAt < 0 then some x else b) none

/-- The replay that is next on chord `k` (R204): the first that need not wait, with its place in the order of admissions. -/
def State.nextReplay (s : State) (k : Nat) : Option (List Nat × Nat) :=
  match (s.chord k).replays.find? fun x => !x.2 with
  | some (vs, _) => some (vs, ((vs.head?.bind s.op).bind ArcOp.admitted).getD 0)
  | none => none

/-- Does a vertex wait for a poll round (R199)? -/
def State.polls (s : State) (v : Nat) (o : ArcOp) : Bool :=
  s.vstate v = vsBusy && opType o.desc != opPower && (s.busyChannel v).isNone

/-- The busy vertices of chord `k` that are polled, with their due times. -/
def State.pollList (s : State) (k : Nat) : List (Nat × Nat) :=
  s.arc.ops.filterMap fun e =>
    match e.2 with
    | some o => if s.chordOf e.1 = k ∧ s.polls e.1 o then some (e.1, o.due) else none
    | none => none

/-- The earliest due time of chord `k`'s poll rounds. -/
def State.pollDue (s : State) (k : Nat) : Option Nat :=
  (s.pollList k).foldl (fun b x =>
    match b with
    | none => some x.2
    | some t => if stampDiff x.2 t < 0 then some x.2 else b) none

/-- ARC_START_LEAD in stamp units (R211). -/
def State.startLead (s : State) : Nat := ticksOf (max 128 (s.get ARC_START_LEAD_TICKS))

/-- Has the issue time of a poll round of chord `k` come (R199)? -/
def State.pollReady (s : State) (k : Nat) : Bool :=
  match s.pollDue k with
  | some t => s.past t || decide (stampDiff t s.now ≤ (s.startLead : Int))
  | none => false

/-- Has chord `k` something to issue ahead of a first phase (R197, R205)? -/
def State.busy (s : State) (k : Nat) : Bool :=
  !s.busFree k || (s.chord k).granted.isSome || s.needsRecovery k || s.pollReady k || s.furtherOf k 3 != [] ||
  (s.nextOut k).isSome || (s.nextReplay k).isSome

/-- Would a gang be admitted but for credit and bus order (R194, R197)? -/
def State.eligible (s : State) (k : Nat) (g : Gang) : Bool :=
  (g.members.all fun v => !s.waits v) &&
  !s.phaseHeld k (opType (s.gangDesc g.members) = opMeasure) && !s.on (ARC_CHORD_STAT_RECOVERY_FAIL k)

/-- The urgent gang that is served first (R197), if there is one: by the order of becoming urgent, then of the close. -/
def State.urgentGang (s : State) : Option Gang :=
  let all := s.arc.chords.flatMap fun e => e.2.gangs.filter fun g => decide (64 ≤ g.passes) && s.eligible e.1 g
  all.foldl (fun b g =>
    match b with
    | none => some g
    | some h =>
      match (g.urgent, h.urgent) with
      | (some x, some y) => if x < y then some g else b
      | (some _, none) => some g
      | (none, some _) => b
      | (none, none) => if g.order < h.order then some g else b) none

/-- May gang `g` of chord `k` have its first phase now (R197)? -/
def State.chosen (s : State) (k : Nat) (g : Gang) : Bool :=
  match s.urgentGang with
  | some u => u == g
  | none => (s.chord k).gangs.find? (fun x => s.eligible k x) == some g

/-- Every other gang that would be admitted is passed over (R197). (Log: 86 DEDUCED) -/
def passOthers (s : State) : State :=
  s.arc.chords.foldl (fun s e =>
    modChord e.1 (fun c => { c with
      gangs := c.gangs.map fun g =>
      if s.eligible e.1 g then { g with passes := g.passes + 1 } else g }) s) s

/-- Admit vertex `v` (R192, R194, R218): the ring head advances and Lattice opens the vertex's slot. -/
def admitVertex (v size : Nat) (gang : List Nat) (s : State) : State :=
  match s.op v with
  | none => s
  | some o =>
    let s := modOp v (fun o => { o with admitted := some s.arc.order, gang := gang, gangSize := size }) s
    let s := indexAdvanced (4 * v) (s.count ARC_STAT_INFLIGHT 1)
    openSlot v (descTag o.desc) (s.dieType v) (descField o.desc 8 4) (descParam o.desc 1) (descParam o.desc 3)
      (opType o.desc = opRead) s

/-- Start the busy interval of an operation at T_end (R198 to R201); `level` is the comparator class of R/B# at the admission
of a WAIT_READY. (Log: 85 DEDUCED) -/
def startBusy (v t level : Nat) (s : State) : State :=
  match s.op v with
  | none => s
  | some o =>
    let w := descField o.desc 6 2
    let limit := if w = 0 then s.mapGet (ARC_DT8_T_BUSY_MAX (s.dieType v)) else 1600 * w
    let wb := ticksOf (s.get ARC_BUSY_WB_TICKS)
    let fall := match o.fall with
      | some x => if stampDiff t x ≤ (wb : Int) then some x else none
      | none => none
    modOp v (fun o => { o with tEnd := t, deadline := stampAdd t (ticksOf limit), fall := fall, level := level
                               due := stampAdd t (ticksOf (s.get (ARC_POLL_FIRST_TICKS (s.chordOf v)))) })
      (enterV v vsBusy s)

/-- Admit a WAIT_READY or a POWER (R191, R194). -/
def admitNoBus (v : Nat) (s : State) : State :=
  match s.op v with
  | none => s
  | some o =>
    let s := admitVertex v 0 [] s
    let s := modArc (fun a => { a with order := a.order + 1 }) s
    if opType o.desc = opPower then
      if (s.gateChannel v).isNone then finishOp v opNoGate 0 s.now s
      else
        modOp v (fun o => { o with tEnd := s.now }) (enterV v vsBusy (setGate v (descParam o.desc 0 % 2 = 1) s))
    else if descBusy o.desc then
      let level := match s.busyChannel v with
        | some c => Store.find (fun _ => 1) s.classes c
        | none => 1
      startBusy v s.now level s
    else finishOp v opPass 0 s.now s

/-- Has chord `k` a later phase, a status check or a poll round to issue, and nothing but the governor's grant to wait for (R194)? -/
def State.laterDue (s : State) (k : Nat) : Bool :=
  s.busFree k && (s.chord k).granted.isNone && !s.needsRecovery k && !s.on (ARC_CHORD_STAT_RECOVERY_FAIL k) && !s.phaseHeld k false &&
  (s.pollReady k || s.furtherOf k 3 != [] || (s.nextOut k).isSome || (s.nextReplay k).isSome)

/-- Does some chord of the part ask for credit ahead of every first phase (R194)? -/
def State.laterWaits (s : State) : Bool := s.arc.ops.any fun e => s.laterDue (s.chordOf e.1)

/-- Grant the first phase of a gang and admit its operations (R194, R197): later phases and poll rounds are granted ahead of it. -/
def grantGang (k : Nat) (g : Gang) (s : State) : State :=
  match (if s.laterWaits then (false, s) else grantCost (s.gangCost k (s.gangDesc g.members) g.members) s) with
  | (false, s) =>
    modChord k (fun c => { c with
      gangs := c.gangs.map fun x =>
      if x == g then { x with waits := some (x.waits.getD s.now) } else x }) s
  | (true, s) =>
    let late : Bool := match g.waits with
      | some w => decide ((s.regang : Int) < stampDiff s.now w)
      | none => false
    let s := modChord k (fun c => { c with gangs := c.gangs.filter fun x => x != g, granted := some g }) s
    let s := g.members.foldl (fun s v =>
      let s := admitVertex v g.members.length g.members s
      if late then flagOp v 9 s else s) s
    let s := passOthers (modArc (fun a => { a with order := a.order + 1 }) s)
    refreshPower s

/-- Arc admits the operation of vertex `v`, with the gang it belongs to (R194). (Log: 94 DESIGN CHOICE) -/
def admission (v : Nat) (s : State) : State :=
  let k := s.chordOf v
  match s.op v with
  | none => s
  | some o =>
    if s.vstate v ≠ vsGather || !s.running || !s.on ARC_SITE_STAT_VALID || s.arc.drain != 0 || o.admitted.isSome || s.waits v then s
    else if opType o.desc ∈ [opWaitReady, opPower] then admitNoBus v s
    else
      match (s.chord k).gangs.find? fun g => v ∈ g.members with
      | none => s
      | some g =>
        let measure := opType o.desc = opMeasure
        if s.on (ARC_CHORD_STAT_RECOVERY_FAIL k) then g.members.foldl (fun s u => completeAtOnce u opNoStart 4 s) s
        else if s.busy k then s
        else if s.phaseHeld k measure then noteHold k measure s
        else if s.chosen k g then grantGang k g s
        else s

/-- The gang of vertex `v` becomes urgent after 64 passes (R197). (Log: 86 DEDUCED) -/
def becomeUrgent (v : Nat) (s : State) : State :=
  let k := s.chordOf v
  match (s.chord k).gangs.find? fun g => v ∈ g.members with
  | none => s
  | some g =>
    if g.passes < 64 ∨ g.urgent.isSome then s
    else
      let s := modChord k (fun c => { c with
        gangs := c.gangs.map fun x =>
        if x == g then { x with urgent := some s.arc.order } else x }) s
      let s := modArc (fun a => { a with order := a.order + 1 }) s
      pend 261 ((s.countSat ARC_STARVE_COUNT_COUNT 1).raise (ARC_CHORD_STAT_URGENT k))

/-- STAT.URGENT of chord `k` follows its gangs. (Log: 86 DEDUCED) -/
def refreshUrgent (k : Nat) (s : State) : State :=
  s.set (ARC_CHORD_STAT_URGENT k) (bit01 ((s.chord k).gangs.any fun g => g.urgent.isSome))

/-! ## Inking and interruption (R206, R330, R331) -/

/-- The supply gates of the inked vertices of chord `k` switch off (R206). -/
def dropInkedGates (k : Nat) (s : State) : State :=
  (s.chordVertices k).foldl (fun s v => if s.inked v then setGate v false s else s) s

/-- Vertex `v` is inked (R52, R206). (Log: 93 DEDUCED) -/
def inkVertex (v : Nat) (s : State) : State :=
  if s.vertices ≤ v || !s.onBus v || s.inked v then s
  else
    let k := s.chordOf v
    let s := s.setBit (ARC_INKED_INK (v / 32)) (v % 32) true
    let s := if s.busFree k then setGate v false s else s
    match s.op v with
    | none => if s.vstate v = vsHeld then enterV v vsIdle (setVhold v false s) else s
    | some o =>
      if o.admitted.isNone then completeAtOnce v opInked 0 s
      else if s.vstate v = vsBusy ∨ s.vstate v = vsNext then finishOp v opInked 0 s.now (pend 265 s)
      else if s.vstate v = vsPhase ∨ s.vstate v = vsGather then pend 265 s
      else s

/-- Complete the operation of vertex `v` INTERRUPTED at stamp `t` (R208, R331). -/
def interruptOp (v t : Nat) (s : State) : State :=
  match s.op v with
  | none => s
  | some o =>
    let s := if s.vstate v = vsBusy then modOp v (fun o => { o with busyTicks := (stampDiff t o.tEnd).toNat / 256 }) s else s
    let s := if s.vstate v = vsBusy ∧ opType o.desc = opPower then modOp v (fun o => { o with busyTicks := 0 }) s else s
    finishOp v opInterrupted 0 t s

/-- Every operation in flight completes INTERRUPTED at stamp `t`; one in CLOSE keeps its status (R331). The buses are free. -/
def interruptAll (t : Nat) (s : State) : State :=
  let s := s.arc.ops.foldl (fun s e => if s.opLive e.1 then interruptOp e.1 t s else s) s
  let ks := s.arc.chords.map Prod.fst
  let s := ks.foldl (fun s k =>
    let s := (s.set (ARC_CHORD_STAT_BUS k) 0).set (ARC_CHORD_STAT_URGENT k) 0
    let s := (s.set (ARC_CHORD_STAT_HOLD_TPL k) 0).set (ARC_CHORD_STAT_HOLD_GRID k) 0
    modChord k (fun c => { c with phase := none, granted := none, replays := [], held := none }) s) s
  let s := (List.range s.facets).foldl (fun s f => modFct f (fun x => { x with inbox := [] }) s) s
  refreshPower ((modArc (fun a => { a with means := [] }) s).set ARC_STAT_BUS_ACTIVE 0)

/-- Descriptors that are not admitted stay at their ring heads (R66, R192). -/
def letAllGo (s : State) : State :=
  let s := s.arc.ops.foldl (fun s e =>
    match e.2 with
    | some o => if o.admitted.isNone then letGo e.1 s else s
    | none => s) s
  (s.arc.chords.map Prod.fst).foldl (fun s k => modChord k (fun c => { c with gathers := [], gangs := [] }) s) s

/-- An ARC_VHOLD bit is cleared by software (R193, R201). (Log: 95 DEDUCED) -/
def clearVhold (v : Nat) (s : State) : State :=
  if !s.vhold v then s
  else
    let s := setVhold v false s
    if s.vstate v = vsHeld then enterV v vsIdle s else reconsider v s

/-- RECOVERY_FAIL is cleared by software (R205): the recovery is run again, with a fresh count of attempts. -/
def clearRecoveryFail (k : Nat) (s : State) : State :=
  if !s.on (ARC_CHORD_STAT_RECOVERY_FAIL k) then s
  else modChord k (fun c => { c with tries := 0 }) (s.set (ARC_CHORD_STAT_RECOVERY_FAIL k) 0)

/-- A write to ARC_REPLAY_GO (R204). -/
def replayGo (k : Nat) (s : State) : State :=
  modChord k (fun c => { c with replays := c.replays.map fun x => (x.1, false) }) s

/-- ARC_STAT.QUIET (R211): no operation in flight and no descriptor at any ring head. -/
def State.quiet (s : State) : Bool :=
  s.get ARC_STAT_INFLIGHT = 0 &&
  s.regs.all fun e =>
    if 0x100000 ≤ e.1 ∧ e.1 < 0x200000 then
      let n := (e.1 - 0x100000) / 64
      n % 4 != 0 || !s.ringLive n || s.ringCount n = 0
    else true

/-- Bring ARC_STAT.QUIET up to date. -/
def refreshQuiet (s : State) : State :=
  if s.on ARC_STAT_QUIET = s.quiet then s else withLevel 264 (fun s => s.set ARC_STAT_QUIET (bit01 s.quiet)) s

end Sys2Proof.Machine
end

