-- ==== Sys2Proof/Machine/Phase.lean ====
section
/-!
DEFINITION. Arc's phases: their issue and withdrawal (R196), poll rounds (R199, R200), recovery (R205), busy tracking (R198 to
R201), MEASURE (R191, R263), and what the end of a phase means for each vertex (R202 to R204).
-/

namespace Sys2Proof.Machine
open Sys2Proof.Reg

/-! ## Issue (R196) -/

/-- Phase kinds (R216), and those of Arc's own bookkeeping. -/
def pkMain : Nat := 0
@[inherit_doc pkMain] def pkOut : Nat := 1
@[inherit_doc pkMain] def pkPoll : Nat := 2
@[inherit_doc pkMain] def pkRecovery : Nat := 3
@[inherit_doc pkMain] def pkMeasure : Nat := 4
@[inherit_doc pkMain] def pkCheck : Nat := 5

/-- Insert a vertex into a gang in its order (R143): by select code on a coded chord, by number otherwise. -/
def insertMember (s : State) (coded : Bool) (v : Nat) : List Nat → List Nat
  | [] => [v]
  | u :: us =>
    if (if coded then s.selectCode v < s.selectCode u else v < u) then v :: u :: us else u :: insertMember s coded v us

/-- A gang in its order (R143). -/
def State.gangOrder (s : State) (k : Nat) (vs : List Nat) : List Nat := vs.foldr (insertMember s (s.codedChord k)) []

/-- The stamp of the first granule boundary of chord `k` at or after `t` (R118, R196). -/
def State.chordBoundary (s : State) (k t : Nat) : Nat :=
  match s.chordRays k with
  | [] => t
  | (f, _) :: _ => s.vectorTime f (s.boundaryAt f t)

/-- The number of the next phase. -/
def nextSerial (s : State) : Nat × State := (s.arc.serial, modArc (fun a => { a with serial := a.serial + 1 }) s)

/-- Send a phase start to every facet of chord `k` (R131, R196): the gang in its order, the pseudo-gang 0, 1, 1 for the
recovery routine, and the start boundary at stamp `t`. -/
def sendStarts (k : Nat) (p : BusPhase) (s : State) : State :=
  let codes := if p.kind = pkRecovery then [0, 1, 1] else p.members.map s.selectCode
  let kind := if p.kind = pkCheck then pkPoll else p.kind
  (s.chordRays k).foldl (fun s x =>
    let st : PhaseStart :=
      { chord := k, routine := p.routine, gang := p.members, codes := codes, params := p.params
        start := s.boundaryAt x.1 p.start, kind := kind, serial := p.serial }
    modFct x.1 (fun y => { y with inbox := y.inbox ++ [st] }) s) s

/-- The chord's bus is taken (R211, R213). -/
def takeBus (k : Nat) (p : BusPhase) (s : State) : State :=
  let s := modChord k (fun c => { c with phase := some p }) s
  let s := (s.raise (ARC_CHORD_STAT_BUS k)).count ARC_STAT_BUS_ACTIVE 1
  s.countSat ARC_ISSUE_COUNT_COUNT 1

/-- The chord's bus is free again, and its cost with it. -/
def freeBus (k : Nat) (s : State) : State :=
  let s := modChord k (fun c => { c with phase := none }) s
  let s := (s.set (ARC_CHORD_STAT_BUS k) 0).set ARC_STAT_BUS_ACTIVE (s.get ARC_STAT_BUS_ACTIVE - 1)
  refreshPower s

/-- Issue a phase on chord `k` with the earliest start `t` and the cost `cost` (R196). (Log: 90 DEDUCED) -/
def issuePhase (k kind routine : Nat) (members params : List Nat) (t due cost : Nat) (s : State) : State :=
  let (n, s) := nextSerial s
  let ms := s.gangOrder k members
  let p : BusPhase :=
    { kind := kind, members := ms, routine := routine, params := params, serial := n, start := s.chordBoundary k t
      cost := cost, due := due, left := [] }
  let s := takeBus k p s
  let fs := (s.chordRays k).map Prod.fst
  let s := ms.foldl (fun s v => expectMarkers v n fs s) s
  refreshPower (sendStarts k p s)

/-- The earliest start of a phase that is issued now (R196). -/
def State.leadTime (s : State) : Nat := stampAdd s.now s.startLead

/-- Parameters of a phase that has no descriptor: free values, since the spec names none. (Log: 89 DESIGN CHOICE) -/
def freeParams : Nat → State → List Nat × State
  | 0, s => ([], s)
  | n + 1, s =>
    let (v, s) := s.fresh
    let (l, s) := freeParams n s
    (v % 2 ^ 32 :: l, s)

/-- The parameters of a descriptor. -/
def descParams (d : List Byte) : List Nat := (List.range 8).map (descParam d)

/-- The further phase of a thermal drain is not issued (R347): the operation completes INTERRUPTED. -/
def interruptFurther (v : Nat) (s : State) : State := finishOp v opInterrupted 0 s.now s

/-- RECOVERY_FAIL sets (R205). -/
def failRecovery (k : Nat) (s : State) : State :=
  pend 266 (modChord k (fun c => { c with tries := 0 }) (s.raise (ARC_CHORD_STAT_RECOVERY_FAIL k)))

/-- Issue the recovery routine of chord `k` (R205). -/
def issueRecovery (k : Nat) (s : State) : State :=
  let t := s.mapGet (SIT_CH0_TEMPLATE k)
  if (s.chordRays k).any fun x => !s.on (FCT_ENTRY_VALID x.1 t 15) then failRecovery k s
  else if s.phaseHeld k false then noteHold k false s
  else
    match grantCost (s.phaseCost k) s with
    | (false, s) => s
    | (true, s) =>
      let (ps, s) := freeParams 8 s
      issuePhase k pkRecovery 15 [] ps s.leadTime 0 (s.phaseCost k) s

/-- Issue a status-check round of vertex `v` (R200). In a thermal drain its cost is not checked (R347). (Log: 88 DEDUCED) -/
def issueCheck (k v : Nat) (s : State) : State :=
  if s.on (ARC_CHORD_STAT_RECOVERY_FAIL k) then finishOp v opNoStart 4 s.now s
  else if s.phaseHeld k false then noteHold k false s
  else
    match (if s.arc.drain = 2 then (true, s) else grantCost (s.phaseCost k) s) with
    | (false, s) => s
    | (true, s) =>
      let (ps, s) := freeParams 8 s
      let s := s.count (ARC_POLL_ROUNDS_COUNT k) 1
      issuePhase k pkCheck (s.get (ARC_CHORD_CFG_POLL_ROUTINE k)) [v] ps s.leadTime 0 (s.phaseCost k) s

/-- Issue a phase of operations that are admitted, if the governor grants it: the out phase of one vertex, or the first phase
of a gang again. -/
def issueLater (k kind routine : Nat) (members : List Nat) (d : List Byte) (s : State) : State :=
  if s.phaseHeld k false then noteHold k false s
  else
    match grantCost (s.phaseCost k) s with
    | (false, s) => s
    | (true, s) =>
      let s := members.foldl (fun s v => modOp v (fun o => { o with further := 0 }) (enterV v vsPhase s)) s
      issuePhase k kind routine members (descParams d) s.leadTime 0 (s.phaseCost k) s

/-- Issue a replay (R204, R225). -/
def issueReplay (k : Nat) (members : List Nat) (s : State) : State :=
  if s.on (ARC_CHORD_STAT_RECOVERY_FAIL k) then members.foldl (fun s v => finishOp v opNoStart 4 s.now s) s
  else
    let d := s.gangDesc members
    let n := s.arc.serial
    let t := issueLater k pkMain (descRoutine d) members d s
    if t.arc.serial = n then t
    else
      let t := modChord k (fun c => { c with replays := c.replays.filter fun x => x.1 ≠ members }) t
      let t := members.foldl (fun s v =>
        let s := modOp v (fun o => { o with attempts := o.attempts + 1 }) s
        let s := s.count (ARC_VSTAT_ATTEMPTS v) 1
        expectMarkers v n ((s.chordRays k).map Prod.fst) (reissueSlot v n s)) t
      pend 259 (t.countSat ARC_REPLAY_COUNT_COUNT 1)

/-- Issue an out phase (R202). -/
def issueOut (k v : Nat) (o : ArcOp) (s : State) : State :=
  if s.on (ARC_CHORD_STAT_RECOVERY_FAIL k) then finishOp v opNoStart 4 s.now s
  else issueLater k pkOut (descRoutineOut o.desc) [v] o.desc s

/-! ## MEASURE (R191, R263) -/

/-- Start the PMU measurement of a MEASURE on channel `c` (R99, R191). -/
def startMeasure (d : List Byte) (c : Nat) (s : State) : State :=
  let f := c / 128
  let i := c % 128
  let p := descParam d 0
  let s := touchPmu c s
  let s := s.set (FCT_PMU_FORCE_FORCE f i) (descParam d 1)
  let s := (s.set (FCT_PMU_CTRL_MODE f i) (bitsAt p 7 2)).set (FCT_PMU_CTRL_RANGE f i) (bitsAt p 9 2)
  let s := s.set (FCT_PMU_CTRL_SAMPLES f i) (bitsAt p 11 6)
  startPmu c (modChan c (fun x => { x with forArc := true, settle := descParam d 2 }) s)

/-- A measurement of a MEASURE has given a result for vertex `v`, or was aborted (R191, R209). -/
def measured (v : Nat) (aborted : Bool) (value : Int) (clamped overrange stale : Bool) (s : State) : State :=
  let s := if stale then flagOp v 2 s else s
  modOp v (fun o =>
    if aborted then { o with status := some (opError, 0x10) }
    else { o with data := value, info := o.info ||| bit01 clamped ||| 2 * bit01 overrange }) s

/-- The MEASURE of chord `k` ends when its last measurement has (R191, R202). (Log: 87 DEDUCED) -/
def endMeasure (k : Nat) (s : State) : State :=
  match (s.chord k).phase with
  | none => s
  | some p =>
    if p.kind ≠ pkMeasure ∨ p.left ≠ [] then s
    else
      let s := freeBus k s
      let s := p.members.foldl (fun s v =>
        match s.op v with
        | none => s
        | some o =>
          if s.vstate v ≠ vsPhase then s
          else if s.inked v then finishOp v opInked 0 s.now s
          else
            let (st, reason) := o.status.getD (opPass, 0)
            finishOp v st reason s.now s) s
      dropInkedGates k s

/-- A measurement of a MEASURE is over. -/
def dropMeasurement (k : Nat) (e : Nat × Nat × Bool) (s : State) : State :=
  endMeasure k (modChord k (fun c =>
    { c with phase := c.phase.map fun p => { p with left := p.left.filter fun x => x != e } }) s)

/-- Arc takes the end of a PMU measurement of its own (R191): the result or the abort, and MODE goes OFF. -/
def takePmuEnd (c : Nat) (aborted : Bool) (s : State) : State :=
  let f := c / 128
  let i := c % 128
  let s := s.set (FCT_PMU_CTRL_MODE f i) 0
  s.arc.chords.foldl (fun s e =>
    match (s.chord e.1).phase with
    | none => s
    | some p =>
      match p.left.find? fun x => x.1 = c && !x.2.2 with
      | none => s
      | some x =>
        let shared := descParam (s.gangDesc p.members) 0 % 4 = 0
        let vs := if shared then p.members else [x.2.1]
        let s := vs.foldl (fun s v =>
          measured v aborted (signed 32 (s.get (FCT_PMU_RESULT_RESULT f i))) (s.on (FCT_PMU_STAT_CLAMPED f i))
            (s.on (FCT_PMU_STAT_OVERRANGE f i)) (s.on (FCT_PMU_STAT_STALE f i)) s) s
        dropMeasurement e.1 x s) s

/-- Arc takes the ends of its PMU measurements. -/
def takePmuEnds (s : State) : State :=
  let es := s.pmuEnds
  es.foldl (fun s e => takePmuEnd e.1 e.2 s) { s with pmuEnds := [] }

/-- Start the average of a PMI for vertex `v` (R263): aborted at once when the PMI is off. (Log: 87 DEDUCED) -/
def startMean (k v n settle len : Nat) (s : State) : State :=
  if !s.on (ACQ_PMI_CFG_EN n) then dropMeasurement k (n, v, true) (measured v true 0 false false false s)
  else
    let m : PmiMean :=
      { vertex := v, pmi := n, from_ := stampAdd s.now (ticksOf settle), until_ := ticksOf len, sum := 0, count := 0
        ovr := false, stale := false }
    modArc (fun a => { a with means := a.means ++ [m] }) s

/-- Issue the MEASURE of a gang (R191): the bus is held, and every measurement starts. (Log: 87 DEDUCED) -/
def issueMeasure (k : Nat) (members : List Nat) (s : State) : State :=
  let d := s.gangDesc members
  let (n, s) := nextSerial s
  let pmi := descParam d 0 % 4 = 3
  let targets := s.measureTargets d members
  let left := if pmi then members.map fun v => (s.mapGet (SIT_VX3_PMI v), v, true)
              else targets.map fun x => (x.1, x.2, false)
  let p : BusPhase :=
    { kind := pkMeasure, members := members, routine := 0, params := [], serial := n, start := s.now
      cost := targets.length * s.get THM_PMU_COST_UW, due := 0, left := left }
  let s := members.foldl (fun s v => enterV v vsPhase s) (takeBus k p s)
  let settle := if descParam d 2 = 0 then s.get (FCT_PMU_SETTLE_SETTLE (((s.chordRays k).map Prod.fst).headD 0)) else descParam d 2
  let s := if pmi then left.foldl (fun s x => startMean k x.2.1 x.1 settle (descParam d 3) s) s
           else targets.foldl (fun s x => startMeasure d x.1 s) s
  takePmuEnds (refreshPower s)

/-- A sample of PMI `n` with stamp `t` goes to the averages that run over it (R263): the first sample at or after the settling
time opens the window. -/
def feedMeans (n t : Nat) (code : Int) (ovr stale : Bool) (s : State) : State :=
  let feed (m : PmiMean) : PmiMean :=
    if m.pmi ≠ n then m
    else if m.count = 0 then
      if stampDiff t m.from_ < 0 then m
      else { m with from_ := t, until_ := stampAdd t m.until_, sum := code, count := 1, ovr := ovr, stale := stale }
    else if stampDiff t m.until_ < 0 then
      { m with sum := m.sum + code, count := m.count + 1, ovr := m.ovr || ovr, stale := m.stale || stale }
    else m
  modArc (fun a => { a with means := a.means.map feed }) s

/-- The window of the average for vertex `v` ends (R263). -/
def endMean (v : Nat) (s : State) : State :=
  match s.arc.means.find? fun m => m.vertex = v with
  | none => s
  | some m =>
    if m.count = 0 ∨ !s.past m.until_ then s
    else
      let value := (m.sum * 1250000).tdiv (m.count * 2 ^ 23)
      let s := modArc (fun a => { a with means := a.means.filter fun x => x != m }) s
      dropMeasurement (s.chordOf v) (m.pmi, v, true) (measured v false value false m.ovr m.stale s)

/-! ## PHASE_ISSUE, POLL_ROUND_ISSUE, withdrawal -/

/-- Issue the granted first phase of chord `k` (R196). (Log: 94 DESIGN CHOICE) -/
def issueFirst (k : Nat) (g : Gang) (s : State) : State :=
  let d := s.gangDesc g.members
  let s := refreshUrgent k (modChord k (fun c => { c with granted := none }) s)
  if opType d = opMeasure then issueMeasure k g.members s
  else
    let s := g.members.foldl (fun s v => enterV v vsPhase s) s
    issuePhase k pkMain (descRoutine d) g.members (descParams d) s.leadTime 0 (s.phaseCost k) s

/-- Arc issues the next phase of chord `k` (R196, R197, R205): the recovery, a status-check round, a further phase, the oldest
admission first, or the first phase that has been granted. (Log: 94 DESIGN CHOICE) -/
def phaseIssue (k : Nat) (s : State) : State :=
  if !s.running || !s.busFree k then s
  else
    match (s.chord k).granted with
    | some g => issueFirst k g s
    | none =>
      if s.needsRecovery k && !s.on (ARC_CHORD_STAT_RECOVERY_FAIL k) then issueRecovery k s
      else if s.pollReady k then s
      else
        match s.furtherOf k 3 with
        | (v, _) :: _ => issueCheck k v s
        | [] =>
          match (s.nextOut k, s.nextReplay k) with
          | (some (v, o), some (vs, n)) => if o.admitted.getD 0 ≤ n then issueOut k v o s else issueReplay k vs s
          | (some (v, o), none) => issueOut k v o s
          | (none, some (vs, _)) => issueReplay k vs s
          | (none, none) => s

/-- POLL_INT as used (R213). -/
def State.pollInt (s : State) (k : Nat) : Nat := ticksOf (max 512 (s.get (ARC_POLL_INT_TICKS k)))

/-- Arc issues a poll round of chord `k` (R199). In a thermal drain its cost is not checked (R347). -/
def pollRoundIssue (k : Nat) (s : State) : State :=
  match s.pollDue k with
  | none => s
  | some due =>
    if !s.running || !s.busFree k || (s.chord k).granted.isSome || !s.pollReady k then s
    else if s.on (ARC_CHORD_STAT_RECOVERY_FAIL k) then
      ((s.pollList k).filter fun x => stampDiff x.2 s.leadTime ≤ 0).foldl (fun s x => finishOp x.1 opNoStart 4 s.now s) s
    else if s.needsRecovery k then s
    else if s.phaseHeld k false then noteHold k false s
    else
      match (if s.arc.drain = 2 then (true, s) else grantCost (s.phaseCost k) s) with
      | (false, s) => s
      | (true, s) =>
        let t := if stampDiff due s.leadTime < 0 then s.leadTime else due
        let start := s.chordBoundary k t
        let vs := ((s.pollList k).filter fun x => stampDiff x.2 start ≤ 0).map Prod.fst
        let late : Bool := decide ((s.pollInt k : Int) < stampDiff start due)
        let s := if late then vs.foldl (fun s v => flagOp v 12 s) (s.countSat (ARC_POLL_LATE_COUNT k) 1) else s
        let (ps, s) := freeParams 8 (s.count (ARC_POLL_ROUNDS_COUNT k) 1)
        issuePhase k pkPoll (s.get (ARC_CHORD_CFG_POLL_ROUTINE k)) vs ps t due (s.phaseCost k) s

/-- Take a start back from every facet of chord `k`: rays that are ARMED return to IDLE (R196). (Log: 90 DEDUCED) -/
def withdrawRays (k : Nat) (s : State) : State :=
  (s.chordRays k).foldl (fun s x =>
    let s := modFct x.1 (fun y => { y with inbox := y.inbox.filter fun q => q.chord ≠ k }) s
    if s.rayState x.1 x.2 = rayArmed then
      let s := modRay x.1 x.2 (fun y => { y with abort := none }) (discardRequest x.1 x.2 s)
      gridQuiet x.1 (s.set (FCT_RAY_STAT_STATE x.1 x.2) rayIdle)
    else s) s

/-- A facet of chord `k` is not ARMED 64 ticks before the start boundary (R196): the start is withdrawn and reissued. (Log: 90 DEDUCED) -/
def startWithdraw (k : Nat) (s : State) : State :=
  match (s.chord k).phase with
  | none => s
  | some p =>
    let late := (s.chordRays k).any fun x =>
      s.rayState x.1 x.2 = rayIdle && (s.ray x.1 x.2).serial != p.serial
    if p.kind = pkMeasure ∨ !late ∨ stampDiff p.start s.now > (ticksOf 64 : Int) then s
    else
      let s := withdrawRays k s
      let s := p.members.foldl (fun s v => flagOp v 7 s) s
      let s := pend 263 (s.countSat ARC_LATE_ARM_COUNT_COUNT 1)
      let (n, s) := nextSerial s
      let q : BusPhase := { p with serial := n, start := s.chordBoundary k s.leadTime }
      let s := modChord k (fun c => { c with phase := some q }) (s.countSat ARC_ISSUE_COUNT_COUNT 1)
      let fs := (s.chordRays k).map Prod.fst
      sendStarts k q (q.members.foldl (fun s v => expectMarkers v n fs s) s)

/-- A ray has reported NO_ENTRY (R131, R196): the operation ends NO_START for the whole gang, and the other rays are
withdrawn. A recovery cannot start then (R205). -/
def noEntry (k : Nat) (s : State) : State :=
  match (s.chord k).phase with
  | none => s
  | some p =>
    if (s.chordRays k).any fun x => (s.ray x.1 x.2).refused && (s.ray x.1 x.2).serial == p.serial then
      let s := freeBus k (withdrawRays k s)
      if p.kind = pkRecovery then failRecovery k s
      else p.members.foldl (fun s v => finishOp v opNoStart 1 s.now (expectMarkers v p.serial [] s)) s
    else s

/-- A facet takes a phase start (R131). -/
def phaseStart (f k : Nat) (s : State) : State := noEntry k (acceptStart f k s)

/-- A hold of chord `k` has lasted beyond ARC_HOLD_MAX (R196): what would be issued ends NO_START. (Log: 91 DEDUCED) -/
def holdMaxExpiry (k : Nat) (s : State) : State :=
  match (s.chord k).held with
  | none => s
  | some (since, why) =>
    if stampDiff s.now since ≤ (ticksOf (s.get ARC_HOLD_MAX_TICKS) : Int) then s
    else
      let s := modChord k (fun c => { c with held := none })
        ((s.set (ARC_CHORD_STAT_HOLD_TPL k) 0).set (ARC_CHORD_STAT_HOLD_GRID k) 0)
      if s.pollReady k then
        ((s.pollList k).filter fun x => stampDiff x.2 s.leadTime ≤ 0).foldl (fun s x => finishOp x.1 opNoStart why s.now s) s
      else
        match s.furtherOf k 3 with
        | (v, _) :: _ => finishOp v opNoStart why s.now s
        | [] =>
          match (s.nextOut k, s.nextReplay k) with
          | (some (v, o), some (vs, n)) =>
            if o.admitted.getD 0 ≤ n then finishOp v opNoStart why s.now s
            else vs.foldl (fun s v => finishOp v opNoStart why s.now s) s
          | (some (v, _), none) => finishOp v opNoStart why s.now s
          | (none, some (vs, _)) => vs.foldl (fun s v => finishOp v opNoStart why s.now s) s
          | (none, none) =>
            match (s.chord k).gangs with
            | g :: _ => refreshUrgent k (g.members.foldl (fun s v => completeAtOnce v opNoStart why s) s)
            | [] => s

/-! ## Busy tracking (R198 to R201) -/

/-- An operation completes normally at `t`, unless its status is determined already (R203). (Log: 92 DEDUCED) -/
def finishReady (v t : Nat) (s : State) : State :=
  match s.op v with
  | none => s
  | some o =>
    let (st, reason) := o.status.getD (opPass, 0)
    finishOp v st reason t s

/-- The operation waits for a further phase (R193): in a thermal drain out phases and replays are not issued (R347). -/
def enterNext (v kind t : Nat) (s : State) : State :=
  let s := modOp v (fun o => { o with further := kind, readyAt := t }) s
  if s.arc.drain = 2 ∧ kind ≠ 3 then interruptFurther v s else enterV v vsNext s

/-- The sequence goes on once the vertex is ready and no status check is due (R189, R202). -/
def afterReady (v t : Nat) (s : State) : State :=
  match s.op v with
  | none => s
  | some o =>
    if opType o.desc = opRead ∧ o.status.isNone then enterNext v 1 t s else finishReady v t s

/-- Vertex `v` has become ready at `t` (R198, R199): under R/B# tracking STATUS_CHECK asks for one poll round (R200). -/
def becomeReady (v t ticks : Nat) (s : State) : State :=
  match s.op v with
  | none => s
  | some o =>
    let s := modOp v (fun o => { o with busyTicks := ticks, readyAt := t }) s
    if (s.busyChannel v).isSome && descFlag o.desc 2 then enterNext v 3 t s else afterReady v t s

/-- No falling edge came within the busy-edge window (R198). (Log: 85 DEDUCED) -/
def busyWindowExpiry (v : Nat) (s : State) : State :=
  match s.op v with
  | none => s
  | some o =>
    let t := stampAdd o.tEnd (ticksOf (s.get ARC_BUSY_WB_TICKS))
    if s.vstate v ≠ vsBusy ∨ opType o.desc = opPower ∨ (s.busyChannel v).isNone ∨ o.level = 0 ∨ o.fall.isSome ∨ !s.past t then s
    else becomeReady v t 0 (flagOp v 11 s)

/-- A timeout has its status (R201): TO_ACTION decides what happens to the vertex. An operation whose status is ABORTED
already keeps it (R203). (Log: 96 DEDUCED) -/
def timeOut (v t : Nat) (s : State) : State :=
  match s.op v with
  | none => s
  | some o =>
    let s := modOp v (fun o => { o with busyTicks := (stampDiff t o.tEnd).toNat / 256 }) s
    if o.status.isSome then finishReady v t s
    else
      let s := finishOp v opTimeout 0 t s
      match s.get ARC_CFG_TO_ACTION with
      | 1 => inkVertex v s
      | 2 => s
      | _ => setVhold v true s

/-- The deadline of an R/B#-tracked vertex has passed (R201). (Log: 96 DEDUCED) -/
def busyTimeout (v : Nat) (s : State) : State :=
  match s.op v with
  | none => s
  | some o =>
    if s.vstate v ≠ vsBusy ∨ opType o.desc = opPower ∨ (s.busyChannel v).isNone ∨ !s.past o.deadline then s
    else timeOut v o.deadline s

/-- An edge of R/B# has been stamped for a vertex (R198, R201): `rise` is LOW to HIGH, and a fall the contrary. The falling
edge may precede T_end, within the window, while the phase still runs. (Log: 85 DEDUCED) -/
def busyEdgeOf (v t island : Nat) (rise : Bool) (s : State) : State :=
  match s.op v with
  | none => s
  | some o =>
    if s.vstate v = vsPhase then
      modOp v (fun o => { o with fall := if rise then none else some t }) s
    else if s.vstate v ≠ vsBusy ∨ opType o.desc = opPower ∨ o.level = 2 then s
    else if !rise then
      let within : Bool := decide (stampDiff t (stampAdd o.tEnd (ticksOf (s.get ARC_BUSY_WB_TICKS))) ≤ 0)
      if o.level ≠ 0 && o.fall.isNone && within then suspectOp v island (modOp v (fun o => { o with fall := some t }) s) else s
    else if 0 < stampDiff t o.deadline then s
    else
      match o.level, o.fall with
      | 0, _ => becomeReady v t ((stampDiff t o.tEnd).toNat / 256) (suspectOp v island s)
      | _, some x => becomeReady v t ((stampDiff t x).toNat / 256) (suspectOp v island s)
      | _, none => s

/-- A comparator edge of channel `c` stamped `t` (R198, R246): `e` is 0 RISE and 1 FALL. -/
def busyEdge (c e t : Nat) (s : State) : State :=
  if e < 2 then (s.busVertices.filter fun v => s.busyChannel v = some c).foldl (fun s v => busyEdgeOf v t (c / 128) (e = 0) s) s
  else s

/-- A POWER operation completes PARAM1 ticks after its gate switched (R191). -/
def powerSettleEnd (v : Nat) (s : State) : State :=
  match s.op v with
  | none => s
  | some o =>
    let t := stampAdd o.tEnd (ticksOf (descParam o.desc 1))
    if s.vstate v ≠ vsBusy ∨ opType o.desc ≠ opPower ∨ !s.past t then s else finishReady v t s

/-! ## Ends of phases (R203) -/

/-- The rank of an END_CAUSE where the facets of a chord differ (R203). -/
def causeRank (c : Nat) : Nat :=
  if c = endCut then 6 else if c = endError then 5 else if c = endUnderflow then 4 else if c = endAbort then 3
  else if c = endStop then 2 else 1

/-- The governing END_CAUSE of chord `k`'s rays (R203). -/
def State.governing (s : State) (k : Nat) : Nat :=
  (s.chordRays k).foldl (fun b x =>
    let c := s.get (FCT_RAY_STAT_END_CAUSE x.1 x.2)
    if causeRank b < causeRank c then c else b) endEnd

/-- Has every ray of the phase ended it? -/
def State.phaseOver (s : State) (k : Nat) (p : BusPhase) : Bool :=
  (s.chordRays k).all fun x =>
    s.rayState x.1 x.2 = rayIdle && (s.ray x.1 x.2).serial == p.serial && !(s.ray x.1 x.2).refused &&
    decide (0 ≤ stampDiff s.now (s.ray x.1 x.2).endAt)

/-- The status byte of the gang position `i` of the chord's phase (R200). -/
def State.statusByte (s : State) (k i : Nat) : Nat :=
  (s.chordRays k).foldl (fun b x => b ||| (s.ray x.1 x.2).status.getD i 0) 0

/-- Does a status byte report ready, or failure, for vertex `v` (R200)? -/
def State.statusReady (s : State) (v b : Nat) : Bool :=
  b &&& s.mapGet (ARC_DT9_READY_MASK (s.dieType v)) = s.mapGet (ARC_DT9_READY_VALUE (s.dieType v))
@[inherit_doc State.statusReady] def State.statusFails (s : State) (v b : Nat) : Bool :=
  b &&& s.mapGet (ARC_DT9_FAIL_MASK (s.dieType v)) = s.mapGet (ARC_DT9_FAIL_VALUE (s.dieType v))

/-- A poll round's finding for a vertex (R199 to R201): `t` is the round's start boundary. (Log: 88 DEDUCED) -/
def pollFinding (k : Nat) (p : BusPhase) (v i : Nat) (s : State) : State :=
  match s.op v with
  | none => s
  | some o =>
    if !s.polls v o || decide (stampDiff p.start o.tEnd < 0) then s
    else
      let b := s.statusByte k i
      if s.statusReady v b then
        let s := flagOp v 8 (modOp v (fun o => { o with dutStatus := b }) s)
        let ticks := (stampDiff p.start o.tEnd).toNat / 256
        if s.statusFails v b ∧ o.status.isNone then
          finishOp v opFailStatus 0 p.start (modOp v (fun o => { o with busyTicks := ticks, readyAt := p.start }) s)
        else becomeReady v p.start ticks s
      else if 0 ≤ stampDiff p.start o.deadline then timeOut v p.start s
      else s

/-- The due time after a round that found nothing or busy (R199). -/
def nextDue (due start int : Nat) : Nat :=
  let d := stampDiff start due
  if d < 0 then due else stampAdd due (int * (d.toNat / int + 1))

/-- The due times of the vertices still busy advance (R199). -/
def advanceDues (k : Nat) (p : BusPhase) (s : State) : State :=
  p.members.foldl (fun s v =>
    match s.op v with
    | none => s
    | some o =>
      if s.polls v o then modOp v (fun o => { o with due := nextDue o.due p.start (s.pollInt k) }) s else s) s

/-- A status-check round's finding (R200): only the failure test applies. (Log: 88 DEDUCED) -/
def checkFinding (k v : Nat) (s : State) : State :=
  match s.op v with
  | none => s
  | some o =>
    if s.vstate v ≠ vsNext ∨ o.further ≠ 3 then s
    else
      let b := s.statusByte k 0
      let s := modOp v (fun o => { o with dutStatus := b, further := 0 }) s
      if s.statusFails v b ∧ o.status.isNone then finishOp v opFailStatus 0 o.readyAt s else afterReady v o.readyAt s

/-- A main phase of a vertex has ended by END (R203): busy, the out phase, or completion. -/
def afterMain (v t level : Nat) (s : State) : State :=
  match s.op v with
  | none => s
  | some o => if descBusy o.desc then startBusy v t level s else afterReady v t s

/-- What an END_CAUSE other than END and UNDERFLOW means for a gang vertex (R203). (Log: 92 DEDUCED) -/
def endedOp (v cause kind t err : Nat) (s : State) : State :=
  match s.op v with
  | none => s
  | some o =>
    if cause = endCut then finishOp v opInterrupted 0 t s
    else if cause = endError then finishOp v opError err t s
    else
      let st := (opAborted, if cause = endStop then 1 else 2)
      if kind = pkMain ∧ descBusy o.desc then startBusy v t 1 (modOp v (fun o => { o with status := some st }) s)
      else finishOp v opAborted st.2 t s

/-- What UNDERFLOW means for the gang (R204): a replay is queued, or the operations complete REPLAY_NEEDED. (Log: 92 DEDUCED) -/
def underflowed (k t : Nat) (vs : List Nat) (s : State) : State :=
  let again (v : Nat) : Bool := match s.op v with
    | some o => !descFlag o.desc 1 && decide (o.attempts < s.get ARC_CFG_REPLAY_MAX)
    | none => false
  if s.arc.drain = 2 then vs.foldl (fun s v => finishOp v opInterrupted 0 t s) s
  else
    let rs := vs.filter again
    let s := (vs.filter fun v => !again v).foldl (fun s v => finishOp v opReplayNeeded 0 t s) s
    if rs = [] then s
    else
      let wait := s.on ARC_CFG_REPLAY_WAIT
      let s := rs.foldl (fun s v => enterNext v 2 t s) s
      pendIf wait 259 (modChord k (fun c => { c with replays := c.replays ++ [(rs, wait)] }) s)

/-- The end of a recovery (R205). -/
def endRecovery (k cause : Nat) (s : State) : State :=
  if cause = endEnd ∨ cause = endStop then
    modChord k (fun c => { c with tries := 0 }) { s with recover := Store.put (fun _ => false) s.recover k false }
  else if cause = endCut then s
  else
    let n := (s.chord k).tries + 1
    if 3 ≤ n then failRecovery k s else modChord k (fun c => { c with tries := n }) s

/-- The end of a phase for the vertices of its gang (R200, R203). -/
def endForGang (k : Nat) (p : BusPhase) (cause t err : Nat) (s : State) : State :=
  let live := p.members.filter fun v => s.opLive v && s.vstate v = vsPhase
  let s := (live.filter s.inked).foldl (fun s v => finishOp v opInked 0 t s) s
  let vs := live.filter fun v => !s.inked v
  if cause = endUnderflow then underflowed k t vs s
  else if cause = endEnd then
    vs.foldl (fun s v =>
      if p.kind = pkOut then finishReady v t s
      else
        let s := match s.op v with
          | some o =>
            if opType o.desc = opReadStatus then
              let b := s.statusByte k ((p.members.idxOf? v).getD 0)
              modOp v (fun o => { o with dutStatus := b, data := b }) s
            else s
          | none => s
        afterMain v t 1 s) s
  else vs.foldl (fun s v => endedOp v cause p.kind t err s) s

/-- Arc receives the end of chord `k`'s phase (R199, R203 to R205). -/
def phaseEnd (k : Nat) (s : State) : State :=
  match (s.chord k).phase with
  | none => s
  | some p =>
    if p.kind = pkMeasure || !s.phaseOver k p then s
    else
      let cause := s.governing k
      let rays := s.chordRays k
      let t := (rays.map fun x => (s.ray x.1 x.2).endAt).headD s.now
      let err := (rays.map fun x => if s.get (FCT_RAY_STAT_END_CAUSE x.1 x.2) = cause then s.get (FCT_RAY_STAT_ERR x.1 x.2)
                                    else 0).foldl max 0
      let s := freeBus k s
      let mark (bit : Nat) (c : Bool) (s : State) : State := if c then p.members.foldl (fun s v => flagOp v bit s) s else s
      let s := mark 3 (rays.any fun x => (s.ray x.1 x.2).gapSeen) s
      let s := mark 10 (rays.any fun x => (s.ray x.1 x.2).jumped) s
      let s := if s.codedChord k && p.kind != pkRecovery && decide (endAbort ≤ cause) then
          { s with recover := Store.put (fun _ => false) s.recover k true } else s
      let s :=
        if p.kind = pkRecovery then endRecovery k cause s
        else if p.kind = pkPoll then
          let s := if cause ≤ endStop then
              p.members.zipIdx.foldl (fun s x => pollFinding k p x.1 x.2 s) s else s
          advanceDues k p s
        else if p.kind = pkCheck then
          if cause ≤ endStop then p.members.foldl (fun s v => checkFinding k v s) s else s
        else endForGang k p cause t err s
      dropInkedGates k s

/-- The thermal drain begins (R347): admission stops, further phases are not issued, the gates of vertices with no operation in
flight switch off, and channels in the PMU state outside a MEASURE leave it. -/
def startDrain (s : State) : State :=
  let s := modArc (fun a => { a with drain := 2 }) s
  let s := s.arc.ops.foldl (fun s e =>
    match e.2 with
    | some o => if s.vstate e.1 = vsNext ∧ (o.further = 1 ∨ o.further = 2) then interruptFurther e.1 s else s
    | none => s) s
  let s := { s with gates := s.gates.filter fun g => s.opLive g.1 || s.vstate g.1 == vsClose }
  (s.touchedChannels.filter fun c => s.channelState c = chPmu && !(s.chan c).forArc).foldl (fun s c =>
    abortPmu c (s.set (FCT_PMU_CTRL_MODE (c / 128) (c % 128)) 0)) s

end Sys2Proof.Machine
end

