-- ==== Sys2Proof/Machine/Modes.lean ====
section
/-!
DEFINITION. Mode changes (R63 to R70, R83): leaving HOST and AUTO, SAFE, DOZE and waking, and the entry to RESET with what each
kind of reset keeps.
-/

namespace Sys2Proof.Machine
open Sys2Proof.Reg

/-! ## Leaving and entering -/

/-- Units, generators and counters of every facet end (R64, R258). -/
def abortAllMeasurements (s : State) : State := (List.range s.facets).foldl (fun s f => abortMeasurements f s) s

/-- HALT every level waveform generator (R64, R187). -/
def haltAllWaves (s : State) : State := (List.range s.facets).foldl (fun s f => haltWaves f s) s

/-- The channels park, the supply gates switch off and what was gathered goes back to the rings (R66, R87). -/
def parkPart (s : State) : State :=
  let s := parkAllChannels (letAllGo s)
  { s with gates := [] }

/-- The transfers that stood take up again (R68, R281). (Log: 112 DEDUCED) -/
def kickDma (s : State) : State :=
  let s := s.dma.rings.foldl (fun s e => startTransfer e.1 (if e.2.wbHeld then writeBack e.1 s else s)) s
  let s := (List.range 16).foldl (fun s u => startBlock u s) s
  sendPageRequests (sendTranslations s)

/-- The flow of AUTO is over. (Log: 37 DEDUCED) -/
def endFlow (s : State) : State :=
  let s := (s.set APX_FLOW_CTRL_STOP 0).set APX_FLOW_CTRL_RUNNING 0
  { s with apex := { s.apex with flowBy := 0 } }

/-- HOST or AUTO is entered from IDLE (R65). -/
def enterRunning (m : Nat) (s : State) : State := acqModeChange (enterMode m s)

/-- AUTO is entered: the flow starts (R420). -/
def enterAuto (s : State) : State := enterRunning modeAuto ((s.set APX_FLOW_CTRL_STOP 0).set APX_FLOW_CTRL_RUNNING 1)

/-- The drain of R66 begins: Arc admits nothing more, and the flow is asked to stop. (Log: 36 DEDUCED) -/
def beginDrainIdle (s : State) : State :=
  let s := letAllGo (modArc (fun a => { a with drain := 1 }) s)
  if s.mode = modeAuto ∧ s.on APX_FLOW_CTRL_RUNNING then
    { s.set APX_FLOW_CTRL_STOP 1 with apex := { s.apex with flowBy := s.elapsed + ticksOf 160000000 } }
  else s

/-- The drain is complete (R66): the part parks and enters IDLE, and GO_IDLE is answered. (Log: 36 DEDUCED) -/
def drainComplete (s : State) : State :=
  if s.arc.drain ≠ 1 ∨ s.get ARC_STAT_INFLIGHT ≠ 0 ∨ !s.running then s
  else
    let s := abortAllMeasurements (parkPart s)
    let s := modArc (fun a => { a with drain := 0 }) s
    let s := acqModeChange (enterMode modeIdle s)
    (s.apex.jobs.filter fun c => c.opcode = 1).foldl (fun s c => finishJob c stOk 0 s) s

/-- The flow returns, by itself or after its stop request (R66, R420). -/
def flowReturns (s : State) : State :=
  if !s.on APX_FLOW_CTRL_RUNNING then s
  else
    let s := pend 450 (endFlow s)
    if s.mode = modeAuto ∧ s.arc.drain = 0 then beginDrainIdle s else s

/-- Firmware ends a flow that has not returned in time (R420). -/
def flowTimeout (s : State) : State :=
  if s.apex.flowBy = 0 ∨ s.elapsed < s.apex.flowBy then s else flowReturns s

/-! ## DOZE (R68, R314) -/

/-- The controller's state is copied to retention, with target 15 offline (R314). -/
def retainIcl (s : State) : State := (releaseTarget 15 s).set ICL_STAT_RETAINED 1

/-- DOZE is entered from IDLE. -/
def enterDoze (s : State) : State := acqModeChange (enterMode modeDoze (retainIcl (haltAllWaves s)))

/-- The part wakes from DOZE (R68): the facets' replicas are set to the master and calibrated, and IDLE is entered. (Log: 40 DEDUCED) -/
def wakeUp (s : State) : State :=
  if s.mode ≠ modeDoze then s
  else
    let m := s.facetMask
    let s := (setBits 16 (s.get AXS_REPLICA_CNTERR_ISLAND)).foldl (fun s k => deassertLine (4 * k + 2) s) s
    let s := s.set AXS_REPLICA_UNSYNC_ISLAND (andNot (s.get AXS_REPLICA_UNSYNC_ISLAND) m)
    let s := s.set AXS_REPLICA_CNTERR_ISLAND (andNot (s.get AXS_REPLICA_CNTERR_ISLAND) m)
    let s := startRecal (s.set ICL_STAT_RETAINED 0)
    kickDma (pend 500 (acqModeChange (enterMode modeIdle s)))

/-! ## SAFE (R64, R330) -/

/-- SAFE is entered with a cause (R330 steps 2 to 6): rays are cut, operations in flight complete INTERRUPTED, every channel parks,
units and generators stop, a calibration is abandoned, commands in progress end, and an erase is suspended. A shutdown sequence that
this cuts short leaves its own cause beside it. (Log: 33 DEDUCED, 35 DEDUCED, 37 DEDUCED) -/
def goSafe (cause : Fld) (s : State) : State :=
  let doze := s.mode = modeDoze
  let cut : Bool := s.therm.stage != 0
  let s := interruptAll s.now (cutAll s)
  let s := haltAllWaves (abortAllMeasurements (abortContact s))
  let s := parkPart s
  let s := modArc (fun a => { a with drain := 0 }) s
  let s := abandonJobs (suspendErase (stopStaging (abandonCal s)))
  let s := { s with therm := { s.therm with stage := 0 }
                    apex := { s.apex with sealing := s.apex.sealing.filter fun j => j.cmd.isNone } }
  let s := s.set APX_LOT_STAT_SEALING (bit01 (s.apex.sealing != []))
  let s := endFlow ((if cut then s.raise APX_SAFE_CAUSE_SHUTDOWN else s).raise cause)
  let s := acqModeChange (enterMode modeSafe s)
  if doze then kickDma (s.set ICL_STAT_RETAINED 0) else s

/-! ## RESET (R70, R83) -/

/-- The kinds of entry to RESET: power-on, PERST#, REBOOT, and the loss of a rail while VDD_AON is good (R435). -/
inductive ResetKind where
  | power | perst | reboot | brownout
  deriving DecidableEq, Repr

/-- Registers that every reset keeps: the part's identity, its keys and its rollback counter stand in OTP (R411). -/
def keptAlways (a : Nat) : Bool := a ∈ [GLB_IDENT, GLB_SERIAL] || (0x50500 ≤ a && a < 0x50560)

/-- Registers that a REBOOT keeps beside those (R42, R83, R128, R399, R400, R426): GLB, AXS, SPN_SEL(0), SMB_CFG, KEY_STAT, both
copies of the site map, and what belongs to the PCIe function. (Log: 30 DEDUCED) -/
def keptByReboot (a : Nat) : Bool :=
  a < 0x10000 || (0x40000 ≤ a && a < 0x50000) || (0x60000 ≤ a && a < 0x60014) || a ∈ [SPN_SMB_CFG, SPN_SMB_STAT] || a = APX_KEY_STAT ||
  inSiteTables a || (0x3F0004 ≤ a && a < 0x3F0300) || a = DMA_LINK_STAT || (0x2F0000 ≤ a && a < 0x2F2000)

/-- Registers of island A that a brownout keeps (R435): THM, APX and SPN. (Log: 31 DEDUCED) -/
def keptByBrownout (a : Nat) : Bool :=
  (0x30000 ≤ a && a < 0x40000) || (0x50000 ≤ a && a < 0x70000) || 0x23000000 ≤ a

/-- Does a reset keep register `a`? PERST# keeps SMB_CFG, which only VDD_AON resets (R400). -/
def keptBy (k : ResetKind) (a : Nat) : Bool :=
  keptAlways a ||
  match k with
  | .power => false
  | .perst => a ∈ [SPN_SMB_CFG, SPN_SMB_STAT]
  | .reboot => keptByReboot a
  | .brownout => keptByBrownout a

/-- What every reset leaves of the state beside its registers: the boot NVM, OTP, the pins, JTAG, what was sent, and the model's own
counters; a page program in progress has completed and an erase is suspended (R70, R402). -/
def resetBase (s : State) : State :=
  { State.reset with
    flash := s.flash, otp := s.otp, pins := s.pins, jtag := s.jtag, smb := s.smb
    elapsed := s.elapsed, sent := s.sent, free := s.free, pending := s.pending }

/-- What a REBOOT keeps: the Axis count, the site map, and the function's configuration (R83). (Log: 30 DEDUCED) -/
def rebootBase (s r : State) : State :=
  { r with
    now := s.now, axs := s.axs, map := s.map
    icl := { r.icl with msixOn := s.icl.msixOn, funcMask := s.icl.funcMask, busMaster := s.icl.busMaster }
    dma := { r.dma with priAlloc := s.dma.priAlloc, priReset := s.dma.priReset } }

/-- What a brownout keeps: island A (R435). (Log: 31 DEDUCED) -/
def brownoutBase (s r : State) : State := { r with apex := s.apex, spn := s.spn, therm := s.therm }

/-- The bits of the thermal latch and of OTP that stand in registers which are otherwise reset: THM_LEVEL.SHUTDOWN and its stamp but
for power-on (R348), the programmed key slots and the rollback counter (R411). -/
def restoreBits (k : ResetKind) (s r : State) : State :=
  let r := (r.set APX_KEY_STAT_PROGRAMMED (s.get APX_KEY_STAT_PROGRAMMED)).set APX_FW_SVN_ROLLBACK (s.get APX_FW_SVN_ROLLBACK)
  if k = .power then r
  else (r.set THM_LEVEL_SHUTDOWN (s.get THM_LEVEL_SHUTDOWN)).set THM_SHUT_AT_SHUT_AT (s.get THM_SHUT_AT_SHUT_AT)

/-- A key burn that a reset cuts short (R428): the slot may read PROGRAMMED, with a hash that no key has. (Log: 129 DEDUCED) -/
def cutBurn (s : State) : State :=
  match s.apex.enrol with
  | none => s
  | some k =>
    let (v, s) := s.fresh
    s.setBit APX_KEY_STAT_PROGRAMMED k (v % 2 = 1)

/-- The part enters RESET (R70, R83). Only a REBOOT sets PREV_MODE and pends source 496 (R65). -/
def enterReset (k : ResetKind) (s : State) : State :=
  let old := s.mode
  let s := if k = .brownout then s else cutBurn (resetMaint (resetPort s))
  let r := resetBase s
  let r := match k with
    | .reboot => rebootBase s r
    | .brownout => brownoutBase s r
    | _ => r
  let r := if k = .power then { r with smb := SmbState.init } else r
  let r := restoreBits k s { r with regs := s.regs.filter fun e => keptBy k e.1 }
  if k = .reboot then
    let r := ((r.set AXS_SYNC_CFG_ARM 0).set ARC_SITE_STAT_VALID 0).set GLB_UPDATE_STAT_ARMED 0
    pend 496 ((r.set GLB_MODE_PREV_MODE old).set GLB_MODE_MODE modeReset)
  else (r.set GLB_MODE_MODE modeReset).set GLB_MODE_PREV_MODE 0

/-- May the part be released (R65, R434): VDD_AON and the supplies are good, and PERST# is deasserted? -/
def State.mayRelease (s : State) : Bool := s.mode = modeReset && s.pins.aon && s.pins.supplies && !s.pins.perst

/-- The ROM's read of the directory (R71 step 4, R391): the settings of SS0's select, and what it counted (R392). (Log: 32 DEDUCED, 47 DESIGN CHOICE) -/
def readDirectory (s : State) : State :=
  let s := s.set SPN_STAT_DIR_BAD (min 255 s.dirBad)
  match s.directory with
  | none => s
  | some d =>
    let fmt := s.flashWord (d + 9) 1
    let mode := s.flashWord (d + 10) 1
    let s := s.set SPN_STAT_DIR_COPY (bit01 (d ≠ 0))
    let s := (s.set (SPN_SEL2_RD_CMD 0) (s.flashWord (d + 8) 1)).set (SPN_SEL2_RD_ADDR 0) (fmt % 8)
    let s := (s.set (SPN_SEL2_RD_DUMMY 0) (fmt / 8)).set (SPN_SEL0_CKMODE 0) (mode % 4)
    let s := (s.set (SPN_SEL0_RX_STROBE 0) (mode / 4)).set (SPN_SEL0_SAMPLE_DLY 0) (mode / 8)
    let s := (s.set (SPN_SEL0_DIV 0) 0).set (SPN_SEL2_RD_CMD_W 0) 3
    (s.set (SPN_SEL2_RD_ADDR_W 0) 3).set (SPN_SEL2_RD_DATA_W 0) 3

/-- Release (R71 steps 1 to 5): BOOT is entered, PROF is sampled, and the ROM reads the directory and chooses the firmware. (Log: 32 DEDUCED) -/
def release (s : State) : State :=
  if !s.mayRelease then s
  else
    let s := enterMode modeBoot s
    let s := (s.set GLB_MODE_PROFILE s.pins.prof).set GLB_MODE_PROFILE_SRC 0
    let s := s.set ARC_SITE_STAT_VALID 0
    let s := { s with apex := { s.apex with bootAt := s.elapsed } }
    startFirmware (readDirectory (s.send (.serial 0 [0x66, 0x99])))

/-- REBOOT (R70): a page program in progress completes first; then the part enters RESET and is released again. (Log: 30 DEDUCED) -/
def reboot (s : State) : State := release (enterReset .reboot s)

/-- A REBOOT that waited for a page program goes on once none is in progress (R70). -/
def settleReboot (s : State) : State := if s.apex.reboot && !s.nvmProgramming then reboot s else s

/-- The REBOOT command: it waits for the current page program. -/
def askReboot (s : State) : State :=
  if s.nvmProgramming then { s with apex := { s.apex with reboot := true } } else reboot s

/-! ## End of RESET and of power -/

/-- The Axis PLL locks and the count starts at zero (R107, R109). (Log: 51 DESIGN CHOICE) -/
def axisLock (s : State) : State :=
  if s.on AXS_STAT_LOCKED ∨ !s.pins.refclk then s
  else
    let s := { s.raise AXS_STAT_LOCKED with now := 0 }
    deassertLine 72 s

/-- The JTAG instructions that take control of the balls while PERST# is asserted (R444). -/
def takesBalls (ir : Nat) : Bool := ir ∈ [0x00, 0x04, 0x05, 0x06, 0x07]

/-- PERST# is asserted (R70): a JTAG instruction that waits for it takes control of the balls (R444). -/
def perstAssert (s : State) : State :=
  enterReset .perst { s with pins := { s.pins with perst := true }, jtag := { s.jtag with control := takesBalls s.jtag.ir } }

/-- PERST# is deasserted (R434); PROF[2:0] stand on their pins. -/
def perstRelease (prof : Nat) (s : State) : State :=
  release { s with pins := { s.pins with perst := false, prof := prof % 8 }, jtag := { s.jtag with control := false } }

/-- The supplies are good (R434). -/
def suppliesGood (prof : Nat) (s : State) : State :=
  if !s.pins.aon ∨ !s.pins.refclk then s
  else release { s with pins := { s.pins with supplies := true, prof := prof % 8 } }

/-- VDD_AON comes up: power-on (R83, R434). -/
def powerOn (s : State) : State :=
  let s := enterReset .power s
  { s with pins := { s.pins with aon := true, supplies := false, outside := [] }, jtag := Jtag.init }

/-- VDD_AON falls (R435). -/
def aonLoss (s : State) : State :=
  let s := enterReset .power s
  { s with pins := { s.pins with aon := false, supplies := false, outside := [] }, jtag := Jtag.init }

/-- A rail falls below 90 % of nominal while VDD_AON is good (R435). -/
def railLoss (s : State) : State := enterReset .brownout { s with pins := { s.pins with supplies := false } }

/-- REFCLK stops and the PLL loses lock (R435): the Axis count stands, and fault source 72 asserts. -/
def refclkLoss (s : State) : State :=
  let s := { s with pins := { s.pins with refclk := false } }
  if s.mode = modeReset then s.set AXS_STAT_LOCKED 0 else assertLine 72 (s.set AXS_STAT_LOCKED 0)

/-- The link goes down, or a Hot Reset comes: it acts as PERST# (R281). (Log: 29 DEDUCED) -/
def linkDown (s : State) : State := release (enterReset .perst s)

/-- A supply monitor's sample (R405): its fault source asserts after 16 samples in a row outside the window. -/
def supplySample (r : Nat) (mv : Int) (s : State) : State :=
  let nominal : Int := [750, 1800, 6000, -2500, 1800, 800, 1800, 1800].getD r 0
  let out : Bool := nominal.natAbs < 20 * (mv - nominal).natAbs
  let n := if out then Store.find (fun _ => 0) s.pins.outside r + 1 else 0
  let s := s.set (APX_SUPPLY_MV r) (unsigned 16 mv)
  let s := { s with pins := { s.pins with outside := Store.put (fun _ => 0) s.pins.outside r (min n 16) } }
  if 16 ≤ n then assertLine (108 + r) s else if n = 0 then deassertLine (108 + r) s else s

end Sys2Proof.Machine
end

