-- ==== Sys2Proof/Machine/Fcl.lean ====
section
/-!
DEFINITION. The fault collector (R318 to R334): events and their severity, capture, hardware reactions and their shadows, the
grace timer, escalation, ALIVE and injection.
-/

namespace Sys2Proof.Machine
open Sys2Proof.Reg

/-! ## Sources (R319, R325, R328) -/

/-- Severities (R321). -/
def sevNote : Nat := 0
@[inherit_doc sevNote] def sevWarn : Nat := 1
@[inherit_doc sevNote] def sevError : Nat := 2
@[inherit_doc sevNote] def sevFatal : Nat := 3

/-- The target over whose sources a reaction casts its shadow, as FCL_SHADOW numbers it (R328, R335). -/
def shadowTarget (n : Nat) : Option Nat :=
  if n < 64 then some (n / 4)
  else if 74 ≤ n ∧ n ≤ 89 then some (n - 74)
  else if n = 66 then some 16
  else if n = 65 then some 17
  else if n ∈ [64, 67, 68, 69] then some 18
  else if n = 92 then some 19
  else if 120 ≤ n ∧ n ≤ 126 then some 20
  else none

/-- The REACT codes that a source accepts (R319). -/
def allowedReactions (n : Nat) : List Nat :=
  if n < 64 then (match n % 4 with | 0 => [1] | 1 => [2, 3] | _ => [2])
  else if 74 ≤ n ∧ n ≤ 89 then [2]
  else if n ∈ [65, 66, 67, 68, 69, 92] then [1]
  else if 120 ≤ n ∧ n ≤ 122 then [3]
  else []

/-- REACT of a source as it acts: a code that is not allowed acts as NONE (R319). -/
def State.reactionOf (s : State) (n : Nat) : Nat :=
  let c := s.get (FCL_SRC_CFG_REACT n)
  if c ∈ allowedReactions n then c else 0

/-- SEV of a source as it acts: SENSOR_FAULT has a floor of ERROR (R319). -/
def State.severityOf (s : State) (n : Nat) : Nat :=
  let v := s.get (FCL_SRC_CFG_SEV n)
  if n = 116 then max sevError v else v

/-- Change what the fault collector holds. -/
def modFcl (g : FclState → FclState) (s : State) : State := { s with fcl := g s.fcl }

/-- The kinds of reaction that run on a target, bit REACT each. -/
def State.reactions (s : State) (t : Nat) : Nat := Store.find (fun _ => 0) s.fcl.reacting t

/-- Is facet `f`'s link being trained: by a reaction, or by the part itself after a third failure (R325)? -/
def State.training (s : State) (f : Nat) : Bool := f < 16 && (s.reactions f).testBit 3

/-- Does a reaction run on a target? -/
def State.reactionOn (s : State) (t : Nat) : Bool := s.reactions t != 0

/-- Is a facet held in block reset? -/
def State.inBlockReset (s : State) (f : Nat) : Bool := (s.reactions f).testBit 1

/-- Is a source in the shadow of a reaction (R328)? -/
def State.shadowed (s : State) (n : Nat) : Bool :=
  match shadowTarget n with
  | some t => s.bitOf FCL_SHADOW_SHADOW t
  | none => false

/-! ## Severity and capture (R321 to R323) -/

/-- The effective severity of an event, whether it is COUNTED, and the state with the stamps that the counting method holds
(R320 to R322). A consequential event and a rail fault are not counted. (Log: 114 DEDUCED) -/
def classify (e : FaultEvent) (consequential : Bool) (s : State) : Nat × Bool × State :=
  let n := e.source
  if e.rail then (sevError, false, s)
  else if !s.on (FCL_SRC_CFG_METHOD n) || consequential then (s.severityOf n, false, s)
  else
    let k := s.get (FCL_SRC_CFG_N_M1 n) + 1
    let held := (s.now :: Store.find (fun _ => []) s.fcl.stamps n).take k
    let first := held.getLastD s.now
    let raise : Bool := held.length = k && decide (stampDiff s.now first ≤ (ticksOf (s.get (FCL_SRC_W_W n)) : Int))
    let keep := if raise then [] else held.take (k - 1)
    let s := modFcl (fun c => { c with stamps := Store.put (fun _ => []) c.stamps n keep }) s
    if raise then (s.severityOf n, false, s) else (sevNote, true, s)

/-- The first word of a HISTORY entry (R335). -/
def historyWord (e : FaultEvent) (sev : Nat) (consequential counted : Bool) (seq : Nat) : Nat :=
  e.source + sev * 2 ^ 8 + bit01 e.injected * 2 ^ 12 + bit01 e.rail * 2 ^ 13 + bit01 consequential * 2 ^ 14 +
    bit01 counted * 2 ^ 15 + seq % 65536 * 2 ^ 16

/-- Capture an event (R323) and log it (R406). (Log: 114 DEDUCED) -/
def captureEvent (e : FaultEvent) (sev : Nat) (consequential counted : Bool) (s : State) : State :=
  let k := s.get FCL_HIST_COUNT_COUNT
  let w := historyWord e sev consequential counted k
  let s := logEvent logFault e.source (leBytes 4 w) s
  if s.on FCL_STAT_CAPMODE then
    if e.injected then s.raise FCL_STAT_INJ_SEEN else s.raise (faultSticky e.source)
  else
    let i := k % 16
    let unread := !s.fcl.readMask.testBit i
    let s := (s.setReg (FCL_HIST i) (BitVec.ofNat 64 w)).set (FCL_HIST_AT_AT i) s.now
    let s := modFcl (fun c => { c with readMask := andNot c.readMask (2 ^ i) }) (s.count FCL_HIST_COUNT_COUNT 1)
    pendIf unread 437 s

/-- HIST(i) has been read in full width (R323). -/
def historyRead (i : Nat) (s : State) : State := modFcl (fun c => { c with readMask := c.readMask ||| 2 ^ i }) s

/-! ## Escalation (R329 to R331) -/

/-- The 16 HISTORY entries go to the host region as FAULT entries (R408). -/
def exportHistory (s : State) : State :=
  (List.range 16).foldl (fun s i =>
    let w := (s.reg (FCL_HIST i)).toNat
    exportEntry (logBytes (s.get APX_LOG_SEQ_SEQ) ⟨logFault, w % 128, s.get (FCL_HIST_AT_AT i), leBytes 4 w⟩) s) s

/-- An escalation (R330): `kind` is 1 grace expiry, 2 FATAL. -/
def escalate (kind source : Nat) (injected : Bool) (s : State) : State :=
  if s.on FCL_ESC_LATCHED then s.countSat FCL_ESC_AGAIN 1
  else
    let s := (s.raise FCL_ESC_LATCHED).set FCL_ESC_KIND kind
    let s := (s.set FCL_ESC_SOURCE source).set FCL_ESC_INJECTED (bit01 injected)
    let s := exportHistory (pend 436 ((s.set FCL_ESC_AT_ESC_AT s.now).raise FCL_ALIVE_FROZEN))
    if s.mode ≤ modeBoot then s
    else if s.mode = modeSafe ∨ (s.therm.stage ≠ 0 ∧ kind = 1) then s.raise APX_SAFE_CAUSE_FAULT
    else goSafe APX_SAFE_CAUSE_FAULT s

/-- The grace timer as it runs or not, with its level source 434 (R329). -/
def setGrace (b : Bool) (s : State) : State := withLevel 434 (fun s => s.set FCL_STAT_GRACE_RUN (bit01 b)) s

/-- An ERROR event that can act (R329): ERR_SEQ advances, and the timer starts unless it runs. (Log: 114 DEDUCED) -/
def errorActs (e : FaultEvent) (s : State) : State :=
  let s := s.count FCL_STAT_ERR_SEQ 1
  if s.on FCL_STAT_GRACE_RUN then s
  else
    let us := min 10000000 (max 1 (s.get FCL_GRACE_US))
    setGrace true (modFcl (fun c =>
      { c with graceEnd := s.elapsed + ticksOf (1600 * us), graceBy := e.source, graceInj := e.injected }) s)

/-- The grace timer expires (R329, R330). -/
def graceExpiry (s : State) : State :=
  if !s.on FCL_STAT_GRACE_RUN ∨ s.elapsed < s.fcl.graceEnd then s
  else escalate 1 s.fcl.graceBy s.fcl.graceInj (setGrace false s)

/-- FCL_GRACE_LEFT.US (R335). -/
def State.graceLeft (s : State) : Nat :=
  if s.on FCL_STAT_GRACE_RUN then (s.fcl.graceEnd - s.elapsed) / ticksOf 1600 else 0

/-- A write to FCL_ACK (R329). In the instant of expiry, expiry wins. -/
def acknowledge (v : Nat) (s : State) : State :=
  let s := graceExpiry s
  if v = s.get FCL_STAT_ERR_SEQ then (if s.on FCL_STAT_GRACE_RUN then setGrace false s else s)
  else s.raise FCL_STAT_ACK_REJ

/-! ## ALIVE (R333) -/

/-- ALIVE starts a sequence of toggles from a level, now. -/
def startAlive (level : Bool) (s : State) : State :=
  modFcl (fun c => { c with aliveRuns := true, aliveFrom := s.elapsed, aliveCount := 0 })
    (s.set FCL_ALIVE_LEVEL (bit01 level))

/-- FREQ as used (R333). -/
def State.aliveFreq (s : State) : Nat := min 10000 (max 100 (s.get FCL_ALIVE_FREQ))

/-- The next toggle of ALIVE, if its instant has come (R333): the k-th falls ⌊k × 800,000,000 / FREQ⌋ ticks after the start. -/
def aliveToggle (s : State) : State :=
  let k := s.fcl.aliveCount + 1
  if !s.fcl.aliveRuns || s.on FCL_ALIVE_FROZEN || decide (s.elapsed < s.fcl.aliveFrom + ticksOf (k * 800000000 / s.aliveFreq)) then s
  else
    modFcl (fun c => { c with aliveCount := k }) (s.set FCL_ALIVE_LEVEL (1 - s.get FCL_ALIVE_LEVEL))

/-- A write to FCL_ALIVE.FREQ (R333): a change starts a new sequence from the level driven. -/
def writeAlive (freq : Nat) (s : State) : State :=
  if freq % 2 ^ 14 = s.get FCL_ALIVE_FREQ then s
  else
    let s := s.set FCL_ALIVE_FREQ freq
    if s.fcl.aliveRuns then startAlive (s.on FCL_ALIVE_LEVEL) s else s

/-! ## Reactions (R325 to R328) -/

/-- A reaction casts its shadow over a target from its start. -/
def castShadow (t : Nat) (s : State) : State :=
  modFcl (fun c => { c with shadowEnd := Store.put (fun _ => 0) c.shadowEnd t 0 }) (s.setBit FCL_SHADOW_SHADOW t true)

/-- A reaction is over: its shadow lasts 16,000 ticks more (R328). -/
def fadeShadow (t : Nat) (s : State) : State :=
  modFcl (fun c => { c with reacting := Store.put (fun _ => 0) c.reacting t 0
                            shadowEnd := Store.put (fun _ => 0) c.shadowEnd t (s.elapsed + ticksOf 16000) }) s

/-- The shadow over a target ends (R328). -/
def shadowEnd (t : Nat) (s : State) : State :=
  let e := Store.find (fun _ => 0) s.fcl.shadowEnd t
  if e = 0 ∨ s.elapsed < e ∨ s.reactionOn t then s
  else modFcl (fun c => { c with shadowEnd := Store.put (fun _ => 0) c.shadowEnd t 0 }) (s.setBit FCL_SHADOW_SHADOW t false)

/-- Everything that runs in a facet ends (R326): rays by CUT, TDC units and the regression counter ABORTED, waveform generators
by HALT, PMU measurements by abort. -/
def cutOffFacet (f : Nat) (s : State) : State :=
  let s := haltPlaying f (abortMeasurements f (cutFacet f s))
  (s.touchedChannels.filter fun c => c / 128 = f).foldl (fun s c => abortPmu c s) s

/-- Facet `f` is parked by a reaction (R325, R326). -/
def parkFacet (f : Nat) (s : State) : State :=
  let s := withLevel 440 (fun s => s.setBit FCL_FPARK_FPARK f true) s
  abandonFacet f (parkFacetChannels f (cutOffFacet f s))

/-- Block reset of a facet (R84, R326): what ran has ended, and the RO fields of its rays return to reset but for the
assignment and the last end. (Log: 116 DEDUCED) -/
def resetFacet (f : Nat) (s : State) : State :=
  let s := cutOffFacet f s
  let keep := (List.range 32).map fun r => (FCT_RAY_STAT f r, s.reg (FCT_RAY_STAT f r))
  let s := s.clearFields [.ro] fun a => FCT_RAY_STAT f 0 ≤ a && decide (a < FCT_RAY_STAT f 32)
  keep.foldl (fun s x => s.setReg x.1 x.2) s

/-- Block reset of Arc (R84, R326): running phases end by CUT, operations in flight complete INTERRUPTED, and descriptors not
admitted stay in their rings. -/
def resetArc (s : State) : State :=
  let ks := s.arc.chords.filterMap fun e => if e.2.phase.isSome then some e.1 else none
  let s := ks.foldl (fun s k => (s.chordRays k).foldl (fun s x => endPhase x.1 x.2 endCut 0 s) s) s
  let s := { s with recover := (ks.filter s.codedChord).foldl (fun m k => Store.put (fun _ => false) m k true) s.recover }
  letAllGo (interruptAll s.now s)

/-- Block reset of the ring manager and the DMA engine (R84, R305): transfers are abandoned and reissued from the indices, the
translation cache is emptied; the state of every ring, its spill, a retry of its park and Page Requests that were sent are kept. (Log: 112 DEDUCED) -/
def resetDma (s : State) : State :=
  let s := { s with dma := { s.dma with cache := [], requested := [] } }
  let s := s.dma.rings.foldl (fun s e =>
    if e.1 % 4 = 0 then s else startTransfer e.1 (modRing e.1 (fun r => { r with xfer := .idle }) s)) s
  (List.range 16).foldl (fun s u => startBlock u (modAcq u (fun x => { x with xfer := .idle }) s)) s

/-- Who will release the park of facet `f` that a reaction makes: the link itself, but for a facet that was parked before, or
software (R325, R327). -/
def noteRelease (f code : Nat) (s : State) : State :=
  let own : Bool := code = 3 && (!s.facetParked f || Store.find (fun _ => false) s.fcl.selfFree f)
  modFcl (fun c => { c with selfFree := Store.put (fun _ => false) c.selfFree f own }) s

/-- Start a reaction (R325): 1 BLOCK_RESET, 2 FACET_PARK, 3 LINK_RETRAIN. -/
def startReaction (source code : Nat) (s : State) : State :=
  match shadowTarget source with
  | none => s
  | some t =>
    let s := castShadow t (modFcl (fun c => { c with reacting := Store.put (fun _ => 0) c.reacting t (s.reactions t ||| 2 ^ code) }) s)
    if t < 16 then
      match code with
      | 1 => abandonFacet t (resetFacet t s)
      | 2 => parkFacet t (noteRelease t 2 s)
      | _ => parkFacet t (modFcl (fun c => { c with trainings := Store.put (fun _ => 0) c.trainings t 0 }) (noteRelease t 3 s))
    else
      match t with
      | 16 => resetArc s
      | 17 => resetLattice s
      | 18 => resetDma s
      | 19 => endAllUnits s
      | _ => s

/-- A reaction other than a PE link's retraining completes (R325). -/
def reactionComplete (t : Nat) (s : State) : State :=
  if !s.reactionOn t || s.training t then s
  else pend 438 (fadeShadow t s)

/-- A training of facet `f`'s PE-die link ends (R325). -/
def trainingEnd (f : Nat) (ok : Bool) (s : State) : State :=
  if !s.training f then s
  else if Store.find (fun _ => 0) s.fcl.trainings f < 3 then
    if ok then pend 438 (fadeShadow f (deassertLine (4 * f + 1) s))
    else
      let n := Store.find (fun _ => 0) s.fcl.trainings f + 1
      let s := modFcl (fun c => { c with trainings := Store.put (fun _ => 0) c.trainings f n }) s
      if n < 3 then s
      else pend 438 (fadeShadow f (modFcl (fun c => { c with selfFree := Store.put (fun _ => false) c.selfFree f false }) s))
  else
    let s := fadeShadow f s
    if ok then deassertLine (4 * f + 1) (modFcl (fun c => { c with trainings := Store.put (fun _ => 0) c.trainings f 0 }) s)
    else s

/-- The part trains a PE-die link by itself after a third failure (R325). -/
def retrainTimer (f : Nat) (s : State) : State :=
  if 3 ≤ Store.find (fun _ => 0) s.fcl.trainings f && s.lineLevel (4 * f + 1) && !s.reactionOn f then
    castShadow f (modFcl (fun c => { c with reacting := Store.put (fun _ => 0) c.reacting f (s.reactions f ||| 8) }) s)
  else s

/-- The facet park that a retraining released by itself ends, at a granule boundary (R325). (Log: 115 DEDUCED) -/
def selfRelease (f : Nat) (s : State) : State :=
  if Store.find (fun _ => false) s.fcl.selfFree f && !s.reactionOn f then
    withLevel 440 (fun s => s.setBit FCL_FPARK_FPARK f false)
      (modFcl (fun c => { c with selfFree := Store.put (fun _ => false) c.selfFree f false }) s)
  else s

/-- May software release facet `f` (R327)? (Log: 115 DEDUCED) -/
def State.releasable (s : State) (f : Nat) : Bool :=
  [4 * f, 4 * f + 1, 4 * f + 2, 4 * f + 3, 74 + f].all fun n =>
    !(2 ≤ s.reactionOf n && (s.on (faultActive n) || s.on (faultRail n)))

/-- A write to FCL_FPARK (R327). (Log: 115 DEDUCED) -/
def releaseFacets (m : Nat) (s : State) : State :=
  (setBits 16 m).foldl (fun s f =>
    if s.facetParked f && s.releasable f then
      withLevel 440 (fun s => s.setBit FCL_FPARK_FPARK f false)
        (modFcl (fun c => { c with selfFree := Store.put (fun _ => false) c.selfFree f false }) s)
    else s) s

/-! ## Events (R318, R321, R324) -/

/-- Take one event. -/
def takeFault (e : FaultEvent) (s : State) : State :=
  let cons := s.shadowed e.source
  let (sev, counted, s) := classify e cons s
  let s := captureEvent e sev cons counted s
  if cons then s
  else
    let acts : Bool := !e.injected || s.on FCL_INJ_CFG_REACT
    let s := pendIf (sev = sevWarn) 432 (pendIf (sevError ≤ sev) 433 (pendIf e.rail 435 s))
    let s := pendIf (e.injected && s.on FCL_INJ_CFG_REACT) 439 s
    if !acts then s
    else if sev = sevFatal then escalate 2 e.source e.injected s
    else if sev = sevError then
      let s := errorActs e s
      let c := s.reactionOf e.source
      if c = 0 then s else startReaction e.source c s
    else s

/-- The event of the lowest source, the earliest of equal ones. -/
def lowestFault : List FaultEvent → Option FaultEvent
  | [] => none
  | e :: es =>
    match lowestFault es with
    | some x => if x.source < e.source then some x else some e
    | none => some e

/-- Take the events that wait, in ascending source order (R324); what they raise is taken too. -/
def settleFaults : Nat → State → State
  | 0, s => s
  | n + 1, s =>
    match lowestFault s.fcl.raised with
    | none => s
    | some e => settleFaults n (takeFault e (modFcl (fun c => { c with raised := c.raised.erase e }) s))

/-- Raise an event of the collector itself. -/
def raiseEvent (e : FaultEvent) (s : State) : State := modFcl (fun c => { c with raised := c.raised ++ [e] }) s

/-- A source's two wires are equal for more than two hub cycles (R320): a rail fault. -/
def railFault (n : Nat) (s : State) : State :=
  if s.mode = modeReset || !s.faultPresent n || s.on (faultRail n) then s
  else raiseEvent ⟨n, true, false⟩ ((holdLine n (s.on (faultActive n)) s).raise (faultRail n))

/-- The wires differ again (R320): the line is no longer held, and takes the level that its owner drives. -/
def railEnds (n : Nat) (s : State) : State :=
  if !s.on (faultRail n) then s
  else
    let s' := holdLine n false (s.set (faultRail n) 0)
    if s.lineLevel n then assertLine n s' else deassertLine n s'

/-- Inject an event (R334). (Log: 121 DEDUCED) -/
def injectFault (source : Nat) (rail : Bool) (s : State) : State :=
  if s.mode = modeReset || !s.faultPresent source then s else raiseEvent ⟨source, rail, true⟩ s

/-- A write of 1 to FCL_ESC.CLEAR (R332). -/
def clearEscalation (s : State) : State :=
  let rails := (List.range 4).any fun i => s.get (FCL_RAIL_RAIL i) ≠ 0
  let live := (List.range 127).any fun n => s.on (faultActive n) && decide (sevError ≤ s.severityOf n)
  if s.mode ≠ modeSafe || rails || live then s.raise FCL_ESC_REFUSED
  else
    let latched := s.on FCL_ESC_LATCHED
    let s := setGrace false (s.set FCL_ESC_LATCHED 0)
    let s := s.set FCL_ALIVE_FROZEN 0
    if !latched || s.on APX_SAFE_CAUSE_NO_FIRMWARE then s else startAlive (s.on FCL_ALIVE_LEVEL) s

/-- A source's configuration has been written (R322): its held stamps are discarded. -/
def discardStamps (n : Nat) (s : State) : State :=
  modFcl (fun c => { c with stamps := Store.put (fun _ => []) c.stamps n [] }) s

end Sys2Proof.Machine
end

