-- ==== Sys2Proof/Machine/Thermal.lean ====
section
/-!
DEFINITION. Junction temperature (R338 to R342), the shutdown sequence (R346, R347) and the thermal configuration (R341,
R349).
-/

namespace Sys2Proof.Machine
open Sys2Proof.Reg

/-- Change what the sensor and the shutdown sequence hold. -/
def modTherm (g : ThermState → ThermState) (s : State) : State := { s with therm := g s.therm }

/-- A temperature code held in a 12-bit field (R338). (Log: 117 DEDUCED) -/
def State.code (s : State) (f : Fld) : Int := signed 12 (s.get f)

/-- Set the admission factor; source 420 pends on a change (R342). -/
def setFactor (v : Nat) (s : State) : State :=
  if s.get THM_FACTOR_F = v then s else pend 420 (s.set THM_FACTOR_F v)

/-- THM_FAILSAFE.F as used (R349). -/
def State.failsafe (s : State) : Nat := min 256 (max 16 (s.get THM_FAILSAFE_F))

/-- SENSOR_FAULT as the checks now stand (R340): at its first assertion temperature handling freezes. (Log: 118 DEDUCED) -/
def sensorFault (b : Bool) (s : State) : State :=
  let was := s.lineLevel 116
  if b && !was then
    let s := assertLine 116 s
    if s.on THM_LEVEL_SENS_FROZEN then s
    else setFactor (min (s.get THM_FACTOR_F) s.failsafe) (s.raise THM_LEVEL_SENS_FROZEN)
  else if !b && was then modTherm (fun t => { t with quietAt := s.elapsed }) (deassertLine 116 s)
  else s

/-- The plausibility checks of a sample (R339). (Log: 118 DEDUCED) -/
def checkSample (code : Int) (diode : Nat) (s : State) : State :=
  let t := s.therm
  let ok := diode = 0
  let slew : Bool := ok && decide (10 ≤ t.recent.length) && decide (160 < (code - t.recent.getD 9 0).natAbs)
  let p := s.get THM_P_EST_P_EST
  let still : Bool := !ok || t.recent.head? == some code
  let same := if still then t.same + 1 else 1
  let least := if still then min t.leastP p else p
  let most := if still then max t.mostP p else p
  let stuck : Bool := decide (100000 < same) && decide (2000000 < most - least)
  let bad := !ok || slew || stuck
  let passed := if bad then 0 else t.passed + 1
  let held : Bool := slew || (t.slewHeld && decide (passed < 10))
  let kept := if ok then code else t.recent.headD code
  let s := modTherm (fun t =>
    { t with recent := (kept :: t.recent).take 10, same := same, leastP := least, mostP := most, passed := passed
             slewHeld := held }) s
  let s := (s.set THM_STAT_OPEN (bit01 (diode = 1))).set THM_STAT_SHORT (bit01 (diode = 2))
  let s := (s.set THM_STAT_SLEW (bit01 slew)).set THM_STAT_STUCK (bit01 stuck)
  sensorFault (!ok || stuck || held) (pendIf bad 419 s)

/-- A configurable level sets at T ≥ SET and clears at T ≤ CLR (R341): `src` is its level source and `line` its fault line. -/
def moveLevel (level set_ clr : Fld) (src line : Nat) (code : Int) (s : State) : State :=
  if !s.on level && decide (s.code set_ ≤ code) then
    let (v, s) := s.fresh
    logEvent logThermal v [] (assertLine line (withLevel src (fun s => s.raise level) s))
  else if s.on level && decide (code ≤ s.code clr) then deassertLine line (withLevel src (fun s => s.set level 0) s)
  else s

/-- The admission factor that a plausible sample gives (R342). -/
def State.factorFor (s : State) (code : Int) : Nat :=
  let over_ := (code - s.code THM_THR_CFG_SET).toNat
  if s.on THM_LEVEL_THROTTLE then max 16 (256 - ceilDiv (over_ * 256) 120) else 256

/-- Has the shutdown sequence a facet of operations to drain? T_d is at once otherwise (R346). (Log: 35 DEDUCED, 119 DEDUCED) -/
def startShutdown (s : State) : State :=
  let s := (s.raise THM_LEVEL_SHUTDOWN).set THM_SHUT_AT_SHUT_AT s.now
  let (v, s) := s.fresh
  let s := logEvent logThermal v [] (assertLine 119 (pend 418 s))
  if s.mode ≤ modeBoot then s
  else
    let s := abandonJobs s
    let s := setNvmq ((s.maint.nvmq.take 1).map fun j => { j with cmd := none }) s
    if s.running then startDrain (modTherm (fun t => { t with stage := 1, startEl := s.elapsed }) s)
    else
      let s := if s.mode = modeCal then abandonCal s else s
      modTherm (fun t => { t with stage := 2, startEl := s.elapsed, drainEl := s.elapsed }) s

/-- The shutdown sequence for a latch that is set when BOOT ends in IDLE (R348): steps 3, 5 and 7. -/
def resumeShutdown (s : State) : State :=
  if s.on THM_LEVEL_SHUTDOWN && s.mode = modeIdle then
    modTherm (fun t => { t with stage := 2, startEl := s.elapsed, drainEl := s.elapsed }) s
  else s

/-- The levels and the factor of a plausible sample (R341, R342). (Log: 117 DEDUCED) -/
def evaluateLevels (code : Int) (s : State) : State :=
  let warned := s.on THM_LEVEL_WARN
  let s := moveLevel THM_LEVEL_WARN THM_WARN_CFG_SET THM_WARN_CFG_CLR 416 117 code s
  let s := moveLevel THM_LEVEL_THROTTLE THM_THR_CFG_SET THM_THR_CFG_CLR 417 118 code s
  let s := setFactor (s.factorFor code) s
  let s := if 1000 ≤ code ∧ !s.on THM_LEVEL_SHUTDOWN then startShutdown s else s
  if s.mode = modeDoze && !warned && s.on THM_LEVEL_WARN && s.on APX_DOZE_CFG_WAKE_THERM then wakeUp s else s

/-- A sample of the junction temperature (R338): its code, and the diode's state, 0 OK, 1 OPEN, 2 SHORT. -/
def thermalSample (code : Int) (diode : Nat) (s : State) : State :=
  let d := diode % 3
  let s := ((s.set THM_TEMP_AT_AT s.now).set THM_TEMP_DIODE d).raise THM_TEMP_VALID
  let s := if d = 0 then s.set THM_TEMP_CODE (unsigned 12 code) else s
  let s := checkSample code d s
  let s := if d = 0 && !s.on THM_LEVEL_SENS_FROZEN then evaluateLevels code s else s
  refreshPower (modTherm (fun t => { t with standing := s.standingNow }) s)

/-- A write of 1 to THM_CTRL.UNFREEZE (R340). -/
def unfreeze (s : State) : State :=
  if s.lineLevel 116 || decide (s.elapsed < s.therm.quietAt + ticksOf 1600000) then s.raise THM_STAT_UNFREEZE_REJ
  else s.set THM_LEVEL_SENS_FROZEN 0

/-- A write to THM_WARN_CFG or THM_THR_CFG (R341): discarded unless CLR < SET ≤ 960. (Log: 117 DEDUCED) -/
def writeLevels (a data : Nat) (s : State) : State :=
  let set_ := signed 12 data
  let clr := signed 12 (data / 2 ^ 16)
  if clr < set_ ∧ set_ ≤ 960 then ((s.set ⟨a, 0, 12⟩ data).set ⟨a, 16, 12⟩ (data / 2 ^ 16))
  else pend 422 (s.raise THM_STAT_CFG_BAD)

/-- T_DRAIN in stamp units (R346). -/
def State.drainTime (s : State) : Nat := ticksOf (1600 * min 200000 (max 1 (s.get THM_DRAIN_US)))

/-- T_d (R346): the drain time has passed, or no operation is in flight. Rays that still run end by CUT, and operations still in
flight complete INTERRUPTED. (Log: 119 DEDUCED) -/
def shutdownDrainEnd (s : State) : State :=
  if s.therm.stage ≠ 1 ∨ (s.get ARC_STAT_INFLIGHT ≠ 0 ∧ s.elapsed < s.therm.startEl + s.drainTime) then s
  else
    let s := interruptAll s.now (cutAll s)
    modTherm (fun t => { t with stage := 2, drainEl := s.elapsed }) s

/-- Steps 5 to 7 of the sequence (R346): the NVM has stopped, the channels park and the part is in SAFE. A page program in
progress completes first, within 8,000,000 ticks. (Log: 35 DEDUCED) -/
def shutdownComplete (s : State) : State :=
  if s.therm.stage ≠ 2 ∨ (s.nvmProgramming ∧ s.elapsed < s.therm.drainEl + ticksOf 8000000) then s
  else
    let s := modTherm (fun t => { t with stage := 0 }) (suspendErase s)
    if s.mode = modeSafe then s else goSafe APX_SAFE_CAUSE_SHUTDOWN s

end Sys2Proof.Machine
end

