-- ==== Sys2Proof/Machine/Update.lean ====
section
/-!
DEFINITION. The update strobe (R29 to R33): arming, cancelling and applying an update, and what the applied values do in
each block.
-/

namespace Sys2Proof.Machine
open Sys2Proof.Reg

/-! ## Arming -/

/-- A write to GLB_UPDATE with CANCEL = 0 on a path (R29, R31, R32). (Log: 22 DEDUCED) -/
def armUpdate (p : Path) (mask : Nat) (timed : Bool) (s : State) : State :=
  let m := mask % 2 ^ 18 &&& s.islandMask
  if s.on GLB_UPDATE_STAT_ARMED then
    capture p causeUpdateBusy true 0 GLB_UPDATE 0xF (s.raise GLB_UPDATE_STAT_REJECTED)
  else if m = 0 then s
  else
    let soonest := stampAdd s.now (ticksOf 64)
    let wanted := s.get GLB_UPDATE_AT_AT / 256 * 256
    let inTime : Bool := 0 ≤ stampDiff wanted soonest
    let late := timed && !inTime
    let tapp := if timed && inTime then wanted else soonest
    let s := s.raiseIf GLB_UPDATE_STAT_LATE late
    let s := s.set GLB_UPDATE_DONE_DONE (andNot (s.get GLB_UPDATE_DONE_DONE) m)
    { s.raise GLB_UPDATE_STAT_ARMED with armed := some ⟨m, tapp⟩ }

/-- A write to GLB_UPDATE with CANCEL = 1 (R32): it disarms an update before its T_app. -/
def cancelUpdate (s : State) : State :=
  match s.armed with
  | some u => if s.past u.tapp then s else { s.set GLB_UPDATE_STAT_ARMED 0 with armed := none }
  | none => s

/-- A write to GLB_UPDATE (R29, R32). -/
def writeUpdate (p : Path) (data : Nat) (s : State) : State :=
  if data.testBit 28 then cancelUpdate s else armUpdate p data (data.testBit 24) s

/-! ## What applied values do -/

/-- The words of facet `f` that differ between two states, among some registers. -/
def changedIn (old new : State) (as : List Nat) : List Nat := as.filter fun a => old.reg a != new.reg a

/-- The registers of the timing settings of facet `f` (R118): timing sets, FCT_CHT and FCT_PPD. -/
def timingRegs (f : Nat) : List Nat :=
  ((List.range 64).flatMap fun n => FCT_TSW f n :: (List.range 5).map fun w => FCT_TS f n w) ++
  (List.range 128).flatMap fun i => [FCT_CHT f i, FCT_PPD f i]

/-- The applied timing settings of facet `f` (R118, R125): while a phase runs, the old words stay in use until the first granule
boundary at or after T_app. (Log: 22 DEDUCED) -/
def applyTiming (f tapp : Nat) (old s : State) : State :=
  let as := changedIn old s (timingRegs f)
  let s := (List.range 64).foldl (fun s n => if as.any fun a => FCT_TS f n 0 ≤ a && a < FCT_TS f n 0 + 0x20 then
    refreshTimingSet f n s else s) s
  if as = [] ∨ !s.phaseOn f then s
  else
    let s := useNewTiming f tapp s
    let kept := (s.fct f).older
    let fresh := (as.filter fun a => kept.all fun e => e.1 != a).map fun a => (a, old.reg a)
    modFct f (fun x => { x with older := kept ++ fresh, olderAt := tapp }) s

/-- The applied levels of facet `f` (R90 to R92): the fields of a set that changed, or to which a new binding applies, come into
use. -/
def applyLevels (f : Nat) (old s : State) : State :=
  (List.range 16).foldl (fun s n =>
    let bound := old.reg (FCT_LS4 f n) != s.reg (FCT_LS4 f n)
    let fields := (levelFields f n).filter fun x => old.get x != s.get x || (bound && x.addr != FCT_LS3 f n)
    if fields = [] then s else useLevels f n fields s) s

/-- The applied FCT_CH settings of facet `f` (R100, R106): a new LS value aborts the channel's measurement. -/
def applyChannels (f : Nat) (old s : State) : State :=
  (List.range 128).foldl (fun s i =>
    if old.get (FCT_CH_LS f i) != s.get (FCT_CH_LS f i) then abortPmu (128 * f + i) s else s) s

/-- The applied grid settings of facet `f` (R117, R119, R120). A change of the active entry's contents leaves a select that
still waits for its boundary in force. (Log: 22 DEDUCED) -/
def applyGrid (f tapp : Nat) (old s : State) : State :=
  let active := s.get (FCT_RATE_ACTIVE f)
  let newSel : Bool := old.get (FCT_RATE_SEL f) != s.get (FCT_RATE_SEL f)
  let newPer : Bool := old.periodEntry f active != s.periodEntry f active
  let waiting := ((s.fct f).due.map fun d => d.entry).getD active
  let entry := if newSel then s.get (FCT_RATE_SEL f) else waiting
  let s :=
    if !(newSel || newPer) then s
    else if s.phaseOn f then modFct f (fun x => { x with due := some ⟨some tapp, entry⟩ }) s
    else changeRate f entry s
  if old.get (FCT_ANCHOR_ANCHOR f) = s.get (FCT_ANCHOR_ANCHOR f) then s
  else if s.phaseOn f then s.raise (FCT_TIMING_STAT_ANCHOR_DEFERRED f)
  else changeAnchor f s

/-- The applied sample periods of facet `f` (R185): in PLAY a new one waits for its 64-sample boundary, otherwise a start takes
it. -/
def applyPeriods (f tapp : Nat) (old s : State) : State :=
  (List.range 4).foldl (fun s g =>
    if old.get (FCT_WG_TS_TS f g) != s.get (FCT_WG_TS_TS f g) && s.wgState f g = wgPlay then
      modWave f g (fun w => { w with newTs := some ((w.newTs).getD tapp) }) s
    else s) s

/-! ## Applying -/

/-- Copy every shadow of an island to the active values (R29). -/
def copyShadows (i : Nat) (s : State) : State :=
  let mine := s.shadow.filter fun e => islandOf e.1 = i
  let s := mine.foldl (fun s e =>
    let m := BitVec.ofNat 64 (shadowMask e.1)
    s.setReg e.1 ((s.reg e.1 &&& ~~~m) ||| (e.2 &&& m))) s
  let s := { s with shadow := s.shadow.filter fun e => islandOf e.1 ≠ i }
  s.setBit GLB_SHADOW_DIRTY_DIRTY i false

/-- An island applies an update at T_app (R29 step 4). -/
def applyIsland (i tapp : Nat) (old : State) : State :=
  let s := (copyShadows i old).setBit GLB_UPDATE_DONE_DONE i true
  if i < 16 then
    applyPeriods i tapp old (applyGrid i tapp old (applyTiming i tapp old (applyChannels i old (applyLevels i old s))))
  else s

/-- An update takes place (R29 steps 4 and 5, R31): every masked island applies, or misses while it is power-gated or held in
block reset. -/
def completeUpdate (u : Armed) (s : State) : State :=
  let missed := (setBits 18 u.mask).filter fun i => s.islandDown i || (i < 16 && s.inBlockReset i)
  let s := (setBits 18 u.mask).foldl (fun s i =>
    if missed.contains i then s.setBit GLB_UPDATE_MISS_MISS i true else applyIsland i u.tapp s) s
  let s := { s.set GLB_UPDATE_STAT_ARMED 0 with armed := none }
  let any : Bool := missed.length < (setBits 18 u.mask).length
  let s := if any then s.set GLB_UPDATE_APPLIED_AT_APPLIED_AT u.tapp else s
  pendIf (s.on GLB_UPDATE_STAT_LATE || missed != []) 499 (pend 498 s)

/-- T_app of the armed update has come. -/
def applyUpdate (s : State) : State :=
  match s.armed with
  | none => s
  | some u => if s.past u.tapp then completeUpdate u s else s

/-- The armed update takes place, without waiting for its T_app. -/
def finishUpdate (s : State) : State :=
  match s.armed with
  | none => s
  | some u => completeUpdate u s

end Sys2Proof.Machine
end

