-- ==== Sys2Proof/Machine/Bus.lean ====
section
/-!
DEFINITION. Register writes: what a write to each register with a behaviour of its own does, and write requests of one or
more doublewords on a requester path (R23 to R40). Registers without a behaviour of their own are written by their access
types.
-/

namespace Sys2Proof.Machine
open Sys2Proof.Reg

/-- The index of address `a` in an array of `n` registers from `base`, `stride` bytes apart. -/
def indexIn (base stride n a : Nat) : Option Nat :=
  if base ≤ a ∧ (a - base) % stride = 0 ∧ (a - base) / stride < n then some ((a - base) / stride) else none

/-- The first of a list of possibilities that applies, or else a default. -/
def firstOf {α : Type} (d : α) : List (Option α) → α
  | [] => d
  | some x :: _ => x
  | none :: xs => firstOf d xs

/-- An action if `b` holds. -/
def actIf (b : Bool) (f : State → State) (s : State) : State := if b then f s else s

/-! ## GLB -/

/-- A write to GLB_UNLOCK (R34): the key opens the path's guard for the next request; any other value is counted and
captured. -/
def writeUnlock (p : Path) (data : Nat) (s : State) : State :=
  if data = 0xC3D17A5E then setGuard p true s
  else
    let s := setGuard p false s
    if p = .smbus then s
    else capture p causeBadKey true 0 GLB_UNLOCK 0xF (s.countSat GLB_GUARD_STAT_BAD_KEYS 1)

/-- A write to a GLB register. -/
def writeGlb (p : Path) (g : Bool) (a data : Nat) (s : State) : State :=
  if a = GLB_UPDATE then writeUpdate p data s
  else if a = GLB_UNLOCK then writeUnlock p data s
  else plainWrite p g a data s

/-! ## ICL -/

/-- A write to ICL_SRC_CFG (R307, R308, R316): disabling a source clears its pending bit. -/
def writeSourceCfg (n data : Nat) (s : State) : State :=
  withGroup (n / 16) (fun s =>
    let s := (s.set (ICL_SRC_CFG_MASK n) data).set (ICL_SRC_CFG_ENABLE n) (data / 2 ^ 16)
    if data.testBit 16 then s
    else
      let s := s.setBit (ICL_PEND_PEND (n / 16)) (n % 16) false
      match s.heldGroup (n / 16) with
      | some h =>
        let h : Held := { h with snap := andNot h.snap (2 ^ (n % 16)) }
        { s with icl := { s.icl with held := Store.put (fun _ => none) s.icl.held (n / 16) (some h) } }
      | none => s) s

/-- A write to ICL_PEND clears edge bits (R311). -/
def writePend (g data : Nat) (s : State) : State :=
  withGroup g (fun s => s.set (ICL_PEND_PEND g) (andNot (s.get (ICL_PEND_PEND g)) (data % 2 ^ 16))) s

/-- A write to ICL_DONE of target `t` (R312). -/
def writeDone (t data : Nat) (s : State) : State :=
  let g := bitsAt data 0 5
  if (s.heldGroup g).any (fun h => h.owner = t) then releaseGroup g s
  else (s.raise ICL_STAT_DONE_BAD).countSat ICL_DONE_BAD_COUNT 1

/-- A write to ICL_ONLINE (R313). -/
def writeOnline (data : Nat) (s : State) : State :=
  let old := s.online
  let t := withGroups (List.range 32) (fun s => (s.set ICL_ONLINE_HOST data).set ICL_ONLINE_APEX (data / 2 ^ 15)) s
  (setBits 16 (andNot old t.online)).foldl (fun t k => releaseTarget k t) t

/-- A claim by target `t` (R310): the group, or none for the spurious value. -/
def claimGroup (t : Nat) (s : State) : Option Nat × State :=
  let last := Store.find (fun _ => 31) s.icl.pointer t
  let order := (List.range 32).map fun i => (last + 1 + i) % 32
  match order.find? fun g => s.online.testBit t && (s.offerSet g).testBit t with
  | none => (none, s.countSat ICL_SPURIOUS_COUNT 1)
  | some g =>
    let h : Held := ⟨t, s.liveLevels g⟩
    let c := s.icl
    (some g, { s with icl := { c with held := Store.put (fun _ => none) c.held g (some h)
                                      pointer := Store.put (fun _ => 31) c.pointer t g } })

/-- A write to an ICL register. -/
def writeIcl (p : Path) (g : Bool) (a data : Nat) (s : State) : State :=
  firstOf (plainWrite p g) [
    (indexIn (ICL_SRC_CFG 0) 4 512 a).map fun n => fun _ data => writeSourceCfg n data,
    (indexIn (ICL_PEND 0) 4 32 a).map fun n => fun _ data => writePend n data,
    (indexIn (ICL_DONE 0) 4 16 a).map fun t => fun _ data => writeDone t data,
    if a = ICL_ONLINE then some fun _ data => writeOnline data else none,
    if a = ICL_SWSET then some fun _ data => pend (bitsAt data 0 9) else none ] a data s

/-! ## FCL, THM and AXS -/

/-- A write to an FCL register (R322, R327, R329, R332 to R335). -/
def writeFcl (p : Path) (g : Bool) (a data : Nat) (s : State) : State :=
  let t := plainWrite p g a data s
  if FCL_SRC_CFG 0 ≤ a ∧ a < FCL_SRC_CFG 128 then actIf g (discardStamps ((a - FCL_SRC_CFG 0) / 8)) t
  else if a = FCL_ACK then acknowledge (bitsAt data 0 16) s
  else if a = FCL_ESC then actIf (data.testBit 24) clearEscalation t
  else if a = FCL_ALIVE then writeAlive data s
  else if a = FCL_INJECT then actIf g (injectFault (bitsAt data 0 7) (data.testBit 8)) t
  else if a = FCL_FPARK then releaseFacets data s
  else t

/-- A write to a THM register (R340, R341): the power figures follow the settings. -/
def writeThm (p : Path) (g : Bool) (a data : Nat) (s : State) : State :=
  if a = THM_WARN_CFG ∨ a = THM_THR_CFG then
    if g then writeLevels a data s else capture p causeGuard true 0 a 0xF s
  else if a = THM_CTRL then actIf (data.testBit 0) unfreeze s
  else refreshPower (plainWrite p g a data s)

/-- A write to an AXS register (R109, R113, R114). -/
def writeAxs (p : Path) (g : Bool) (a data : Nat) (s : State) : State :=
  let t := plainWrite p g a data s
  if a = AXS_CTRL then
    if data.testBit 0 && s.mode = modeIdle && !s.on AXS_CTRL_RECAL then startRecal (t.raise AXS_CTRL_RECAL) else t
  else if a = AXS_SYNC_CFG then t.raiseIf AXS_SYNC_CFG_ARM (data.testBit 4)
  else if a = AXS_SYNC_FIRE then actIf (data.testBit 0) syncFire s
  else t

/-! ## APX, SPN and CAL -/

/-- GO of a mailbox slot is written 1 (R79): the command is latched and waits for Apex. (Log: 133 DEDUCED) -/
def submit (p : Path) (g : Bool) (slot : Nat) (s : State) : State :=
  if s.on (APX_DOORBELL_GO slot) then s
  else
    let args := (List.range 4).map fun i => s.get (APX_ARG_ARG slot i)
    let c : Cmd := ⟨slot, s.get (APX_CMD_OPCODE slot), s.get (APX_CMD_SEQ slot), args, g && p == .host⟩
    { s.raise (APX_DOORBELL_GO slot) with apex := { s.apex with waiting := s.apex.waiting ++ [c] } }

/-- The results of a key enrolment that is refused (R412). -/
def keyUsed : Nat := 2
@[inherit_doc keyUsed] def keyMode : Nat := 3

/-- APX_KEY_ENROL is written with its guard open (R412): GO starts the burn, unless the mode or the slot forbids it. (Log: 129 DEDUCED) -/
def writeEnrol (data : Nat) (s : State) : State :=
  let s := s.set APX_KEY_ENROL_SLOT data
  let slot := s.get APX_KEY_ENROL_SLOT
  if s.on APX_KEY_ENROL_GO || !data.testBit 4 then s
  else if s.mode ≠ modeIdle ∨ slot = 0 then pend 458 (s.set APX_KEY_STAT_RESULT keyMode)
  else if s.bitOf APX_KEY_STAT_PROGRAMMED slot then pend 458 (s.set APX_KEY_STAT_RESULT keyUsed)
  else { s.raise APX_KEY_ENROL_GO with apex := { s.apex with enrol := some slot } }

/-- A write to an APX register (R79, R412, R417). -/
def writeApx (p : Path) (g : Bool) (a data : Nat) (s : State) : State :=
  if a = APX_DOORBELL 0 then actIf (data.testBit 0) (submit p g 0) s
  else if a = APX_DOORBELL 1 then actIf (data.testBit 0) (submit p g 1) s
  else if a = APX_KEY_ENROL then
    if g then writeEnrol data s else capture p causeGuard true 0 a 0xF s
  else if APX_STAGING 0 ≤ a ∧ p = .host ∧ s.staging then s
  else plainWrite p g a data s

/-- A write to the transfer control of engine `e` (R384, R399): START, then ABORT. -/
def writeXfer (e data : Nat) (s : State) : State :=
  let s := setEng e SPN_XFER_CTRL_SEL (data / 4) s
  let s := setEng e SPN_XFER_CTRL_DIR (data / 16) s
  let s := setEng e SPN_XFER_CTRL_WAIT_READY (data / 32) s
  let s := setEng e SPN_XFER_CTRL_ERASE (data / 64) s
  actIf (data.testBit 1) (abortEngine e) (actIf (data.testBit 0) (startEngine e) s)

/-- A write to an SPN register (R381, R399): the host cannot change the settings of SS0. -/
def writeSpn (p : Path) (g : Bool) (a data : Nat) (s : State) : State :=
  if a < SPN_SEL0 1 ∧ p ≠ .apex then s
  else if a = SPN_XFER_CTRL then writeXfer 1 data s
  else if a = SPN_STAT then actIf (data.testBit 0) (deassertLine 100) (plainWrite p g a data s)
  else plainWrite p g a data s

/-- A write to a trim register (R352): it takes effect, and sets MODIFIED, unless a calibration-bus activity runs. (Log: 57 DESIGN CHOICE) -/
def writeTrim (p : Path) (g : Bool) (a data : Nat) (s : State) : State :=
  if !g then capture p causeGuard true 0 a 0xF s
  else if s.get CAL_STAT_ACTIVITY ≠ 0 then s.raise CAL_STAT_WRITE_DROP
  else (plainWrite p g a data s).raise CAL_STAT_MODIFIED

/-- A write to a CAL register (R352, R368, R373). -/
def writeCal (p : Path) (g : Bool) (a data : Nat) (s : State) : State :=
  if a = CAL_CTRL then actIf (data.testBit 0) abortCal s
  else if isTrim a then writeTrim p g a data s
  else if a = CAL_REF_DECLARED ∧ s.get CAL_STAT_ACTIVITY ≠ 0 then s.raise CAL_STAT_WRITE_DROP
  else plainWrite p g a data s

/-! ## RNG and DMA -/

/-- Drop the head descriptor of a command ring that has been fetched and not admitted (R287, R290). -/
def dropHead (n : Nat) (s : State) : State :=
  if n % 4 ≠ 0 then s
  else
    match s.op (n / 4) with
    | some o => if o.admitted.isNone then letGo (n / 4) s else s
    | none => s

/-- The configuration bits of RNG_CTRL. (Log: 20 DEDUCED) -/
def ringConfigMask : Nat := 0x3FFF

/-- The configuration fields of RNG_CTRL take the values written. (Log: 20 DEDUCED) -/
def setRingConfig (p : Path) (n data : Nat) (s : State) : State := plainWrite p false (RNG_CTRL n) data s

/-- A write to RNG_CTRL (R290, R296). (Log: 20 DEDUCED) -/
def writeRingCtrl (p : Path) (n data : Nat) (s : State) : State :=
  let old := (s.reg (RNG_CTRL n)).toNat
  if !s.on (RNG_CTRL_ENABLE n) then
    let s := setRingConfig p n data s
    actIf (data.testBit 0) (enableRing n) s
  else if !data.testBit 0 then setRingConfig p n data (disableRing n (dropHead n s))
  else
    let s := s.raiseIf DMA_STAT_WRITE_DROP ((old &&& ringConfigMask) != (data &&& ringConfigMask))
    actIf (data.testBit 14) (retryRing n) s

/-- A write to a ring's context (R290). -/
def writeRng (p : Path) (g : Bool) (a data : Nat) (s : State) : State :=
  let n := (a - RNG_CTRL 0) / 0x40
  if a = RNG_CTRL n then writeRingCtrl p n data s
  else if a = RNG_STAT n then plainWrite p g a data s
  else if s.on (RNG_CTRL_ENABLE n) then s.raise DMA_STAT_WRITE_DROP
  else plainWrite p g a data s

/-- Send the message that vector `t` holds, once nothing masks it (R309). -/
def deliverHeld (t : Nat) (s : State) : State :=
  if s.bitOf (DMA_MSIX_PBA_PBA 0) t && !s.vectorMasked t && s.icl.msixOn && s.icl.busMaster then
    sendMessage t (s.setBit (DMA_MSIX_PBA_PBA 0) t false)
  else s

/-- The pool pages a write of the pool's marks may move past: LOW and EXHAUSTED are judged again (R298). -/
def remark (s : State) : State := setFree (s.get DMA_POOL_FREE_FREE) s

/-- A write to the copy engine's control (R302): START, then ABORT. -/
def writeCopyCtrl (p : Path) (data : Nat) (s : State) : State :=
  let s := plainWrite p false DMA_XFER_CTRL data s
  actIf (data.testBit 1) abortCopy (actIf (data.testBit 0) startCopy s)

/-- The bytes of the page pool (R13). (Log: 24 DEDUCED) -/
def poolBytes : Nat := 12288 * 4096

/-- Where a doubleword of the pool window lies in the pool (R292). (Log: 24 DEDUCED) -/
def State.poolPlace (s : State) (a : Nat) : Nat := s.get DMA_POOL_PAGE_PAGE * 4096 + (a - DMA_POOLWIN 0)

/-- A write to a DMA register (R280, R292, R295, R298, R301 to R303). (Log: 24 DEDUCED) -/
def writeDma (p : Path) (g : Bool) (a data : Nat) (s : State) : State :=
  if a = DMA_POOL_LWM ∨ a = DMA_POOL_HWM then remark (plainWrite p g a data s)
  else if a = DMA_PRI_RESTART then actIf (data.testBit 0) restartPri s
  else if a = DMA_RETRY_AUX then retryAux (data.testBit 0) (data.testBit 1) s
  else if a = DMA_XFER_CTRL then writeCopyCtrl p data s
  else if DMA_POOLWIN 0 ≤ a ∧ a < DMA_POOLWIN 16384 then
    if s.poolPlace a < poolBytes then { s with pool := Memory.putWord s.pool (s.poolPlace a) 4 data } else s
  else if DMA_MSIX_TABLE 0 ≤ a ∧ a < DMA_MSIX_TABLE 64 then
    deliverHeld ((a - DMA_MSIX_TABLE 0) / 16) (plainWrite p g a data s)
  else plainWrite p g a data s

/-! ## ARC, LAT and SIT -/

/-- A write to ARC_JREQ of chord `k` (R147, R162): a stamped request; KIND 3 has no effect. -/
def writeJreq (k data : Nat) (s : State) : State :=
  let kind := bitsAt data 8 2
  let at_ := s.get (ARC_JREQ_AT_AT k) / 256 * 256
  let timed := data.testBit 12
  let treq := if timed && decide (0 ≤ stampDiff at_ s.now) then at_ else s.now
  if kind = 3 then s else makeRequest k ⟨kind, bitsAt data 0 4, treq, if timed then 1 else 2⟩ s

/-- A write to ARC_SITE_CTRL (R44, R59, R60): CHECK, COMMIT, CONTACT and ABORT in this order. (Log: 53 DEDUCED) -/
def writeSiteCtrl (data : Nat) (s : State) : State :=
  let s := actIf (data.testBit 0) startCheck s
  let s := actIf (data.testBit 1) startCommit s
  let s := actIf (data.testBit 2) startContact s
  actIf (data.testBit 3) abortContact s

/-- A write to ARC_WALLCLOCK stores its acceptance stamp too (R55). -/
def writeWallclock (p : Path) (data : Nat) (s : State) : State :=
  (plainWrite p false ARC_WALLCLOCK data s).set ARC_WALLCLOCK_AT_AT s.now

/-- Apply `g` to the index of every bit that is written 1 in word `i` of an array of bits. -/
def eachBit (i data : Nat) (g : Nat → State → State) (s : State) : State :=
  (setBits 32 data).foldl (fun s b => g (32 * i + b) s) s

/-- A write to an ARC register (R52, R55, R147, R201, R204, R205, R207). -/
def writeArc (p : Path) (g : Bool) (a data : Nat) (s : State) : State :=
  if a = ARC_CANCEL then cancelTag (bitsAt data 0 16) s
  else if a = ARC_REPLAY_GO then replayGo (bitsAt data 0 16) s
  else if a = ARC_SITE_CTRL then writeSiteCtrl data s
  else if a = ARC_WALLCLOCK then writeWallclock p data s
  else if inSiteTables a then markEdited (plainWrite p g a data s)
  else
    firstOf (plainWrite p g a) [
      (indexIn (ARC_VHOLD 0) 4 128 a).map fun i => fun data => eachBit i data clearVhold,
      (indexIn (ARC_INKED 0) 4 128 a).map fun i => fun data => eachBit i data inkVertex,
      (indexIn (ARC_CHORD_STAT 0) 0x20 512 a).map fun k => fun data => actIf (data.testBit 4) (clearRecoveryFail k),
      (indexIn (ARC_JREQ 0) 0x10 512 a).map fun k => fun data => writeJreq k data ] data s

/-- A write to LAT_COLL of collector `c` (R230): dropped while its working state differs from the committed one. -/
def writeColl (p : Path) (c data : Nat) (s : State) : State :=
  let x := s.collector c
  if x.working ≠ x.committed then s.raise LAT_STAT_WRITE_DROP else plainWrite p false (LAT_COLL c) data s

/-- A write to the column map's window (R227). (Log: 27 DEDUCED) -/
def writeWindow (off data : Nat) (s : State) : State :=
  match s.windowPlace off with
  | some b => { s with cmap := Memory.putWord s.cmap b 4 data }
  | none => s

/-- A write to a LAT register (R227, R230, R231). -/
def writeLat (p : Path) (g : Bool) (a data : Nat) (s : State) : State :=
  let t := plainWrite p g a data s
  if a = LAT_RA_CMD then actIf (data.testBit 1) abortAnalysis (actIf (data.testBit 0) startAnalysis t)
  else if a = LAT_CLEAR then actIf (data.testBit 0) startClear t
  else if LAT_CMAPWIN 0 ≤ a then writeWindow (a - LAT_CMAPWIN 0) data s
  else
    firstOf t [
      (indexIn (LAT_COLL 0) 0x20 128 a).map fun c => writeColl p c data s,
      (indexIn (LAT_COLL_CLEAR 0) 0x20 128 a).map fun c => actIf (data.testBit 0) (clearCollector c) s ]

/-- A write to the vertex or chord table (R45). -/
def writeSit (p : Path) (g : Bool) (a data : Nat) (s : State) : State := markEdited (plainWrite p g a data s)

/-! ## ACQ -/

/-- The registers of a unit that are closed while it is not IDLE (R277). -/
def unitClosed (o : Nat) : Bool := o < 0x2C || (0x30 ≤ o && o < 0x3C) || o = 0x60

/-- A write to an ACQ register (R262, R273, R277). -/
def writeAcq (p : Path) (g : Bool) (a data : Nat) (s : State) : State :=
  if a < ACQ_PMI_CFG 64 then
    if s.pmiUsed ((a - ACQ_PMI_CFG 0) / 8) && a % 8 = 0 then s.raise ACQ_STAT_WRITE_DROP else plainWrite p g a data s
  else if ACQ_U_CFG 0 ≤ a ∧ a < ACQ_U_CFG 16 then
    let u := (a - ACQ_U_CFG 0) / 0x80
    if unitClosed (a % 0x80) && s.aqState u != aqIdle then s.raise ACQ_STAT_WRITE_DROP
    else if a = ACQ_U_CTRL u then writeAcqCtrl u data s
    else if a = ACQ_U_DEST_CONS u then destFreed u (plainWrite p g a data s)
    else plainWrite p g a data s
  else plainWrite p g a data s

/-! ## Facets -/

/-- A write to FCT_PMU_CTRL of channel `i` of facet `f` (R86, R98 to R100): a change of MODE or RANGE acts at once, then START,
then ABORT. (Log: 19 DEDUCED) -/
def writePmuCtrl (p : Path) (f i data : Nat) (s : State) : State :=
  let c := 128 * f + i
  let mode := s.get (FCT_PMU_CTRL_MODE f i)
  let range := s.get (FCT_PMU_CTRL_RANGE f i)
  let was := s.channelState c
  let s := plainWrite p false (FCT_PMU_CTRL f i) data s
  let s := actIf (s.get (FCT_PMU_CTRL_MODE f i) != mode || s.get (FCT_PMU_CTRL_RANGE f i) != range) (touchPmu c) s
  let s := actIf (was = chVector && s.channelState c != chVector)
    (fun s => requireRecovery c (modChan c (fun x => { x with drive := .off }) s)) s
  actIf (data.testBit 13) (abortPmu c) (actIf (data.testBit 12) (startPmu c) s)

/-- Is any generator of facet `f` that is ARMED or in PLAY to read sample `x` (R181)? (Log: 21 DEDUCED) -/
def State.samplePlays (s : State) (f x : Nat) : Bool :=
  (List.range 4).any fun g =>
    (s.wgState f g = wgArmed || s.wgState f g = wgPlay) &&
      (List.range (s.wgSegments f g)).any fun k =>
        let (first, n, _) := s.wgSegment f g k
        decide (first ≤ x) && decide (x < first + n)

/-- A write to WG_CMD (R183): 1 START, 2 STOP, 3 HALT. -/
def writeWgCmd (f g data : Nat) (s : State) : State :=
  match bitsAt data 0 2 with
  | 1 => startWg f g (data.testBit 4) s
  | 2 => stopWg f g s
  | 3 => haltWg f g s
  | _ => s

/-- A write to a register of waveform generator `g` (R184, R186): `o` is its offset. -/
def writeWave (p : Path) (f g o a data : Nat) (s : State) : State :=
  if o = 0 then writeWgCmd f g data s
  else if (o = 4 ∨ 0x40 ≤ o) ∧ (s.wgState f g = wgArmed ∨ s.wgState f g = wgPlay) then raiseGen f (FCT_GEN_STAT_WRITE_DROP f) s
  else actIf (o = 0x14) (idleOutput f g) (plainWrite p false a data s)

/-- A write to a register of TDC unit `u` (R251): `o` is its offset. -/
def writeTdc (p : Path) (f u o a data : Nat) (s : State) : State :=
  if o = 0x18 then writeTdcCtrl f u data s
  else if (o < 0x18 ∨ (0x1C ≤ o ∧ o < 0x28)) ∧ (s.tdcRun f u).isSome then raiseTmu f (FCT_TMU_STAT_WRITE_DROP f) s
  else plainWrite p false a data s

/-- A write to a register of the regression counter (R255): `o` is its offset. -/
def writeRcReg (p : Path) (f o a data : Nat) (s : State) : State :=
  if o = 0xC then writeRcCtrl f data s
  else if (o < 0xC ∨ o = 0x10) ∧ (s.rcRun f).isSome then raiseTmu f (FCT_TMU_STAT_WRITE_DROP f) s
  else plainWrite p false a data s

/-- A write to a queue register of ray `r` (R149, R161): `o` is its offset. -/
def writeQueue (p : Path) (f r o a data : Nat) (s : State) : State :=
  if o = 0 then writeQueueCfg f r data s
  else if o = 4 ∨ o = 8 then
    if s.rayState f r ≠ rayIdle then s.raise (FCT_LOC_STAT_UWRITE_DROP f) else plainWrite p false a data s
  else if o = 0x10 then fetchQueue f r (plainWrite p false a data s)
  else plainWrite p false a data s

/-- A write to a register of facet `f` at offset `o` of its window. -/
def writeFct (p : Path) (g : Bool) (f o a data : Nat) (s : State) : State :=
  let plain := plainWrite p g a data s
  if o < 0x40000 then writeMicrocode f o data s
  else if o < 0x48000 then if s.raysIdle f then plain else raiseGen f (FCT_GEN_STAT_WRITE_DROP f) s
  else if o < 0x60000 then
    if s.samplePlays f ((o - 0x48000) / 2) then raiseGen f (FCT_GEN_STAT_WRITE_DROP f) s else plain
  else if o < 0x60200 then actIf (g && o % 0x20 = 0xC) (useClamps f ((o - 0x60000) / 0x20)) plain
  else if 0x62000 ≤ o ∧ o < 0x63000 then
    if o % 0x10 = 0 then writePmuCtrl p f ((o - 0x62000) / 0x10) data s
    else actIf (o % 0x10 = 4) (touchPmu (128 * f + (o - 0x62000) / 0x10)) plain
  else if 0x6B000 ≤ o ∧ o < 0x6B400 then writeQueue p f ((o - 0x6B000) / 0x20) (o % 0x20) a data s
  else if 0x6C000 ≤ o ∧ o < 0x6D000 then
    if s.rayState f ((o - 0x6C000) / 0x80) = rayIdle then plain else raiseGen f (FCT_GEN_STAT_WRITE_DROP f) s
  else if 0x6D000 ≤ o ∧ o < 0x6D200 then writeWave p f ((o - 0x6D000) / 0x80) (o % 0x80) a data s
  else if 0x6E000 ≤ o ∧ o < 0x6E800 then
    if s.rayState f ((o - 0x6E000) / 0x40) = rayIdle then plain else raiseGen f (FCT_GEN_STAT_WRITE_DROP f) s
  else if 0x70000 ≤ o ∧ o < 0x71000 then writeTdc p f ((o - 0x70000) / 0x80) (o % 0x80) a data s
  else if 0x71000 ≤ o ∧ o < 0x71048 then writeRcReg p f (o - 0x71000) a data s
  else if 0x74000 ≤ o ∧ o < 0x76000 then writeTrim p g a data s
  else plain

/-! ## Requests -/

/-- A write of a whole register, or pair, at its (low) address `a`, with the guard as the request found it. -/
def writeReg (p : Path) (g : Bool) (a data : Nat) (s : State) : State :=
  match blockOf a with
  | some .glb => writeGlb p g a data s
  | some .icl => writeIcl p g a data s
  | some .fcl => writeFcl p g a data s
  | some .thm => writeThm p g a data s
  | some .axs => writeAxs p g a data s
  | some .apx => writeApx p g a data s
  | some .spn => writeSpn p g a data s
  | some .cal => writeCal p g a data s
  | some .rng => writeRng p g a data s
  | some .dma => writeDma p g a data s
  | some .arc => writeArc p g a data s
  | some .lat => writeLat p g a data s
  | some .sit => writeSit p g a data s
  | some .acq => writeAcq p g a data s
  | some .fct => writeFct p g ((a - 0x1000000) / 0x80000) ((a - 0x1000000) % 0x80000) a data s
  | none => s

/-- Is a write to address `a` turned away, or let through (R39, R68, R73)? -/
def admitWrite (p : Path) (a be : Nat) (f : State → State) (s : State) : State :=
  if s.hostShut p a || s.windowGated a then s
  else if !s.implemented a then writeUnimplemented p a be s
  else f s

/-- A write of one doubleword that no 64-bit write covers (R37). -/
def writeOne (p : Path) (g : Bool) (a data be : Nat) (s : State) : State :=
  admitWrite p a be (fun s =>
    match rowAt a with
    | some (r, _) =>
      if r.quad then capture p causeSplit64 true 0 a be s
      else if be ≠ 0xF then capture p causeNarrow true 0 a be s
      else writeReg p g a data s
    | none => if be ≠ 0xF then capture p causeNarrow true 0 a be s else s) s

/-- Is `a` the low word of a 64-bit field? (Log: 17 DEDUCED) -/
def lowOfPair (a : Nat) : Bool :=
  match rowAt a with
  | some (r, high) => r.quad && !high
  | none => false

/-- The doublewords of a write request from `a` up (R37, R38): each with its byte enables; a 64-bit field whose two words
are written whole is written as one. (Log: 17 DEDUCED) -/
def writeItems (p : Path) (g : Bool) : Nat → List (Nat × Nat) → State → State
  | _, [], s => s
  | a, [(d, be)], s => writeOne p g a d be s
  | a, (d, be) :: (d', be') :: rest, s =>
    if lowOfPair a && be = 0xF && be' = 0xF then
      writeItems p g (a + 8) rest (admitWrite p a be (writeReg p g a (d % 2 ^ 32 + 2 ^ 32 * (d' % 2 ^ 32))) s)
    else writeItems p g (a + 4) ((d', be') :: rest) (writeOne p g a (d % 2 ^ 32) be s)

/-- A write request to BAR0 on a path (R34, R38): the guard as it was found serves the whole request, and is re-armed
unless the request itself wrote the key. (Log: 17 DEDUCED) -/
def busWrite (p : Path) (a : Nat) (items : List (Nat × Nat)) (s : State) : State :=
  if s.pathDead p then s else writeItems p (s.guardOpen p) a items (setGuard p false s)

/-- A full write of one 32-bit register. -/
def write32 (p : Path) (a data : Nat) (s : State) : State := busWrite p a [(data % 2 ^ 32, 0xF)] s

/-- A full write of one 64-bit pair. -/
def write64 (p : Path) (a data : Nat) (s : State) : State :=
  busWrite p a [(data % 2 ^ 32, 0xF), (data / 2 ^ 32 % 2 ^ 32, 0xF)] s

/-! ## Apex's own engine (R403) -/

/-- The addresses of the Apex engine's registers: the same map at Apex's own base. (Log: 15 PRESUMED) -/
def apexEngineBase : Nat := 0x23000000

/-- A write by Apex firmware to its engine's registers. (Log: 15 PRESUMED) -/
def writeApexEngine (off data : Nat) (s : State) : State :=
  if s.pathDead .apex then s
  else if off = 0x100 then writeXfer 0 data s
  else
    match rowAt (SPN_SEL0 0 + off) with
    | some (r, false) =>
      if 0x104 ≤ off ∧ off < 0x300 then
        r.fields.foldl (fun s f =>
          if f.acc = .rw then setEng 0 ⟨SPN_SEL0 0 + off, f.lo, f.w⟩ (bitsAt data f.lo f.w) s else s) s
      else s
    | _ => s

/-! ## Doorbells (R287) -/

/-- A doorbell write to ring `n` on a path: 32 or 64 bits with the value in the low word, by byte enables `be`. (Log: 23 DEDUCED) -/
def writeDoorbell (p : Path) (n value be : Nat) (s : State) : State :=
  if s.mode = modeReset then s
  else if s.rings ≤ n then
    capture p causeUnimpl true 1 (8 * n) be (s.send (if p = .apex then .busError (8 * n) else .aer))
  else if be ≠ 0xF then capture p causeNarrow true 1 (8 * n) be s
  else
    let v := value % 2 ^ 32
    if n % 4 ≠ 0 then doorbellOutput n v s
    else if s.doorbellFits n v then
      let was := s.ringCount n
      let s := s.set (RNG_PROD_PROD n) v
      actIf (was != 0 && s.ringCount n = 0) (dropHead n) s
    else rejectDoorbell n s

end Sys2Proof.Machine
end

