-- ==== Sys2Proof/Machine/Read.lean ====
section
/-!
DEFINITION. Register reads: what a read of each register returns (R26, R36, R40), the holding register of 64-bit fields (R36),
claims (R310), and where a read is turned away (R39, R68, R73).
-/

namespace Sys2Proof.Machine
open Sys2Proof.Reg

/-- The bytes of a doubleword that a read with byte enables `be` returns. -/
def maskBytes (be v : Nat) : Nat :=
  (List.range 4).foldl (fun r i => if be.testBit i then r + bitsAt v (8 * i) 8 * 2 ^ (8 * i) else r) 0

/-! ## Registers whose fields are computed when they are read -/

/-- ICL registers (R308, R310, R311, R313). -/
def State.viewIcl (s : State) (a stored : Nat) : Nat :=
  firstOf (if a = ICL_STAT then andNot stored 0xFFFF + s.online else stored) [
    (indexIn (ICL_PEND 0) 4 32 a).map fun g => s.pendBits g,
    (indexIn (ICL_GRP_STAT 0) 4 32 a).map fun g =>
      s.groupState g + 16 * (match s.heldGroup g with | some h => h.owner | none => 0) + 2 ^ 16 * s.offerSet g,
    (indexIn (ICL_CLAIM 0) 4 16 a).map fun _ => 0x3FF,
    (indexIn (ICL_OFFER 0) 4 16 a).map fun t => s.offers t ]

/-- Facet registers (R86, R91, R93, R158): `o` is the offset in the window of facet `f`. -/
def State.viewFct (s : State) (f o stored : Nat) : Nat :=
  if o < 0x40000 then s.readMicrocode f o
  else if 0x61000 ≤ o ∧ o < 0x61200 then
    let c := 128 * f + (o - 0x61000) / 4
    stored % 2 ^ 16 + 2 ^ 16 * s.channelState c + 2 ^ 18 * s.parkCause c
  else if 0x62000 ≤ o ∧ o < 0x62800 ∧ o % 0x10 = 0xC then
    stored % 2 ^ 5 + 2 ^ 5 * bit01 (s.badClamp (128 * f + (o - 0x62000) / 0x10))
  else stored

/-- The defined bits of a register, or pair, at its (low) address as a read sees them; write-only fields read 0. (Log: 26 DEDUCED) -/
def State.view (s : State) (a : Nat) : Nat :=
  let stored := (s.reg a).toNat
  match blockOf a with
  | some .icl => s.viewIcl a stored
  | some .fcl => if a = FCL_GRACE_LEFT then s.graceLeft else stored
  | some .axs => if a = AXS_NOW then s.now / 256 * 256 else stored
  | some .dma =>
    if DMA_POOLWIN 0 ≤ a ∧ a < DMA_POOLWIN 16384 then Memory.word s.pool (s.poolPlace a) 4 else stored
  | some .lat =>
    if LAT_CMAPWIN 0 ≤ a then
      match s.windowPlace (a - LAT_CMAPWIN 0) with
      | some b => Memory.word s.cmap b 4
      | none => 0
    else stored
  | some .fct => s.viewFct ((a - 0x1000000) / 0x80000) ((a - 0x1000000) % 0x80000) stored
  | _ => stored

/-- The bits of a row's fields, other than write-only ones: what a read shows. -/
def shownMask (r : RegRow) : Nat := fieldMask [.rw, .ro, .w1c, .w1s, .rc, .hc, .sh, .ct, .cts, .gd] r.fields

/-- The bits of a row that some field owns. -/
def ownedMask (r : RegRow) : Nat := shownMask r ||| fieldMask [.wo] r.fields

/-- The value of a register, or pair, with its reserved bits (R40): free values on the CJ2048, 0 on the smaller members. A
window doubleword beyond the page pool is a free value too. (Log: 9 DESIGN CHOICE) -/
def readWhole (a : Nat) (r : Option RegRow) (s : State) : Nat × State :=
  let owned := r.elim 0 ownedMask
  let shown := r.elim 0 shownMask
  let beyond := DMA_POOLWIN 0 ≤ a ∧ a < DMA_POOLWIN 16384 ∧ poolBytes ≤ s.poolPlace a
  let v := s.view a &&& shown
  if beyond then
    let (x, s) := s.fresh
    (x % 2 ^ 32, s)
  else if s.member = 0 then
    (v ||| andNot (Config.reservedBits s.free % 2 ^ (if (r.elim false fun r => r.quad) then 64 else 32)) owned,
     { s with free := s.free + 1 })
  else (v, s)

/-- The RC fields of a register clear at a full-width read (R26, R36). -/
def clearRc (a : Nat) (r : RegRow) (s : State) : State :=
  r.fields.foldl (fun s f => if f.acc = .rc then s.set ⟨a, f.lo, f.w⟩ 0 else s) s

/-- The number of a path's holding register. (Log: 18 DEDUCED) -/
def latchOf : Path → Nat
  | .host => 0
  | .apex => 1
  | .smbus => 2

/-- The holding register of a path. (Log: 18 DEDUCED) -/
def State.latch (s : State) (p : Path) : Option (Nat × Nat) := Store.find (fun _ => none) s.latches (latchOf p)

/-- Set the holding register of a path. (Log: 18 DEDUCED) -/
def setLatch (p : Path) (x : Option (Nat × Nat)) (s : State) : State :=
  { s with latches := Store.put (fun _ => none) s.latches (latchOf p) x }

/-- Has a pair RO or CT fields only, so that a read of its low word holds the high word (R36)? -/
def RegRow.holds (r : RegRow) : Bool := r.fields.any fun f => f.acc == .ro || f.acc == .ct || f.acc == .cts

/-- A read of one doubleword with byte enables (R36): what it returns, and its side effects. (Log: 18 DEDUCED) -/
def readDword (p : Path) (a be : Nat) (s : State) : Nat × State :=
  match rowAt a with
  | some (r, true) =>
    match s.latch p with
    | some (b, h) =>
      if b = a - 4 then (h, setLatch p none s)
      else
        let (v, s) := readWhole (a - 4) (some r) s
        (v / 2 ^ 32, s)
    | none =>
      let (v, s) := readWhole (a - 4) (some r) s
      (v / 2 ^ 32, s)
  | some (r, false) =>
    match indexIn (ICL_CLAIM 0) 4 16 a with
    | some t =>
      if be = 0xF then
        let (g, s) := claimGroup t s
        (g.getD 0x3FF, s)
      else (0x3FF, s)
    | none =>
      let (v, s) := readWhole a (some r) s
      if be ≠ 0xF then (v % 2 ^ 32, s)
      else
        let s := if r.quad then if r.holds then setLatch p (some (a, v / 2 ^ 32)) s else s else clearRc a r s
        let s := match indexIn (FCL_HIST 0) 16 16 a with
          | some i => historyRead i s
          | none => s
        (v % 2 ^ 32, s)
  | none => readWhole a none s

/-- A read to an unimplemented address (R39). -/
def readUnimplemented (p : Path) (a be : Nat) (s : State) : State :=
  let s := match p with
    | .apex => s.send (.busError a)
    | .host => s.send (.unsupported a)
    | .smbus => s
  capture p causeUnimpl false 0 a be s

/-- The data that a read of one doubleword returns, if it returns data at all (R39, R68, R73). -/
def readOne (p : Path) (a be : Nat) (s : State) : Option Nat × State :=
  if s.hostShut p a || s.windowGated a then (some 0, s)
  else if !s.implemented a then (none, readUnimplemented p a be s)
  else
    let (v, s) := readDword p a be s
    (some (maskBytes be v), s)

/-- The doublewords of a read request from `a` up, each with its byte enables (R38): a pair that is read whole is one 64-bit
read. -/
def readItems (p : Path) : Nat → List Nat → State → State
  | _, [], s => s
  | a, [be], s =>
    match readOne p a be s with
    | (some v, s) => s.send (.readData p a v)
    | (none, s) => s
  | a, be :: be' :: rest, s =>
    if lowOfPair a && be = 0xF && be' = 0xF && s.implemented a && !(s.hostShut p a || s.windowGated a) then
      let r := (rowAt a).map (·.1)
      let (v, s) := readWhole a r s
      let s := r.elim s fun r => clearRc a r s
      readItems p (a + 8) rest ((s.send (.readData p a (v % 2 ^ 32))).send (.readData p (a + 4) (v / 2 ^ 32)))
    else
      let s := match readOne p a be s with
        | (some v, s) => s.send (.readData p a v)
        | (none, s) => s
      readItems p (a + 4) (be' :: rest) s

/-- A read request to BAR0 on a path. -/
def busRead (p : Path) (a : Nat) (bes : List Nat) (s : State) : State := if s.pathDead p then s else readItems p a bes s

/-- A read of ring `n`'s doorbell (R287): the index that software maintains; its upper doubleword reads 0. -/
def readDoorbell (p : Path) (n : Nat) (upper : Bool) (be : Nat) (s : State) : State :=
  if s.pathDead p then s
  else if s.mode = modeReset then s.send (.readData p (8 * n) 0)
  else if s.rings ≤ n then
    capture p causeUnimpl false 1 (8 * n) be (s.send (if p = .apex then .busError (8 * n) else .unsupported (8 * n)))
  else
    let v := if upper then 0 else if n % 4 = 0 then s.get (RNG_PROD_PROD n) else s.get (RNG_CONS_CONS n)
    s.send (.readData p (8 * n + 4 * bit01 upper) (maskBytes be v))

end Sys2Proof.Machine
end

