-- ==== Sys2Proof/Machine/Profile.lean ====
section
/-!
DEFINITION. Profiles: the sections of a profile image (R74, R418, R419), the checks made before anything is written (R72,
R75), loading it (R75, R76), and what SELECT_PROFILE resets first (R77).
-/

namespace Sys2Proof.Machine
open Sys2Proof.Reg

/-- PROF_RESULT codes (R82). -/
def profOk : Nat := 0
@[inherit_doc profOk] def profNotPresent : Nat := 1
@[inherit_doc profOk] def profAuthFail : Nat := 2
@[inherit_doc profOk] def profFormat : Nat := 3
@[inherit_doc profOk] def profSiteFail : Nat := 4

/-- A section of a profile: its type and body. -/
structure Section where
  type : Nat
  body : List Byte
  deriving DecidableEq, Repr

/-- A run (R419): TARGET, FACETS, whether it holds microcode words, and its doublewords. -/
structure Run where
  target : Nat
  facets : Nat
  ucode  : Bool
  data   : List Nat
  deriving DecidableEq, Repr

/-- The doublewords of a list of bytes. -/
def dwords (bs : List Byte) : List Nat := (List.range (bs.length / 4)).map fun i => numAt bs (4 * i) 4

/-- The sections of a payload (R418); nothing where their form is broken. (Log: 46 DEDUCED) -/
def parseSections : Nat → List Byte → Option (List Section)
  | _, [] => some []
  | 0, _ :: _ => none
  | fuel + 1, bs =>
    let len := numAt bs 4 4
    let padded := (len + 7) / 8 * 8
    let pad := ((bs.drop 8).take padded).drop len
    if bs.length < 8 + padded ∨ numAt bs 1 3 ≠ 0 ∨ pad.any (· != 0) then none
    else (parseSections fuel (bs.drop (8 + padded))).map (⟨numAt bs 0 1, (bs.drop 8).take len⟩ :: ·)

/-- The runs of a section's body (R419); nothing where their form is broken. -/
def parseRuns : Nat → List Byte → Option (List Run)
  | _, [] => some []
  | 0, _ :: _ => none
  | fuel + 1, bs =>
    let kind := numAt bs 6 1
    let n := numAt bs 8 4 * (if kind = 1 then 32 else 4)
    if bs.length < 16 + n ∨ 1 < kind ∨ numAt bs 7 1 ≠ 0 ∨ numAt bs 12 4 ≠ 0 then none
    else
      let r : Run := ⟨numAt bs 0 4, numAt bs 4 2, kind = 1, dwords ((bs.drop 16).take n)⟩
      (parseRuns fuel (bs.drop (16 + n))).map (r :: ·)

/-- The section types (R74). (Log: 46 DEDUCED) -/
def secMeta : Nat := 1
@[inherit_doc secMeta] def secFault : Nat := 2
@[inherit_doc secMeta] def secThermal : Nat := 3
@[inherit_doc secMeta] def secDieType : Nat := 4
@[inherit_doc secMeta] def secSite : Nat := 5
@[inherit_doc secMeta] def secLevels : Nat := 6
@[inherit_doc secMeta] def secTiming : Nat := 7
@[inherit_doc secMeta] def secLocus : Nat := 8
@[inherit_doc secMeta] def secGenerator : Nat := 9
@[inherit_doc secMeta] def secRings : Nat := 10
@[inherit_doc secMeta] def secRegs : Nat := 11
@[inherit_doc secMeta] def secFlow : Nat := 12

/-- Does the range of a run lie between two places, the second not included? -/
def Run.within (r : Run) (lo hi : Nat) : Bool := lo ≤ r.target && r.target % 4 = 0 && r.target + 4 * r.data.length ≤ hi

/-- The runs that a section admits (R419). (Log: 46 DEDUCED) -/
def runAdmitted (type : Nat) (r : Run) : Bool :=
  let hub := r.facets = 0 && !r.ucode
  let fct := r.facets ≠ 0 && !r.ucode
  match type with
  | 4 => hub && r.within 0x3E0000 0x3E0400
  | 5 => (hub && r.within 0x600000 0x628000) || (fct && r.within 0x7E000 0x7E200)
  | 6 => fct && r.within 0x60000 0x61200
  | 7 => fct && (r.within 0x64000 0x64C00 || r.within 0x65000 0x65060)
  | 8 =>
    (r.facets ≠ 0 && r.ucode && decide (r.target + r.data.length / 8 ≤ 65536)) || (fct && r.within 0x68008 0x6A000)
  | 9 => fct && (r.within 0x40000 0x50000 || r.within 0x6C000 0x6F000)
  | 10 => hub && r.within 0x100000 0x200000
  | _ => false

/-- The body of the section of a type, if there is one. -/
def bodyOf (ss : List Section) (type : Nat) : Option (List Byte) := (ss.find? fun x => x.type = type).map (·.body)

/-- The runs of a section's body. -/
def runsOf (bs : List Byte) : Option (List Run) := parseRuns (bs.length + 1) bs

/-- Is a section's body well formed (R418, R419)? `n` is the profile's number. -/
def sectionGood (n : Nat) (x : Section) : Bool :=
  match x.type with
  | 1 => x.body.length = 36 && numAt x.body 0 1 = n && numAt x.body 2 2 = 0
  | 2 => x.body.length = 1028
  | 3 => x.body.length = 20
  | 11 => x.body.length % 8 = 0
  | 12 => 8 ≤ x.body.length
  | t => 4 ≤ t && t ≤ 10 && (match runsOf x.body with | some rs => rs.all (runAdmitted t) | none => false)

/-- The entries of a REGS section. -/
def regEntries (bs : List Byte) : List (Nat × Nat) :=
  (List.range (bs.length / 8)).map fun i => (numAt bs (8 * i) 4, numAt bs (8 * i + 4) 4)

/-- The bits of the doubleword at `a` that no field owns. -/
def reservedBits (a : Nat) : Nat :=
  match rowAt a with
  | some (r, high) => andNot 0xFFFFFFFF (ownedMask r / (if high then 2 ^ 32 else 1) % 2 ^ 32)
  | none => 0xFFFFFFFF

/-- The REGS check (R75): every entry names an implemented register, agrees with a read in the reserved bits, and 64-bit fields
come as pairs, low word first. -/
def checkRegs : List (Nat × Nat) → State → Bool × State
  | [], s => (true, s)
  | [(a, v)], s =>
    if !s.implemented a || a % 4 != 0 || (rowAt a).any (fun r => r.1.quad) then (false, s)
    else
      let (x, s) := readDword .apex a 0xF s
      ((x ^^^ v) &&& reservedBits a == 0, s)
  | (a, v) :: (b, w) :: rest, s =>
    if !s.implemented a || a % 4 != 0 then (false, s)
    else
      let (x, s) := readDword .apex a 0xF s
      if (x ^^^ v) &&& reservedBits a != 0 then (false, s)
      else if lowOfPair a then
        let (y, s) := readDword .apex (a + 4) 0xF s
        if b = a + 4 ∧ (y ^^^ w) &&& reservedBits (a + 4) = 0 then checkRegs rest s else (false, s)
      else if (rowAt a).any (fun r => r.1.quad) then (false, s)
      else checkRegs ((b, w) :: rest) s

/-! ## Verifying -/

/-- The container of profile `n`, if its region exists (R391). -/
def State.profileImage (s : State) (n : Nat) : Option (List Byte) :=
  (s.region 3 n).map fun e =>
    let len := 288 + s.flashWord (e.offset + 20) 4
    s.flashBytes e.offset (if len ≤ e.length then len else min 192 e.length)

/-- The sections of a container's payload. -/
def profileSections (c : List Byte) : Option (List Section) :=
  let bs := payloadOf c
  parseSections (bs.length + 1) bs

/-- Verify profile `n` (R72, R75, R77, R410): the PROF_RESULT code, and its container and sections when that is OK. -/
def verifyProfile (n : Nat) (s : State) : Nat × List Byte × List Section × State :=
  match s.profileImage n with
  | none => (profNotPresent, [], [], s)
  | some c =>
    if !containerForm 2 c then (profFormat, [], [], s)
    else if !s.containerTrusted 2 c then (profAuthFail, [], [], s)
    else
      match profileSections c with
      | none => (profFormat, [], [], s)
      | some ss =>
        let types := ss.map (·.type)
        if !types.contains secMeta || hasTwice types || !ss.all (sectionGood n) then (profFormat, [], [], s)
        else
          let (ok, s) := checkRegs (regEntries ((bodyOf ss secRegs).getD [])) s
          if ok then (profOk, c, ss, s) else (profFormat, [], [], s)

/-! ## Loading -/

/-- Firmware writes doublewords from `a` up, with the Apex guard opened per write (R75). -/
def loadWords (a : Nat) (ds : List Nat) (s : State) : State :=
  setGuard .apex false (writeItems .apex true a (ds.map fun d => (d, 0xF)) s)

/-- Firmware writes a run (R419). (Log: 46 DEDUCED) -/
def loadRun (r : Run) (s : State) : State :=
  if r.facets = 0 then loadWords r.target r.data s
  else
    (setBits s.facets r.facets).foldl (fun s f =>
      if r.ucode then
        { s with ucode := Memory.putBytes s.ucode (ucodeAddr f r.target) (r.data.flatMap (leBytes 4)) }
      else loadWords (0x1000000 + f * 0x80000 + r.target) r.data s) s

/-- Firmware writes the section of a type that consists of runs. -/
def loadRuns (ss : List Section) (type : Nat) (s : State) : State :=
  match bodyOf ss type with
  | some b => ((runsOf b).getD []).foldl (fun s r => loadRun r s) s
  | none => s

/-- Firmware writes the entries of a REGS section. -/
def loadRegs : List (Nat × Nat) → State → State
  | [], s => s
  | [(a, v)], s => loadWords a [v] s
  | (a, v) :: (b, w) :: rest, s =>
    if lowOfPair a then loadRegs rest (loadWords a [v, w] s) else loadRegs ((b, w) :: rest) (loadWords a [v] s)

/-- The immediate update of every present island (R75 step 5). An update that software has armed takes place first. (Log: 45 DEDUCED) -/
def loadUpdate (s : State) : State := finishUpdate (armUpdate .apex 0x3FFFF false (finishUpdate s))

/-- The COMMIT of the site map (R75 step 6), and whether the map took effect. (Log: 45 DEDUCED) -/
def loadCommit (s : State) : Bool × State :=
  let s := if s.siteRuns then concludeCheck s else s
  let s := concludeCheck (startCommit s)
  (s.get ARC_SITE_STAT_RESULT = sitePass, s)

/-- Flag `i` of META: 0 AUTORUN, 1 HOST_LOCK, 2 CAPMODE (R418). -/
def metaFlag (ss : List Section) (i : Nat) : Bool := (numAt ((bodyOf ss secMeta).getD []) 1 1).testBit i

/-- The FAULT section (R418): FCL_SRC_CFG and FCL_SRC_W of the 128 sources, then FCL_GRACE. -/
def loadFault (b : List Byte) (s : State) : State :=
  let ds := dwords b
  loadWords FCL_GRACE (ds.drop 256) (loadWords (FCL_SRC_CFG 0) (ds.take 256) s)

/-- Load the sections of a verified profile (R75, R76): `boot` says that it is the boot's profile. The result is OK or
SITE_FAIL. (Log: 45 DEDUCED) -/
def loadProfile (boot : Bool) (c : List Byte) (ss : List Section) (s : State) : Nat × State :=
  let s := if boot then match bodyOf ss secFault with | some b => loadFault b s | none => s else s
  let s := match bodyOf ss secThermal with | some b => loadWords THM_WARN_CFG (dwords b) s | none => s
  let s := loadRuns ss secSite (loadRuns ss secDieType s)
  let s := loadRuns ss secLocus (loadRuns ss secTiming (loadRuns ss secLevels s))
  let s := loadRuns ss secRings (loadRuns ss secGenerator s)
  let s := match bodyOf ss secRegs with | some b => loadRegs (regEntries b) s | none => s
  let (ok, s) := loadCommit (loadUpdate s)
  let cap := bit01 (metaFlag ss 2)
  let s :=
    if boot then (s.set FCL_STAT_CAPMODE cap).set APX_BOOT_STAT_CAPMODE cap
    else s.set APX_BOOT_STAT_CAPMODE_DIFFERS (bit01 (s.get FCL_STAT_CAPMODE ≠ cap))
  let s := s.set APX_BOOT_STAT_HOST_LOCK (bit01 (metaFlag ss 1))
  let x : Running := { s.apex.run with profile := sha384 c, flow := (bodyOf ss secFlow).isSome, auto := metaFlag ss 0 }
  let s := { s with apex := { s.apex with run := x } }
  if ok then (profOk, s) else (profSiteFail, s)

/-- Step 8 of BOOT (R71, R72): the profile that PROF selected, and its PROF_RESULT. -/
def bootProfile (s : State) : State :=
  let (result, c, ss, s) := verifyProfile (s.get GLB_MODE_PROFILE) s
  let (result, s) := if result = profOk then loadProfile true c ss s else (result, s)
  s.set APX_BOOT_STAT_PROF_RESULT result

/-! ## SELECT_PROFILE (R77) -/

/-- The registers whose configuration SELECT_PROFILE resets: the thermal thresholds and budget, Arc, the wall clock
and the chuck temperature among it, Lattice, acquisition, the ring contexts, DMA, the site tables, and the facets but for their
trims. What belongs to the PCIe function, and the windows onto memories, are no configuration. (Log: 45 DEDUCED) -/
def profileOwned (a : Nat) : Bool :=
  (0x30020 ≤ a && a < 0x30034) || (0x100000 ≤ a && a < 0x210000) || (0x220000 ≤ a && a < 0x2F0000) ||
  (0x300000 ≤ a && a < 0x500000) || (0x600000 ≤ a && !isTrim a && a < 0x1800000)

/-- What is held of a facet after its configuration has been reset: the grid of the reset values. -/
def resetGrid (f : Nat) (s : State) : State :=
  let s := modFct f (fun x => { Facet.init with awake := x.awake, corrected := x.corrected, inbox := x.inbox, queue := x.queue }) s
  let s := ((s.set (FCT_RATE_ACTIVE f) 0).set (FCT_TIMING_STAT_ANCHOR_DEFERRED f) 0).set (FCT_LS_STAT_BAD f) 0
  (s.set (FCT_TS_BAD_BAD f 0) 0).set (FCT_TS_BAD_BAD f 1) 0

/-- The units that measure and play are stopped before their configuration goes (R77 step 3). -/
def stopTestUnits (s : State) : State :=
  let s := (List.range 16).foldl (fun s u => if s.aqState u = aqIdle then s else stopUnit u s) s
  let s := (List.range s.facets).foldl (fun s f => abortMeasurements f (haltWaves f s)) s
  let s := (s.touchedChannels).foldl (fun s c => abortPmu c s) s
  let live := (s.regs.filterMap fun e => if 0x100000 ≤ e.1 ∧ e.1 < 0x200000 then some ((e.1 - 0x100000) / 0x40) else none).eraseDups
  live.foldl (fun s n => if s.on (RNG_CTRL_ENABLE n) then disableRing n (dropHead n s) else s) s

/-- Step 3 of SELECT_PROFILE: the configuration of the test-facing blocks returns to its reset values. (Log: 45 DEDUCED) -/
def resetTestBlocks (s : State) : State :=
  let s := stopTestUnits s
  let s := s.clearFields [.rw, .sh, .gd, .w1s] profileOwned
  let s := { s with map := [], ucode := [], shadow := [] }
  let s := s.set ARC_SITE_STAT_VALID 0
  let s := markEdited s
  refreshPower (remark ((List.range s.facets).foldl (fun s f => resetGrid f s) s))

/-- SELECT_PROFILE after its QUEUED response (R77): the final status. (Log: 45 DEDUCED) -/
def selectProfile (n : Nat) (s : State) : Nat × State :=
  let (result, c, ss, s) := verifyProfile n s
  if result = profNotPresent then (stNotPresent, s)
  else if result = profAuthFail then (stAuthFail, s)
  else if result = profFormat then (stBadArg, s)
  else
    let (result, s) := loadProfile false c ss (resetTestBlocks s)
    let s := (s.set GLB_MODE_PROFILE n).set GLB_MODE_PROFILE_SRC 1
    let s := s.set APX_BOOT_STAT_PROF_RESULT result
    (if result = profOk then stOk else stBadArg, s)

end Sys2Proof.Machine
end

