-- ==== Sys2Proof/Machine/Mailbox.lean ====
section
/-!
DEFINITION. The mailbox commands (R79 to R81): their legality, the tests that can refuse them, and their effects; the
end of BOOT (R71); and the core's watchdog (R404).
-/

namespace Sys2Proof.Machine
open Sys2Proof.Reg

/-! ## Legality (R80, R81) -/

/-- The opcodes (R81). -/
def opStatus : Nat := 0x00
@[inherit_doc opStatus] def opGoIdle : Nat := 0x01
@[inherit_doc opStatus] def opGoHost : Nat := 0x02
@[inherit_doc opStatus] def opGoAuto : Nat := 0x03
@[inherit_doc opStatus] def opGoDoze : Nat := 0x04
@[inherit_doc opStatus] def opEnterSafe : Nat := 0x05
@[inherit_doc opStatus] def opClearSafe : Nat := 0x06
@[inherit_doc opStatus] def opClearShutdown : Nat := 0x07
@[inherit_doc opStatus] def opSelectProfile : Nat := 0x08
@[inherit_doc opStatus] def opReboot : Nat := 0x09
@[inherit_doc opStatus] def opCalibrate : Nat := 0x10
@[inherit_doc opStatus] def opSelftest : Nat := 0x11
@[inherit_doc opStatus] def opLogCompact : Nat := 0x12
@[inherit_doc opStatus] def opFwStage : Nat := 0x13
@[inherit_doc opStatus] def opTrimRefresh : Nat := 0x14
@[inherit_doc opStatus] def opSealing : Nat := 0x18
@[inherit_doc opStatus] def opAttest : Nat := 0x19

/-- Legality in the modes I, H, A, C, D, S of R81: 0 illegal, 1 legal, 2 legal with no effect; nothing for an unassigned
opcode. -/
def opcodeRow (op : Nat) : Option (List Nat) :=
  match op with
  | 0x00 => some [1, 1, 1, 1, 1, 1]
  | 0x01 => some [2, 1, 1, 0, 1, 0]
  | 0x02 => some [1, 2, 0, 0, 0, 0]
  | 0x03 => some [1, 0, 2, 0, 0, 0]
  | 0x04 => some [1, 0, 0, 0, 2, 0]
  | 0x05 => some [1, 1, 1, 1, 1, 2]
  | 0x06 => some [0, 0, 0, 0, 0, 1]
  | 0x07 => some [1, 1, 1, 1, 1, 1]
  | 0x08 => some [1, 0, 0, 0, 0, 0]
  | 0x09 => some [1, 1, 1, 1, 1, 1]
  | 0x10 => some [1, 0, 0, 1, 0, 0]
  | 0x11 => some [1, 0, 0, 1, 0, 0]
  | 0x12 => some [1, 1, 1, 1, 0, 0]
  | 0x13 => some [1, 0, 0, 0, 0, 1]
  | 0x14 => some [1, 0, 0, 1, 0, 0]
  | 0x18 => some [1, 1, 1, 0, 0, 1]
  | 0x19 => some [1, 1, 1, 0, 0, 1]
  | _ => none

/-- The legality of an opcode now: in the NO_FIRMWARE state only STATUS, FW_STAGE and REBOOT are legal (R81). -/
def State.legality (s : State) (op : Nat) : Nat :=
  if s.mode = modeSafe ∧ s.on APX_SAFE_CAUSE_NO_FIRMWARE ∧ op ∉ [opStatus, opFwStage, opReboot] then 0
  else ((opcodeRow op).getD []).getD (s.mode - 2) 0

/-- Argument `i` of a command. -/
def Cmd.arg (c : Cmd) (i : Nat) : Nat := c.args.getD i 0

/-- Step 3 of R80: the guard of the host slot, what the SMBus slot may never ask, and HOST_LOCK (R78). -/
def State.denied (s : State) (c : Cmd) : Bool :=
  if c.slot = 0 then
    (c.opcode ∈ [opSelectProfile, opFwStage, opReboot] && !c.guarded) ||
    (s.on APX_BOOT_STAT_HOST_LOCK && s.mode = modeAuto && c.opcode ∈ [opGoIdle, opReboot])
  else c.opcode ∈ [opSelectProfile, opFwStage]

/-- Is a transition, a contact test or a COMMIT in progress (R70)? (Log: 38 DEDUCED) -/
def State.inTransition (s : State) : Bool :=
  s.arc.drain != 0 || s.therm.stage != 0 || s.contact.isSome || s.on ARC_SITE_CTRL_COMMIT

/-- The commands that change mode or profile, but for ENTER_SAFE and REBOOT, which R70 treats for themselves. (Log: 38 DEDUCED) -/
def changesMode (op : Nat) : Bool :=
  op ∈ [opGoIdle, opGoHost, opGoAuto, opGoDoze, opClearSafe, opSelectProfile, opCalibrate, opSelftest]

/-- Does a cause of SAFE remain (R67)? (Log: 42 DEDUCED) -/
def State.causeRemains (s : State) : Bool :=
  (s.on APX_SAFE_CAUSE_FAULT && s.on FCL_ESC_LATCHED) || (s.on APX_SAFE_CAUSE_SHUTDOWN && s.on THM_LEVEL_SHUTDOWN) ||
  s.on APX_SAFE_CAUSE_NO_FIRMWARE

/-- Is the calibration-bus queue, or the NVM queue, full (R369)? -/
def State.calFull (s : State) : Bool := 4 ≤ s.maint.calq.length
@[inherit_doc State.calFull] def State.nvmFull (s : State) : Bool := 4 ≤ s.nvmCount

/-- Step 4 of R80 (R70, R75, R369, R370, R423). (Log: 38 DEDUCED) -/
def State.conflicts (s : State) (c : Cmd) : Bool :=
  (changesMode c.opcode && s.inTransition) ||
  (c.opcode ∈ [opGoHost, opGoAuto, opGoDoze, opSelectProfile] && (s.calBusy || s.staging)) ||
  (c.opcode = opGoDoze && s.maint.nvmq != []) ||
  (c.opcode ∈ [opCalibrate, opSelftest] && (s.staging || s.calFull)) ||
  (c.opcode = opTrimRefresh && (s.calFull || s.nvmFull)) ||
  (c.opcode ∈ [opLogCompact, opFwStage] && s.nvmFull) ||
  (c.opcode = opSelectProfile && s.on GLB_UPDATE_STAT_ARMED) ||
  (c.opcode = opClearSafe && s.causeRemains) ||
  (c.opcode = opSealing && c.arg 0 = 0 && s.apex.lot.isSome)

/-- Arguments out of range (step 5 of R80): R77, R348, R360, R366, R417, R423. -/
def State.argsBad (s : State) (c : Cmd) : Bool :=
  let absent := andNot (c.arg 0 % 2 ^ 16) s.facetMask != 0
  match c.opcode with
  | 0x07 => c.arg 0 != 0
  | 0x08 => 7 < c.arg 0
  | 0x10 =>
    let pmi := (c.arg 0).testBit 16
    decide (2 ^ 17 ≤ c.arg 0) || decide (8 ≤ c.arg 1) || decide (2 ≤ c.arg 2) || absent ||
    (c.arg 0 % 2 ^ 16 = 0 && !pmi) || (c.arg 1 = 0 && !pmi)
  | 0x11 => decide (2 ^ 16 ≤ c.arg 0) || c.arg 0 = 0 || absent || c.arg 1 != 0 || decide (2 ≤ c.arg 2)
  | 0x13 =>
    andNot (c.arg 0) 0x103 != 0 || c.arg 0 % 4 = 3 || ((c.arg 0).testBit 8 && !s.on APX_SAFE_CAUSE_NO_FIRMWARE) ||
    (c.arg 0 % 4 = 0 && !(384 ≤ c.arg 1 && c.arg 1 ≤ 520192)) || (c.arg 0 % 4 = 1 && !(1 ≤ c.arg 2 && c.arg 2 ≤ 32768))
  | 0x18 => 3 ≤ c.arg 0
  | _ => false

/-- Step 5 of R80: bad arguments, no valid map (R46), or no FLOW. -/
def State.badArg (s : State) (c : Cmd) : Bool :=
  s.argsBad c || (c.opcode ∈ [opGoHost, opGoAuto] && !s.on ARC_SITE_STAT_VALID) || (c.opcode = opGoAuto && !s.apex.run.flow)

/-- The refusal of a command at steps 1 to 5 of R80, if there is one. -/
def State.refusal (s : State) (c : Cmd) : Option Nat :=
  if opcodeRow c.opcode = none then some stBadArg
  else if s.legality c.opcode = 0 then some stIllegal
  else if s.denied c then some stDenied
  else if s.conflicts c then some stBusy
  else if s.badArg c then some stBadArg
  else none

/-! ## Effects -/

/-- The immediate final response of a command. (Log: 43 DEDUCED) -/
def answer (c : Cmd) (status d0 d1 : Nat) (s : State) : State := respond c true status false d0 d1 s

/-- Answer QUEUED: the final status is owed. -/
def answerQueued (c : Cmd) (s : State) : State :=
  respond c true stQueued false 0 0 { s with apex := { s.apex with jobs := s.apex.jobs ++ [c] } }

/-- STATUS. (Log: 133 DEDUCED) -/
def doStatus (c : Cmd) (s : State) : State :=
  answer c stOk (s.reg GLB_MODE).toNat (s.reg APX_SAFE_CAUSE).toNat s

/-- GO_IDLE (R66, R68). -/
def doGoIdle (c : Cmd) (s : State) : State :=
  if s.mode = modeDoze then answer c stOk 0 0 (wakeUp s)
  else
    let s := beginDrainIdle (answerQueued c s)
    drainComplete s

/-- ENTER_SAFE (R330, R331): the entry that an escalation makes, with cause COMMAND. While a shutdown sequence runs, the sequence
goes on to SAFE and the cause is added (R351). -/
def doEnterSafe (c : Cmd) (s : State) : State :=
  let s := s.set APX_SAFE_CAUSE_CMD_CAUSE (c.arg 0)
  answer c stOk 0 0 (if s.therm.stage = 0 then goSafe APX_SAFE_CAUSE_COMMAND s else s.raise APX_SAFE_CAUSE_COMMAND)

/-- CLEAR_SAFE (R67): the transition clears APX_SAFE_CAUSE. It can be the first entry to IDLE of a BOOT (R416). (Log: 34 DEDUCED, 42 DEDUCED) -/
def doClearSafe (c : Cmd) (s : State) : State :=
  answer c stOk 0 0 (confirmSlot (acqModeChange (enterMode modeIdle (s.setReg APX_SAFE_CAUSE (rstWord APX_SAFE_CAUSE)))))

/-- CLEAR_SHUTDOWN (R348). -/
def doClearShutdown (c : Cmd) (s : State) : State :=
  if !s.on THM_LEVEL_SHUTDOWN then answer c stOk 2 0 s
  else if (880 : Int) ≤ (s.therm.recent.headD 0) ∨ s.on THM_LEVEL_SENS_FROZEN then answer c stOk 0 0 s
  else answer c stOk 1 0 (deassertLine 119 (s.set THM_LEVEL_SHUTDOWN 0))

/-- SELECT_PROFILE (R77). (Log: 45 DEDUCED) -/
def doSelectProfile (c : Cmd) (s : State) : State :=
  let (status, s) := selectProfile (c.arg 0) (answerQueued c s)
  finishJob c status 0 s

/-- FW_STAGE (R417). -/
def doFwStage (c : Cmd) (s : State) : State :=
  let w : NvmWork := match c.arg 0 % 4 with
    | 0 => .stageBegin (c.arg 1)
    | 1 => .stageChunk (c.arg 1) (c.arg 2)
    | _ => .stageCommit
  queueNvm w (some c) (answerQueued c s)

/-- SEAL (R423, R425): 0 OPEN, 1 SEAL, 2 CLOSE. -/
def doSeal (c : Cmd) (s : State) : State :=
  let s := answerQueued c s
  if c.arg 0 = 0 then finishJob c stOk 0 (openLot (c.arg 1) (c.arg 2) s)
  else
    match s.apex.lot with
    | none => finishJob c stNotPresent 0 s
    | some l => if c.arg 0 = 1 then startSeal l 0 (some c) s else closeLot (startSeal l 2 (some c) s)

/-- The payload of an attestation report (R422). (Log: 132 DEDUCED) -/
def attestPayload (c : Cmd) (s : State) : List Byte :=
  let w (a : Nat) : List Byte := leBytes 4 (s.reg a).toNat
  let x := s.apex.run
  let count : Nat := if x.record = [] then 0 else s.get CAL_COUNT_COUNT
  c.args.flatMap (leBytes 4) ++ leBytes 8 (s.get GLB_SERIAL_SERIAL) ++ w GLB_IDENT ++
  leBytes 1 (s.get APX_BOOT_STAT_FW_SLOT) ++ leBytes 1 (s.get APX_FW_SVN_ROLLBACK) ++ leBytes 1 (s.get APX_FW_SVN_SVN) ++ [0] ++
  w APX_FW_VERSION ++ fit 48 x.image ++
  leBytes 2 (s.get GLB_MODE_PROFILE) ++ leBytes 2 (s.get APX_BOOT_STAT_PROF_RESULT) ++ fit 48 x.profile ++
  leBytes 4 count ++ fit 48 x.record ++ w GLB_MODE ++ w APX_SAFE_CAUSE ++ w FCL_ESC ++
  leBytes 8 (s.now / 256 * 256) ++ leBytes 8 s.wallTime ++ leBytes 4 (s.get APX_KEY_STAT_PROGRAMMED) ++ List.replicate 4 0

/-- ATTEST (R422): the report is written to its window. (Log: 132 DEDUCED) -/
def doAttest (c : Cmd) (s : State) : State :=
  let s := answerQueued c s
  let (r, s) := signContainer 4 (attestPayload c s) s
  let s := putRegBytes (APX_REPORT 0) 0x100 (fit 0x400 r) s
  pend 454 (finishJob c stOk r.length s)

/-- The effect of a command that no test refuses. -/
def perform (c : Cmd) (s : State) : State :=
  if s.legality c.opcode = 2 then answer c stOk 0 0 s
  else
    match c.opcode with
    | 0x00 => doStatus c s
    | 0x01 => doGoIdle c s
    | 0x02 => answer c stOk 0 0 (enterRunning modeHost s)
    | 0x03 => answer c stOk 0 0 (enterAuto s)
    | 0x04 => answer c stOk 0 0 (enterDoze s)
    | 0x05 => doEnterSafe c s
    | 0x06 => doClearSafe c s
    | 0x07 => doClearShutdown c s
    | 0x08 => doSelectProfile c s
    | 0x09 => askReboot s
    | 0x10 => queueCal 1 c (answerQueued c s)
    | 0x11 => queueCal 2 c (answerQueued c s)
    | 0x12 => queueNvm .compact (some c) (answerQueued c s)
    | 0x13 => doFwStage c s
    | 0x14 => queueCal 3 c (answerQueued c s)
    | 0x18 => doSeal c s
    | _ => doAttest c s

/-- Apex serves one command (R80). -/
def serve (c : Cmd) (s : State) : State :=
  match s.refusal c with
  | some status =>
    let s := if status = stIllegal then s.countSat APX_CMD_REJECT_COUNT_COUNT 1 else s
    answer c status 0 0 s
  | none => perform c s

/-- Serve commands in the order of their GO writes; a REBOOT among them resets the slots of those behind it. -/
def serveAll : List Cmd → State → State
  | [], s => s
  | c :: cs, s => if s.mode ≤ modeBoot then s else serveAll cs (serve c s)

/-- Apex serves the commands that wait: not in RESET or BOOT, where they keep waiting, nor once a REBOOT has been taken. -/
def serveMailbox (s : State) : State :=
  if s.mode ≤ modeBoot ∨ s.apex.reboot then s
  else serveAll s.apex.waiting { s with apex := { s.apex with waiting := [] } }

/-! ## The end of BOOT (R71, R330, R348) -/

/-- The offset calibration of step 6: the offsets measured, by island. -/
def bootReplicas (ofs : List Int) (s : State) : State := endRecal ofs (startRecal s)

/-- The last entry to IDLE of a BOOT: the slot is confirmed (R416), a shutdown latch that stands acts (R348), and autorun enters
AUTO (R71 step 11). (Log: 34 DEDUCED) -/
def bootIdle (s : State) : State :=
  let s := resumeShutdown (confirmSlot (acqModeChange (enterMode modeIdle s)))
  if s.mode = modeIdle ∧ s.therm.stage = 0 ∧ s.apex.run.auto ∧ s.on ARC_SITE_STAT_VALID ∧ s.apex.run.flow then
    (enterAuto s).set APX_BOOT_STAT_AUTORUN 1
  else s

/-- BOOT ends (R71): `ofs` are the replica offsets measured in step 6. Without a firmware the part enters SAFE in step 5. (Log: 32 DEDUCED, 33 DEDUCED) -/
def finishBoot (ofs : List Int) (s : State) : State :=
  if s.mode ≠ modeBoot ∨ !s.on AXS_STAT_LOCKED then s
  else if s.get APX_BOOT_STAT_FW_RESULT = 2 then
    let s := s.raiseIf APX_SAFE_CAUSE_FAULT (s.on FCL_ESC_LATCHED)
    acqModeChange (enterMode modeSafe (s.raise APX_SAFE_CAUSE_NO_FIRMWARE))
  else
    let s := bootTrims (bootProfile (bootReplicas ofs s))
    let s := resumeLog s
    let (v, s) := s.fresh
    let s := logEvent logBoot v [] s
    let s := s.set APX_BOOT_TIME_US ((s.elapsed - s.apex.bootAt) / 256 / 1600)
    if s.on FCL_ESC_LATCHED then acqModeChange (enterMode modeSafe (s.raise APX_SAFE_CAUSE_FAULT))
    else bootIdle (startAlive false s)

/-! ## The watchdog (R404) -/

/-- The core watchdog expires: fault source 97 records an event; in BOOT it acts as REBOOT, otherwise the commands in progress
end. (Log: 39 DEDUCED, 138 DESIGN CHOICE) -/
def watchdogExpires (s : State) : State :=
  if s.mode = modeReset then s
  else
    let s := pulseLine 97 s
    if s.mode = modeBoot then askReboot s else abandonJobs s

end Sys2Proof.Machine
end

