-- ==== Sys2Proof/Machine/Smbus.lean ====
section
/-!
DEFINITION. The SMBus target (R393 to R398, R443): its pages, staged writes, reads, packet error codes and the alert; and
the JTAG port (R444).
-/

namespace Sys2Proof.Machine
open Sys2Proof.Reg

/-! ## SMBus -/

/-- The target's address (R400). -/
def State.smbAddr (s : State) : Nat := if 0x7E < s.get SPN_SMB_CFG_ADDR then 0x4C else s.get SPN_SMB_CFG_ADDR

/-- Change what the SMBus target holds. -/
def modSmb (g : SmbState → SmbState) (s : State) : State := { s with smb := g s.smb }

/-- The packet error code of a list of bytes: CRC-8 with polynomial 0x07. (Log: 134 PRESUMED) -/
def packetCode (bs : List Nat) : Nat :=
  bs.foldl (fun c b => (List.range 8).foldl (fun c _ =>
    if c.testBit 7 then ((c * 2) % 256) ^^^ 0x07 else (c * 2) % 256) (c ^^^ b % 256)) 0

/-- A flag of SMB_STAT sets; source 468 pends when it was 0 (R401). (Log: 28 DEDUCED) -/
def raiseSmb (f : Fld) (s : State) : State := pendIf (!s.on f) 468 (s.raise f)

/-- Is a packet error code right, where one is expected (R397)? -/
def State.codeGood (s : State) (bs : List Nat) (code : Nat) : Bool := !s.on SPN_SMB_CFG_PEC_EN || packetCode bs = code

/-- A Send Byte to ADDR + 1 selects the page (R393). (Log: 136 DEDUCED) -/
def smbSelect (addr page code : Nat) (s : State) : State :=
  if !s.pins.aon then s
  else if addr ≠ s.smbAddr + 1 then s.send .smbusNack
  else if s.codeGood [2 * addr, page] code then modSmb (fun x => { x with page := page % 256 }) s
  else raiseSmb SPN_SMB_STAT_PEC_ERR s

/-- A Receive Byte from ADDR + 1 returns the page in force. -/
def smbPage (addr : Nat) (s : State) : State :=
  if !s.pins.aon then s
  else if addr ≠ s.smbAddr + 1 then s.send .smbusNack
  else
    let out := [s.smb.page]
    let out := if s.on SPN_SMB_CFG_PEC_EN then out ++ [packetCode ((2 * addr + 1) :: out)] else out
    s.send (.smbus (out.map (BitVec.ofNat 8)))

/-- The BAR0 address of a doubleword of a page, if a register stands there (R394). -/
def pageAddr (page d : Nat) : Option Nat :=
  match page with
  | 0 => ([GLB_IDENT, GLB_MODE, APX_SAFE_CAUSE, THM_TEMP, THM_LEVEL, FCL_ESC, FCL_ALIVE, SPN_SMB_STAT, GLB_SERIAL, GLB_SERIAL + 4,
      AXS_NOW, AXS_NOW + 4])[d]?
  | 1 => if d < 10 ∧ d ≠ 5 then some (APX_CMD 1 + 4 * d) else none
  | 3 => some (THM_TEMP + 4 * d)
  | _ => none

/-- A doubleword of a page as it is latched (R395). -/
def pageDword (page d : Nat) (s : State) : Nat × State :=
  match pageAddr page d with
  | none => (0, s)
  | some a =>
    match rowAt a with
    | some (r, true) =>
      let (v, s) := readWhole (a - 4) (some r) s
      (v / 2 ^ 32, s)
    | some (r, false) =>
      let (v, s) := readWhole a (some r) s
      (v % 2 ^ 32, s)
    | none => readWhole a none s

/-- The bytes from offset `o` up of the page in force (R394 to R396): `held` is the doubleword in the latch. Past 0xFF they are
0x00, and OVERRUN sets. -/
def pageBytes : Nat → Nat → Option (Nat × Nat) → State → List Nat × State
  | 0, _, _, s => ([], s)
  | n + 1, o, held, s =>
    if 0xFF < o then
      let (bs, s) := pageBytes n o held (raiseSmb SPN_SMB_STAT_OVERRUN s)
      (0 :: bs, s)
    else
      match held with
      | some (d, v) =>
        if d = o / 4 then
          let (bs, s) := pageBytes n (o + 1) held s
          (bitsAt v (8 * (o % 4)) 8 :: bs, s)
        else
          let (v, s) := pageDword s.smb.page (o / 4) s
          let (bs, s) := pageBytes n (o + 1) (some (o / 4, v)) s
          (bitsAt v (8 * (o % 4)) 8 :: bs, s)
      | none =>
        let (v, s) := pageDword s.smb.page (o / 4) s
        let (bs, s) := pageBytes n (o + 1) (some (o / 4, v)) s
        (bitsAt v (8 * (o % 4)) 8 :: bs, s)

/-- What a read clears once it has returned byte 0x1C of a page: SMB_STAT's flags (R400), or the wait of a response for its
reader (R398). (Log: 135 DEDUCED) -/
def afterPageRead (page o n : Nat) (s : State) : State :=
  if !(o ≤ 0x1C && 0x1C < o + n) then s
  else if page = 0 then
    ((s.set SPN_SMB_STAT_OVERRUN 0).set SPN_SMB_STAT_PEC_ERR 0).set SPN_SMB_STAT_BAD_WRITE 0
  else if page = 1 then modSmb (fun x => { x with unread := false }) s
  else s

/-- A read transaction from ADDR (R394 to R397): `n` bytes from command code `cmd`; with PEC it is a Block Read of BLOCK_LEN bytes. (Log: 135 DEDUCED) -/
def smbRead (addr cmd n : Nat) (s : State) : State :=
  if !s.pins.aon then s
  else if addr ≠ s.smbAddr then s.send .smbusNack
  else
    let pec := s.on SPN_SMB_CFG_PEC_EN
    let len := if s.get SPN_SMB_CFG_BLOCK_LEN = 0 then 32 else s.get SPN_SMB_CFG_BLOCK_LEN
    let n := if pec then len else n
    let page := s.smb.page
    let (bs, s) := pageBytes n cmd none s
    let s := afterPageRead page cmd n s
    let out := if pec then len :: bs ++ [packetCode ([2 * addr, cmd, 2 * addr + 1, len] ++ bs)] else bs
    s.send (.smbus (out.map (BitVec.ofNat 8)))

/-- Is a byte of a page writable (R394)? -/
def pageWritable (page o : Nat) : Bool := page = 1 && (o < 0x14 || (0x18 ≤ o && o < 0x1C))

/-- The bytes of a write from offset `o` up, `staged` holding those of the doubleword so far (R394 to R396): a doubleword is written
when its byte 3 is, with all four of its bytes staged. The answer is what stays staged. (Log: 135 DEDUCED) -/
def pageWrite : List Nat → Nat → List Nat → State → (Nat × List Nat) × State
  | [], o, staged, s => ((o, staged), s)
  | b :: bs, o, staged, s =>
    if 0xFF < o then pageWrite bs o [] (raiseSmb SPN_SMB_STAT_OVERRUN s)
    else if !pageWritable s.smb.page o then pageWrite bs (o + 1) [] (raiseSmb SPN_SMB_STAT_BAD_WRITE s)
    else
      let staged := if o % 4 = 0 then [b % 256] else staged ++ [b % 256]
      if o % 4 = 3 then
        let v := staged.zipIdx.foldl (fun v x => v + x.1 * 2 ^ (8 * x.2)) 0
        let s := if staged.length = 4 then write32 .smbus (APX_CMD 1 + o / 4 * 4) v s else s
        pageWrite bs (o + 1) [] s
      else pageWrite bs (o + 1) staged s

/-- A write transaction to ADDR (R394 to R397), or more of one that goes on: `ended` says that it ends with these bytes. With PEC
nothing is applied before the packet error code has been found right. -/
def smbWrite (addr cmd : Nat) (bytes : List Nat) (code : Nat) (ended : Bool) (s : State) : State :=
  if !s.pins.aon then s
  else if s.smb.open_.isNone && addr != s.smbAddr then s.send .smbusNack
  else
    let (o, held) := s.smb.open_.getD (cmd, [])
    let held := held.map (·.toNat)
    if s.on SPN_SMB_CFG_PEC_EN then
      let all := held ++ bytes
      if !ended then modSmb (fun x => { x with open_ := some (o, all.map (BitVec.ofNat 8)) }) s
      else
        let s := modSmb (fun x => { x with open_ := none }) s
        if s.codeGood ([2 * s.smbAddr, o] ++ all) code then (pageWrite all o [] s).2 else raiseSmb SPN_SMB_STAT_PEC_ERR s
    else
      let ((o, rest), s) := pageWrite bytes o held s
      modSmb (fun x => { x with open_ := if ended then none else some (o, rest.map (BitVec.ofNat 8)) }) s

/-- SMB_CLK has been held low for 25 ms (R443): the interface is reset and staged bytes are discarded. -/
def smbTimeout (s : State) : State := modSmb (fun x => { x with open_ := none }) s

/-- The conditions of the alert (R398). -/
def State.alertConditions (s : State) : Nat :=
  bit01 s.smb.unread + 2 * s.get THM_LEVEL_WARN + 4 * s.get FCL_ESC_LATCHED + 8 * s.get THM_LEVEL_SHUTDOWN

/-- The enabled conditions whose alert has not been released: SMB_ALERT_N is asserted while there is one (R398). -/
def State.alerts (s : State) : Nat := andNot (s.alertConditions &&& s.get SPN_SMB_CFG_ALERT_MASK) s.smb.acked

/-- A read of the Alert Response Address (R398). (Log: 136 DEDUCED) -/
def smbAlertResponse (s : State) : State :=
  if !s.pins.aon then s
  else if s.alerts = 0 then s.send .smbusNack
  else
    let a := s.alerts
    modSmb (fun x => { x with acked := x.acked ||| a }) (s.send (.smbus [BitVec.ofNat 8 s.smbAddr]))

/-- A condition that is over can newly arise. -/
def settleAlert (s : State) : State := modSmb (fun x => { x with acked := x.acked &&& s.alertConditions }) s

/-! ## JTAG (R444) -/

/-- Load an instruction: it takes control of the balls only while PERST# is asserted. (Log: 137 DEDUCED) -/
def loadIr (ir : Nat) (s : State) : State :=
  { s with jtag := { s.jtag with ir := ir, control := takesBalls ir && s.pins.perst } }

/-- A scan of the boundary register: what was sampled is shifted out, and the bits shifted in become its contents. (Log: 137 DEDUCED) -/
def scanBoundary (sampled bits : List Bool) (s : State) : State :=
  { s.send (.tdo sampled) with jtag := { s.jtag with boundary := bits } }

/-- A scan of the bypass register: one bit, captured as 0. (Log: 137 DEDUCED) -/
def scanBypass (bits : List Bool) (s : State) : State := s.send (.tdo ((false :: bits).take bits.length))

/-- An instruction that selects the boundary register and takes control, or acts as BYPASS. (Log: 137 DEDUCED) -/
def boundaryTest (ir : Nat) (sampled bits : List Bool) (s : State) : State :=
  let s := loadIr ir s
  if s.jtag.control then scanBoundary sampled bits s else scanBypass bits s

/-- The identification code. -/
def State.idCode (s : State) : Nat :=
  (s.get GLB_IDENT_STEPPING % 16) * 2 ^ 28 + (0x7C20 + s.get GLB_IDENT_MEMBER) * 2 ^ 12 + 0x5A3 * 2 + 1

end Sys2Proof.Machine
end

