-- ==== Sys2Proof/Machine/Settle.lean ====
section
/-!
DEFINITION. What follows of itself after every command: the faults that the command raised are taken, Arc takes the ends of
its measurements and judges its holds, Apex firmware serves the mailbox, answers that DOZE kept are acted on, and an alert or
a REBOOT that waited goes on. Each of these is immediate at the resolution of the model's commands.
-/

namespace Sys2Proof.Machine
open Sys2Proof.Reg

/-- Has a hold of some chord ended (R196)? -/
def State.holdEnded (s : State) : Bool :=
  s.arc.chords.any fun e => (s.chord e.1).held.isSome && !(s.templateHold e.1 || s.gridHold e.1)

/-- Nothing is left to follow of itself. Mailbox commands wait through RESET and BOOT (R80), and behind a REBOOT; what DOZE keeps
waits for its end (R207, R305). -/
def State.calm (s : State) : Bool :=
  s.pmuEnds.isEmpty && s.fcl.raised.isEmpty && !s.holdEnded &&
  (s.apex.waiting.isEmpty || decide (s.mode ≤ modeBoot) || s.apex.reboot) && (!s.apex.reboot || s.nvmProgramming) &&
  (s.mode = modeDoze || (s.dma.kept.isEmpty && s.arc.cancels.isEmpty)) &&
  s.on ARC_STAT_QUIET == s.quiet && andNot s.smb.acked s.alertConditions == 0

/-- ARC_CANCEL writes that came in DOZE act once the part is awake (R207). (Log: 3 DESIGN CHOICE, 41 DEDUCED) -/
def takeCancels (s : State) : State :=
  if s.mode = modeDoze then s
  else s.arc.cancels.foldl (fun s t => cancelTag t s) (modArc (fun a => { a with cancels := [] }) s)

/-- One round of what follows of itself. Up to 256 faults are taken; a source has at most one line event and one rail event
waiting. (Log: 3 DESIGN CHOICE) -/
def settleOnce (s : State) : State :=
  refreshQuiet (serveMailbox (settleReboot (settleAlert (takeCancels (takeKept (judgeHolds (settleFaults 256 (takePmuEnds s))))))))

/-- Rounds until nothing is left. (Log: 3 DESIGN CHOICE) -/
def settleRounds : Nat → State → State
  | 0, s => s
  | n + 1, s => if s.calm then s else settleRounds n (settleOnce s)

/-- What follows of itself after a command. A round can raise what the next one takes; four rounds are enough for a chain from a
measurement's end over a fault to an escalation and the commands that it answers. (Log: 3 DESIGN CHOICE) -/
def settle (s : State) : State := settleRounds 4 s

/-- The state that a command leaves whose effect gave `t`: what follows of itself is done, and the queue is as it was in `s`. (Log: 3 DESIGN CHOICE) -/
def leave (s t : State) : State := { settle t with pending := s.pending }

/-- A command: the clock advances, the command has its effect, and what follows of itself is done. (Log: 1 DESIGN CHOICE, 139 DESIGN CHOICE) -/
def act (dt : Nat) (f : State → State) (s : State) : Host.Outcome State Fault Refusal := .next (leave s (f (s.tick dt)))

end Sys2Proof.Machine
end

