-- ==== Sys2Proof/Machine/CmdGlobal.lean ====
section
/-!
DEFINITION. The commands of power, reset and clocks, of register accesses, of updates, of the site map and of the chuck (R29 to
R62, R70, R71, R107, R405, R434, R435).
-/

namespace Sys2Proof.Machine
open Sys2Proof.Reg

/-! ## Power, reset and clocks -/

/-- POWER_ON: VDD_AON comes up (R434 step 1). -/
def execPowerOn (dt : Nat) : State → Host.Outcome State Fault Refusal := act dt powerOn

/-- VDD_AON_LOSS: VDD_AON falls below 1.62 V (R435). -/
def execVddAonLoss (dt : Nat) : State → Host.Outcome State Fault Refusal := act dt aonLoss

/-- PERST_ASSERT (R70). -/
def execPerstAssert (dt : Nat) : State → Host.Outcome State Fault Refusal := act dt perstAssert

/-- PERST_DEASSERT (R434 step 7): `prof` is what PROF[2:0] show. -/
def execPerstDeassert (dt prof : Nat) : State → Host.Outcome State Fault Refusal := act dt (perstRelease prof)

/-- SUPPLIES_GOOD (R434 step 6). -/
def execSuppliesGood (dt prof : Nat) : State → Host.Outcome State Fault Refusal := act dt (suppliesGood prof)

/-- RAIL_BROWNOUT: a rail other than VDD_AON falls below 90 % of nominal (R435). -/
def execRailBrownout (dt : Nat) : State → Host.Outcome State Fault Refusal := act dt railLoss

/-- SUPPLY_MONITOR_SAMPLE of rail `rail`, in mV (R405). (Log: 56 DESIGN CHOICE) -/
def execSupplyMonitorSample (dt rail : Nat) (mv : Int) : State → Host.Outcome State Fault Refusal := act dt (supplySample rail mv)

/-- REFCLK_LOSS (R435). -/
def execRefclkLoss (dt : Nat) : State → Host.Outcome State Fault Refusal := act dt refclkLoss

/-- AXIS_PLL_LOCK (R107). -/
def execAxisPllLock (dt : Nat) : State → Host.Outcome State Fault Refusal := act dt axisLock

/-- LINK_DOWN, or a Hot Reset (R281). -/
def execLinkDown (dt : Nat) : State → Host.Outcome State Fault Refusal := act dt linkDown

/-- BOOT_FINISHED (R71): `ofs` are the replica offsets that step 6 measured, by island. -/
def execBootFinished (dt : Nat) (ofs : List Int) : State → Host.Outcome State Fault Refusal := act dt (finishBoot ofs)

/-- APEX_WATCHDOG_EXPIRY (R404). (Log: 138 DESIGN CHOICE) -/
def execApexWatchdogExpiry (dt : Nat) : State → Host.Outcome State Fault Refusal := act dt watchdogExpires

/-! ## Register accesses -/

/-- Is `a` in the range of the Apex engine's own registers (R403)? -/
def inApexEngine (a : Nat) : Bool := apexEngineBase ≤ a && a < apexEngineBase + 0x300

/-- A write request of doublewords from `a` up: to BAR0, or by Apex firmware to its own engine. (Log: 12 DESIGN CHOICE) -/
def requestWrite (p : Path) (a : Nat) (items : List (Nat × Nat)) (s : State) : State :=
  if p = .apex ∧ inApexEngine a then
    items.zipIdx.foldl (fun s x => if x.1.2 = 0xF then writeApexEngine (a - apexEngineBase + 4 * x.2) x.1.1 s else s) s
  else busWrite p a items s

/-- REGISTER_WRITE (R23 to R41): doublewords with their byte enables from `addr` up. -/
def execRegisterWrite (dt : Nat) (path : Path) (addr : Nat) (items : List (Nat × Nat)) : State → Host.Outcome State Fault Refusal :=
  act dt (requestWrite path addr items)

/-- A request to BAR4, which only a read of the window of SS0 reaches (R24, R385): a write is unimplemented. (Log: 14 DESIGN CHOICE) -/
def writeWindow4 (p : Path) (a be : Nat) (s : State) : State :=
  if s.mode ≤ modeBoot then s else capture p causeUnimpl true 2 a be (s.send .aer)

/-- UNIMPLEMENTED_ACCESS (R39): a read or a write of one doubleword of BAR0 (`bar` 0), of the doorbells (1), or a write of BAR4. (Log: 14 DESIGN CHOICE) -/
def execUnimplementedAccess (dt : Nat) (path : Path) (bar : Nat) (write : Bool) (addr be : Nat) :
    State → Host.Outcome State Fault Refusal :=
  act dt (fun s =>
    match bar, write with
    | 0, true => busWrite path addr [(0, be)] s
    | 0, false => busRead path addr [be] s
    | 1, true => writeDoorbell path (addr / 8) 0 be s
    | 1, false => readDoorbell path (addr / 8) (addr / 4 % 2 = 1) be s
    | _, true => writeWindow4 path addr be s
    | _, false => windowRead true 0 addr 4 s)

/-- LOW_WORD_READ_LATCH (R36): a full read of one doubleword. -/
def execLowWordReadLatch (dt : Nat) (path : Path) (addr : Nat) : State → Host.Outcome State Fault Refusal :=
  act dt (busRead path addr [0xF])

/-- RC_FIELD_READ (R26, R36): a read of doublewords with their byte enables. -/
def execRcFieldRead (dt : Nat) (path : Path) (addr : Nat) (bes : List Nat) : State → Host.Outcome State Fault Refusal :=
  act dt (busRead path addr bes)

/-- GLB_UPDATE_ARM (R29): a write of GLB_UPDATE with CANCEL = 0. (Log: 12 DESIGN CHOICE) -/
def execGlbUpdateArm (dt : Nat) (path : Path) (mask : Nat) (timed : Bool) : State → Host.Outcome State Fault Refusal :=
  act dt (write32 path GLB_UPDATE (mask % 2 ^ 18 + 2 ^ 24 * bit01 timed))

/-- GLB_UPDATE_CANCEL (R32). -/
def execGlbUpdateCancel (dt : Nat) (path : Path) : State → Host.Outcome State Fault Refusal :=
  act dt (write32 path GLB_UPDATE (2 ^ 28))

/-- UPDATE_APPLY (R29): T_app of the armed update has come. -/
def execUpdateApply (dt : Nat) : State → Host.Outcome State Fault Refusal := act dt applyUpdate

/-- GLB_UNLOCK (R34): a write of `key`. (Log: 12 DESIGN CHOICE) -/
def execGlbUnlock (dt : Nat) (path : Path) (key : Nat) : State → Host.Outcome State Fault Refusal :=
  act dt (write32 path GLB_UNLOCK key)

/-! ## Site map, contact test, inking and wall clock -/

/-- SITE_TABLE_WRITE (R45): a write request into the vertex, chord or die-type table. -/
def execSiteTableWrite (dt : Nat) (path : Path) (addr : Nat) (items : List (Nat × Nat)) : State → Host.Outcome State Fault Refusal :=
  act dt (busWrite path addr items)

/-- SITE_CHECK (R44, R59). -/
def execSiteCheck (dt : Nat) (path : Path) : State → Host.Outcome State Fault Refusal := act dt (write32 path ARC_SITE_CTRL 1)

/-- SITE_COMMIT (R44, R59). -/
def execSiteCommit (dt : Nat) (path : Path) : State → Host.Outcome State Fault Refusal := act dt (write32 path ARC_SITE_CTRL 2)

/-- SITE_CHECK_END (R57, R59). -/
def execSiteCheckEnd (dt : Nat) : State → Host.Outcome State Fault Refusal := act dt concludeCheck

/-- CONTACT_TEST (R60). -/
def execContactTest (dt : Nat) (path : Path) : State → Host.Outcome State Fault Refusal := act dt (write32 path ARC_SITE_CTRL 4)

/-- CONTACT_ABORT (R60). -/
def execContactAbort (dt : Nat) (path : Path) : State → Host.Outcome State Fault Refusal := act dt (write32 path ARC_SITE_CTRL 8)

/-- CONTACT_TEST_END (R60, R61): the reading of each channel in mV. -/
def execContactTestEnd (dt : Nat) (readings : List (Nat × Int)) : State → Host.Outcome State Fault Refusal :=
  act dt (finishContact readings)

/-- VERTEX_INK (R52): a write of vertex `v`'s bit of ARC_INKED. (Log: 12 DESIGN CHOICE) -/
def execVertexInk (dt : Nat) (path : Path) (v : Nat) : State → Host.Outcome State Fault Refusal :=
  act dt (write32 path (ARC_INKED (v / 32)) (2 ^ (v % 32)))

/-- WALLCLOCK_WRITE (R55). -/
def execWallclockWrite (dt : Nat) (path : Path) (seconds : Nat) : State → Host.Outcome State Fault Refusal :=
  act dt (write64 path ARC_WALLCLOCK seconds)

end Sys2Proof.Machine
end

