-- ==== Sys2Proof/Machine/CmdArc.lean ====
section
/-!
DEFINITION. The commands of Arc and of Lattice (R188 to R243).
-/

namespace Sys2Proof.Machine
open Sys2Proof.Reg

/-! ## Arc -/

/-- What Arc does by itself; it stands while it is held in block reset (R84, R325). -/
def byArc (f : State → State) (s : State) : State := if s.reactionOn 16 then s else f s

/-- DESCRIPTOR_FETCH for vertex `v` (R192): the 64 bytes that a HOST ring delivers, and the ECC result of a LOCAL one. -/
def execDescriptorFetch (dt v : Nat) (data : List Byte) (ecc : Ecc) : State → Host.Outcome State Fault Refusal :=
  act dt (byArc (fetchDescriptor v data ecc))

/-- NOT_BEFORE_REACHED for vertex `v` (R194). -/
def execNotBeforeReached (dt v : Nat) : State → Host.Outcome State Fault Refusal := act dt (byArc (reconsider v))

/-- GATHER_CLOSE of the gather that holds vertex `v` (R195): `joined` says that every vertex with its TAG has joined. -/
def execGatherClose (dt v : Nat) (joined : Bool) : State → Host.Outcome State Fault Refusal :=
  act dt (byArc (closeGather v joined))

/-- ADMISSION of the operation of vertex `v`, with its gang (R194, R197). -/
def execAdmission (dt v : Nat) : State → Host.Outcome State Fault Refusal := act dt (byArc (admission v))

/-- OPERATION_URGENT (R197). -/
def execOperationUrgent (dt v : Nat) : State → Host.Outcome State Fault Refusal := act dt (byArc (becomeUrgent v))

/-- PHASE_ISSUE on chord `k` (R196). -/
def execPhaseIssue (dt k : Nat) : State → Host.Outcome State Fault Refusal := act dt (byArc (phaseIssue k))

/-- START_WITHDRAW on chord `k` (R196). -/
def execStartWithdraw (dt k : Nat) : State → Host.Outcome State Fault Refusal := act dt (byArc (startWithdraw k))

/-- HOLD_MAX_EXPIRY on chord `k` (R196). -/
def execHoldMaxExpiry (dt k : Nat) : State → Host.Outcome State Fault Refusal := act dt (byArc (holdMaxExpiry k))

/-- POLL_ROUND_ISSUE on chord `k` (R199). -/
def execPollRoundIssue (dt k : Nat) : State → Host.Outcome State Fault Refusal := act dt (byArc (pollRoundIssue k))

/-- PHASE_END on chord `k` (R203). -/
def execPhaseEnd (dt k : Nat) : State → Host.Outcome State Fault Refusal := act dt (byArc (phaseEnd k))

/-- A comparator edge of channel `c` now (R246): EDGE 0 RISE, 1 FALL, 2 HIGH_OFF, 3 LOW_OFF. The channel's class follows, and the
edge goes to Arc, to the TDC units and to the regression counter. -/
def comparatorEdge (c e : Nat) (s : State) : State :=
  if s.islandDown (c / 128) || s.channels ≤ c then s
  else
    let class_ : Nat := match e with
      | 0 => 2
      | 1 => 0
      | _ => 1
    let s := { s with classes := Store.put (fun _ => 1) s.classes c class_ }
    rcEdge c e s.now (tdcEdge c e s.now (busyEdge c e s.now s))

/-- COMPARATOR_EDGE (R246). -/
def execComparatorEdge (dt c edge : Nat) : State → Host.Outcome State Fault Refusal := act dt (comparatorEdge c edge)

/-- BUSY_WINDOW_EXPIRY of vertex `v` (R198). -/
def execBusyWindowExpiry (dt v : Nat) : State → Host.Outcome State Fault Refusal := act dt (byArc (busyWindowExpiry v))

/-- BUSY_TIMEOUT of vertex `v` (R201). -/
def execBusyTimeout (dt v : Nat) : State → Host.Outcome State Fault Refusal := act dt (byArc (busyTimeout v))

/-- POWER_SETTLE_END of vertex `v` (R191). -/
def execPowerSettleEnd (dt v : Nat) : State → Host.Outcome State Fault Refusal := act dt (byArc (powerSettleEnd v))

/-- PMI_AVERAGE_END of vertex `v` (R263). -/
def execPmiAverageEnd (dt v : Nat) : State → Host.Outcome State Fault Refusal := act dt (byArc (endMean v))

/-- ARC_CANCEL (R207): a write of `tag`. -/
def execArcCancel (dt : Nat) (path : Path) (tag : Nat) : State → Host.Outcome State Fault Refusal :=
  act dt (write32 path ARC_CANCEL tag)

/-- ARC_REPLAY_GO (R204): a write of a chord number. -/
def execArcReplayGo (dt : Nat) (path : Path) (k : Nat) : State → Host.Outcome State Fault Refusal :=
  act dt (write32 path ARC_REPLAY_GO k)

/-- VHOLD_CLEAR of vertex `v` (R201). -/
def execVholdClear (dt : Nat) (path : Path) (v : Nat) : State → Host.Outcome State Fault Refusal :=
  act dt (write32 path (ARC_VHOLD (v / 32)) (2 ^ (v % 32)))

/-- RECOVERY_FAIL_CLEAR of chord `k` (R205). -/
def execRecoveryFailClear (dt : Nat) (path : Path) (k : Nat) : State → Host.Outcome State Fault Refusal :=
  act dt (write32 path (ARC_CHORD_STAT k) 16)

/-! ## Lattice -/

/-- FAIL_EVENT (R216): the oldest item of facet `f`'s queue, an event, reaches the hub; the ECC result of what it meets. -/
def execFailEvent (dt f : Nat) (ecc : LatEcc) : State → Host.Outcome State Fault Refusal := act dt (failArrives f ecc)

/-- MERGE_WINDOW_EXPIRY (R216). -/
def execMergeWindowExpiry (dt : Nat) (ecc : LatEcc) : State → Host.Outcome State Fault Refusal := act dt (endWindows none ecc)

/-- END_MARKER (R218): the oldest item of facet `f`'s queue, a marker, reaches the hub. -/
def execEndMarker (dt f : Nat) : State → Host.Outcome State Fault Refusal := act dt (markerArrives f)

/-- LATTICE_CLOSE of vertex `v` (R224). -/
def execLatticeClose (dt v : Nat) (ecc : LatEcc) : State → Host.Outcome State Fault Refusal := act dt (closeSlot v ecc)

/-- The close completes: SUMMARY is handed over and Arc writes the result record (R208, R237). Neither part may stand still. -/
def completeClose (v : Nat) (s : State) : State :=
  if s.latticeStopped || s.reactionOn 16 then s
  else
    match finishClose v s with
    | (some verdict, s) => writeResult v verdict s
    | (none, s) => s

/-- LATTICE_CLOSE_COMPLETE of vertex `v` (R237). -/
def execLatticeCloseComplete (dt v : Nat) : State → Host.Outcome State Fault Refusal := act dt (completeClose v)

/-- LAT_CLEAR (R227): a write with START; `columns` and `blocks` are CMAP and BB. -/
def execLatClear (dt : Nat) (path : Path) (columns blocks : Bool) : State → Host.Outcome State Fault Refusal :=
  act dt (write32 path LAT_CLEAR (1 + 2 * bit01 columns + 4 * bit01 blocks))

/-- LAT_CLEAR_END (R227). -/
def execLatClearEnd (dt : Nat) : State → Host.Outcome State Fault Refusal := act dt endClear

/-- REPAIR_ANALYSIS (R231): a write of LAT_RA_CMD with START. -/
def execRepairAnalysis (dt : Nat) (path : Path) (kind plane tag : Nat) : State → Host.Outcome State Fault Refusal :=
  act dt (write32 path LAT_RA_CMD (1 + 4 * (kind % 2) + 16 * (plane % 16) + 2 ^ 16 * (tag % 2 ^ 16)))

/-- REPAIR_ANALYSIS_ABORT (R231). -/
def execRepairAnalysisAbort (dt : Nat) (path : Path) (kind plane tag : Nat) : State → Host.Outcome State Fault Refusal :=
  act dt (write32 path LAT_RA_CMD (2 + 4 * (kind % 2) + 16 * (plane % 16) + 2 ^ 16 * (tag % 2 ^ 16)))

/-- REPAIR_VERTEX_DONE (R232, R233). -/
def execRepairVertexDone (dt : Nat) : State → Host.Outcome State Fault Refusal := act dt analysisDone

/-- COLLECTOR_CLEAR of collector `c` (R230). -/
def execCollectorClear (dt : Nat) (path : Path) (c : Nat) : State → Host.Outcome State Fault Refusal :=
  act dt (write32 path (LAT_COLL_CLEAR c) 1)

/-- CMAP_WINDOW_WRITE (R227): doubleword `word` of the window. -/
def execCmapWindowWrite (dt : Nat) (path : Path) (word data : Nat) : State → Host.Outcome State Fault Refusal :=
  act dt (write32 path (LAT_CMAPWIN word) data)

end Sys2Proof.Machine
end

