-- ==== Sys2Proof/Machine/CmdFacet.lean ====
section
/-!
DEFINITION. The commands of the pin electronics, of Axis time, of the rays and of the waveform generators (R85 to R187).
-/

namespace Sys2Proof.Machine
open Sys2Proof.Reg

/-! ## Pin electronics -/

/-- OVERCURRENT_TRIP of channel `c` (R102): a channel that is being calibrated is skipped as well (R359). -/
def execOvercurrentTrip (dt c : Nat) : State → Host.Outcome State Fault Refusal := act dt (fun s => calTrip c (tripChannel c s))

/-- OC_CLEAR (R102): a write of `data` to word `word` of FCT_OC_STAT. -/
def execOcClear (dt : Nat) (path : Path) (f word data : Nat) : State → Host.Outcome State Fault Refusal :=
  act dt (write32 path (FCT_OC_STAT f word) data)

/-- CHANNEL_UNPARK (R86, R104): a granule boundary of facet `f` releases its channels; the facet park of a link that has been
retrained ends there first (R325). -/
def execChannelUnpark (dt f : Nat) : State → Host.Outcome State Fault Refusal := act dt (fun s => unparkFacet f (selfRelease f s))

/-- PMU_START (R99): a write of `data` with START to FCT_PMU_CTRL of channel `c`. -/
def execPmuStart (dt : Nat) (path : Path) (c data : Nat) : State → Host.Outcome State Fault Refusal :=
  act dt (write32 path (FCT_PMU_CTRL (c / 128) (c % 128)) (data ||| 2 ^ 12))

/-- PMU_SETTLE_END of channel `c` (R99). -/
def execPmuSettleEnd (dt c : Nat) : State → Host.Outcome State Fault Refusal := act dt (settlePmu c)

/-- PMU_MEASUREMENT_COMPLETE of channel `c` (R97, R100): its conversions, and whether the clamp acted. (Log: 56 DESIGN CHOICE) -/
def execPmuMeasurementComplete (dt c : Nat) (conversions : List Int) (clamped : Bool) : State → Host.Outcome State Fault Refusal :=
  act dt (completePmu c conversions clamped)

/-- PMU_ABORT (R100): a write of `data` with ABORT. -/
def execPmuAbort (dt : Nat) (path : Path) (c data : Nat) : State → Host.Outcome State Fault Refusal :=
  act dt (write32 path (FCT_PMU_CTRL (c / 128) (c % 128)) (data ||| 2 ^ 13))

/-- PMU_CONFIG_WRITE (R98, R100): a write of word `word` of the channel's four PMU registers. -/
def execPmuConfigWrite (dt : Nat) (path : Path) (c word data : Nat) : State → Host.Outcome State Fault Refusal :=
  act dt (write32 path (FCT_PMU_CTRL (c / 128) (c % 128) + 4 * (word % 4)) data)

/-! ## Axis time -/

/-- One island's part of a check pulse (R110): its error in stamp units, and whether its whole-tick count differs. -/
def checkPulse (errs : List (Int × Bool)) (s : State) : State :=
  s.islands.foldl (fun s k =>
    match errs[k]? with
    | none => s
    | some x => if x.2 then countError k s else checkIsland k x.1 s) s

/-- EPOCH_CHECK_PULSE (R110): what each island finds, by island number. -/
def execEpochCheckPulse (dt : Nat) (errs : List (Int × Bool)) : State → Host.Outcome State Fault Refusal := act dt (checkPulse errs)

/-- REPLICA_RESYNC of island `k` (R110): the offset that the calibration finds. -/
def execReplicaResync (dt k : Nat) (ofs : Int) : State → Host.Outcome State Fault Refusal := act dt (resync k ofs)

/-- RECAL (R109): a write of 1 to AXS_CTRL.RECAL. -/
def execRecal (dt : Nat) (path : Path) : State → Host.Outcome State Fault Refusal := act dt (write32 path AXS_CTRL 1)

/-- RECAL_DONE (R109): the offsets, by island. -/
def execRecalDone (dt : Nat) (ofs : List Int) : State → Host.Outcome State Fault Refusal := act dt (fun s => if s.axs.calibrating then endRecal ofs s else s)

/-- SYNC_EPOCH_DETECT (R112). -/
def execSyncEpochDetect (dt : Nat) : State → Host.Outcome State Fault Refusal := act dt detectEpoch

/-- The epoch that was detected comes about at E + D (R113). One that acts ends the armed acquisition units (R271) and leaves no
placed edge behind; acting or not, it can wake the part from DOZE (R68). (Log: 48 DEDUCED) -/
def takeEpoch (s : State) : State :=
  match s.axs.epoch with
  | none => s
  | some e =>
    if !s.past (stampAdd e (s.get AXS_SYNC_DESKEW_D)) then s
    else
      let acts := s.epochActs
      let s := zeroEpoch e s
      let s := if acts then endAllUnits (forgetEdges s) else s
      if s.mode = modeDoze ∧ s.on APX_DOZE_CFG_WAKE_SYNC then wakeUp s else s

/-- EPOCH_ZERO (R113). (Log: 48 DEDUCED) -/
def execEpochZero (dt : Nat) : State → Host.Outcome State Fault Refusal := act dt takeEpoch

/-- SYNC_ARM (R113): a write of AXS_SYNC_CFG with ARM. -/
def execSyncArm (dt : Nat) (path : Path) (outMode : Nat) : State → Host.Outcome State Fault Refusal :=
  act dt (write32 path AXS_SYNC_CFG (outMode % 4 + 16))

/-- SYNC_FIRE (R114). -/
def execSyncFire (dt : Nat) (path : Path) : State → Host.Outcome State Fault Refusal := act dt (write32 path AXS_SYNC_FIRE 1)

/-- RATE_CHANGE on facet `f` (R119). -/
def execRateChange (dt f : Nat) : State → Host.Outcome State Fault Refusal := act dt (rateChange f)

/-- ANCHOR_APPLY on facet `f` (R120): a new ANCHOR that waits comes into use once no bus phase runs. -/
def execAnchorApply (dt f : Nat) : State → Host.Outcome State Fault Refusal := act dt (gridQuiet f)

/-! ## Rays -/

/-- VECTOR_PLAY of ray `r` of facet `f` (R132): what the comparators see, and the ECC result of the word. -/
def execVectorPlay (dt f r : Nat) (seen : List Seen) (ecc : Ecc) : State → Host.Outcome State Fault Refusal :=
  act dt (playRay f r seen ecc)

/-- PHASE_START (R131): facet `f` takes the start that Arc has sent for chord `k`. -/
def execPhaseStart (dt f k : Nat) : State → Host.Outcome State Fault Refusal := act dt (phaseStart f k)

/-- START_BOUNDARY of ray `r` of facet `f` (R131). -/
def execStartBoundary (dt f r : Nat) : State → Host.Outcome State Fault Refusal := act dt (reachBoundary f r)

/-- A write of ARC_JREQ of chord `k` (R147, R162): a timed request writes its stamp first. -/
def writeTimedRequest (p : Path) (k kind vec : Nat) (at_ : Option Nat) (s : State) : State :=
  match at_ with
  | some t => write32 p (ARC_JREQ k) (vec % 16 + 256 * kind + 2 ^ 12) (write64 p (ARC_JREQ_AT k) t s)
  | none => write32 p (ARC_JREQ k) (vec % 16 + 256 * kind) s

/-- JUMP: a request of KIND 0 to chord `k` (R147). -/
def execJump (dt : Nat) (path : Path) (k vec : Nat) (at_ : Option Nat) : State → Host.Outcome State Fault Refusal :=
  act dt (writeTimedRequest path k 0 vec at_)

/-- STOP: KIND 1. -/
def execStop (dt : Nat) (path : Path) (k : Nat) (at_ : Option Nat) : State → Host.Outcome State Fault Refusal :=
  act dt (writeTimedRequest path k 1 0 at_)

/-- ABORT: KIND 2. -/
def execAbort (dt : Nat) (path : Path) (k : Nat) (at_ : Option Nat) : State → Host.Outcome State Fault Refusal :=
  act dt (writeTimedRequest path k 2 0 at_)

/-- The request of KIND `kind` that a ray has latched is taken, if it is due. -/
def takeDue (kind f r : Nat) (s : State) : State :=
  if (s.ray f r).latched.any fun q => q.kind = kind then takeRequest f r s else s

/-- JUMP_TAKEN by ray `r` of facet `f` (R147, R156). -/
def execJumpTaken (dt f r : Nat) : State → Host.Outcome State Fault Refusal := act dt (takeDue 0 f r)

/-- STOP_TAKEN (R147). -/
def execStopTaken (dt f r : Nat) : State → Host.Outcome State Fault Refusal := act dt (takeDue 1 f r)

/-- ABORT_TAKEN (R147). -/
def execAbortTaken (dt f r : Nat) : State → Host.Outcome State Fault Refusal := act dt (takeAbort f r)

/-- GRANULE_DECISION for the rays of chord `k` (R152). -/
def execGranuleDecision (dt k : Nat) : State → Host.Outcome State Fault Refusal := act dt (decideGranule k)

/-- FILL_END of ray `r` of facet `f` (R157). -/
def execFillEnd (dt f r : Nat) : State → Host.Outcome State Fault Refusal := act dt (endFill f r)

/-- STREAM_PRODUCE (R149): a write of FCT_SQ_PROD. -/
def execStreamProduce (dt : Nat) (path : Path) (f r prod : Nat) : State → Host.Outcome State Fault Refusal :=
  act dt (write32 path (FCT_SQ_PROD f r) prod)

/-- STREAM_WORDS_ARRIVE (R149). -/
def execStreamWordsArrive (dt f r : Nat) (words : List Nat) : State → Host.Outcome State Fault Refusal :=
  act dt (queueWordsArrive f r words)

/-- SQ_CFG_WRITE (R161). -/
def execSqCfgWrite (dt : Nat) (path : Path) (f r data : Nat) : State → Host.Outcome State Fault Refusal :=
  act dt (write32 path (FCT_SQ_CFG f r) data)

/-- MICROCODE_WRITE (R158): doubleword `dword` (0 to 7) of word `word` of facet `f`'s microcode window. -/
def execMicrocodeWrite (dt : Nat) (path : Path) (f word dword data : Nat) : State → Host.Outcome State Fault Refusal :=
  act dt (write32 path (0x1000000 + 0x80000 * f + 32 * word + 4 * dword) data)

/-! ## Waveform generators -/

/-- WG_START (R183): a write of WG_CMD. -/
def execWgStart (dt : Nat) (path : Path) (f g : Nat) (timed : Bool) : State → Host.Outcome State Fault Refusal :=
  act dt (write32 path (FCT_WG_CMD f g) (1 + 16 * bit01 timed))

/-- WG_STOP (R183). -/
def execWgStop (dt : Nat) (path : Path) (f g : Nat) : State → Host.Outcome State Fault Refusal :=
  act dt (write32 path (FCT_WG_CMD f g) 2)

/-- WG_HALT (R183). -/
def execWgHalt (dt : Nat) (path : Path) (f g : Nat) : State → Host.Outcome State Fault Refusal :=
  act dt (write32 path (FCT_WG_CMD f g) 3)

/-- WG_PLAY_START (R183). -/
def execWgPlayStart (dt f g : Nat) : State → Host.Outcome State Fault Refusal := act dt (reachStart f g)

/-- WG_OUTPUT_UPDATE at the latest tick that is a multiple of 64 (R184), with the ECC result of the sample reads. -/
def execWgOutputUpdate (dt f g : Nat) (ecc : Ecc) : State → Host.Outcome State Fault Refusal :=
  act dt (fun s => updateWg f g (s.now / 16384 * 16384) ecc s)

/-- WG_SEGMENT_END (R183). -/
def execWgSegmentEnd (dt f g : Nat) : State → Host.Outcome State Fault Refusal := act dt (segmentEndWg f g)

/-- WG_TS_APPLY (R185). -/
def execWgTsApply (dt f g : Nat) : State → Host.Outcome State Fault Refusal := act dt (applyTs f g)

end Sys2Proof.Machine
end

