-- ==== Sys2Proof/Machine/CmdFault.lean ====
section
/-!
DEFINITION. The commands of faults and reactions, of the thermal monitor, and of calibration and maintenance (R317 to R374).
-/

namespace Sys2Proof.Machine
open Sys2Proof.Reg

/-! ## Faults -/

/-- FAULT_EVENT (R318): fault line `n` asserts. The lines of the serial port's own events deassert at once (R387). (Log: 120 DEDUCED) -/
def execFaultEvent (dt n : Nat) : State → Host.Outcome State Fault Refusal :=
  act dt (fun s => if n ∈ [101, 102, 103] then pulseLine n s else assertLine n s)

/-- FAULT_LINE_DEASSERT (R318). -/
def execFaultLineDeassert (dt n : Nat) : State → Host.Outcome State Fault Refusal := act dt (deassertLine n)

/-- RAIL_FAULT of source `n` (R320). -/
def execRailFault (dt n : Nat) : State → Host.Outcome State Fault Refusal := act dt (railFault n)

/-- RAIL_WIRES_DIFFER (R320). -/
def execRailWiresDiffer (dt n : Nat) : State → Host.Outcome State Fault Refusal := act dt (railEnds n)

/-- A reaction on target `t` completes (R325): DMA takes its transfers up again, and messages that waited for the link go out. -/
def completeReaction (t : Nat) (s : State) : State :=
  let s' := reactionComplete t s
  let s' := if t = 20 ∧ !s'.reactionOn 20 then releaseMessages s' else s'
  if t = 18 ∨ t = 20 then kickDma s' else s'

/-- REACTION_COMPLETE (R325). -/
def execReactionComplete (dt t : Nat) : State → Host.Outcome State Fault Refusal := act dt (completeReaction t)

/-- PE_LINK_TRAINING_END on facet `f` (R325). -/
def execPeLinkTrainingEnd (dt f : Nat) (ok : Bool) : State → Host.Outcome State Fault Refusal := act dt (trainingEnd f ok)

/-- PE_LINK_RETRAIN_TIMER of facet `f` (R325). -/
def execPeLinkRetrainTimer (dt f : Nat) : State → Host.Outcome State Fault Refusal := act dt (retrainTimer f)

/-- SHADOW_END of target `t` (R328). -/
def execShadowEnd (dt t : Nat) : State → Host.Outcome State Fault Refusal := act dt (shadowEnd t)

/-- GRACE_EXPIRY (R329). -/
def execGraceExpiry (dt : Nat) : State → Host.Outcome State Fault Refusal := act dt graceExpiry

/-- FCL_ACK (R329). -/
def execFclAck (dt : Nat) (path : Path) (seq : Nat) : State → Host.Outcome State Fault Refusal := act dt (write32 path FCL_ACK seq)

/-- FACET_RELEASE (R327): a write of a mask to FCL_FPARK. -/
def execFacetRelease (dt : Nat) (path : Path) (mask : Nat) : State → Host.Outcome State Fault Refusal :=
  act dt (write32 path FCL_FPARK mask)

/-- ESC_CLEAR (R332). -/
def execEscClear (dt : Nat) (path : Path) : State → Host.Outcome State Fault Refusal := act dt (write32 path FCL_ESC (2 ^ 24))

/-- FAULT_INJECT (R334): a write of FCL_INJECT; the guard has been opened before. (Log: 13 DESIGN CHOICE) -/
def execFaultInject (dt : Nat) (path : Path) (source : Nat) (rail : Bool) : State → Host.Outcome State Fault Refusal :=
  act dt (write32 path FCL_INJECT (source % 128 + 256 * bit01 rail))

/-- ALIVE_TOGGLE (R333). -/
def execAliveToggle (dt : Nat) : State → Host.Outcome State Fault Refusal := act dt aliveToggle

/-- ALIVE_FREQ_WRITE (R333). -/
def execAliveFreqWrite (dt : Nat) (path : Path) (freq : Nat) : State → Host.Outcome State Fault Refusal :=
  act dt (write32 path FCL_ALIVE freq)

/-- FAULT_CONFIG_WRITE (R322): FCL_SRC_CFG, or FCL_SRC_W, of source `n`. -/
def execFaultConfigWrite (dt : Nat) (path : Path) (n : Nat) (window : Bool) (data : Nat) : State → Host.Outcome State Fault Refusal :=
  act dt (write32 path (if window then FCL_SRC_W n else FCL_SRC_CFG n) data)

/-- HIST_READ of entry `entry` (R323). -/
def execHistRead (dt : Nat) (path : Path) (entry : Nat) : State → Host.Outcome State Fault Refusal :=
  act dt (busRead path (FCL_HIST entry) [0xF])

/-! ## Temperature -/

/-- THERMAL_SAMPLE (R338): the code, and the diode's state (0 OK, 1 OPEN, 2 SHORT). (Log: 56 DESIGN CHOICE) -/
def execThermalSample (dt : Nat) (code : Int) (diode : Nat) : State → Host.Outcome State Fault Refusal :=
  act dt (thermalSample code diode)

/-- SHUTDOWN_DRAIN_END (R346). -/
def execShutdownDrainEnd (dt : Nat) : State → Host.Outcome State Fault Refusal := act dt shutdownDrainEnd

/-- SHUTDOWN_COMPLETE (R346). -/
def execShutdownComplete (dt : Nat) : State → Host.Outcome State Fault Refusal := act dt shutdownComplete

/-- THERMAL_UNFREEZE (R340). -/
def execThermalUnfreeze (dt : Nat) (path : Path) : State → Host.Outcome State Fault Refusal := act dt (write32 path THM_CTRL 1)

/-- THM_CONFIG_WRITE (R341): THM_WARN_CFG, or THM_THR_CFG; the guard has been opened before. (Log: 13 DESIGN CHOICE) -/
def execThmConfigWrite (dt : Nat) (path : Path) (throttle : Bool) (data : Nat) : State → Host.Outcome State Fault Refusal :=
  act dt (write32 path (if throttle then THM_THR_CFG else THM_WARN_CFG) data)

/-! ## Calibration and maintenance -/

/-- CALIBRATION_STEP_END (R361, R366): the reference voltage in µV, and each channel's or PMI's readings. (Log: 56 DESIGN CHOICE) -/
def execCalibrationStepEnd (dt m : Nat) (data : List (Nat × List Int)) : State → Host.Outcome State Fault Refusal :=
  act dt (calStepEnd m data)

/-- CAL_COMMIT_DONE (R361). -/
def execCalCommitDone (dt : Nat) (ok : Bool) : State → Host.Outcome State Fault Refusal := act dt (commitDone ok)

/-- CAL_ABORT (R368). -/
def execCalAbort (dt : Nat) (path : Path) : State → Host.Outcome State Fault Refusal := act dt (write32 path CAL_CTRL 1)

/-- TRIM_WRITE (R352): a write of a trim register; the guard has been opened before. (Log: 13 DESIGN CHOICE) -/
def execTrimWrite (dt : Nat) (path : Path) (addr data : Nat) : State → Host.Outcome State Fault Refusal :=
  act dt (write32 path addr data)

/-- TRIM_REFRESH_READ_DONE (R367). -/
def execTrimRefreshReadDone (dt : Nat) : State → Host.Outcome State Fault Refusal := act dt refreshDone

/-- MAINTENANCE_DISPATCH of the NVM queue, or of the calibration bus's (R369). -/
def execMaintenanceDispatch (dt : Nat) (nvm : Bool) : State → Host.Outcome State Fault Refusal := act dt (dispatch nvm)

end Sys2Proof.Machine
end

