-- ==== Sys2Proof/Machine/CmdHost.lean ====
section
/-!
DEFINITION. The commands of rings, DMA and translation, and of the interrupt controller (R280 to R316).
-/

namespace Sys2Proof.Machine
open Sys2Proof.Reg

/-! ## Rings and DMA -/

/-- DOORBELL_COMMAND (R287): a doorbell write to the command ring of vertex `v`, with its byte enables. -/
def execDoorbellCommand (dt : Nat) (path : Path) (v value be : Nat) : State → Host.Outcome State Fault Refusal :=
  act dt (writeDoorbell path (4 * v) value be)

/-- DOORBELL_OUTPUT (R287): to output ring `which` (0 result, 1 fail, 2 measurement) of vertex `v`. -/
def execDoorbellOutput (dt : Nat) (path : Path) (v which value be : Nat) : State → Host.Outcome State Fault Refusal :=
  act dt (writeDoorbell path (4 * v + 1 + which % 3) value be)

/-- RING_ENABLE (R290): a write of RNG_CTRL with ENABLE. (Log: 12 DESIGN CHOICE) -/
def execRingEnable (dt : Nat) (path : Path) (n data : Nat) : State → Host.Outcome State Fault Refusal :=
  act dt (write32 path (RNG_CTRL n) (data ||| 1))

/-- RING_DISABLE (R290): a write of RNG_CTRL without ENABLE. -/
def execRingDisable (dt : Nat) (path : Path) (n data : Nat) : State → Host.Outcome State Fault Refusal :=
  act dt (write32 path (RNG_CTRL n) (andNot data 1))

/-- RING_RETRY (R296): a write of RNG_CTRL with RETRY. -/
def execRingRetry (dt : Nat) (path : Path) (n data : Nat) : State → Host.Outcome State Fault Refusal :=
  act dt (write32 path (RNG_CTRL n) (data ||| 2 ^ 14))

/-- RECORD_HANDOVER of a record to ring `n` (R297). -/
def execRecordHandover (dt n : Nat) (data : List Byte) : State → Host.Outcome State Fault Refusal :=
  act dt (fun s => (handover n data s).2)

/-- RECORD_WRITE_DONE of ring `n` (R286). -/
def execRecordWriteDone (dt n : Nat) : State → Host.Outcome State Fault Refusal := act dt (recordWritten n)

/-- The write-back of ring `n` that 1,600 ticks without an advance force (R288). -/
def writeBackDue (n : Nat) (s : State) : State :=
  let r := s.ring n
  if r.unreported = 0 ∨ s.mono < r.lastAdvance + 1600 then s else writeBack n s

/-- WRITEBACK_TIMER of ring `n` (R288). -/
def execWritebackTimer (dt n : Nat) : State → Host.Outcome State Fault Refusal := act dt (writeBackDue n)

/-- TRANSLATION_COMPLETION for a page (R293, R294): the pages it covers and the access it grants. -/
def execTranslationCompletion (dt page pages : Nat) (read write : Bool) : State → Host.Outcome State Fault Refusal :=
  act dt (hostAnswers (.translated page pages read write))

/-- PAGE_RESPONSE for a page (R295). -/
def execPageResponse (dt page code : Nat) : State → Host.Outcome State Fault Refusal := act dt (hostAnswers (.paged page code))

/-- INVALIDATE_REQUEST (R293). -/
def execInvalidateRequest (dt tag page pages : Nat) : State → Host.Outcome State Fault Refusal :=
  act dt (invalidate tag page pages)

/-- INVALIDATE_COMPLETION (R293). -/
def execInvalidateCompletion (dt tag : Nat) : State → Host.Outcome State Fault Refusal := act dt (invalidateCompletes tag)

/-- COMPLETION_ERROR of a read of ring `n` (R293): Unsupported Request, Completer Abort, or a timeout. -/
def execCompletionError (dt n : Nat) (timeout : Bool) : State → Host.Outcome State Fault Refusal := act dt (readFails n timeout)

/-- PRI_RESTART (R295). -/
def execPriRestart (dt : Nat) (path : Path) : State → Host.Outcome State Fault Refusal := act dt (write32 path DMA_PRI_RESTART 1)

/-- RETRY_AUX (R301). -/
def execRetryAux (dt : Nat) (path : Path) (acq sq : Bool) : State → Host.Outcome State Fault Refusal :=
  act dt (write32 path DMA_RETRY_AUX (bit01 acq + 2 * bit01 sq))

/-- COPY_START (R302): `src` is SRC. -/
def execCopyStart (dt : Nat) (path : Path) (src : Bool) : State → Host.Outcome State Fault Refusal :=
  act dt (write32 path DMA_XFER_CTRL (1 + 4 * bit01 src))

/-- COPY_ABORT (R302). -/
def execCopyAbort (dt : Nat) (path : Path) (src : Bool) : State → Host.Outcome State Fault Refusal :=
  act dt (write32 path DMA_XFER_CTRL (2 + 4 * bit01 src))

/-- COPY_END (R302): the engine has gone on by `pages` pages. -/
def execCopyEnd (dt pages : Nat) : State → Host.Outcome State Fault Refusal := act dt (copyPages pages)

/-- The host configures the function (R281, R293, R295, R309): MSI-X Enable and Function Mask, Bus Master Enable, ATS and PRI. When
MSI-X Enable and Bus Master Enable both become 1, one message goes out on each vector with groups offered. -/
def configureFunction (msix funcMask busMaster ats pri : Bool) (alloc : Nat) (s : State) : State :=
  if s.mode = modeReset then s
  else
    let was := s.icl.msixOn && s.icl.busMaster
    let c := s.icl
    let s := { s with icl := { c with msixOn := msix, funcMask := funcMask, busMaster := busMaster } }
    let s := (s.set DMA_LINK_STAT_ATS_EN (bit01 ats)).set DMA_LINK_STAT_PRI_CAP_EN (bit01 pri)
    let s := { s with dma := { s.dma with priAlloc := alloc } }
    let s := if !was && msix && busMaster then
        ((List.range 15).filter fun t => s.offers t != 0).foldl (fun s t => signalTarget t s) s
      else s
    kickDma ((List.range 15).foldl (fun s t => deliverHeld t s) s)

/-- MSIX_ENABLE (R309). (Log: 113 DESIGN CHOICE) -/
def execMsixEnable (dt : Nat) (msix funcMask busMaster ats pri : Bool) (alloc : Nat) : State → Host.Outcome State Fault Refusal :=
  act dt (configureFunction msix funcMask busMaster ats pri alloc)

/-- The host clears the mask of a vector, with a write of the table's fourth doubleword, or the function mask (R309). -/
def unmask (vector : Option Nat) (s : State) : State :=
  match vector with
  | some t => write32 .host (DMA_MSIX_TABLE (4 * t + 3)) 0 s
  | none =>
    let c := s.icl
    (List.range 15).foldl (fun s t => deliverHeld t s) { s with icl := { c with funcMask := false } }

/-- MSIX_UNMASK (R309). -/
def execMsixUnmask (dt : Nat) (vector : Option Nat) : State → Host.Outcome State Fault Refusal := act dt (unmask vector)

/-- The link has trained at a width of 16, 8 or 4 lanes (R281); no other width forms a link. -/
def linkUp (speed width : Nat) (s : State) : State :=
  if s.mode = modeReset ∨ width ∉ [4, 8, 16] then s
  else kickDma (((s.set DMA_LINK_STAT_SPEED speed).set DMA_LINK_STAT_WIDTH width).raise DMA_LINK_STAT_UP)

/-- LINK_UP (R281). -/
def execLinkUp (dt speed width : Nat) : State → Host.Outcome State Fault Refusal := act dt (linkUp speed width)

/-- PRI_CAPABILITY_RESET (R295). -/
def execPriCapabilityReset (dt : Nat) : State → Host.Outcome State Fault Refusal := act dt resetPri

/-! ## Interrupts -/

/-- ICL_SOURCE_EVENT: one event of edge source `n` (R307). A level source follows its condition by itself. -/
def execIclSourceEvent (dt n : Nat) : State → Host.Outcome State Fault Refusal := act dt (pend n)

/-- ICL_CLAIM by target `t` (R310). -/
def execIclClaim (dt : Nat) (path : Path) (t : Nat) : State → Host.Outcome State Fault Refusal :=
  act dt (busRead path (ICL_CLAIM t) [0xF])

/-- ICL_DONE of target `t` for group `g` (R312). -/
def execIclDone (dt : Nat) (path : Path) (t g : Nat) : State → Host.Outcome State Fault Refusal :=
  act dt (write32 path (ICL_DONE t) g)

/-- ICL_PEND_CLEAR of bits of group `g` (R311). -/
def execIclPendClear (dt : Nat) (path : Path) (g bits : Nat) : State → Host.Outcome State Fault Refusal :=
  act dt (write32 path (ICL_PEND g) bits)

/-- ICL_ONLINE_WRITE (R313). -/
def execIclOnlineWrite (dt : Nat) (path : Path) (data : Nat) : State → Host.Outcome State Fault Refusal :=
  act dt (write32 path ICL_ONLINE data)

/-- ICL_MASK_WRITE: ICL_SRC_CFG of source `n` (R307, R308). -/
def execIclMaskWrite (dt : Nat) (path : Path) (n data : Nat) : State → Host.Outcome State Fault Refusal :=
  act dt (write32 path (ICL_SRC_CFG n) data)

/-- ICL_SWSET (R316). -/
def execIclSwset (dt : Nat) (path : Path) (n : Nat) : State → Host.Outcome State Fault Refusal := act dt (write32 path ICL_SWSET n)

end Sys2Proof.Machine
end

