-- ==== Sys2Proof/Machine/CmdMailbox.lean ====
section
/-!
DEFINITION. The commands of the mailbox (R79 to R81): each writes the slot's CMD and ARG registers and then its doorbell; Apex
serves it as soon as the mode lets it.
-/

namespace Sys2Proof.Machine
open Sys2Proof.Reg

/-- Post a command in a mailbox slot (R79): slot 0 from the host, any other over SMBus in slot 1; `guarded` says that the poster
writes the key to GLB_UNLOCK right before the doorbell (R34, R80). -/
def postCommand (slot : Nat) (guarded : Bool) (op seq : Nat) (args : List Nat) (s : State) : State :=
  let p : Path := if slot = 0 then .host else .smbus
  let k := if slot = 0 then 0 else 1
  let s := write32 p (APX_CMD k) (op % 256 + 256 * (seq % 256)) s
  let s := (List.range 4).foldl (fun s i => write32 p (APX_ARG k i) (args.getD i 0) s) s
  let s := if guarded then write32 p GLB_UNLOCK 0xC3D17A5E s else s
  write32 p (APX_DOORBELL k) 1 s

/-- STATUS (R81). -/
def execStatus (dt slot : Nat) (guarded : Bool) (seq : Nat) (args : List Nat) : State → Host.Outcome State Fault Refusal :=
  act dt (postCommand slot guarded opStatus seq args)

/-- GO_IDLE (R66, R68). (Log: 13 DESIGN CHOICE) -/
def execGoIdle (dt slot : Nat) (guarded : Bool) (seq : Nat) (args : List Nat) : State → Host.Outcome State Fault Refusal :=
  act dt (postCommand slot guarded opGoIdle seq args)

/-- GO_HOST (R65). -/
def execGoHost (dt slot : Nat) (guarded : Bool) (seq : Nat) (args : List Nat) : State → Host.Outcome State Fault Refusal :=
  act dt (postCommand slot guarded opGoHost seq args)

/-- GO_AUTO (R65, R420). -/
def execGoAuto (dt slot : Nat) (guarded : Bool) (seq : Nat) (args : List Nat) : State → Host.Outcome State Fault Refusal :=
  act dt (postCommand slot guarded opGoAuto seq args)

/-- GO_DOZE (R68). -/
def execGoDoze (dt slot : Nat) (guarded : Bool) (seq : Nat) (args : List Nat) : State → Host.Outcome State Fault Refusal :=
  act dt (postCommand slot guarded opGoDoze seq args)

/-- ENTER_SAFE (R330). -/
def execEnterSafe (dt slot : Nat) (guarded : Bool) (seq : Nat) (args : List Nat) : State → Host.Outcome State Fault Refusal :=
  act dt (postCommand slot guarded opEnterSafe seq args)

/-- CLEAR_SAFE (R67). -/
def execClearSafe (dt slot : Nat) (guarded : Bool) (seq : Nat) (args : List Nat) : State → Host.Outcome State Fault Refusal :=
  act dt (postCommand slot guarded opClearSafe seq args)

/-- CLEAR_SHUTDOWN (R348). -/
def execClearShutdown (dt slot : Nat) (guarded : Bool) (seq : Nat) (args : List Nat) : State → Host.Outcome State Fault Refusal :=
  act dt (postCommand slot guarded opClearShutdown seq args)

/-- SELECT_PROFILE (R77). -/
def execSelectProfile (dt slot : Nat) (guarded : Bool) (seq : Nat) (args : List Nat) : State → Host.Outcome State Fault Refusal :=
  act dt (postCommand slot guarded opSelectProfile seq args)

/-- REBOOT (R70). -/
def execReboot (dt slot : Nat) (guarded : Bool) (seq : Nat) (args : List Nat) : State → Host.Outcome State Fault Refusal :=
  act dt (postCommand slot guarded opReboot seq args)

/-- CALIBRATE (R360). -/
def execCalibrate (dt slot : Nat) (guarded : Bool) (seq : Nat) (args : List Nat) : State → Host.Outcome State Fault Refusal :=
  act dt (postCommand slot guarded opCalibrate seq args)

/-- SELFTEST (R366). -/
def execSelftest (dt slot : Nat) (guarded : Bool) (seq : Nat) (args : List Nat) : State → Host.Outcome State Fault Refusal :=
  act dt (postCommand slot guarded opSelftest seq args)

/-- LOG_COMPACT (R407). -/
def execLogCompact (dt slot : Nat) (guarded : Bool) (seq : Nat) (args : List Nat) : State → Host.Outcome State Fault Refusal :=
  act dt (postCommand slot guarded opLogCompact seq args)

/-- FW_STAGE_BEGIN (R417): `slotB` is ARG0[8], which names the target slot in the NO_FIRMWARE state. -/
def execFwStageBegin (dt slot : Nat) (guarded : Bool) (seq : Nat) (slotB : Bool) (len : Nat) : State → Host.Outcome State Fault Refusal :=
  act dt (postCommand slot guarded opFwStage seq [256 * bit01 slotB, len])

/-- FW_STAGE_CHUNK (R417): `slotB` is ARG0[8], which names the target slot in the NO_FIRMWARE state. -/
def execFwStageChunk (dt slot : Nat) (guarded : Bool) (seq : Nat) (slotB : Bool) (off len : Nat) : State → Host.Outcome State Fault Refusal :=
  act dt (postCommand slot guarded opFwStage seq [256 * bit01 slotB + 1, off, len])

/-- FW_STAGE_COMMIT (R417): `slotB` is ARG0[8], which names the target slot in the NO_FIRMWARE state. -/
def execFwStageCommit (dt slot : Nat) (guarded : Bool) (seq : Nat) (slotB : Bool)  : State → Host.Outcome State Fault Refusal :=
  act dt (postCommand slot guarded opFwStage seq [256 * bit01 slotB + 2])

/-- TRIM_REFRESH (R367). -/
def execTrimRefresh (dt slot : Nat) (guarded : Bool) (seq : Nat) (args : List Nat) : State → Host.Outcome State Fault Refusal :=
  act dt (postCommand slot guarded opTrimRefresh seq args)

/-- SEAL_OPEN (R423): the lot's identity, and its automatic interval. -/
def execSealOpen (dt slot : Nat) (guarded : Bool) (seq id every : Nat) : State → Host.Outcome State Fault Refusal :=
  act dt (postCommand slot guarded opSealing seq [0, id, every])

/-- SEAL (R423). -/
def execSeal (dt slot : Nat) (guarded : Bool) (seq : Nat) : State → Host.Outcome State Fault Refusal :=
  act dt (postCommand slot guarded opSealing seq [1])

/-- SEAL_CLOSE (R423). -/
def execSealClose (dt slot : Nat) (guarded : Bool) (seq : Nat) : State → Host.Outcome State Fault Refusal :=
  act dt (postCommand slot guarded opSealing seq [2])

/-- ATTEST (R422). -/
def execAttest (dt slot : Nat) (guarded : Bool) (seq : Nat) (args : List Nat) : State → Host.Outcome State Fault Refusal :=
  act dt (postCommand slot guarded opAttest seq args)

/-- UNASSIGNED_OPCODE (R80, R81): a command with an opcode that the table does not list. -/
def execUnassignedOpcode (dt slot : Nat) (guarded : Bool) (opcode seq : Nat) (args : List Nat) :
    State → Host.Outcome State Fault Refusal :=
  act dt (postCommand slot guarded opcode seq args)

/-! ## What ends a drain or a flow -/

/-- DRAIN_COMPLETE (R66). -/
def execDrainComplete (dt : Nat) : State → Host.Outcome State Fault Refusal := act dt drainComplete

/-- FLOW_RETURN (R420). -/
def execFlowReturn (dt : Nat) : State → Host.Outcome State Fault Refusal := act dt flowReturns

/-- FLOW_STOP_TIMEOUT (R420). -/
def execFlowStopTimeout (dt : Nat) : State → Host.Outcome State Fault Refusal := act dt flowTimeout

end Sys2Proof.Machine
end

