-- ==== Sys2Proof/Machine/CmdMeasure.lean ====
section
/-!
DEFINITION. The commands of the time measurement and of acquisition (R244 to R279).
-/

namespace Sys2Proof.Machine
open Sys2Proof.Reg

/-! ## TDC units and the regression counter -/

/-- TDC_START of unit `u` of facet `f` (R249): `n1` is N - 1. -/
def execTdcStart (dt : Nat) (path : Path) (f u n1 : Nat) : State → Host.Outcome State Fault Refusal :=
  act dt (write32 path (FCT_TDC_CTRL f u) (n1 % 2 ^ 24 + 2 ^ 24))

/-- TDC_ABORT (R249). -/
def execTdcAbort (dt : Nat) (path : Path) (f u : Nat) : State → Host.Outcome State Fault Refusal :=
  act dt (write32 path (FCT_TDC_CTRL f u) (2 ^ 25))

/-- TDC_SHOT_TIMEOUT (R248). -/
def execTdcShotTimeout (dt f u : Nat) : State → Host.Outcome State Fault Refusal := act dt (timeoutShot f u)

/-- TDC_AXIS_EVENT at the start or the stop endpoint (R245). -/
def execTdcAxisEvent (dt f u : Nat) (stop : Bool) : State → Host.Outcome State Fault Refusal := act dt (tdcAxis f u stop)

/-- RC_START on facet `f` (R253): TIMED, and M_MAX. -/
def execRcStart (dt : Nat) (path : Path) (f : Nat) (timed : Bool) (mMax : Nat) : State → Host.Outcome State Fault Refusal :=
  act dt (write32 path (FCT_RC_CTRL f) (1 + 4 * bit01 timed + 32 * (mMax % 2 ^ 20)))

/-- RC_GATE_OPEN (R253). -/
def execRcGateOpen (dt f : Nat) : State → Host.Outcome State Fault Refusal := act dt (openGate f)

/-- RC_GATE_END (R253). -/
def execRcGateEnd (dt f : Nat) : State → Host.Outcome State Fault Refusal := act dt (closeGate f)

/-- RC_ABORT (R253). -/
def execRcAbort (dt : Nat) (path : Path) (f : Nat) (timed : Bool) (mMax : Nat) : State → Host.Outcome State Fault Refusal :=
  act dt (write32 path (FCT_RC_CTRL f) (2 + 4 * bit01 timed + 32 * (mMax % 2 ^ 20)))

/-! ## Acquisition -/

/-- A PMI sample becomes available (R261): it goes to the units and to the averages of MEASURE operations (R263). -/
def takePmiSample (n : Nat) (code : Int) (s : State) : State :=
  match s.pmiRuns n, s.pmiStamp n with
  | true, some t =>
    let stale := s.pmiStale n t
    feedMeans n t (limitCode code).1 (limitCode code).2 stale (pmiSample n t code stale s)
  | _, _ => s

/-- PMI_SAMPLE of PMI `n` (R261): its code after decimation, before it is limited. -/
def execPmiSample (dt n : Nat) (code : Int) : State → Host.Outcome State Fault Refusal := act dt (takePmiSample n code)

/-- ADC_CONVERSION for unit `u` (R265): the value of the channel that is next, and whether its clamp acted. -/
def execAdcConversion (dt u : Nat) (value : Int) (clamped : Bool) : State → Host.Outcome State Fault Refusal :=
  act dt (adcConversion u value clamped)

/-- ACQ_ARM of unit `u` (R268). -/
def execAcqArm (dt : Nat) (path : Path) (u : Nat) : State → Host.Outcome State Fault Refusal :=
  act dt (write32 path (ACQ_U_CTRL u) 1)

/-- ACQ_STOP (R271). -/
def execAcqStop (dt : Nat) (path : Path) (u : Nat) : State → Host.Outcome State Fault Refusal :=
  act dt (write32 path (ACQ_U_CTRL u) 2)

/-- ACQ_SOFTWARE_TRIGGER (R269). -/
def execAcqSoftwareTrigger (dt : Nat) (path : Path) (u : Nat) : State → Host.Outcome State Fault Refusal :=
  act dt (write32 path (ACQ_U_CTRL u) 4)

/-- ACQ_AXIS_TRIGGER (R269). -/
def execAcqAxisTrigger (dt u : Nat) : State → Host.Outcome State Fault Refusal := act dt (axisTrigger u)

/-- ACQ_REARM_END (R267). -/
def execAcqRearmEnd (dt u : Nat) : State → Host.Outcome State Fault Refusal := act dt (rearmUnit u)

/-- ACQ_STREAM_FLUSH (R272). -/
def execAcqStreamFlush (dt u : Nat) : State → Host.Outcome State Fault Refusal := act dt (flushStream u)

/-- ACQ_BLOCK_DELIVERED (R273), with the ECC result of the block's page. -/
def execAcqBlockDelivered (dt u : Nat) (ecc : Ecc) : State → Host.Outcome State Fault Refusal := act dt (blockWritten u ecc)

/-- ACQ_DEST_CONS_WRITE (R273). -/
def execAcqDestConsWrite (dt : Nat) (path : Path) (u cons : Nat) : State → Host.Outcome State Fault Refusal :=
  act dt (write32 path (ACQ_U_DEST_CONS u) cons)

end Sys2Proof.Machine
end

