-- ==== Sys2Proof/Machine/CmdPort.lean ====
section
/-!
DEFINITION. The commands of the serial port, of SMBus, of keys, the log and seals, and of JTAG (R375 to R429, R443, R444).
-/

namespace Sys2Proof.Machine
open Sys2Proof.Reg

/-! ## Serial port -/

/-- SPN_XFER_START of the host's engine (R384): `data` holds SEL, DIR, WAIT_READY and ERASE. -/
def execSpnXferStart (dt : Nat) (path : Path) (data : Nat) : State → Host.Outcome State Fault Refusal :=
  act dt (write32 path SPN_XFER_CTRL (andNot data 3 ||| 1))

/-- SPN_XFER_ABORT (R382). -/
def execSpnXferAbort (dt : Nat) (path : Path) (data : Nat) : State → Host.Outcome State Fault Refusal :=
  act dt (write32 path SPN_XFER_CTRL (andNot data 3 ||| 2))

/-- SPN_TRANSFER_END (R377, R381): an edge mismatch, and the status and data bytes that the device sent. -/
def execSpnTransferEnd (dt : Nat) (edge : Bool) (status data : List Byte) : State → Host.Outcome State Fault Refusal :=
  act dt (transferEnd edge status data)

/-- SPN_BUSY_POLL of select `k` (R384). -/
def execSpnBusyPoll (dt k status : Nat) : State → Host.Outcome State Fault Refusal := act dt (busyPoll k status)

/-- XIP_READ (R385): of the host, through BAR4 and from SS0 only, or of Apex firmware from select `k`. -/
def execXipRead (dt : Nat) (host : Bool) (k addr len : Nat) : State → Host.Outcome State Fault Refusal :=
  act dt (fun s => if !host && s.pathDead .apex then s else windowRead host (if host then 0 else k) addr len s)

/-- XIP_HOST_TIMEOUT (R389). -/
def execXipHostTimeout (dt : Nat) : State → Host.Outcome State Fault Refusal := act dt windowTimeout

/-- XIP_WRITE of Apex firmware (R386). -/
def execXipWrite (dt k addr : Nat) (bytes : List Byte) : State → Host.Outcome State Fault Refusal :=
  act dt (fun s => if s.pathDead .apex then s else windowWrite k addr bytes s)

/-- XIP_FLUSH: Apex firmware writes 1 to SPN_XIP_FLUSH (R386). -/
def execXipFlush (dt : Nat) : State → Host.Outcome State Fault Refusal :=
  act dt (fun s => if s.pathDead .apex then s else startFlush s)

/-- XIP_FLUSH_TIMER (R386). -/
def execXipFlushTimer (dt : Nat) : State → Host.Outcome State Fault Refusal := act dt flushTimer

/-- NVM_PROGRAM_TIMEOUT at select `k` (R387). -/
def execNvmProgramTimeout (dt k : Nat) : State → Host.Outcome State Fault Refusal := act dt (programTimeout k)

/-- ERASE_TIMEOUT at select `k` (R387). -/
def execEraseTimeout (dt k : Nat) : State → Host.Outcome State Fault Refusal := act dt (eraseTimeout k)

/-- ERASE_RESUME at select `k` (R388). -/
def execEraseResume (dt k : Nat) : State → Host.Outcome State Fault Refusal := act dt (resumeErase k)

/-! ## SMBus -/

/-- SMBUS_PAGE_SELECT (R393): a Send Byte of `page` to `addr`, with its packet error code. -/
def execSmbusPageSelect (dt addr page code : Nat) : State → Host.Outcome State Fault Refusal := act dt (smbSelect addr page code)

/-- SMBUS_PAGE_READ (R393). -/
def execSmbusPageRead (dt addr : Nat) : State → Host.Outcome State Fault Refusal := act dt (smbPage addr)

/-- SMBUS_WRITE (R395): bytes from command code `cmd`, their packet error code, and whether the transaction ends with them. -/
def execSmbusWrite (dt addr cmd : Nat) (bytes : List Nat) (code : Nat) (ended : Bool) : State → Host.Outcome State Fault Refusal :=
  act dt (smbWrite addr cmd bytes code ended)

/-- SMBUS_READ of `n` bytes (R395). -/
def execSmbusRead (dt addr cmd n : Nat) : State → Host.Outcome State Fault Refusal := act dt (smbRead addr cmd n)

/-- SMBUS_CLOCK_TIMEOUT (R443). -/
def execSmbusClockTimeout (dt : Nat) : State → Host.Outcome State Fault Refusal := act dt smbTimeout

/-- ALERT_RESPONSE (R398). -/
def execAlertResponse (dt : Nat) : State → Host.Outcome State Fault Refusal := act dt smbAlertResponse

/-! ## Keys, the log and seals -/

/-- KEY_ENROL (R412): a write of APX_KEY_ENROL with GO; the guard has been opened before. (Log: 13 DESIGN CHOICE) -/
def execKeyEnrol (dt : Nat) (path : Path) (slot : Nat) : State → Host.Outcome State Fault Refusal :=
  act dt (write32 path APX_KEY_ENROL (slot % 4 + 16))

/-- The burn of a key hash ends (R412): `ok` says that it reads back as written. Nothing but the result changes otherwise. -/
def endEnrol (ok : Bool) (s : State) : State :=
  match s.apex.enrol with
  | none => s
  | some k =>
    let s := { s.set APX_KEY_ENROL_GO 0 with apex := { s.apex with enrol := none } }
    if !ok then pend 458 (s.set APX_KEY_STAT_RESULT 4)
    else
      let hash := s.regBytes (APX_KEY_HASH 0) 12
      let o := s.otp
      let s := { s with otp := { o with keys := Store.put (fun _ => []) o.keys k hash } }
      let (v, s) := s.fresh
      logEvent logKey v [] (pend 458 ((s.setBit APX_KEY_STAT_PROGRAMMED k true).set APX_KEY_STAT_RESULT 1))

/-- KEY_ENROL_END (R412). -/
def execKeyEnrolEnd (dt : Nat) (ok : Bool) : State → Host.Outcome State Fault Refusal := act dt (endEnrol ok)

/-- LOG_COMPACT_AUTO (R407). -/
def execLogCompactAuto (dt : Nat) : State → Host.Outcome State Fault Refusal := act dt autoCompact

/-- SEAL_WRITTEN (R425). -/
def execSealWritten (dt : Nat) : State → Host.Outcome State Fault Refusal := act dt sealWritten

/-! ## JTAG (R444) -/

/-- EXTEST: what the balls show is shifted out, and `bits` are shifted into the boundary register. -/
def execExtest (dt : Nat) (sampled bits : List Bool) : State → Host.Outcome State Fault Refusal :=
  act dt (boundaryTest 0x00 sampled bits)

/-- IDCODE: the identification code is shifted out, its lowest bit first. -/
def execIdcode (dt : Nat) : State → Host.Outcome State Fault Refusal :=
  act dt (fun s => (loadIr 0x01 s).send (.tdo ((List.range 32).map fun i => s.idCode.testBit i)))

/-- SAMPLE_PRELOAD. -/
def execSamplePreload (dt : Nat) (sampled bits : List Bool) : State → Host.Outcome State Fault Refusal :=
  act dt (fun s => scanBoundary sampled bits (loadIr 0x02 s))

/-- HIGHZ: bits are shifted through the bypass register. -/
def execHighz (dt : Nat) (bits : List Bool) : State → Host.Outcome State Fault Refusal :=
  act dt (fun s => scanBypass bits (loadIr 0x04 s))

/-- CLAMP. -/
def execClamp (dt : Nat) (bits : List Bool) : State → Host.Outcome State Fault Refusal :=
  act dt (fun s => scanBypass bits (loadIr 0x05 s))

/-- EXTEST_PULSE. -/
def execExtestPulse (dt : Nat) (sampled bits : List Bool) : State → Host.Outcome State Fault Refusal :=
  act dt (boundaryTest 0x06 sampled bits)

/-- EXTEST_TRAIN. -/
def execExtestTrain (dt : Nat) (sampled bits : List Bool) : State → Host.Outcome State Fault Refusal :=
  act dt (boundaryTest 0x07 sampled bits)

/-- The codes that name an instruction other than BYPASS. -/
def listedIr (ir : Nat) : Bool := ir ∈ [0x00, 0x01, 0x02, 0x04, 0x05, 0x06, 0x07]

/-- BYPASS: 0xFF, and every unlisted code `code`. -/
def execBypass (dt code : Nat) (bits : List Bool) : State → Host.Outcome State Fault Refusal :=
  act dt (fun s => scanBypass bits (loadIr (if listedIr (code % 256) then 0xFF else code % 256) s))

end Sys2Proof.Machine
end

