-- ==== Sys2Proof/Machine/Dispatch.lean ====
section
/-!
DEFINITION. The dispatch of commands: one arm per constructor of Instr, each one direct call of its meaning.
-/

namespace Sys2Proof.Machine

/-- The effect of a command on everything but the queue of waiting commands. -/
def exec (i : Instr) (s : State) : Host.Outcome State Fault Refusal :=
  match i with
  | .powerOn dt => Sys2Proof.Machine.execPowerOn dt s
  | .vddAonLoss dt => Sys2Proof.Machine.execVddAonLoss dt s
  | .perstAssert dt => Sys2Proof.Machine.execPerstAssert dt s
  | .perstDeassert dt prof => Sys2Proof.Machine.execPerstDeassert dt prof s
  | .suppliesGood dt prof => Sys2Proof.Machine.execSuppliesGood dt prof s
  | .railBrownout dt => Sys2Proof.Machine.execRailBrownout dt s
  | .supplyMonitorSample dt rail mv => Sys2Proof.Machine.execSupplyMonitorSample dt rail mv s
  | .refclkLoss dt => Sys2Proof.Machine.execRefclkLoss dt s
  | .axisPllLock dt => Sys2Proof.Machine.execAxisPllLock dt s
  | .linkDown dt => Sys2Proof.Machine.execLinkDown dt s
  | .bootFinished dt ofs => Sys2Proof.Machine.execBootFinished dt ofs s
  | .apexWatchdogExpiry dt => Sys2Proof.Machine.execApexWatchdogExpiry dt s
  | .registerWrite dt path addr items => Sys2Proof.Machine.execRegisterWrite dt path addr items s
  | .unimplementedAccess dt path bar write addr be => Sys2Proof.Machine.execUnimplementedAccess dt path bar write addr be s
  | .lowWordReadLatch dt path addr => Sys2Proof.Machine.execLowWordReadLatch dt path addr s
  | .rcFieldRead dt path addr bes => Sys2Proof.Machine.execRcFieldRead dt path addr bes s
  | .glbUpdateArm dt path mask timed => Sys2Proof.Machine.execGlbUpdateArm dt path mask timed s
  | .glbUpdateCancel dt path => Sys2Proof.Machine.execGlbUpdateCancel dt path s
  | .updateApply dt => Sys2Proof.Machine.execUpdateApply dt s
  | .glbUnlock dt path key => Sys2Proof.Machine.execGlbUnlock dt path key s
  | .siteTableWrite dt path addr items => Sys2Proof.Machine.execSiteTableWrite dt path addr items s
  | .siteCheck dt path => Sys2Proof.Machine.execSiteCheck dt path s
  | .siteCommit dt path => Sys2Proof.Machine.execSiteCommit dt path s
  | .siteCheckEnd dt => Sys2Proof.Machine.execSiteCheckEnd dt s
  | .contactTest dt path => Sys2Proof.Machine.execContactTest dt path s
  | .contactAbort dt path => Sys2Proof.Machine.execContactAbort dt path s
  | .contactTestEnd dt readings => Sys2Proof.Machine.execContactTestEnd dt readings s
  | .vertexInk dt path v => Sys2Proof.Machine.execVertexInk dt path v s
  | .wallclockWrite dt path seconds => Sys2Proof.Machine.execWallclockWrite dt path seconds s
  | .status dt slot guarded seq args => Sys2Proof.Machine.execStatus dt slot guarded seq args s
  | .goIdle dt slot guarded seq args => Sys2Proof.Machine.execGoIdle dt slot guarded seq args s
  | .goHost dt slot guarded seq args => Sys2Proof.Machine.execGoHost dt slot guarded seq args s
  | .goAuto dt slot guarded seq args => Sys2Proof.Machine.execGoAuto dt slot guarded seq args s
  | .goDoze dt slot guarded seq args => Sys2Proof.Machine.execGoDoze dt slot guarded seq args s
  | .enterSafe dt slot guarded seq args => Sys2Proof.Machine.execEnterSafe dt slot guarded seq args s
  | .clearSafe dt slot guarded seq args => Sys2Proof.Machine.execClearSafe dt slot guarded seq args s
  | .clearShutdown dt slot guarded seq args => Sys2Proof.Machine.execClearShutdown dt slot guarded seq args s
  | .selectProfile dt slot guarded seq args => Sys2Proof.Machine.execSelectProfile dt slot guarded seq args s
  | .reboot dt slot guarded seq args => Sys2Proof.Machine.execReboot dt slot guarded seq args s
  | .calibrate dt slot guarded seq args => Sys2Proof.Machine.execCalibrate dt slot guarded seq args s
  | .selftest dt slot guarded seq args => Sys2Proof.Machine.execSelftest dt slot guarded seq args s
  | .logCompact dt slot guarded seq args => Sys2Proof.Machine.execLogCompact dt slot guarded seq args s
  | .fwStageBegin dt slot guarded seq slotB len => Sys2Proof.Machine.execFwStageBegin dt slot guarded seq slotB len s
  | .fwStageChunk dt slot guarded seq slotB off len => Sys2Proof.Machine.execFwStageChunk dt slot guarded seq slotB off len s
  | .fwStageCommit dt slot guarded seq slotB => Sys2Proof.Machine.execFwStageCommit dt slot guarded seq slotB s
  | .trimRefresh dt slot guarded seq args => Sys2Proof.Machine.execTrimRefresh dt slot guarded seq args s
  | .sealOpen dt slot guarded seq id every => Sys2Proof.Machine.execSealOpen dt slot guarded seq id every s
  | .seal dt slot guarded seq => Sys2Proof.Machine.execSeal dt slot guarded seq s
  | .sealClose dt slot guarded seq => Sys2Proof.Machine.execSealClose dt slot guarded seq s
  | .attest dt slot guarded seq args => Sys2Proof.Machine.execAttest dt slot guarded seq args s
  | .unassignedOpcode dt slot guarded opcode seq args => Sys2Proof.Machine.execUnassignedOpcode dt slot guarded opcode seq args s
  | .drainComplete dt => Sys2Proof.Machine.execDrainComplete dt s
  | .flowReturn dt => Sys2Proof.Machine.execFlowReturn dt s
  | .flowStopTimeout dt => Sys2Proof.Machine.execFlowStopTimeout dt s
  | .overcurrentTrip dt c => Sys2Proof.Machine.execOvercurrentTrip dt c s
  | .ocClear dt path f word data => Sys2Proof.Machine.execOcClear dt path f word data s
  | .channelUnpark dt f => Sys2Proof.Machine.execChannelUnpark dt f s
  | .pmuStart dt path c data => Sys2Proof.Machine.execPmuStart dt path c data s
  | .pmuSettleEnd dt c => Sys2Proof.Machine.execPmuSettleEnd dt c s
  | .pmuMeasurementComplete dt c conversions clamped => Sys2Proof.Machine.execPmuMeasurementComplete dt c conversions clamped s
  | .pmuAbort dt path c data => Sys2Proof.Machine.execPmuAbort dt path c data s
  | .pmuConfigWrite dt path c word data => Sys2Proof.Machine.execPmuConfigWrite dt path c word data s
  | .epochCheckPulse dt errs => Sys2Proof.Machine.execEpochCheckPulse dt errs s
  | .replicaResync dt k ofs => Sys2Proof.Machine.execReplicaResync dt k ofs s
  | .recal dt path => Sys2Proof.Machine.execRecal dt path s
  | .recalDone dt ofs => Sys2Proof.Machine.execRecalDone dt ofs s
  | .syncEpochDetect dt => Sys2Proof.Machine.execSyncEpochDetect dt s
  | .epochZero dt => Sys2Proof.Machine.execEpochZero dt s
  | .syncArm dt path outMode => Sys2Proof.Machine.execSyncArm dt path outMode s
  | .syncFire dt path => Sys2Proof.Machine.execSyncFire dt path s
  | .rateChange dt f => Sys2Proof.Machine.execRateChange dt f s
  | .anchorApply dt f => Sys2Proof.Machine.execAnchorApply dt f s
  | .vectorPlay dt f r seen ecc => Sys2Proof.Machine.execVectorPlay dt f r seen ecc s
  | .phaseStart dt f k => Sys2Proof.Machine.execPhaseStart dt f k s
  | .startBoundary dt f r => Sys2Proof.Machine.execStartBoundary dt f r s
  | .jump dt path k vec at_ => Sys2Proof.Machine.execJump dt path k vec at_ s
  | .stop dt path k at_ => Sys2Proof.Machine.execStop dt path k at_ s
  | .abort dt path k at_ => Sys2Proof.Machine.execAbort dt path k at_ s
  | .jumpTaken dt f r => Sys2Proof.Machine.execJumpTaken dt f r s
  | .stopTaken dt f r => Sys2Proof.Machine.execStopTaken dt f r s
  | .abortTaken dt f r => Sys2Proof.Machine.execAbortTaken dt f r s
  | .granuleDecision dt k => Sys2Proof.Machine.execGranuleDecision dt k s
  | .fillEnd dt f r => Sys2Proof.Machine.execFillEnd dt f r s
  | .streamProduce dt path f r prod => Sys2Proof.Machine.execStreamProduce dt path f r prod s
  | .streamWordsArrive dt f r words => Sys2Proof.Machine.execStreamWordsArrive dt f r words s
  | .sqCfgWrite dt path f r data => Sys2Proof.Machine.execSqCfgWrite dt path f r data s
  | .microcodeWrite dt path f word dword data => Sys2Proof.Machine.execMicrocodeWrite dt path f word dword data s
  | .wgStart dt path f g timed => Sys2Proof.Machine.execWgStart dt path f g timed s
  | .wgStop dt path f g => Sys2Proof.Machine.execWgStop dt path f g s
  | .wgHalt dt path f g => Sys2Proof.Machine.execWgHalt dt path f g s
  | .wgPlayStart dt f g => Sys2Proof.Machine.execWgPlayStart dt f g s
  | .wgOutputUpdate dt f g ecc => Sys2Proof.Machine.execWgOutputUpdate dt f g ecc s
  | .wgSegmentEnd dt f g => Sys2Proof.Machine.execWgSegmentEnd dt f g s
  | .wgTsApply dt f g => Sys2Proof.Machine.execWgTsApply dt f g s
  | .descriptorFetch dt v data ecc => Sys2Proof.Machine.execDescriptorFetch dt v data ecc s
  | .notBeforeReached dt v => Sys2Proof.Machine.execNotBeforeReached dt v s
  | .gatherClose dt v joined => Sys2Proof.Machine.execGatherClose dt v joined s
  | .admission dt v => Sys2Proof.Machine.execAdmission dt v s
  | .operationUrgent dt v => Sys2Proof.Machine.execOperationUrgent dt v s
  | .phaseIssue dt k => Sys2Proof.Machine.execPhaseIssue dt k s
  | .startWithdraw dt k => Sys2Proof.Machine.execStartWithdraw dt k s
  | .holdMaxExpiry dt k => Sys2Proof.Machine.execHoldMaxExpiry dt k s
  | .pollRoundIssue dt k => Sys2Proof.Machine.execPollRoundIssue dt k s
  | .phaseEnd dt k => Sys2Proof.Machine.execPhaseEnd dt k s
  | .comparatorEdge dt c edge => Sys2Proof.Machine.execComparatorEdge dt c edge s
  | .busyWindowExpiry dt v => Sys2Proof.Machine.execBusyWindowExpiry dt v s
  | .busyTimeout dt v => Sys2Proof.Machine.execBusyTimeout dt v s
  | .powerSettleEnd dt v => Sys2Proof.Machine.execPowerSettleEnd dt v s
  | .pmiAverageEnd dt v => Sys2Proof.Machine.execPmiAverageEnd dt v s
  | .arcCancel dt path tag => Sys2Proof.Machine.execArcCancel dt path tag s
  | .arcReplayGo dt path k => Sys2Proof.Machine.execArcReplayGo dt path k s
  | .vholdClear dt path v => Sys2Proof.Machine.execVholdClear dt path v s
  | .recoveryFailClear dt path k => Sys2Proof.Machine.execRecoveryFailClear dt path k s
  | .failEvent dt f ecc => Sys2Proof.Machine.execFailEvent dt f ecc s
  | .mergeWindowExpiry dt ecc => Sys2Proof.Machine.execMergeWindowExpiry dt ecc s
  | .endMarker dt f => Sys2Proof.Machine.execEndMarker dt f s
  | .latticeClose dt v ecc => Sys2Proof.Machine.execLatticeClose dt v ecc s
  | .latticeCloseComplete dt v => Sys2Proof.Machine.execLatticeCloseComplete dt v s
  | .latClear dt path columns blocks => Sys2Proof.Machine.execLatClear dt path columns blocks s
  | .latClearEnd dt => Sys2Proof.Machine.execLatClearEnd dt s
  | .repairAnalysis dt path kind plane tag => Sys2Proof.Machine.execRepairAnalysis dt path kind plane tag s
  | .repairAnalysisAbort dt path kind plane tag => Sys2Proof.Machine.execRepairAnalysisAbort dt path kind plane tag s
  | .repairVertexDone dt => Sys2Proof.Machine.execRepairVertexDone dt s
  | .collectorClear dt path c => Sys2Proof.Machine.execCollectorClear dt path c s
  | .cmapWindowWrite dt path word data => Sys2Proof.Machine.execCmapWindowWrite dt path word data s
  | .tdcStart dt path f u n1 => Sys2Proof.Machine.execTdcStart dt path f u n1 s
  | .tdcAbort dt path f u => Sys2Proof.Machine.execTdcAbort dt path f u s
  | .tdcShotTimeout dt f u => Sys2Proof.Machine.execTdcShotTimeout dt f u s
  | .tdcAxisEvent dt f u stop => Sys2Proof.Machine.execTdcAxisEvent dt f u stop s
  | .rcStart dt path f timed mMax => Sys2Proof.Machine.execRcStart dt path f timed mMax s
  | .rcGateOpen dt f => Sys2Proof.Machine.execRcGateOpen dt f s
  | .rcGateEnd dt f => Sys2Proof.Machine.execRcGateEnd dt f s
  | .rcAbort dt path f timed mMax => Sys2Proof.Machine.execRcAbort dt path f timed mMax s
  | .pmiSample dt n code => Sys2Proof.Machine.execPmiSample dt n code s
  | .adcConversion dt u value clamped => Sys2Proof.Machine.execAdcConversion dt u value clamped s
  | .acqArm dt path u => Sys2Proof.Machine.execAcqArm dt path u s
  | .acqStop dt path u => Sys2Proof.Machine.execAcqStop dt path u s
  | .acqSoftwareTrigger dt path u => Sys2Proof.Machine.execAcqSoftwareTrigger dt path u s
  | .acqAxisTrigger dt u => Sys2Proof.Machine.execAcqAxisTrigger dt u s
  | .acqRearmEnd dt u => Sys2Proof.Machine.execAcqRearmEnd dt u s
  | .acqStreamFlush dt u => Sys2Proof.Machine.execAcqStreamFlush dt u s
  | .acqBlockDelivered dt u ecc => Sys2Proof.Machine.execAcqBlockDelivered dt u ecc s
  | .acqDestConsWrite dt path u cons => Sys2Proof.Machine.execAcqDestConsWrite dt path u cons s
  | .doorbellCommand dt path v value be => Sys2Proof.Machine.execDoorbellCommand dt path v value be s
  | .doorbellOutput dt path v which value be => Sys2Proof.Machine.execDoorbellOutput dt path v which value be s
  | .ringEnable dt path n data => Sys2Proof.Machine.execRingEnable dt path n data s
  | .ringDisable dt path n data => Sys2Proof.Machine.execRingDisable dt path n data s
  | .ringRetry dt path n data => Sys2Proof.Machine.execRingRetry dt path n data s
  | .recordHandover dt n data => Sys2Proof.Machine.execRecordHandover dt n data s
  | .recordWriteDone dt n => Sys2Proof.Machine.execRecordWriteDone dt n s
  | .writebackTimer dt n => Sys2Proof.Machine.execWritebackTimer dt n s
  | .translationCompletion dt page pages read write => Sys2Proof.Machine.execTranslationCompletion dt page pages read write s
  | .pageResponse dt page code => Sys2Proof.Machine.execPageResponse dt page code s
  | .invalidateRequest dt tag page pages => Sys2Proof.Machine.execInvalidateRequest dt tag page pages s
  | .invalidateCompletion dt tag => Sys2Proof.Machine.execInvalidateCompletion dt tag s
  | .completionError dt n timeout => Sys2Proof.Machine.execCompletionError dt n timeout s
  | .priRestart dt path => Sys2Proof.Machine.execPriRestart dt path s
  | .retryAux dt path acq sq => Sys2Proof.Machine.execRetryAux dt path acq sq s
  | .copyStart dt path src => Sys2Proof.Machine.execCopyStart dt path src s
  | .copyAbort dt path src => Sys2Proof.Machine.execCopyAbort dt path src s
  | .copyEnd dt pages => Sys2Proof.Machine.execCopyEnd dt pages s
  | .msixEnable dt msix funcMask busMaster ats pri alloc => Sys2Proof.Machine.execMsixEnable dt msix funcMask busMaster ats pri alloc s
  | .iclSourceEvent dt n => Sys2Proof.Machine.execIclSourceEvent dt n s
  | .iclClaim dt path t => Sys2Proof.Machine.execIclClaim dt path t s
  | .iclDone dt path t g => Sys2Proof.Machine.execIclDone dt path t g s
  | .iclPendClear dt path g bits => Sys2Proof.Machine.execIclPendClear dt path g bits s
  | .iclOnlineWrite dt path data => Sys2Proof.Machine.execIclOnlineWrite dt path data s
  | .iclMaskWrite dt path n data => Sys2Proof.Machine.execIclMaskWrite dt path n data s
  | .iclSwset dt path n => Sys2Proof.Machine.execIclSwset dt path n s
  | .faultEvent dt n => Sys2Proof.Machine.execFaultEvent dt n s
  | .railFault dt n => Sys2Proof.Machine.execRailFault dt n s
  | .reactionComplete dt t => Sys2Proof.Machine.execReactionComplete dt t s
  | .peLinkTrainingEnd dt f ok => Sys2Proof.Machine.execPeLinkTrainingEnd dt f ok s
  | .peLinkRetrainTimer dt f => Sys2Proof.Machine.execPeLinkRetrainTimer dt f s
  | .shadowEnd dt t => Sys2Proof.Machine.execShadowEnd dt t s
  | .graceExpiry dt => Sys2Proof.Machine.execGraceExpiry dt s
  | .fclAck dt path seq => Sys2Proof.Machine.execFclAck dt path seq s
  | .facetRelease dt path mask => Sys2Proof.Machine.execFacetRelease dt path mask s
  | .escClear dt path => Sys2Proof.Machine.execEscClear dt path s
  | .faultInject dt path source rail => Sys2Proof.Machine.execFaultInject dt path source rail s
  | .aliveToggle dt => Sys2Proof.Machine.execAliveToggle dt s
  | .aliveFreqWrite dt path freq => Sys2Proof.Machine.execAliveFreqWrite dt path freq s
  | .faultConfigWrite dt path n window data => Sys2Proof.Machine.execFaultConfigWrite dt path n window data s
  | .histRead dt path entry => Sys2Proof.Machine.execHistRead dt path entry s
  | .thermalSample dt code diode => Sys2Proof.Machine.execThermalSample dt code diode s
  | .shutdownDrainEnd dt => Sys2Proof.Machine.execShutdownDrainEnd dt s
  | .shutdownComplete dt => Sys2Proof.Machine.execShutdownComplete dt s
  | .thermalUnfreeze dt path => Sys2Proof.Machine.execThermalUnfreeze dt path s
  | .thmConfigWrite dt path throttle data => Sys2Proof.Machine.execThmConfigWrite dt path throttle data s
  | .calibrationStepEnd dt m data => Sys2Proof.Machine.execCalibrationStepEnd dt m data s
  | .calCommitDone dt ok => Sys2Proof.Machine.execCalCommitDone dt ok s
  | .calAbort dt path => Sys2Proof.Machine.execCalAbort dt path s
  | .trimWrite dt path addr data => Sys2Proof.Machine.execTrimWrite dt path addr data s
  | .trimRefreshReadDone dt => Sys2Proof.Machine.execTrimRefreshReadDone dt s
  | .maintenanceDispatch dt nvm => Sys2Proof.Machine.execMaintenanceDispatch dt nvm s
  | .spnXferStart dt path data => Sys2Proof.Machine.execSpnXferStart dt path data s
  | .spnXferAbort dt path data => Sys2Proof.Machine.execSpnXferAbort dt path data s
  | .spnTransferEnd dt edge status data => Sys2Proof.Machine.execSpnTransferEnd dt edge status data s
  | .spnBusyPoll dt k status => Sys2Proof.Machine.execSpnBusyPoll dt k status s
  | .xipRead dt host k addr len => Sys2Proof.Machine.execXipRead dt host k addr len s
  | .xipHostTimeout dt => Sys2Proof.Machine.execXipHostTimeout dt s
  | .xipWrite dt k addr bytes => Sys2Proof.Machine.execXipWrite dt k addr bytes s
  | .xipFlush dt => Sys2Proof.Machine.execXipFlush dt s
  | .xipFlushTimer dt => Sys2Proof.Machine.execXipFlushTimer dt s
  | .nvmProgramTimeout dt k => Sys2Proof.Machine.execNvmProgramTimeout dt k s
  | .eraseTimeout dt k => Sys2Proof.Machine.execEraseTimeout dt k s
  | .eraseResume dt k => Sys2Proof.Machine.execEraseResume dt k s
  | .smbusPageSelect dt addr page code => Sys2Proof.Machine.execSmbusPageSelect dt addr page code s
  | .smbusPageRead dt addr => Sys2Proof.Machine.execSmbusPageRead dt addr s
  | .smbusWrite dt addr cmd bytes code ended => Sys2Proof.Machine.execSmbusWrite dt addr cmd bytes code ended s
  | .smbusRead dt addr cmd n => Sys2Proof.Machine.execSmbusRead dt addr cmd n s
  | .smbusClockTimeout dt => Sys2Proof.Machine.execSmbusClockTimeout dt s
  | .alertResponse dt => Sys2Proof.Machine.execAlertResponse dt s
  | .keyEnrol dt path slot => Sys2Proof.Machine.execKeyEnrol dt path slot s
  | .keyEnrolEnd dt ok => Sys2Proof.Machine.execKeyEnrolEnd dt ok s
  | .logCompactAuto dt => Sys2Proof.Machine.execLogCompactAuto dt s
  | .sealWritten dt => Sys2Proof.Machine.execSealWritten dt s
  | .extest dt sampled bits => Sys2Proof.Machine.execExtest dt sampled bits s
  | .idcode dt => Sys2Proof.Machine.execIdcode dt s
  | .samplePreload dt sampled bits => Sys2Proof.Machine.execSamplePreload dt sampled bits s
  | .highz dt bits => Sys2Proof.Machine.execHighz dt bits s
  | .clamp dt bits => Sys2Proof.Machine.execClamp dt bits s
  | .extestPulse dt sampled bits => Sys2Proof.Machine.execExtestPulse dt sampled bits s
  | .extestTrain dt sampled bits => Sys2Proof.Machine.execExtestTrain dt sampled bits s
  | .bypass dt code bits => Sys2Proof.Machine.execBypass dt code bits s
  | .faultLineDeassert dt n => Sys2Proof.Machine.execFaultLineDeassert dt n s
  | .railWiresDiffer dt n => Sys2Proof.Machine.execRailWiresDiffer dt n s
  | .msixUnmask dt vector => Sys2Proof.Machine.execMsixUnmask dt vector s
  | .linkUp dt speed width => Sys2Proof.Machine.execLinkUp dt speed width s
  | .priCapabilityReset dt => Sys2Proof.Machine.execPriCapabilityReset dt s

end Sys2Proof.Machine
end

