-- ==== Sys2Proof/Machine/Step.lean ====
section
/-!
DEFINITION. One step of the block: the command at the front of the queue is taken and has its effect. With nothing waiting
the block idles; its clock advances only by commands.
-/

namespace Sys2Proof.Machine

/-- The block with `q` as its queue. -/
def State.withPending (s : State) (q : List Instr) : State := { s with pending := q }

/-- One step (R26 onward). (Log: 2 DESIGN CHOICE) -/
def step (s : State) : Host.Outcome State Fault Refusal :=
  match s.pending with
  | [] => .next s
  | c :: q => exec c (s.withPending q)

/-- The block with the command that a table word spells in front of its queue; unchanged where the word spells none. (Log: 4 DESIGN CHOICE) -/
def State.withFetchWord (s : State) (nbits w : Nat) : State :=
  match decodeTableWord nbits w with
  | some c => s.withPending (c :: s.pending)
  | none => s

end Sys2Proof.Machine
end

