-- ==== Sys2Proof/Safety.lean ====
section
/-!
DEFINITION. What the statements speak of: the answer of a command, and what a command leaves alone.
-/

namespace Sys2Proof.Machine
open Sys2Proof.Reg

/-- Command `c` on `s` has the effect `t`: the answer is the next state that `t` leaves when what follows of itself is done, and that
is `t` itself where nothing is left to follow. -/
def Gives (c : Instr) (s t : State) : Prop :=
  exec c s = .next (leave s t) ∧ (t.calm = true → exec c s = .next { t with pending := s.pending })

/-- Registers other than those listed read in `t` as in `s`. -/
def SameRegs (as : List Nat) (s t : State) : Prop := ∀ a, a ∉ as → t.reg a = s.reg a

/-- The byte memories read in `t` as in `s`. -/
def SameMemories (s t : State) : Prop :=
  t.pool = s.pool ∧ t.ucode = s.ucode ∧ t.stream = s.stream ∧ t.cmap = s.cmap ∧ t.flash = s.flash

/-- Nothing but registers differs between `s` and `t`, and of these only the listed ones. -/
def OnlyRegs (as : List Nat) (s t : State) : Prop := t = { s with regs := t.regs } ∧ SameRegs as s t

/-- A run of `n` steps answers a next state. -/
def Runs (n : Nat) (s : State) : Prop := ∃ t, Host.Core.run Sys2Proof.core n s = .next t

/-- The state in which a request on path `p` acts: the clock has advanced and the path's guard is armed again (R34). -/
def State.request (s : State) (dt : Nat) (p : Path) : State := setGuard p false (s.tick dt)

/-- A full 32-bit write on path `p` reaches the 32-bit register at `a`: the path is served in this mode, the register's block is not
turned away, and a register of this part stands there. -/
def State.takes (s : State) (p : Path) (a : Nat) : Bool :=
  !s.pathDead p && !s.hostShut p a && !s.windowGated a && s.implemented a &&
  match rowAt a with
  | some (r, _) => !r.quad
  | none => false

/-- The operation of vertex `v` has its status, with a reason, as of stamp `at_`, and the vertex is in CLOSE (R193, R209). -/
def State.closes (s : State) (v st reason at_ : Nat) : Prop :=
  s.vstate v = vsClose ∧ ∃ o, s.op v = some o ∧ o.status = some (st, reason) ∧ o.doneAt = at_

/-- The command that a poster leaves in a mailbox slot (R79): slot 0 is the host's, and only there a guard can be open. -/
def posted (slot : Nat) (guarded : Bool) (op seq : Nat) (args : List Nat) : Cmd :=
  let k := if slot = 0 then 0 else 1
  ⟨k, op % 256, seq % 256, (List.range 4).map fun i => args.getD i 0 % 2 ^ 32, guarded && k == 0⟩

/-- The command that posts `c` answers what serving `c` leaves (R80), on a state in which only the registers of its slot, and the guard,
have changed since the clock advanced. -/
def Served (i : Instr) (dt : Nat) (c : Cmd) (s : State) : Prop :=
  ∃ u : State, u = { s.tick dt with regs := u.regs } ∧ u.on (APX_DOORBELL_GO c.slot) = true ∧ u.get (APX_CMD_OPCODE c.slot) = c.opcode ∧
    u.get (APX_CMD_SEQ c.slot) = c.seq ∧ (∀ j, j < 4 → u.get (APX_ARG_ARG c.slot j) = c.arg j) ∧
    SameRegs [APX_CMD c.slot, APX_ARG c.slot 0, APX_ARG c.slot 1, APX_ARG c.slot 2, APX_ARG c.slot 3, APX_DOORBELL c.slot, GLB_GUARD_STAT] s u ∧
    exec i s = .next { settleRounds 3 (refreshQuiet (serve c u)) with pending := s.pending }

end Sys2Proof.Machine
end

