-- ==== Sys2Proof/Certificates/Slice0/Obligations.lean ====
section
/-!
DEFINITION. What is claimed of the block: one statement for each group of commands and for each kind of its state. `Gives c s t` says
that command `c` on `s` answers the next state that the effect `t` leaves.
-/

open Sys2Proof Sys2Proof.Machine Sys2Proof.Reg

/-! ## The machine -/

/-- One step with command c in front of the queue is exec of c on the state whose queue is the rest; on an empty queue the block idles
(the model's choice, log 2). -/
def Obligations.StepTakesTheFrontCommand : Prop :=
  (∀ (s : State) (c : Instr) (q : List Instr), step (s.withPending (c :: q)) = exec c (s.withPending q)) ∧
  (∀ s : State, step (s.withPending []) = .next (s.withPending []))

/-- No command faults or is refused: on every state it answers a next state, whose queue is the one that was given. -/
def Obligations.EveryCommandAnswers : Prop :=
  ∀ (c : Instr) (s : State), ∃ t, exec c s = .next t ∧ t.pending = s.pending

/-- From every state, as many steps of the machine as commands wait answer a state in which none waits, whatever the commands are. -/
def Obligations.TheQueueIsServed : Prop :=
  ∀ s : State, ∃ t : State, Host.Core.run Sys2Proof.core s.pending.length s = .next t ∧ t.pending = []

/-- If ARC_STAT.QUIET is 1 exactly when Arc has no operation in flight and no descriptor stands at any ring head, it is so after every
step that answers a next state, whatever command is taken. -/
def Obligations.QuietTellsTheTruth : Prop :=
  ∀ s t : State, s.on ARC_STAT_QUIET = s.quiet → step s = .next t → t.on ARC_STAT_QUIET = t.quiet

/-- At reset ARC_STAT.QUIET is 1 exactly when Arc has no operation in flight and no descriptor stands at any ring head. -/
def Obligations.QuietAtReset : Prop := State.reset.on ARC_STAT_QUIET = State.reset.quiet

/-- Right after reset the mode is RESET, every register and pair reads its table's reset value (some of them are named with the value of
their table), no shadow and no update waits, the queue is empty, and the byte memories hold their canonical form. That memories list
nothing before BOOT and that hidden state is empty are the model's choice (logs 5, 7 and 16). -/
def Obligations.ResetState : Prop :=
  State.reset.mode = modeReset ∧ (∀ a, State.reset.reg a = rstWord a) ∧
  State.reset.get GLB_UPDATE_DONE_DONE = 0x3FFFF ∧ State.reset.get GLB_IDENT_FAMILY = 0x7C20 ∧
  State.reset.get (FCL_SRC_W_W 5) = 1600000 ∧ State.reset.get (ICL_CLAIM_GROUP 3) = 0x3FF ∧
  State.reset.get ICL_ONLINE_APEX = 1 ∧ State.reset.on (ICL_SRC_CFG_ENABLE 77) = true ∧
  State.reset.shadow = [] ∧ State.reset.armed = none ∧ State.reset.pending = [] ∧
  Memory.wf zeroByte State.reset.pool = true ∧ Memory.wf erasedByte State.reset.flash = true

/-! ## Power, reset, clocks -/

/-- POWER_ON, VDD_AON_LOSS, PERST_ASSERT and RAIL_BROWNOUT leave the part in RESET with PREV_MODE 0, every register that this kind of
reset does not keep at its reset value (GLB_MODE, and the registers that hold a bit of OTP or of the thermal latch, aside), no shadow, no
armed update, and the test memories empty; OTP stays; the pins show the cause. What a brownout keeps of island A is log 31. -/
def Obligations.ResetsEnterReset : Prop :=
  ∀ (s : State) (dt : Nat) (c : Instr) (k : ResetKind),
    (c, k) ∈ [(Instr.powerOn dt, .power), (.vddAonLoss dt, .power), (.perstAssert dt, .perst), (.railBrownout dt, .brownout)] →
    ∃ t : State, Gives c s t ∧ t.mode = modeReset ∧ t.get GLB_MODE_PREV_MODE = 0 ∧
      (∀ a, keptBy k a = false → a ∉ [GLB_MODE, APX_KEY_STAT, APX_FW_SVN, THM_LEVEL, THM_SHUT_AT] → t.reg a = rstWord a) ∧
      t.shadow = [] ∧ t.armed = none ∧ t.pool = [] ∧ t.ucode = [] ∧ t.stream = [] ∧ t.cmap = [] ∧ t.map = [] ∧ t.otp = s.otp ∧
      (c = .powerOn dt → t.pins.aon = true ∧ t.pins.supplies = false) ∧ (c = .vddAonLoss dt → t.pins.aon = false) ∧
      (c = .perstAssert dt → t.pins = { s.pins with perst := true }) ∧
      (c = .railBrownout dt → t.pins = { s.pins with supplies := false } ∧ t.flash = s.flash)

/-- With VDD_AON and the supplies good and the part in RESET, PERST_DEASSERT enters BOOT, samples PROF[2:0] into GLB_MODE.PROFILE and
leaves no valid map; so does SUPPLIES_GOOD with VDD_AON good, REFCLK present and PERST# deasserted. LINK_DOWN resets the part and releases
it at once (log 29). Without a condition of the release the part stays in RESET, and only the pins change.
BOOT_FINISHED in BOOT with the PLL locked and no firmware enters SAFE with the cause NO_FIRMWARE (log 33). With a firmware it loads the
profile and the trims of the ROM's choice, resumes the log with a BOOT entry and shows the time taken; then it enters SAFE with cause FAULT
if an escalation has latched, and IDLE otherwise. APEX_WATCHDOG_EXPIRY outside RESET and BOOT gives fault source 97 an event and answers
every command in progress (log 39). -/
def Obligations.ReleaseAndBoot : Prop :=
  ((∀ (s : State) (dt prof : Nat), s.mode = modeReset → s.pins.aon = true → s.pins.supplies = true →
      ∃ t : State, Gives (.perstDeassert dt prof) s t ∧ t.mode = modeBoot ∧ t.get GLB_MODE_PROFILE = prof % 8 ∧
        t.get GLB_MODE_PROFILE_SRC = 0 ∧ t.on ARC_SITE_STAT_VALID = false ∧ t.pins.perst = false) ∧
    (∀ (s : State) (dt prof : Nat), s.mode = modeReset → s.pins.aon = true → s.pins.refclk = true → s.pins.perst = false →
      ∃ t : State, Gives (.suppliesGood dt prof) s t ∧ t.mode = modeBoot ∧ t.get GLB_MODE_PROFILE = prof % 8 ∧
        t.get GLB_MODE_PROFILE_SRC = 0 ∧ t.on ARC_SITE_STAT_VALID = false ∧ t.pins.supplies = true) ∧
    (∀ (s : State) (dt : Nat), s.pins.aon = true → s.pins.supplies = true → s.pins.perst = false →
      ∃ t : State, Gives (.linkDown dt) s t ∧ t.mode = modeBoot ∧ t.pool = [] ∧ t.ucode = [] ∧ t.map = [] ∧ t.otp = s.otp) ∧
    (∀ (s : State) (dt prof : Nat), s.mode = modeReset → s.pins.supplies = false →
      Gives (.perstDeassert dt prof) s
        { s.tick dt with pins := { s.pins with perst := false, prof := prof % 8 }, jtag := { s.jtag with control := false } }) ∧
    (∀ (s : State) (dt prof : Nat), s.pins.refclk = false → Gives (.suppliesGood dt prof) s (s.tick dt))) ∧
  ((∀ (s : State) (dt : Nat) (ofs : List Int), s.mode = modeBoot → s.on AXS_STAT_LOCKED = true → s.get APX_BOOT_STAT_FW_RESULT = 2 →
      ∃ t : State, Gives (.bootFinished dt ofs) s t ∧ t.mode = modeSafe ∧ t.get GLB_MODE_PREV_MODE = modeBoot ∧
        t.on APX_SAFE_CAUSE_NO_FIRMWARE = true) ∧
    (∀ (s : State) (dt : Nat) (ofs : List Int), s.mode = modeBoot → s.on AXS_STAT_LOCKED = true → s.get APX_BOOT_STAT_FW_RESULT ≠ 2 →
      let b := resumeLog (bootTrims (bootProfile (bootReplicas ofs (s.tick dt))))
      let b := logEvent logBoot b.fresh.1 [] b.fresh.2
      let b := b.set APX_BOOT_TIME_US ((b.elapsed - b.apex.bootAt) / 256 / 1600)
      (b.on FCL_ESC_LATCHED = false → Gives (.bootFinished dt ofs) s (bootIdle (startAlive false b))) ∧
      (b.on FCL_ESC_LATCHED = true → ∃ t : State, Gives (.bootFinished dt ofs) s t ∧ t.mode = modeSafe ∧
        t.on APX_SAFE_CAUSE_FAULT = true)) ∧
    (∀ (s : State) (dt : Nat), s.mode ≠ modeReset → s.mode ≠ modeBoot →
      ∃ t : State, Gives (.apexWatchdogExpiry dt) s t ∧ t.apex.jobs = [] ∧ t.mode = s.mode ∧
        (s.on (faultActive 97) = false → s.on (faultRail 97) = false → ⟨97, false, false⟩ ∈ t.fcl.raised)))
/-- AXIS_PLL_LOCK with REFCLK present sets LOCKED, starts the Axis count at zero and ends the fault line 72. REFCLK_LOSS outside RESET
clears LOCKED, lets the count stand and asserts line 72. A sample of a supply monitor is stored in millivolts; the 16th in a row that lies
more than 5 % off asserts fault line 108 + rail, and one inside ends it. -/
def Obligations.ClocksAndSupplies : Prop :=
  (∀ (s : State) (dt : Nat), s.on AXS_STAT_LOCKED = false → s.pins.refclk = true →
    Gives (.axisPllLock dt) s (deassertLine 72 { (s.tick dt).raise AXS_STAT_LOCKED with now := 0 })) ∧
  (∀ (s : State) (dt : Nat), s.mode ≠ modeReset →
    Gives (.refclkLoss dt) s
      (assertLine 72 { (s.tick dt).set AXS_STAT_LOCKED 0 with pins := { s.pins with refclk := false } })) ∧
  (∀ (s : State) (dt rail : Nat) (mv : Int), rail < 8 →
    ∃ t : State, Gives (.supplyMonitorSample dt rail mv) s t ∧ t.get (APX_SUPPLY_MV rail) = unsigned 16 mv ∧
      SameMemories s t ∧ SameRegs [(APX_SUPPLY_MV rail).addr, FCL_ACTIVE ((108 + rail) / 32)] s t) ∧
  (∀ (s : State) (dt : Nat), Store.find (fun _ => 0) s.pins.outside 5 = 15 → s.mode ≠ modeReset →
    s.on (faultActive 113) = false → s.on (faultRail 113) = false →
    ∃ t : State, Gives (.supplyMonitorSample dt 5 841) s t ∧ t.on (faultActive 113) = true ∧
      t.fcl.raised = s.fcl.raised ++ [⟨113, false, false⟩])

/-! ## Register accesses -/

/-- REGISTER_WRITE of one whole doubleword to a 32-bit register of this part, on a path that the mode serves, acts as the write of that
register with the guard as it stood, and the guard is armed again; for GLB_SCRATCH that is the value written and no other register changes.
A host write outside the GLB and APX ranges in RESET or BOOT, and a write into the window of a present facet in DOZE, change nothing but
the guard. -/
def Obligations.RegisterWriteReachesTheRegister : Prop :=
  (∀ (s : State) (dt a d : Nat) (p : Path), s.takes p a = true →
    Gives (.registerWrite dt p a [(d, 0xF)]) s (writeReg p (s.guardOpen p) a d (s.request dt p))) ∧
  (∀ (s : State) (dt i d : Nat) (p : Path), i < 4 → (p = .apex → s.mode ≠ modeReset) →
    ∃ t : State, Gives (.registerWrite dt p (GLB_SCRATCH i) [(d, 0xF)]) s t ∧ t.get (GLB_SCRATCH_DATA i) = d % 2 ^ 32 ∧
      SameRegs [GLB_SCRATCH i, GLB_GUARD_STAT] s t ∧ SameMemories s t) ∧
  (∀ (s : State) (dt a d be : Nat), s.hostShut .host a = true →
    Gives (.registerWrite dt .host a [(d, be)]) s (s.request dt .host)) ∧
  (∀ (s : State) (dt a d be : Nat) (p : Path), s.windowGated a = true →
    Gives (.registerWrite dt p a [(d, be)]) s (s.request dt p))

/-- A whole write of any register or pair of the map, wherever it stands: a field of type RW or CT holds the data's bits; RO, WO, RC and HC
fields keep their values; a W1C field loses the bits written 1, a W1S field gains them; a GD field holds the data through an open guard and
keeps its value behind a closed one; an SH field keeps its active value. No other register changes but those that capture a closed guard
and that show shadows and pending sources. -/
def Obligations.FieldsFollowTheirAccessType : Prop :=
  ∀ (s : State) (p : Path) (g : Bool) (a data : Nat) (r : RegRow) (f : FieldRow),
    rowAt a = some (r, false) → f ∈ r.fields →
    let t := plainWrite p g a data s
    let fld : Fld := ⟨a, f.lo, f.w⟩
    let v := bitsAt data f.lo f.w
    t.get fld = (match f.acc with
      | .rw | .ct | .cts => v
      | .gd => if g then v else s.get fld
      | .w1c => s.get fld &&& (2 ^ f.w - 1 - v)
      | .w1s => s.get fld ||| v
      | .ro | .wo | .rc | .hc | .sh => s.get fld) ∧
    SameRegs [a, GLB_ACCESS_ERR, GLB_ACCESS_ERR_ADDR, GLB_ACCESS_ERR_COUNT, GLB_SHADOW_DIRTY, ICL_PEND 31, DMA_MSIX_PBA 0] s t

/-- A write with byte enables other than 0xF to a 32-bit register is captured with cause NARROW, and any write to one word of a 64-bit pair
alone with cause SPLIT64; neither changes the register. On the SMBus path nothing is captured.
The first captured error since VALID was cleared is held in GLB_ACCESS_ERR and GLB_ACCESS_ERR_ADDR with its cause, direction,
requester, byte enables, BAR and offset; a later one sets OVF and leaves what is held; each is counted, saturating, and only these registers
and the pending bits of source 497's group change. An error of the SMBus path changes nothing. -/
def Obligations.AccessErrorsAreCaptured : Prop :=
  (∀ (s : State) (dt a d be : Nat) (p : Path) (r : RegRow) (high : Bool),
      s.pathDead p = false → s.hostShut p a = false → s.windowGated a = false → s.implemented a = true → rowAt a = some (r, high) →
      (r.quad = true →
        Gives (.registerWrite dt p a [(d, be)]) s (capture p causeSplit64 true 0 a be (s.request dt p))) ∧
      (r.quad = false → be ≠ 0xF →
        Gives (.registerWrite dt p a [(d, be)]) s (capture p causeNarrow true 0 a be (s.request dt p)))) ∧
  (∀ (s : State) (p : Path) (cause bar off be : Nat) (w : Bool), cause < 8 → bar < 4 → off < 2 ^ 26 → be < 16 →
      (p = .smbus → capture p cause w bar off be s = s) ∧
      (p ≠ .smbus →
        let t := capture p cause w bar off be s
        (s.on GLB_ACCESS_ERR_VALID = false →
          t.on GLB_ACCESS_ERR_VALID = true ∧ t.get GLB_ACCESS_ERR_CAUSE = cause ∧ t.on GLB_ACCESS_ERR_WRITE = w ∧
          t.get GLB_ACCESS_ERR_REQUESTER = (if p = .apex then 1 else 0) ∧ t.get GLB_ACCESS_ERR_BYTE_EN = be ∧
          t.get GLB_ACCESS_ERR_ADDR_OFFSET = off ∧ t.get GLB_ACCESS_ERR_ADDR_BAR = bar) ∧
        (s.on GLB_ACCESS_ERR_VALID = true →
          t.on GLB_ACCESS_ERR_OVF = true ∧ t.get GLB_ACCESS_ERR_CAUSE = s.get GLB_ACCESS_ERR_CAUSE ∧
          t.reg GLB_ACCESS_ERR_ADDR = s.reg GLB_ACCESS_ERR_ADDR) ∧
        t.get GLB_ACCESS_ERR_COUNT_COUNT = min (2 ^ 32 - 1) (s.get GLB_ACCESS_ERR_COUNT_COUNT + 1) ∧
        SameRegs [GLB_ACCESS_ERR, GLB_ACCESS_ERR_ADDR, GLB_ACCESS_ERR_COUNT, ICL_PEND 31, DMA_MSIX_PBA 0] s t ∧ SameMemories s t))
/-- A write to a BAR0 address where nothing is implemented is captured with cause UNIMPL and reported to its path (an AER message to the
host, a bus error to Apex); a read there is answered Unsupported Request or a bus error; a doorbell beyond the part's rings and a host
write of BAR4 are captured the same way with their BAR. -/
def Obligations.UnimplementedAccesses : Prop :=
  (∀ (s : State) (dt a be : Nat), s.implemented a = false → s.hostShut .host a = false → s.windowGated a = false →
    Gives (.unimplementedAccess dt .host 0 true a be) s (capture .host causeUnimpl true 0 a be ((s.request dt .host).send .aer)) ∧
    Gives (.unimplementedAccess dt .host 0 false a be) s (capture .host causeUnimpl false 0 a be ((s.tick dt).send (.unsupported a)))) ∧
  (∀ (s : State) (dt a be : Nat), s.implemented a = false → s.mode ≠ modeReset → s.windowGated a = false →
    Gives (.unimplementedAccess dt .apex 0 true a be) s
      (capture .apex causeUnimpl true 0 a be ((s.request dt .apex).send (.busError a))) ∧
    Gives (.unimplementedAccess dt .apex 0 false a be) s
      (capture .apex causeUnimpl false 0 a be ((s.tick dt).send (.busError a)))) ∧
  (∀ (s : State) (dt a be : Nat), s.mode ≠ modeReset → s.rings ≤ a / 8 →
    Gives (.unimplementedAccess dt .host 1 true a be) s
      (capture .host causeUnimpl true 1 (8 * (a / 8)) be ((s.tick dt).send .aer)) ∧
    Gives (.unimplementedAccess dt .host 1 false a be) s
      (capture .host causeUnimpl false 1 (8 * (a / 8)) be ((s.tick dt).send (.unsupported (8 * (a / 8)))))) ∧
  (∀ (s : State) (dt a be : Nat), modeBoot < s.mode →
    Gives (.unimplementedAccess dt .host 2 true a be) s (capture .host causeUnimpl true 2 a be ((s.tick dt).send .aer)))

/-- A full read of the low word of a pair of RO or CT fields returns its low word and holds its high word for that path; the next full read
of the pair's high word on that path returns the word held and frees the holding register. A read of a 32-bit register that is no claim
register and no fault history entry returns its defined bits with the reserved bits of R40 and clears its RC fields. -/
def Obligations.ReadsLatchAndReturn : Prop :=
  (∀ (s : State) (dt a : Nat) (p : Path) (r : RegRow),
    s.pathDead p = false → s.hostShut p a = false → s.windowGated a = false → s.implemented a = true →
    rowAt a = some (r, false) → r.quad = true → r.holds = true → indexIn (ICL_CLAIM 0) 4 16 a = none →
    indexIn (FCL_HIST 0) 16 16 a = none →
    let x := readWhole a (some r) (s.tick dt)
    Gives (.lowWordReadLatch dt p a) s
      ((setLatch p (some (a, x.1 / 2 ^ 32)) x.2).send (.readData p a (maskBytes 0xF (x.1 % 2 ^ 32))))) ∧
  (∀ (s : State) (dt a h : Nat) (p : Path) (r : RegRow),
    s.pathDead p = false → s.hostShut p (a + 4) = false → s.windowGated (a + 4) = false → s.implemented (a + 4) = true →
    rowAt (a + 4) = some (r, true) → s.latch p = some (a, h) →
    Gives (.rcFieldRead dt p (a + 4) [0xF]) s
      ((setLatch p none (s.tick dt)).send (.readData p (a + 4) (maskBytes 0xF h)))) ∧
  (∀ (s : State) (dt a : Nat) (p : Path) (r : RegRow),
    s.takes p a = true → rowAt a = some (r, false) → indexIn (ICL_CLAIM 0) 4 16 a = none → indexIn (FCL_HIST 0) 16 16 a = none →
    let x := readWhole a (some r) (s.tick dt)
    Gives (.rcFieldRead dt p a [0xF]) s ((clearRc a r x.2).send (.readData p a (maskBytes 0xF (x.1 % 2 ^ 32)))) ∧
    Gives (.lowWordReadLatch dt p a) s ((clearRc a r x.2).send (.readData p a (maskBytes 0xF (x.1 % 2 ^ 32)))))

/-- GLB_UNLOCK with the key opens the guard of a host or Apex path and changes no other field of a register; any other value leaves the
guard closed, is counted in BAD_KEYS and captured with cause BAD_KEY. The next write request of that path finds the guard open and leaves
it closed. The SMBus path has no guard that opens. -/
def Obligations.UnlockOpensTheGuard : Prop :=
  (∀ (s : State) (dt : Nat) (p : Path), p ≠ .smbus → (p = .apex → s.mode ≠ modeReset) →
    ∃ t : State, Gives (.glbUnlock dt p 0xC3D17A5E) s t ∧ t.guardOpen p = true ∧ SameRegs [GLB_GUARD_STAT] s t ∧ SameMemories s t) ∧
  (∀ (s : State) (dt key : Nat) (p : Path), key < 2 ^ 32 → key ≠ 0xC3D17A5E → p ≠ .smbus → (p = .apex → s.mode ≠ modeReset) →
    ∃ t : State, Gives (.glbUnlock dt p key) s t ∧ t.guardOpen p = false ∧
      t.get GLB_GUARD_STAT_BAD_KEYS = min 255 (s.get GLB_GUARD_STAT_BAD_KEYS + 1) ∧
      t = capture p causeBadKey true 0 GLB_UNLOCK 0xF ((s.request dt p).countSat GLB_GUARD_STAT_BAD_KEYS 1)) ∧
  (∀ (s : State) (dt key : Nat), s.guardOpen .smbus = false ∧ Gives (.glbUnlock dt .smbus key) s (s.tick dt)) ∧
  (∀ (s : State) (dt a d : Nat) (p : Path), (s.request dt p).guardOpen p = false ∧
    (s.takes p a = true → s.guardOpen p = true →
      Gives (.registerWrite dt p a [(d, 0xF)]) s (writeReg p true a d (s.request dt p))))

/-! ## Updates -/

/-- GLB_UPDATE_ARM with none armed and a present island in its mask arms the update: DONE clears for the islands masked, T_app is 64 ticks
from now, or the stamp of GLB_UPDATE_AT cut to a whole tick where TIMED asks for it and it is no sooner; a sooner one sets LATE. With an
update armed the request is rejected: REJECTED sets, it is captured with cause UPDATE_BUSY, and the armed one stays.
GLB_UPDATE_CANCEL before T_app disarms the update and changes nothing else of the configuration; from T_app on it has no effect.
UPDATE_APPLY before T_app has no effect; at T_app or later every masked island that is neither power-gated nor held in block reset takes its
shadows and sets its DONE bit, the others set their MISS bits, and the update is no longer armed. With none armed both have no effect. -/
def Obligations.UpdatesArmCancelAndApply : Prop :=
  (∀ (s : State) (dt mask : Nat) (timed : Bool) (p : Path), s.takes p GLB_UPDATE = true → mask < 2 ^ 18 →
      (s.on GLB_UPDATE_STAT_ARMED = false → mask &&& s.islandMask ≠ 0 →
        let u := s.request dt p
        let soonest := stampAdd u.now (ticksOf 64)
        let wanted := s.get GLB_UPDATE_AT_AT / 256 * 256
        let inTime := decide (0 ≤ stampDiff wanted soonest)
        ∃ t : State, Gives (.glbUpdateArm dt p mask timed) s t ∧
          t.armed = some ⟨mask &&& s.islandMask, if timed && inTime then wanted else soonest⟩ ∧ t.on GLB_UPDATE_STAT_ARMED = true ∧
          t.on GLB_UPDATE_STAT_LATE = (s.on GLB_UPDATE_STAT_LATE || (timed && !inTime)) ∧
          t.get GLB_UPDATE_DONE_DONE = andNot (s.get GLB_UPDATE_DONE_DONE) (mask &&& s.islandMask) ∧
          SameRegs [GLB_UPDATE_STAT, GLB_UPDATE_DONE, GLB_GUARD_STAT] s t ∧ SameMemories s t) ∧
      (s.on GLB_UPDATE_STAT_ARMED = true →
        Gives (.glbUpdateArm dt p mask timed) s
          (capture p causeUpdateBusy true 0 GLB_UPDATE 0xF ((s.request dt p).raise GLB_UPDATE_STAT_REJECTED)))) ∧
  ((∀ (s : State) (dt : Nat) (p : Path), s.takes p GLB_UPDATE = true →
      (∀ u, s.armed = some u → (s.tick dt).past u.tapp = false →
        Gives (.glbUpdateCancel dt p) s { (s.request dt p).set GLB_UPDATE_STAT_ARMED 0 with armed := none }) ∧
      (∀ u, s.armed = some u → (s.tick dt).past u.tapp = true → Gives (.glbUpdateCancel dt p) s (s.request dt p)) ∧
      (s.armed = none → Gives (.glbUpdateCancel dt p) s (s.request dt p))) ∧
    (∀ (s : State) (dt : Nat),
      (s.armed = none → Gives (.updateApply dt) s (s.tick dt)) ∧
      (∀ u, s.armed = some u → (s.tick dt).past u.tapp = false → Gives (.updateApply dt) s (s.tick dt)) ∧
      (∀ u, s.armed = some u → (s.tick dt).past u.tapp = true →
        ∃ t : State, Gives (.updateApply dt) s t ∧ t.armed = none ∧ t.on GLB_UPDATE_STAT_ARMED = false)) ∧
    (∀ (s : State) (dt a : Nat) (w : Word64) (tapp : Nat),
      s.armed = some ⟨2 ^ 17, tapp⟩ → (s.tick dt).past tapp = true → s.shadow = [(a, w)] → islandOf a = 17 → s.islandDown 17 = false →
      a ∉ [GLB_UPDATE_STAT, GLB_UPDATE_DONE, GLB_UPDATE_MISS, GLB_UPDATE_APPLIED_AT, GLB_SHADOW_DIRTY, ICL_PEND 31, DMA_MSIX_PBA 0] →
      ∃ t : State, Gives (.updateApply dt) s t ∧ t.shadow = [] ∧ t.bitOf GLB_UPDATE_DONE_DONE 17 = true ∧
        t.get GLB_UPDATE_APPLIED_AT_APPLIED_AT = tapp % 2 ^ 64 ∧
        t.reg a = ((s.reg a &&& ~~~ BitVec.ofNat 64 (shadowMask a)) ||| (w &&& BitVec.ofNat 64 (shadowMask a)))))
/-! ## Site map, contact test, inking, wall clock -/

/-- A whole write of a 32-bit register of the vertex, chord or die-type table stores the word in the edit copy, sets DIRTY and leaves the
active map; while a CHECK or COMMIT runs it is remembered. SITE_CHECK starts a CHECK unless one runs. SITE_COMMIT in IDLE or BOOT starts a
COMMIT; during a contact test it answers BUSY, in another mode REFUSED_MODE, and the active map stays.
SITE_CHECK_END of a run whose edit copy was written since it began ends it EDITED and leaves the active map; otherwise ERR_COUNT counts
the failures (to 4,095), ARC_SITE_ERR shows the first of them in scan order, and the RESULT is PASS or FAIL, or REFUSED_MODE where the mode
has changed since a COMMIT was accepted. The active map changes only by a COMMIT that passes: then it is the edit copy. -/
def Obligations.SiteMapCommands : Prop :=
  ((∀ (s : State) (dt a d : Nat) (p : Path) (r : RegRow), s.takes p a = true → inSiteTables a = true → rowAt a = some (r, false) →
      ∃ t : State, Gives (.siteTableWrite dt p a [(d, 0xF)]) s t ∧ t = markEdited (plainWrite p (s.guardOpen p) a d (s.request dt p)) ∧
        t.on ARC_SITE_STAT_DIRTY = true ∧ t.map = s.map ∧ (s.siteRuns = true → t.siteEdited = true) ∧ SameMemories s t) ∧
    (∀ (s : State) (dt : Nat) (p : Path), s.takes p ARC_SITE_CTRL = true →
      (s.siteRuns = false →
        Gives (.siteCheck dt p) s { (s.request dt p).raise ARC_SITE_CTRL_CHECK with siteEdited := false }) ∧
      (s.siteRuns = true → Gives (.siteCheck dt p) s (s.request dt p) ∧ Gives (.siteCommit dt p) s (s.request dt p)) ∧
      (s.siteRuns = false → s.contact = none → s.mode = modeIdle ∨ s.mode = modeBoot →
        Gives (.siteCommit dt p) s { (s.request dt p).raise ARC_SITE_CTRL_COMMIT with siteEdited := false, siteMode := s.mode }) ∧
      (s.siteRuns = false → s.contact.isSome = true →
        Gives (.siteCommit dt p) s ((s.request dt p).set ARC_SITE_STAT_RESULT siteBusy)) ∧
      (s.siteRuns = false → s.contact = none → s.mode ≠ modeIdle → s.mode ≠ modeBoot →
        Gives (.siteCommit dt p) s ((s.request dt p).set ARC_SITE_STAT_RESULT siteRefused)))) ∧
  (∀ (s : State) (dt : Nat), s.siteRuns = true →
      ∃ t : State, Gives (.siteCheckEnd dt) s t ∧ t = concludeCheck (s.tick dt) ∧
        t.siteRuns = false ∧
        (s.siteEdited = true → t.get ARC_SITE_STAT_RESULT = siteEditedCode ∧ t.map = s.map) ∧
        (s.siteEdited = false →
          let commit := s.on ARC_SITE_CTRL_COMMIT
          t.get ARC_SITE_STAT_ERR_COUNT = min 0xFFF (((((s.tick dt).set ARC_SITE_CTRL_CHECK 0).set ARC_SITE_CTRL_COMMIT 0).set ARC_SITE_STAT_LAST (if commit then 2 else 1)).edited.siteErrors.length) ∧
          (commit = false → t.map = s.map) ∧
          (t.get ARC_SITE_STAT_RESULT ≠ sitePass → t.map = s.map) ∧
          (commit = true → t.get ARC_SITE_STAT_RESULT = sitePass → t.map = s.editCopy ∧ t.on ARC_SITE_STAT_VALID = true)))
/-- CONTACT_TEST in IDLE with no test running, and with a valid map or the whole part in its scope, clears the contact results and starts;
with one running it answers BUSY, and otherwise REFUSED_MODE. CONTACT_ABORT ends a running test ABORTED. CONTACT_TEST_END after the settling time
stores each covered reading with its class and ends the test PASS when every covered channel's class is GOOD, FAIL otherwise; earlier it has
no effect. The end shows LAST 3 and gives source 271 an event. -/
def Obligations.ContactTest : Prop :=
  (∀ (s : State) (dt : Nat) (p : Path), s.takes p ARC_SITE_CTRL = true →
    (s.contact = none → s.mode = modeIdle → s.on ARC_CONTACT_CFG_SCOPE = true ∨ s.on ARC_SITE_STAT_VALID = true →
      ∃ t : State, Gives (.contactTest dt p) s t ∧ t.on ARC_SITE_CTRL_CONTACT = true ∧
        t.contact = some ((s.request dt p).contactScope, s.elapsed + dt) ∧ (∀ c, c < 2048 → t.get (ARC_CONTACT_RES_CODE c) = 0) ∧
        SameMemories s t) ∧
    (s.contact.isSome = true →
      Gives (.contactTest dt p) s ((s.request dt p).set ARC_SITE_STAT_RESULT siteBusy) ∧
      Gives (.contactAbort dt p) s (endContact siteAborted (s.request dt p))) ∧
    (s.contact = none → s.mode ≠ modeIdle → Gives (.contactTest dt p) s ((s.request dt p).set ARC_SITE_STAT_RESULT siteRefused)) ∧
    (s.contact = none → Gives (.contactAbort dt p) s (s.request dt p))) ∧
  (∀ (s : State) (dt c m start : Nat) (mv : Int), s.contact = some (2 ^ c, start) → c < 2048 → m < 2048 → m ≠ c →
    start + 256 * s.get ARC_CONTACT_SETTLE_SETTLE ≤ s.elapsed + dt →
    ∃ t : State, Gives (.contactTestEnd dt [(c, mv), (m, mv)]) s t ∧ t.contact = none ∧ t.on ARC_SITE_CTRL_CONTACT = false ∧
      t.get (ARC_CONTACT_RES_MV c) = unsigned 16 mv ∧ t.get (ARC_CONTACT_RES_CODE c) = s.contactCode mv ∧
      t.reg (ARC_CONTACT_RES m) = s.reg (ARC_CONTACT_RES m) ∧ t.get ARC_SITE_STAT_LAST = 3 ∧
      t.get ARC_SITE_STAT_RESULT = (if s.contactCode mv = 1 then sitePass else siteFail) ∧ SameMemories s t) ∧
  (∀ (s : State) (dt m start : Nat) (rs : List (Nat × Int)), s.contact = some (m, start) →
    s.elapsed + dt < start + 256 * s.get ARC_CONTACT_SETTLE_SETTLE → Gives (.contactTestEnd dt rs) s (s.tick dt))

/-- VERTEX_INK of a vertex of the active map that is not inked, on a free chord bus and with no operation in hand, sets its bit and switches
its supply gate off; one that is inked, or not in the map, is left as it is. WALLCLOCK_WRITE stores the seconds with the stamp of the
write's acceptance, and no other register changes. -/
def Obligations.InkAndWallclock : Prop :=
  (∀ (s : State) (dt v : Nat) (p : Path), s.takes p (ARC_INKED (v / 32)) = true → v < s.vertices → s.onBus v = true →
    s.inked v = false → s.busFree (s.chordOf v) = true → s.op v = none → s.vstate v ≠ vsHeld →
    Gives (.vertexInk dt p v) s (setGate v false ((s.request dt p).setBit (ARC_INKED_INK (v / 32)) (v % 32) true))) ∧
  (∀ (s : State) (dt v : Nat) (p : Path), s.takes p (ARC_INKED (v / 32)) = true → v < 4096 →
    s.inked v = true ∨ s.onBus v = false → Gives (.vertexInk dt p v) s (s.request dt p)) ∧
  (∀ (s : State) (dt seconds : Nat) (p : Path), s.pathDead p = false → s.hostShut p ARC_WALLCLOCK = false →
    ∃ t : State, Gives (.wallclockWrite dt p seconds) s t ∧ t.get ARC_WALLCLOCK_SECONDS = seconds % 2 ^ 64 ∧
      t.get ARC_WALLCLOCK_AT_AT = (s.tick dt).now % 2 ^ 64 ∧ SameRegs [ARC_WALLCLOCK, ARC_WALLCLOCK_AT, GLB_GUARD_STAT] s t ∧
      SameMemories s t)

/-! ## Pin electronics -/

/-- OVERCURRENT_TRIP of a channel, with no calibration run under way, sets its bit, counts the trip, lets no release of the channel stand
and aborts its measurement; outside a contact test the channel is parked. OC_CLEAR drops the bits written 1 and no others. At CHANNEL_UNPARK
exactly the channels of the facet that no row of R86 parks are released. -/
def Obligations.OvercurrentParksTheChannel : Prop :=
  (∀ (s : State) (dt c : Nat), c < 2048 → s.maint.run = none →
    ∃ t : State, Gives (.overcurrentTrip dt c) s t ∧ t = tripChannel c (s.tick dt) ∧ t.on (ocBit c) = true ∧
      t.get (FCT_OC_COUNT_COUNT (c / 128)) = min (2 ^ 32 - 1) (s.get (FCT_OC_COUNT_COUNT (c / 128)) + 1) ∧
      (t.fct (c / 128)).awake.testBit (c % 128) = false ∧ (s.contact = none → t.channelState c = chParked) ∧
      t.pmuBusy c = false ∧ SameMemories s t) ∧
  (∀ (s : State) (dt f w d : Nat) (p : Path), s.takes p (FCT_OC_STAT f w) = true → f < 16 → w < 4 →
    ∃ t : State, Gives (.ocClear dt p f w d) s t ∧
      t.get ⟨FCT_OC_STAT f w, 0, 32⟩ = s.get ⟨FCT_OC_STAT f w, 0, 32⟩ &&& (2 ^ 32 - 1 - d % 2 ^ 32) ∧
      SameRegs [FCT_OC_STAT f w, GLB_GUARD_STAT] s t ∧ SameMemories s t) ∧
  (∀ (s : State) (dt f i : Nat), i < 128 →
    let u := selfRelease f (s.tick dt)
    ∃ t : State, Gives (.channelUnpark dt f) s t ∧ t = unparkFacet f u ∧
      (t.fct f).awake.testBit i = u.released (128 * f + i))

/-- PMU_START on a channel in the PMU state, with MODE and RANGE as they are and no ABORT bit, starts the measurement (unless one runs): BUSY
sets and it settles from now; with bad clamps it ends at once with ABORTED. PMU_ABORT of a running one ends it with ABORTED and DONE. A write
of FORCE takes effect and ends a running measurement. At the end of the settling time it joins its ADC's queue; earlier PMU_SETTLE_END has
no effect. -/
def Obligations.PmuMeasurementRuns : Prop :=
  (∀ (s : State) (dt c d : Nat) (p : Path), c < 2048 → s.takes p (FCT_PMU_CTRL (c / 128) (c % 128)) = true →
    s.channelState c = chPmu → bitsAt d 0 2 = s.get (FCT_PMU_CTRL_MODE (c / 128) (c % 128)) →
    bitsAt d 2 2 = s.get (FCT_PMU_CTRL_RANGE (c / 128) (c % 128)) →
    let u := fun x => plainWrite p false (FCT_PMU_CTRL (c / 128) (c % 128)) (x % 2 ^ 32) (s.request dt p)
    (d.testBit 13 = false → Gives (.pmuStart dt p c d) s (startPmu c (u (d ||| 2 ^ 12)))) ∧
    (d.testBit 12 = false → Gives (.pmuAbort dt p c d) s (abortPmu c (u (d ||| 2 ^ 13))))) ∧
  (∀ (s : State) (c : Nat), c < 2048 → s.pmuBusy c = false → s.channelState c = chPmu → s.contact = none → s.badClamp c = false →
    (startPmu c s).on (FCT_PMU_STAT_BUSY (c / 128) (c % 128)) = true ∧ ((startPmu c s).chan c).stage = .settling ∧
    ((startPmu c s).chan c).startAt = s.elapsed) ∧
  (∀ (s : State) (c : Nat), c < 2048 → s.pmuBusy c = false → s.badClamp c = true →
    (startPmu c s).on (FCT_PMU_STAT_ABORTED (c / 128) (c % 128)) = true ∧ ((startPmu c s).chan c).stage = .idle) ∧
  (∀ (s : State) (c : Nat), c < 2048 → s.pmuBusy c = true →
    let t := abortPmu c s
    t.on (FCT_PMU_STAT_BUSY (c / 128) (c % 128)) = false ∧ t.on (FCT_PMU_STAT_ABORTED (c / 128) (c % 128)) = true ∧
    t.on (pmuDoneBit c) = true ∧ (t.chan c).stage = .idle ∧ (∀ e ∈ (t.adc (adcOf c)).queue, e.1 ≠ c)) ∧
  (∀ (s : State) (dt c d : Nat) (p : Path), c < 2048 → s.takes p (FCT_PMU_CTRL (c / 128) (c % 128) + 4) = true →
    Gives (.pmuConfigWrite dt p c 1 d) s
      (touchPmu c (plainWrite p (s.guardOpen p) (FCT_PMU_CTRL (c / 128) (c % 128) + 4) (d % 2 ^ 32) (s.request dt p)))) ∧
  (∀ (s : State) (dt c : Nat), c < 2048 → (s.chan c).stage = .settling →
    ((s.tick dt).settleEnd c ≤ s.elapsed + dt →
      ∃ t : State, Gives (.pmuSettleEnd dt c) s t ∧ (t.chan c).stage = .queued ∧
        (c, (s.tick dt).settleEnd c / 256) ∈ (t.adc (adcOf c)).queue ∧ t.regs = s.regs ∧ SameMemories s t) ∧
    (s.elapsed + dt < (s.tick dt).settleEnd c → Gives (.pmuSettleEnd dt c) s (s.tick dt)))

/-- PMU_MEASUREMENT_COMPLETE of the measurement at the head of its ADC's queue, with the number of conversions that SAMPLES asks for and
after their time, on an ADC that no acquisition unit holds: RESULT is the mean rounded toward zero, CLAMPED and OVERRANGE report it, ABORTED
and STALE clear, BUSY clears and DONE sets. Before that time, or not at the head, it has no effect. -/
def Obligations.PmuMeasurementCompletes : Prop :=
  (∀ (s : State) (dt c when_ : Nat) (rest : List (Nat × Nat)) (conv : List Int) (clamped : Bool), c < 2048 →
    (s.adc (adcOf c)).queue = (c, when_) :: rest → conv.length = s.pmuSamples c →
    max (256 * when_) (s.adc (adcOf c)).free + 256 * 1600 * s.pmuSamples c ≤ s.elapsed + dt →
    (s.tick dt).adcHeld (adcOf c) (max (256 * when_) (s.adc (adcOf c)).free) = false →
    ∃ t : State, Gives (.pmuMeasurementComplete dt c conv clamped) s t ∧
      t.get (FCT_PMU_RESULT_RESULT (c / 128) (c % 128)) = unsigned 32 (conv.sum.tdiv (s.pmuSamples c)) ∧
      t.on (FCT_PMU_STAT_CLAMPED (c / 128) (c % 128)) = clamped ∧
      t.on (FCT_PMU_STAT_OVERRANGE (c / 128) (c % 128)) = s.pmuOver c (conv.sum.tdiv (s.pmuSamples c)) ∧ t.on (FCT_PMU_STAT_ABORTED (c / 128) (c % 128)) = false ∧
      t.on (FCT_PMU_STAT_STALE (c / 128) (c % 128)) = false ∧ t.on (FCT_PMU_STAT_BUSY (c / 128) (c % 128)) = false ∧
      t.on (pmuDoneBit c) = true ∧ (t.chan c).stage = .idle ∧ SameMemories s t) ∧
  (∀ (s : State) (dt c when_ : Nat) (rest : List (Nat × Nat)) (conv : List Int) (clamped : Bool),
    (s.adc (adcOf c)).queue = (c, when_) :: rest →
    s.elapsed + dt < max (256 * when_) (s.adc (adcOf c)).free + 256 * 1600 * s.pmuSamples c →
    Gives (.pmuMeasurementComplete dt c conv clamped) s (s.tick dt)) ∧
  (∀ (s : State) (dt c d when_ : Nat) (rest : List (Nat × Nat)) (conv : List Int) (clamped : Bool),
    (s.adc (adcOf c)).queue = (d, when_) :: rest → d ≠ c →
    Gives (.pmuMeasurementComplete dt c conv clamped) s (s.tick dt))

/-! ## Axis time -/

/-- A check pulse gives each island its error: a count error sets CNTERR and asserts a facet's Axis fault line; an error of 0 clears UNSYNC
and moves nothing; another moves OFS one unit against the error, at once where no bus phase runs on the island. REPLICA_RESYNC of an island
with a count error and no bus phase clears CNTERR and sets OFS. RECAL in IDLE starts the calibration, in another mode it does not;
RECAL_DONE of a running one sets the offsets measured and RECAL_DONE, and clears RECAL. (The sign and the instants are logs 49 and 50.) -/
def Obligations.ReplicasAreKept : Prop :=
  (∀ (s : State) (dt : Nat) (errs : List (Int × Bool)), Gives (.epochCheckPulse dt errs) s (checkPulse errs (s.tick dt))) ∧
  (∀ (s : State) (e : Int), checkPulse [(e, false)] s = checkIsland 0 e s ∧ checkPulse [(e, true)] s = countError 0 s) ∧
  (∀ (s : State) (k : Nat), k < 18 →
    (countError k s).bitOf AXS_REPLICA_CNTERR_ISLAND k = true ∧
    (checkIsland k 0 s).bitOf AXS_REPLICA_UNSYNC_ISLAND k = false ∧ (checkIsland k 0 s).replicaOfs k = s.replicaOfs k ∧
    (∀ e : Int, e ≠ 0 → (k < 16 → s.phaseOn k = false) → -32768 < s.replicaOfs k → s.replicaOfs k < 32767 →
      (checkIsland k e s).replicaOfs k = s.replicaOfs k + (if 0 < e then -1 else 1)) ∧
    (∀ e : Int, 4 < e.natAbs → s.axs.bigLast.testBit k = true → (checkIsland k e s).bitOf AXS_REPLICA_UNSYNC_ISLAND k = true)) ∧
  (∀ (s : State) (dt k : Nat) (ofs : Int), k < 18 →
    (s.bitOf AXS_REPLICA_CNTERR_ISLAND k = true → (k < 16 → s.phaseOn k = false) →
      ∃ t : State, Gives (.replicaResync dt k ofs) s t ∧ t.bitOf AXS_REPLICA_CNTERR_ISLAND k = false ∧
        t.get (AXS_REPLICA_OFS_OFS k) = unsigned 16 ofs ∧ SameMemories s t) ∧
    (s.bitOf AXS_REPLICA_CNTERR_ISLAND k = false → Gives (.replicaResync dt k ofs) s (s.tick dt))) ∧
  (∀ (s : State) (dt : Nat) (p : Path), s.takes p AXS_CTRL = true →
    (s.mode = modeIdle → s.on AXS_CTRL_RECAL = false →
      ∃ t : State, Gives (.recal dt p) s t ∧ t.on AXS_CTRL_RECAL = true ∧ t.axs.calibrating = true ∧
        SameRegs [AXS_CTRL, GLB_GUARD_STAT] s t ∧ SameMemories s t) ∧
    (s.mode ≠ modeIdle → ∃ t : State, Gives (.recal dt p) s t ∧ t.axs = s.axs ∧ t.on AXS_CTRL_RECAL = s.on AXS_CTRL_RECAL)) ∧
  (∀ (s : State) (dt : Nat) (ofs : List Int), s.axs.calibrating = true →
    ∃ t : State, Gives (.recalDone dt ofs) s t ∧ t.on AXS_STAT_RECAL_DONE = true ∧ t.on AXS_CTRL_RECAL = false ∧
      t.axs.calibrating = false ∧ (∀ k v, k ∈ s.islands → ofs[k]? = some v → t.get (AXS_REPLICA_OFS_OFS k) = unsigned 16 v) ∧
      SameMemories s t)

/-- SYNC_EPOCH_DETECT puts the edge E 128 ticks ahead, shows it in AXS_SYNC_LAST, and under REPEAT sends SYNC_OUT 16 ticks ahead. At
E + D an armed epoch in IDLE with no update armed restarts the count at its distance from E + D, counts itself and is no longer armed; one
that may not act is counted as ignored and leaves the count; before E + D nothing happens. SYNC_ARM stores OUT_MODE and arms; SYNC_FIRE in FIRE
mode sends SYNC_OUT at the next multiple of 16 ticks, in other modes nothing. (That the conditions are judged at E + D is log 48.) -/
def Obligations.EpochsRestartTheCount : Prop :=
  (∀ (s : State) (dt : Nat),
    ∃ t : State, Gives (.syncEpochDetect dt) s t ∧ t.get AXS_SYNC_LAST_E_AT = stampAdd (s.tick dt).now (ticksOf 128) % 2 ^ 64 ∧
      t.axs.epoch = some (stampAdd (s.tick dt).now (ticksOf 128)) ∧
      t.sent = s.sent ++ (if s.get AXS_SYNC_CFG_OUT_MODE = 2 then [.syncOut (stampAdd (s.tick dt).now (ticksOf 16))] else []) ∧
      SameRegs [AXS_SYNC_LAST] s t ∧ SameMemories s t) ∧
  (∀ (s : State) (dt e : Nat), s.axs.epoch = some e →
    let z := stampAdd e (s.get AXS_SYNC_DESKEW_D)
    ((s.tick dt).past z = false → Gives (.epochZero dt) s (s.tick dt)) ∧
    ((s.tick dt).past z = true → s.on AXS_SYNC_CFG_ARM = true → s.mode = modeIdle → s.on GLB_UPDATE_STAT_ARMED = false →
      ((endAllUnits (forgetEdges (zeroEpoch e (s.tick dt)))).mode ≠ modeDoze →
        Gives (.epochZero dt) s (endAllUnits (forgetEdges (zeroEpoch e (s.tick dt))))) ∧
      (zeroEpoch e (s.tick dt)).now = ((s.tick dt).now + 2 ^ 64 - z) % 2 ^ 64 ∧
      (zeroEpoch e (s.tick dt)).get AXS_EPOCH_COUNT_COUNT = (s.get AXS_EPOCH_COUNT_COUNT + 1) % 2 ^ 32 ∧
      (zeroEpoch e (s.tick dt)).on AXS_SYNC_CFG_ARM = false) ∧
    ((s.tick dt).past z = true → s.on AXS_SYNC_CFG_ARM = false → s.mode ≠ modeDoze →
      ∃ t : State, Gives (.epochZero dt) s t ∧ t.now = (s.tick dt).now ∧ t.axs.epoch = none ∧
        t.get AXS_EPOCH_IGNORED_COUNT = (s.get AXS_EPOCH_IGNORED_COUNT + 1) % 2 ^ 32 ∧
        SameRegs [AXS_EPOCH_IGNORED, ICL_PEND 31, DMA_MSIX_PBA 0] s t ∧ SameMemories s t)) ∧
  (∀ (s : State) (dt m : Nat) (p : Path), s.takes p AXS_SYNC_CFG = true →
    ∃ t : State, Gives (.syncArm dt p m) s t ∧ t.get AXS_SYNC_CFG_OUT_MODE = m % 4 ∧ t.on AXS_SYNC_CFG_ARM = true ∧
      SameRegs [AXS_SYNC_CFG, GLB_GUARD_STAT] s t ∧ SameMemories s t) ∧
  (∀ (s : State) (dt : Nat) (p : Path), s.takes p AXS_SYNC_FIRE = true →
    (s.get AXS_SYNC_CFG_OUT_MODE = 1 →
      Gives (.syncFire dt p) s ((s.request dt p).send (.syncOut (ticksOf (((s.tick dt).ticks / 16 + 1) * 16))))) ∧
    (s.get AXS_SYNC_CFG_OUT_MODE ≠ 1 → Gives (.syncFire dt p) s (s.request dt p)))

/-! ## Rays -/

/-- PHASE_START with a start for the chord in the facet's inbox, an idle ray of the chord and a valid entry makes the ray ARMED with the
entry's address held and a clear position; without a start there is no effect, and without a valid entry the ray stays idle and refuses.
START_BOUNDARY of an ARMED ray whose start has come, with no ABORT pending, enters RUN at the entry's address with the generators started; before it, or in another
state, it has no effect. -/
def Obligations.PhaseStartsAtItsBoundary : Prop :=
  (∀ (s : State) (dt f k : Nat), Gives (.phaseStart dt f k) s (noEntry k (acceptStart f k (s.tick dt)))) ∧
  (∀ (s : State) (f k r : Nat) (p : Machine.PhaseStart), f < 16 → r < 32 → k < 512 →
    (s.fct f).inbox.find? (fun q => q.chord = k) = some p → s.rayOf f k = some r → s.rayState f r = rayIdle →
    let tpl := s.mapGet (SIT_CH0_TEMPLATE k)
    let t := acceptStart f k s
    tpl < 16 → p.routine < 16 →
    (s.on (FCT_ENTRY_VALID f tpl p.routine) = true →
      t.rayState f r = rayArmed ∧ t.get (FCT_RAY_PC_ADDR f r) = 0 ∧
      (t.ray f r).entry = s.get (FCT_ENTRY_ADDR f tpl p.routine) ∧
      t.get (FCT_RAY_VCOUNT_VCOUNT f r) = 0 ∧ t.get (FCT_RAY_SEGS_SEGS f r) = 0 ∧ (t.ray f r).start = p.start ∧
      (t.ray f r).gang = p.gang ∧ SameMemories s t) ∧
    (s.on (FCT_ENTRY_VALID f tpl p.routine) = false → (t.ray f r).refused = true ∧ t.regs = s.regs)) ∧
  (∀ (s : State) (f k : Nat), (s.fct f).inbox.find? (fun q => q.chord = k) = none → acceptStart f k s = s) ∧
  (∀ (s : State) (dt f r : Nat), s.rayState f r = rayArmed → (s.ray f r).abort = none →
    (s.tick dt).past ((s.tick dt).vectorTime f (s.ray f r).start) = true → f < 16 → r < 32 →
    Gives (.startBoundary dt f r) s
      (tdcVector f r 1 0 ((s.tick dt).vectorTime f (s.ray f r).start) (startGen f r (((s.tick dt).set (FCT_RAY_STAT_STATE f r) rayRun).set (FCT_RAY_PC_ADDR f r) (s.ray f r).entry)))) ∧
  (∀ (s : State) (dt f r : Nat), s.rayState f r ≠ rayArmed → Gives (.startBoundary dt f r) s (s.tick dt))

/-- A request without a stamp is a request of the host as of now; one with a stamp that has not passed waits for it (cut to whole ticks), and
one whose stamp has passed counts as of now. On a chord without a phase it is dropped and IDLE_DROP sets. On a chord with one, an ABORT is
held by every ray that is not idle, and the first JUMP or STOP is latched by every such ray. -/
def Obligations.RequestsReachTheRays : Prop :=
  (∀ (s : State) (dt k vec : Nat) (p : Path), k < 512 → s.takes p (ARC_JREQ k) = true →
    Gives (.jump dt p k vec none) s (makeRequest k ⟨0, vec % 16, (s.tick dt).now, 2⟩ (s.request dt p)) ∧
    Gives (.stop dt p k none) s (makeRequest k ⟨1, 0, (s.tick dt).now, 2⟩ (s.request dt p)) ∧
    Gives (.abort dt p k none) s (makeRequest k ⟨2, 0, (s.tick dt).now, 2⟩ (s.request dt p)) ∧
    (∀ at_ : Nat, at_ < 2 ^ 64 →
      let u := (s.request dt p).set (ARC_JREQ_AT_AT k) at_
      let treq := if 0 ≤ stampDiff (at_ / 256 * 256) u.now then at_ / 256 * 256 else u.now
      Gives (.jump dt p k vec (some at_)) s (makeRequest k ⟨0, vec % 16, treq, 1⟩ u) ∧
      Gives (.stop dt p k (some at_)) s (makeRequest k ⟨1, 0, treq, 1⟩ u) ∧
      Gives (.abort dt p k (some at_)) s (makeRequest k ⟨2, 0, treq, 1⟩ u))) ∧
  (∀ (s : State) (k : Nat) (q : Request), s.chordRunning k = false →
    makeRequest k q s = s.raise (ARC_JREQ_STAT_IDLE_DROP k)) ∧
  (∀ (s : State) (k f r : Nat) (q : Request), s.chordRunning k = true → (f, r) ∈ s.chordRays k → s.rayState f r ≠ rayIdle →
    f < 16 → r < 32 →
    (q.kind = 2 → (s.ray f r).abort = none → ∃ t, ((makeRequest k q s).ray f r).abort = some t ∧ 0 ≤ stampDiff q.treq t) ∧
    (q.kind < 2 → (∀ x ∈ s.chordRays k, (s.ray x.1 x.2).latched = none) → ((makeRequest k q s).ray f r).latched = some q))

/-- A due JUMP of a ray in RUN, with a valid vector and outside a block, continues at FCT_JVEC's address with empty stacks; a due STOP ends
the phase with cause STOP. An ABORT whose stamp the present granule boundary reaches ends the phase with cause ABORT. A FILL with no vector
left ends the phase with cause UNDERFLOW, or ERROR with its code. A phase that ends leaves the ray IDLE with the cause, the code and no
request. A request that is not due, or not of the kind reported, is not taken. -/
def Obligations.PhasesEnd : Prop :=
  (∀ (s : State) (dt f r : Nat) (q : Request), f < 16 → r < 32 → (s.ray f r).latched = some q → (s.ray f r).due = true →
    s.rayState f r = rayRun →
    (q.kind = 0 → q.vec < 16 → s.on (FCT_JVEC_VALID f q.vec) = true → (s.ray f r).block = none →
      ∃ t : State, Gives (.jumpTaken dt f r) s t ∧ t.get (FCT_RAY_PC_ADDR f r) = s.get (FCT_JVEC_ADDR f q.vec) ∧
        t.on (FCT_RAY_PC_IN_STREAM f r) = false ∧ t.get (FCT_RAY_PC_LOOP_DEPTH f r) = 0 ∧ t.get (FCT_RAY_PC_CALL_DEPTH f r) = 0 ∧
        (t.ray f r).latched = none ∧ t.rayState f r = rayRun ∧ SameMemories s t) ∧
    (q.kind = 1 →
      ∃ t : State, Gives (.stopTaken dt f r) s t ∧ t.rayState f r = rayIdle ∧ t.get (FCT_RAY_STAT_END_CAUSE f r) = endStop ∧
        t.get (FCT_RAY_STAT_ERR f r) = 0 ∧ (t.ray f r).abort = none ∧ (t.ray f r).block = none)) ∧
  (∀ (s : State) (dt f r : Nat), (s.ray f r).latched = none →
    Gives (.jumpTaken dt f r) s (s.tick dt) ∧ Gives (.stopTaken dt f r) s (s.tick dt)) ∧
  (∀ (s : State) (dt f r a : Nat), f < 16 → r < 32 → (s.ray f r).abort = some a → s.rayState f r = rayRun →
    s.isBoundary f (s.ray f r).index = true → (s.tick dt).past (s.vectorTime f (s.ray f r).index) = true →
    0 ≤ stampDiff (s.vectorTime f (s.ray f r).index) (abortFrom a) →
    ∃ t : State, Gives (.abortTaken dt f r) s t ∧ t.rayState f r = rayIdle ∧ t.get (FCT_RAY_STAT_END_CAUSE f r) = endAbort ∧
      (t.ray f r).abort = none) ∧
  (∀ (s : State) (dt f r : Nat), (s.ray f r).abort = none → Gives (.abortTaken dt f r) s (s.tick dt)) ∧
  (∀ (s : State) (dt f r : Nat), f < 16 → r < 32 → s.rayState f r = rayFill → (s.ray f r).left = 0 → (s.ray f r).err < 16 →
    (s.tick dt).past (s.vectorTime f (s.ray f r).index) = true →
    ∃ t : State, Gives (.fillEnd dt f r) s t ∧ t.rayState f r = rayIdle ∧ t.get (FCT_RAY_STAT_ERR f r) = (s.ray f r).err ∧
      t.get (FCT_RAY_STAT_END_CAUSE f r) = (if (s.ray f r).err = 0 then endUnderflow else endError)) ∧
  (∀ (s : State) (dt f r : Nat), s.rayState f r ≠ rayFill → Gives (.fillEnd dt f r) s (s.tick dt))

/-- VECTOR_PLAY of a ray in RUN at a vector that has come, no granule boundary, with no request, no abort and no rate change at hand, plays
the word's next vector; of a ray in FILL it plays a fill vector; of an idle or armed ray, or before the vector's time, it has no effect.
RATE_CHANGE at a boundary with one due and no selector switches the period; with no ray playing it has no effect. With no phase on the facet
ANCHOR_APPLY lets a waiting anchor and rate come into use. GRANULE_DECISION tells every ray of the chord in RUN or HOLD whether the granule after
the present one is there in every facet. -/
def Obligations.VectorsPlayOnTheGrid : Prop :=
  (∀ (s : State) (dt f r : Nat) (seen : List Seen), s.rayState f r = rayRun →
    (s.tick dt).past (s.vectorTime f (s.ray f r).index) = true → s.isBoundary f (s.ray f r).index = false →
    (s.ray f r).abort = none → (s.ray f r).latched = none → rateChange f (s.tick dt) = s.tick dt →
    Gives (.vectorPlay dt f r seen .good) s (runVector f r seen .good (s.tick dt))) ∧
  (∀ (s : State) (dt f r : Nat) (seen : List Seen), s.rayState f r = rayFill → (s.ray f r).left ≠ 0 →
    (s.tick dt).past (s.vectorTime f (s.ray f r).index) = true → s.isBoundary f (s.ray f r).index = false →
    (s.ray f r).abort = none → (s.ray f r).latched = none → rateChange f (s.tick dt) = s.tick dt →
    Gives (.vectorPlay dt f r seen .good) s (playFill f r (s.ray f r).index (s.tick dt)) ∧
    ((playFill f r (s.ray f r).index (s.tick dt)).ray f r).index = (s.ray f r).index + 1 ∧
    ((playFill f r (s.ray f r).index (s.tick dt)).ray f r).left = (s.ray f r).left - 1) ∧
  (∀ (s : State) (dt f r : Nat) (seen : List Seen) (ecc : Ecc), rayBusy (s.rayState f r) = false →
    Gives (.vectorPlay dt f r seen ecc) s (s.tick dt)) ∧
  (∀ (s : State) (dt f r : Nat) (seen : List Seen) (ecc : Ecc), (s.tick dt).past (s.vectorTime f (s.ray f r).index) = false →
    Gives (.vectorPlay dt f r seen ecc) s (s.tick dt)) ∧
  (∀ (s : State) (dt f n : Nat) (d : RateDue), s.nextIndex f = some n → (s.fct f).due = some d → d.tapp = none →
    s.isBoundary f (n + 1) = true → (s.fct f).trans = none → (s.tick dt).past (s.vectorTime f n) = true → s.selectors f n = [] →
    Gives (.rateChange dt f) s (switchRate f d.entry n (s.tick dt))) ∧
  (∀ (s : State) (dt f : Nat), s.nextIndex f = none → Gives (.rateChange dt f) s (s.tick dt)) ∧
  (∀ (s : State) (dt f : Nat), f < 16 →
    (s.phaseOn f = true → Gives (.anchorApply dt f) s (s.tick dt)) ∧
    (s.phaseOn f = false → (s.fct f).due = none → Store.find (fun _ => (0 : Int)) s.axs.moves f = 0 →
      s.on (FCT_TIMING_STAT_ANCHOR_DEFERRED f) = true →
      ∃ t : State, Gives (.anchorApply dt f) s t ∧ (t.fct f).anchor = s.get (FCT_ANCHOR_ANCHOR f) ∧ (t.fct f).origin = 0 ∧
        (t.fct f).trans = none ∧ t.on (FCT_TIMING_STAT_ANCHOR_DEFERRED f) = false ∧ SameRegs [FCT_TIMING_STAT f] s t ∧ SameMemories s t)) ∧
  (∀ (s : State) (dt k f r : Nat), s.chordRays k = [(f, r)] →
    (s.rayState f r = rayRun →
      ∃ t : State, Gives (.granuleDecision dt k) s t ∧
        let v := s.get (FCT_RAY_VCOUNT_VCOUNT f r)
        (t.ray f r).ready = some (v + (32 - v % 32), (s.tick dt).granuleAll k (32 - v % 32)) ∧ t.regs = s.regs ∧ SameMemories s t) ∧
    (s.rayState f r ≠ rayRun → s.rayState f r ≠ rayHold → Gives (.granuleDecision dt k) s (s.tick dt)))

/-- SQ_CFG_WRITE with the ray idle stores BASE and SIZE and sets the three indices to 0; with the ray busy it is dropped and UWRITE_DROP sets.
STREAM_PRODUCE stores PROD and lets the queue fetch. A word that arrives for a queue that fetches, from a page that is translated, lands in the
stream buffer at the index FETCHED, which advances. MICROCODE_WRITE with every ray of the facet idle stages doublewords 0 to 6, and doubleword 7
commits the word on the page of FCT_UPAGE; with a ray busy it is dropped. -/
def Obligations.StreamsAndMicrocode : Prop :=
  (∀ (s : State) (dt f r d : Nat) (p : Path), f < 16 → r < 32 → s.takes p (FCT_SQ_CFG f r) = true →
    (s.rayState f r = rayIdle →
      ∃ t : State, Gives (.sqCfgWrite dt p f r d) s t ∧ t.get (FCT_SQ_CFG_BASE f r) = d % 2 ^ 15 ∧
        t.get (FCT_SQ_CFG_SIZE f r) = d / 65536 % 2 ^ 16 ∧ t.get (FCT_SQ_PROD_PROD f r) = 0 ∧ t.get (FCT_SQ_FETCHED_FETCHED f r) = 0 ∧
        t.get (FCT_SQ_CONS_CONS f r) = 0 ∧
        SameRegs [FCT_SQ_CFG f r, FCT_SQ_PROD f r, FCT_SQ_FETCHED f r, FCT_SQ_CONS f r, GLB_GUARD_STAT] s t ∧ SameMemories s t) ∧
    (s.rayState f r ≠ rayIdle → Gives (.sqCfgWrite dt p f r d) s ((s.request dt p).raise (FCT_LOC_STAT_UWRITE_DROP f)))) ∧
  (∀ (s : State) (dt f r d : Nat) (p : Path), f < 16 → r < 32 → s.takes p (FCT_SQ_PROD f r) = true →
    Gives (.streamProduce dt p f r d) s (fetchQueue f r ((s.request dt p).set (FCT_SQ_PROD_PROD f r) (d % 2 ^ 32)))) ∧
  (∀ (s u : State) (dt f r w : Nat), f < 16 → r < 32 → (s.tick dt).queueFetches f r = true → 0 < u.queueWants f r →
    translate (.stream f r) ((s.tick dt).queueNextAt f r) false (s.tick dt) = (true, u) →
    ∃ t : State, Gives (.streamWordsArrive dt f r [w]) s t ∧
      Memory.word t.stream (u.queueAddr f r (u.get (FCT_SQ_FETCHED_FETCHED f r))) 32 = w % 2 ^ 256 ∧
      t.get (FCT_SQ_FETCHED_FETCHED f r) = (u.get (FCT_SQ_FETCHED_FETCHED f r) + 1) % 2 ^ 32 ∧ t.ucode = u.ucode ∧ t.pool = u.pool) ∧
  (∀ (s : State) (dt f word i d : Nat) (p : Path), f < 16 → word < 8192 → i < 8 → s.takes p (0x1000000 + 0x80000 * f + 32 * word + 4 * i) = true →
    (s.raysIdle f = false → Gives (.microcodeWrite dt p f word i d) s ((s.request dt p).raise (FCT_LOC_STAT_UWRITE_DROP f))) ∧
    (s.raysIdle f = true → i < 7 →
      ∃ t : State, Gives (.microcodeWrite dt p f word i d) s t ∧ (t.fct f).staging.getD i 0 = d % 2 ^ 32 ∧ SameMemories s t ∧
        SameRegs [GLB_GUARD_STAT] s t) ∧
    (s.raysIdle f = true → i = 7 →
      ∃ t : State, Gives (.microcodeWrite dt p f word i d) s t ∧
        (∀ j, j < 8 → Memory.word t.ucode (ucodeAddr f (8192 * s.get (FCT_UPAGE_PAGE f) + word) + 4 * j) 4 =
          (if j = 7 then d else (s.fct f).staging.getD j 0) % 2 ^ 32) ∧
        (∀ a, a < ucodeAddr f (8192 * s.get (FCT_UPAGE_PAGE f) + word) ∨ ucodeAddr f (8192 * s.get (FCT_UPAGE_PAGE f) + word) + 32 ≤ a →
          Memory.byte t.ucode a = Memory.byte s.ucode a) ∧ t.stream = s.stream ∧ t.pool = s.pool ∧ SameRegs [GLB_GUARD_STAT] s t))

/-! ## Level waveform generators -/

/-- WG_START of an idle or held generator with a good program arms it, for 64 ticks from now or for the stamp of WG_AT where TIMED asks for a
time no sooner; with a bad program it is refused and SEG_BAD sets; in PLAY it is latched. WG_STOP cancels an armed start, is latched in PLAY
and otherwise does nothing. WG_HALT discards what is armed or latched and enters HELD, giving source 16f + 15 an event. -/
def Obligations.WaveCommands : Prop :=
  ∀ (s : State) (dt f g : Nat) (timed : Bool) (p : Path), f < 16 → g < 4 → s.takes p (FCT_WG_CMD f g) = true →
    let u := s.request dt p
    let soon := stampAdd u.now (ticksOf 64)
    let start := if timed && decide (0 ≤ stampDiff (s.get (FCT_WG_AT_AT f g)) soon) then s.get (FCT_WG_AT_AT f g) else soon
    (s.wgRefused f g = true → Gives (.wgStart dt p f g timed) s (raiseWg f (FCT_WG_STAT_SEG_BAD f g) u)) ∧
    (s.wgRefused f g = false → s.wgState f g = wgIdle ∨ s.wgState f g = wgHeld →
      ∃ t : State, Gives (.wgStart dt p f g timed) s t ∧ t.wgState f g = wgArmed ∧ (t.wave f g).armed = some start ∧
        SameRegs [FCT_WG_STAT f g, GLB_GUARD_STAT] s t ∧ SameMemories s t) ∧
    (s.wgRefused f g = false → s.wgState f g = wgPlay → Gives (.wgStart dt p f g timed) s (latchWg f g true u)) ∧
    (s.wgState f g = wgArmed →
      ∃ t : State, Gives (.wgStop dt p f g) s t ∧ t.wgState f g = wgIdle ∧ (t.wave f g).armed = none ∧
        SameRegs [FCT_WG_STAT f g, GLB_GUARD_STAT] s t ∧ SameMemories s t) ∧
    (s.wgState f g = wgPlay → Gives (.wgStop dt p f g) s (latchWg f g false u)) ∧
    (s.wgState f g ≠ wgArmed → s.wgState f g ≠ wgPlay → Gives (.wgStop dt p f g) s u) ∧
    (∃ t : State, Gives (.wgHalt dt p f g) s t ∧ t.wgState f g = wgHeld ∧ (t.wave f g).armed = none ∧ (t.wave f g).latched = none ∧
      SameRegs [FCT_WG_STAT f g, ICL_PEND f, DMA_MSIX_PBA 0, GLB_GUARD_STAT] s t ∧ SameMemories s t)

/-- WG_PLAY_START of an armed generator whose start has come enters PLAY at that stamp with segment 0. WG_OUTPUT_UPDATE in PLAY with good
memory and REPEAT outputs the code at the position reached at the last multiple of 64 ticks, interpolated and rounded, and a double-bit
error halts it and sets UECC. WG_SEGMENT_END, the end reached, enters HELD for a latched STOP and plays anew from that end for a START. WG_TS_APPLY takes a waiting period where the
position reaches its multiple of 64 samples. Each has no effect in another state or before its time. -/
def Obligations.WavesPlay : Prop :=
  (∀ (s : State) (dt f g t0 : Nat), f < 16 → g < 4 → (s.wave f g).armed = some t0 →
    (s.wgState f g = wgArmed → (s.tick dt).past t0 = true →
      ∃ t : State, Gives (.wgPlayStart dt f g) s t ∧ t.wgState f g = wgPlay ∧ t.get (FCT_WG_STARTED_AT_AT f g) = t0 % 2 ^ 64 ∧
        t.get (FCT_WG_STAT_SEG f g) = 0 ∧ (t.wave f g).armed = none ∧ (t.wave f g).from_ = t0 ∧ SameMemories s t) ∧
    (s.wgState f g ≠ wgArmed ∨ (s.tick dt).past t0 = false → Gives (.wgPlayStart dt f g) s (s.tick dt))) ∧
  (∀ (s : State) (dt f g : Nat), f < 16 → g < 4 →
    (s.wgState f g ≠ wgPlay → ∀ ecc, Gives (.wgOutputUpdate dt f g ecc) s (s.tick dt)) ∧
    (s.wgState f g = wgPlay →
      Gives (.wgOutputUpdate dt f g .double) s (raiseWg f (FCT_WG_STAT_UECC f g) (pulseLine (4 * f) (haltWg f g (s.tick dt)))) ∧
      (∀ (a b fr : Int), let v := s.tick dt
        let i := v.wgPosition f g (v.now / 16384 * 16384)
        a = v.wgStream f g (i / 65536) → b = v.wgStream f g (i / 65536 + 1) → fr = (i % 65536 : Nat) →
        s.on (FCT_WG_CFG_REPEAT f g) = true →
        ∃ t : State, Gives (.wgOutputUpdate dt f g .good) s t ∧
          t.get (FCT_WG_OUT_V f g) = unsigned 16 (a + ((b - a) * fr + 32768) / 65536)))) ∧
  (∀ (s : State) (dt f g : Nat), f < 16 → g < 4 →
    (s.wgState f g ≠ wgPlay ∨ (s.tick dt).past (s.wgTimeOf f g (s.wave f g).latchEnd) = false ∨ (s.wave f g).latched = none →
      Gives (.wgSegmentEnd dt f g) s (s.tick dt)) ∧
    (s.wgState f g = wgPlay → (s.tick dt).past (s.wgTimeOf f g (s.wave f g).latchEnd) = true → (s.wave f g).latched = some false →
      ∃ t : State, Gives (.wgSegmentEnd dt f g) s t ∧ t.wgState f g = wgHeld ∧ (t.wave f g).latched = none) ∧
    (s.wgState f g = wgPlay → (s.tick dt).past (s.wgTimeOf f g (s.wave f g).latchEnd) = true → (s.wave f g).latched = some true →
      ∃ t : State, Gives (.wgSegmentEnd dt f g) s t ∧ t.wgState f g = wgPlay ∧
        (t.wave f g).from_ = s.wgTimeOf f g (s.wave f g).latchEnd ∧ (t.wave f g).latched = none)) ∧
  (∀ (s : State) (dt f g tapp : Nat), f < 16 → g < 4 → (s.wave f g).newTs = some tapp → s.wgState f g = wgPlay →
    let q := (s.wgPosition f g tapp + 64 * 65536 - 1) / (64 * 65536) * 64
    ((s.tick dt).past (s.wgTimeOf f g q) = true →
      ∃ t : State, Gives (.wgTsApply dt f g) s t ∧ (t.wave f g).period = limitTs (s.get (FCT_WG_TS_TS f g)) ∧
        (t.wave f g).newTs = none ∧ (t.wave f g).base = q ∧ SameMemories s t) ∧
    ((s.tick dt).past (s.wgTimeOf f g q) = false → Gives (.wgTsApply dt f g) s (s.tick dt)))

/-! ## Arc -/

/-- DESCRIPTOR_FETCH of a good descriptor at the head of a LOCAL ring in RUN, for a present vertex that is idle and not inked, in HOST or AUTO
with no drain, no cancel and no back-pressure, holds it with its OPTYPE and TAG: in GATHER where NOT_BEFORE has come and the vertex is not held,
and in WAIT where not. A double-bit error completes it BAD_DESC with reason 2, and is an event of the pool's fault source. NOT_BEFORE_REACHED of a vertex in WAIT enters GATHER once nothing holds it, and
leaves it before. GATHER_CLOSE at the end of the window, with no poll round of that window running, makes the gather's vertices a gang. -/
def Obligations.DescriptorsAreTaken : Prop :=
  (∀ (s : State) (dt v : Nat) (data : List Byte), s.reactionOn 16 = false → v < s.vertices → v < 4096 → s.running = true →
    s.vstate v = vsIdle → s.ringState (4 * v) = ringRun → s.ringCount (4 * v) ≠ 0 → s.on (RNG_CTRL_PLACE (4 * v)) = true →
    s.arc.drain = 0 → s.arc.marks = [] → s.onBus v = true → s.inked v = false → s.backPressure v = false →
    let d := s.headEntry v data
    (s.badDesc v d = 0 →
      ∃ t : State, Gives (.descriptorFetch dt v data .good) s t ∧ t.get (ARC_VSTAT_OPTYPE v) = opType d ∧
        t.get (ARC_VSTAT_TAG v) = descTag d ∧ (t.op v).map ArcOp.desc = some d ∧
        t.vstate v = (if (s.tick dt).notBeforeReached d = true ∧ s.vhold v = false then vsGather else vsWait) ∧
        SameRegs [ARC_VSTAT v, ARC_SINCE v] s t ∧ SameMemories s t) ∧
    (∃ u : State, Gives (.descriptorFetch dt v data .double) s (completeAtOnce v opBadDesc 2 u) ∧
      (u.op v).map (fun o => o.flags) = some 1 ∧ (u.op v).map ArcOp.desc = some d ∧
      (s.on (faultActive 64) = false → s.on (faultRail 64) = false → ⟨64, false, false⟩ ∈ u.fcl.raised))) ∧
  (∀ (s : State) (dt v : Nat) (o : ArcOp), s.reactionOn 16 = false → v < 4096 → s.op v = some o → s.vstate v = vsWait →
    (s.vhold v = false → s.backPressure v = false → (s.tick dt).notBeforeReached o.desc = true →
      ∃ t : State, Gives (.notBeforeReached dt v) s t ∧ t.vstate v = vsGather ∧ SameRegs [ARC_VSTAT v, ARC_SINCE v] s t ∧ SameMemories s t) ∧
    ((s.tick dt).notBeforeReached o.desc = false → Gives (.notBeforeReached dt v) s (s.tick dt))) ∧
  (∀ (s : State) (dt v : Nat) (joined : Bool) (g : Gather), s.reactionOn 16 = false →
    (s.chord (s.chordOf v)).gathers.find? (fun g => v ∈ g.members) = some g →
    let e := stampAdd g.opened s.regang
    (s.pollRuns (s.chordOf v) e = false → (s.tick dt).past e = true →
      ∃ t : State, Gives (.gatherClose dt v joined) s t ∧ t.regs = s.regs ∧ SameMemories s t ∧
        (t.chord (s.chordOf v)).gangs = (s.chord (s.chordOf v)).gangs ++
          [⟨(s.chordVertices (s.chordOf v)).filter (fun u => u ∈ g.members), s.arc.order, none, 0, none⟩] ∧
        g ∉ (t.chord (s.chordOf v)).gathers) ∧
    ((s.tick dt).past e = false → joined = false → Gives (.gatherClose dt v joined) s (s.tick dt)))

/-- ADMISSION of a POWER whose vertex has no gate channel ends NO_GATE; with one the gate switches to PARAM0 and the vertex is BUSY. A gang that is
chosen, on a chord with nothing else to issue and no hold, with credit for its cost, is granted and its operations are admitted; while another chord has
a later phase or a poll round to issue, it waits. With the part not in
HOST or AUTO nothing is admitted. OPERATION_URGENT makes a gang with 64 passes urgent and counts it. PHASE_ISSUE on a free bus issues a granted first
phase: the bus is taken, its vertices enter PHASE, and the phase starts at the granule boundary at or after the lead time. POLL_ROUND_ISSUE issues a
poll round that has come and counts it. -/
def Obligations.AdmissionAndIssue : Prop :=
  (∀ (s : State) (dt v : Nat) (o : ArcOp), s.reactionOn 16 = false → s.op v = some o → v < 4096 → s.vstate v = vsGather → s.running = true →
    s.on ARC_SITE_STAT_VALID = true → s.arc.drain = 0 → o.admitted = none → (s.tick dt).waits v = false →
    (opType o.desc = opPower → s.gateChannel v = none →
      ∃ t : State, Gives (.admission dt v) s t ∧ t.closes v opNoGate 0 (s.tick dt).now) ∧
    (opType o.desc = opPower → s.gateChannel v ≠ none →
      ∃ t : State, Gives (.admission dt v) s t ∧ t.vstate v = vsBusy ∧
        Store.find (fun _ => false) t.gates v = decide (descParam o.desc 0 % 2 = 1) ∧
        (t.op v).map ArcOp.admitted = some (some s.arc.order)) ∧
    (opType o.desc ≠ opPower → opType o.desc ≠ opWaitReady → ∀ (k : Nat) (g : Gang), k = s.chordOf v →
      (s.chord k).gangs.find? (fun g => v ∈ g.members) = some g → s.on (ARC_CHORD_STAT_RECOVERY_FAIL k) = false →
      (s.tick dt).busy k = false → s.phaseHeld k (opType o.desc = opMeasure) = false → (s.tick dt).chosen k g = true →
      ((s.tick dt).laterWaits = true → ∃ t : State, Gives (.admission dt v) s t ∧ (t.chord k).granted = none ∧ t.regs = s.regs ∧ t.arc.ops = s.arc.ops) ∧
      ((s.tick dt).laterWaits = false → (s.gangCost k (s.gangDesc g.members) g.members : Int) ≤ s.credit →
        ∃ t : State, Gives (.admission dt v) s t ∧ (t.chord k).granted = some g ∧
          ∀ u ∈ g.members, ∀ x, s.op u = some x → (t.op u).map ArcOp.admitted = some (some s.arc.order)))) ∧
  (∀ (s : State) (dt v : Nat), s.running = false → Gives (.admission dt v) s (s.tick dt)) ∧
  (∀ (s : State) (dt v : Nat) (g : Gang), s.reactionOn 16 = false → s.chordOf v < 512 →
    (s.chord (s.chordOf v)).gangs.find? (fun g => v ∈ g.members) = some g →
    (64 ≤ g.passes → g.urgent = none →
      ∃ t : State, Gives (.operationUrgent dt v) s t ∧ t.on (ARC_CHORD_STAT_URGENT (s.chordOf v)) = true ∧
        t.get ARC_STARVE_COUNT_COUNT = min (2 ^ 32 - 1) (s.get ARC_STARVE_COUNT_COUNT + 1) ∧
        { g with urgent := some s.arc.order } ∈ (t.chord (s.chordOf v)).gangs ∧
        SameRegs [ARC_CHORD_STAT (s.chordOf v), ARC_STARVE_COUNT, ICL_PEND 16, DMA_MSIX_PBA 0] s t ∧ SameMemories s t) ∧
    (g.passes < 64 → Gives (.operationUrgent dt v) s (s.tick dt))) ∧
  (∀ (s : State) (dt k : Nat), s.reactionOn 16 = false → k < 512 →
    (s.running = false ∨ s.busFree k = false → Gives (.phaseIssue dt k) s (s.tick dt)) ∧
    (∀ g : Gang, s.running = true → s.busFree k = true → (s.chord k).granted = some g → opType (s.gangDesc g.members) ≠ opMeasure →
      ∃ (t : State) (q : BusPhase), Gives (.phaseIssue dt k) s t ∧ (t.chord k).phase = some q ∧ (t.chord k).granted = none ∧
        q.kind = pkMain ∧ q.members = s.gangOrder k g.members ∧ q.routine = descRoutine (s.gangDesc g.members) ∧
        q.start = (s.tick dt).chordBoundary k (s.tick dt).leadTime ∧ t.on (ARC_CHORD_STAT_BUS k) = true ∧
        ∀ v ∈ g.members, v < 4096 → t.vstate v = vsPhase)) ∧
  (∀ (s : State) (dt k due : Nat), s.reactionOn 16 = false → k < 512 →
    (s.pollDue k = none → Gives (.pollRoundIssue dt k) s (s.tick dt)) ∧
    (s.pollDue k = some due → (s.tick dt).pollReady k = false → Gives (.pollRoundIssue dt k) s (s.tick dt)) ∧
    (s.pollDue k = some due → s.running = true → s.busFree k = true → (s.chord k).granted = none → (s.tick dt).pollReady k = true →
      s.on (ARC_CHORD_STAT_RECOVERY_FAIL k) = false → s.needsRecovery k = false → s.phaseHeld k false = false → s.arc.drain = 0 →
      (s.phaseCost k : Int) ≤ s.credit →
      ∃ (t : State) (q : BusPhase), Gives (.pollRoundIssue dt k) s t ∧ (t.chord k).phase = some q ∧ q.kind = pkPoll ∧ q.due = due ∧
        q.start = (s.tick dt).chordBoundary k
          (if stampDiff due (s.tick dt).leadTime < 0 then (s.tick dt).leadTime else due) ∧
        t.on (ARC_CHORD_STAT_BUS k) = true ∧ t.get (ARC_POLL_ROUNDS_COUNT k) = (s.get (ARC_POLL_ROUNDS_COUNT k) + 1) % 2 ^ 32))

/-- START_WITHDRAW, for a phase other than a MEASURE whose start boundary is at most 64 ticks away with a facet not ARMED, issues the start anew under a
new number at the boundary at or after the lead time, and counts it; without a phase, for a MEASURE, or earlier, it has no effect. HOLD_MAX_EXPIRY
ends a hold older than ARC_HOLD_MAX and clears its bits, and the gang that would be issued first completes NO_START with the hold's reason; a younger hold
or none is left. -/
def Obligations.LateStartsAndHolds : Prop :=
  (∀ (s : State) (dt k : Nat), s.reactionOn 16 = false → k < 512 →
    ((s.chord k).phase = none → Gives (.startWithdraw dt k) s (s.tick dt)) ∧
    (∀ p : BusPhase, (s.chord k).phase = some p →
      (p.kind = pkMeasure ∨ (ticksOf 64 : Int) < stampDiff p.start (s.tick dt).now → Gives (.startWithdraw dt k) s (s.tick dt)) ∧
      (p.kind ≠ pkMeasure → stampDiff p.start (s.tick dt).now ≤ (ticksOf 64 : Int) →
        ((s.chordRays k).any fun x => s.rayState x.1 x.2 = rayIdle && (s.ray x.1 x.2).serial != p.serial) = true →
        ∃ t : State, Gives (.startWithdraw dt k) s t ∧
          (t.chord k).phase = some { p with
            serial := s.arc.serial, start := (s.tick dt).chordBoundary k (s.tick dt).leadTime } ∧
          t.get ARC_LATE_ARM_COUNT_COUNT = min (2 ^ 32 - 1) (s.get ARC_LATE_ARM_COUNT_COUNT + 1)))) ∧
  (∀ (s : State) (dt k : Nat), s.reactionOn 16 = false → k < 512 →
    ((s.chord k).held = none → Gives (.holdMaxExpiry dt k) s (s.tick dt)) ∧
    (∀ since why : Nat, (s.chord k).held = some (since, why) →
      (stampDiff (s.tick dt).now since ≤ (ticksOf (s.get ARC_HOLD_MAX_TICKS) : Int) → Gives (.holdMaxExpiry dt k) s (s.tick dt)) ∧
      ((ticksOf (s.get ARC_HOLD_MAX_TICKS) : Int) < stampDiff (s.tick dt).now since →
        (s.tick dt).pollReady k = false → s.furtherOf k 3 = [] → s.nextOut k = none → s.nextReplay k = none →
        let u := modChord k (fun c => { c with held := none })
          (((s.tick dt).set (ARC_CHORD_STAT_HOLD_TPL k) 0).set (ARC_CHORD_STAT_HOLD_GRID k) 0)
        ((s.chord k).gangs = [] → Gives (.holdMaxExpiry dt k) s u) ∧
        (∀ (g : Gang) (l : List Gang), (s.chord k).gangs = g :: l →
          Gives (.holdMaxExpiry dt k) s (refreshUrgent k (g.members.foldl (fun s v => completeAtOnce v opNoStart why s) u))))))

/-- PHASE_END by END of an operation without a busy interval or an out phase frees the bus and closes it PASS at the end's stamp; with no phase, or
with a ray that has not ended it, it has no effect. BUSY_WINDOW_EXPIRY with no falling edge makes the vertex ready with a busy time of 0.
BUSY_TIMEOUT closes the operation TIMEOUT at the deadline and holds the vertex where TO_ACTION says so. POWER_SETTLE_END closes a POWER PARAM1 ticks
after its gate switched. PMI_AVERAGE_END gives the mean of its window. Before their time they have no effect. COMPARATOR_EDGE of a channel that is up
gives it the class of the edge: HIGH after RISE, LOW after FALL, MID otherwise. -/
def Obligations.PhasesAndBusyIntervalsEnd : Prop :=
  (∀ (s : State) (dt k : Nat), s.reactionOn 16 = false → (s.chord k).phase = none → Gives (.phaseEnd dt k) s (s.tick dt)) ∧
  (∀ (s : State) (dt k f r : Nat) (p : BusPhase), s.reactionOn 16 = false → (s.chord k).phase = some p → s.chordRays k = [(f, r)] →
    (s.rayState f r ≠ rayIdle → Gives (.phaseEnd dt k) s (s.tick dt)) ∧
    (∀ (v : Nat) (o : ArcOp), k < 512 → v < 4096 → p.kind = pkMain → p.members = [v] → s.rayState f r = rayIdle →
      (s.ray f r).serial = p.serial → (s.ray f r).refused = false → (s.tick dt).past (s.ray f r).endAt = true →
      s.get (FCT_RAY_STAT_END_CAUSE f r) = endEnd → s.op v = some o → s.vstate v = vsPhase → s.inked v = false →
      o.admitted.isSome = true → o.status = none → descBusy o.desc = false → opType o.desc ≠ opRead →
      ∃ t : State, Gives (.phaseEnd dt k) s t ∧ t.closes v opPass 0 (s.ray f r).endAt ∧ (t.chord k).phase = none ∧
        t.on (ARC_CHORD_STAT_BUS k) = false)) ∧
  (∀ (s : State) (dt v c : Nat) (o : ArcOp), s.reactionOn 16 = false → v < 4096 → s.op v = some o → s.vstate v = vsBusy →
    o.admitted.isSome = true →
    (opType o.desc ≠ opPower → s.busyChannel v = some c → o.level ≠ 0 → o.fall = none →
      let e := stampAdd o.tEnd (ticksOf (s.get ARC_BUSY_WB_TICKS))
      ((s.tick dt).past e = true → Gives (.busyWindowExpiry dt v) s (becomeReady v e 0 (flagOp v 11 (s.tick dt)))) ∧
      ((s.tick dt).past e = false → Gives (.busyWindowExpiry dt v) s (s.tick dt))) ∧
    (opType o.desc ≠ opPower → s.busyChannel v = some c →
      ((s.tick dt).past o.deadline = true → o.status = none → s.get ARC_CFG_TO_ACTION = 0 →
        ∃ t : State, Gives (.busyTimeout dt v) s t ∧ t.closes v opTimeout 0 o.deadline ∧ t.vhold v = true) ∧
      ((s.tick dt).past o.deadline = false → Gives (.busyTimeout dt v) s (s.tick dt))) ∧
    (opType o.desc = opPower →
      let e := stampAdd o.tEnd (ticksOf (descParam o.desc 1))
      ((s.tick dt).past e = true → o.status = none →
        ∃ t : State, Gives (.powerSettleEnd dt v) s t ∧ t.closes v opPass 0 e) ∧
      ((s.tick dt).past e = false → Gives (.powerSettleEnd dt v) s (s.tick dt)))) ∧
  (∀ (s : State) (dt v : Nat), s.reactionOn 16 = false →
    (s.arc.means.find? (fun m => m.vertex = v) = none → Gives (.pmiAverageEnd dt v) s (s.tick dt)) ∧
    (∀ m : PmiMean, s.arc.means.find? (fun m => m.vertex = v) = some m → m.count ≠ 0 → (s.tick dt).past m.until_ = true →
      Gives (.pmiAverageEnd dt v) s (dropMeasurement (s.chordOf v) (m.pmi, v, true)
        (measured v false ((m.sum * 1250000).tdiv (m.count * 2 ^ 23)) false m.ovr m.stale
          (modArc (fun a => { a with means := a.means.filter fun x => x != m }) (s.tick dt)))))) ∧
  (∀ (s : State) (dt c e : Nat),
    (s.islandDown (c / 128) = true ∨ s.channels ≤ c → Gives (.comparatorEdge dt c e) s (s.tick dt)) ∧
    (s.islandDown (c / 128) = false → c < s.channels →
      ∃ t : State, Gives (.comparatorEdge dt c e) s t ∧
        Store.find (fun _ => 1) t.classes c = (if e = 0 then 2 else if e = 1 then 0 else 1)))

/-- A write to ARC_CANCEL outside RESET, BOOT and DOZE completes CANCELLED a descriptor that Arc holds unadmitted with that TAG, and remembers the tag for the
entries of live command rings. ARC_REPLAY_GO lets every replay of its chord go. A one written to an ARC_VHOLD bit clears it, and a HELD vertex
becomes IDLE. A one written to RECOVERY_FAIL clears it with a fresh count of attempts. Where the bit is 0 already, nothing changes. -/
def Obligations.ArcCommandsOfSoftware : Prop :=
  (∀ (s : State) (dt tag : Nat) (p : Path), s.takes p ARC_CANCEL = true → modeBoot < s.mode → s.mode ≠ modeDoze → tag < 2 ^ 16 →
    (s.arc.ops = [] →
      ∃ t : State, Gives (.arcCancel dt p tag) s t ∧ SameRegs [GLB_GUARD_STAT] s t ∧ SameMemories s t ∧
        ∀ v < s.vertices, s.ringLive (4 * v) = true → s.ringCount (4 * v) ≠ 0 → (tag, v, s.get (RNG_PROD_PROD (4 * v))) ∈ t.arc.marks) ∧
    (∀ (v : Nat) (o : ArcOp), s.arc.ops = [(v, some o)] → o.admitted = none →
      (descTag o.desc = tag → ∃ u : State, Gives (.arcCancel dt p tag) s (completeAtOnce v opCancelled 0 u) ∧
        u.regs = (s.request dt p).regs ∧ u.arc.ops = s.arc.ops) ∧
      (descTag o.desc ≠ tag → ∃ t : State, Gives (.arcCancel dt p tag) s t ∧ t.arc.ops = s.arc.ops ∧ SameRegs [GLB_GUARD_STAT] s t))) ∧
  (∀ (s : State) (dt k : Nat) (p : Path), s.takes p ARC_REPLAY_GO = true → k < 2 ^ 16 →
    ∃ t : State, Gives (.arcReplayGo dt p k) s t ∧ (t.chord k).replays = (s.chord k).replays.map (fun x => (x.1, false)) ∧
      (∀ j, j ≠ k → t.chord j = s.chord j) ∧ SameRegs [GLB_GUARD_STAT] s t ∧ SameMemories s t) ∧
  (∀ (s : State) (dt v : Nat) (p : Path), v < 4096 → s.takes p (ARC_VHOLD (v / 32)) = true →
    (s.vhold v = false → Gives (.vholdClear dt p v) s (s.request dt p)) ∧
    (s.vhold v = true → s.vstate v = vsHeld →
      ∃ t : State, Gives (.vholdClear dt p v) s t ∧ t.vhold v = false ∧ t.vstate v = vsIdle ∧
        SameRegs [ARC_VHOLD (v / 32), ARC_VSTAT v, ARC_SINCE v, DMA_MSIX_PBA 0, GLB_GUARD_STAT] s t ∧ SameMemories s t) ∧
    (s.vhold v = true → s.vstate v ≠ vsHeld → s.vstate v ≠ vsWait →
      ∃ t : State, Gives (.vholdClear dt p v) s t ∧ t.vhold v = false ∧
        SameRegs [ARC_VHOLD (v / 32), DMA_MSIX_PBA 0, GLB_GUARD_STAT] s t ∧ SameMemories s t)) ∧
  (∀ (s : State) (dt k : Nat) (p : Path), k < 512 → s.takes p (ARC_CHORD_STAT k) = true →
    (s.on (ARC_CHORD_STAT_RECOVERY_FAIL k) = false → Gives (.recoveryFailClear dt p k) s (s.request dt p)) ∧
    (s.on (ARC_CHORD_STAT_RECOVERY_FAIL k) = true →
      ∃ t : State, Gives (.recoveryFailClear dt p k) s t ∧ t.on (ARC_CHORD_STAT_RECOVERY_FAIL k) = false ∧ (t.chord k).tries = 0 ∧
        SameRegs [ARC_CHORD_STAT k, GLB_GUARD_STAT] s t ∧ SameMemories s t))

/-! ## Lattice -/

/-- FAIL_EVENT takes the oldest item of the facet's queue where it is an event: on a chord of one ray it counts in IGNORED without an open slot; in a
LOG slot it adds to the events and fail bits and sets the first; in a PAGE slot without the column map it also adds to the codeword counts, and what
falls in no codeword sets CTRL. On a chord that spans facets the first event of its key opens a merge window. MERGE_WINDOW_EXPIRY accounts an event after
64 ticks. END_MARKER takes a marker: its facet is no longer awaited, and losses count and mark the slot. LATTICE_CLOSE, with no marker awaited, forms the
verdict. LATTICE_CLOSE_COMPLETE closes the slot and ends the operation. Where Lattice stands still, or the item is of the other kind, there is no
effect. -/
def Obligations.FailEventsAreAccounted : Prop :=
  (∀ (s : State) (dt f : Nat) (ecc : LatEcc), s.latticeStopped = true →
    Gives (.failEvent dt f ecc) s (s.tick dt) ∧ Gives (.endMarker dt f) s (s.tick dt)) ∧
  (∀ (s : State) (dt f : Nat) (e : FailEvent) (q : List HubItem), s.latticeStopped = false → (s.fct f).queue = .event e :: q →
    Gives (.endMarker dt f) s (s.tick dt) ∧
    ((s.chordRays (s.chordOf e.vertex)).length ≤ 1 →
      (∀ ecc, s.slot e.vertex = none →
        ∃ t : State, Gives (.failEvent dt f ecc) s t ∧ (t.fct f).queue = q ∧
          t.get LAT_IGNORED_COUNT = min (2 ^ 32 - 1) (s.get LAT_IGNORED_COUNT + 1) ∧ SameRegs [LAT_IGNORED] s t ∧ SameMemories s t) ∧
      (∀ x : Slot, s.slot e.vertex = some x → e.kind < 2 → x.from_ ≤ e.serial → bitsAt x.word 5 5 ≤ x.logged →
        let y : Slot := { x with events := min (2 ^ 32 - 1) (x.events + 1)
                                 bits := min (2 ^ 32 - 1) (x.bits + (setBits 22 e.mask).length)
                                 first := x.first.orElse fun _ => some e.vcount }
        (x.mode = 3 →
          ∃ t : State, Gives (.failEvent dt f .good) s t ∧ t.slot e.vertex = some y ∧ (t.fct f).queue = q ∧
            t.get LAT_EVENTS_COUNT = min (2 ^ 32 - 1) (s.get LAT_EVENTS_COUNT + 1) ∧ SameRegs [LAT_EVENTS] s t ∧ SameMemories s t) ∧
        (x.mode = 1 → x.word.testBit 2 = false →
          let ps := (x.pageBits e).filterMap fun b =>
            codewordOf x.layout (s.mapGet (ARC_DT2_PAGE_BYTES x.die)) (s.mapGet (ARC_DT3_CW_DATA x.die)) (s.mapGet (ARC_DT3_CW_SPARE x.die)) b
          let z := countBits ps y
          ∃ t : State, Gives (.failEvent dt f .good) s t ∧ (t.fct f).queue = q ∧
            t.slot e.vertex = some { z with ctrl := z.ctrl || decide (ps.length < (setBits 22 e.mask).length) } ∧
            SameRegs [LAT_EVENTS] s t ∧ SameMemories s t))) ∧
    (1 < (s.chordRays (s.chordOf e.vertex)).length → s.lat.merging = [] → e.key ∉ s.lat.taken →
      ∃ t : State, Gives (.failEvent dt f .good) s t ∧ (t.fct f).queue = q ∧ t.lat.merging = [(e, (s.tick dt).elapsed)] ∧
        t.regs = s.regs ∧ SameMemories s t)) ∧
  (∀ (s : State) (dt at_ : Nat) (e : FailEvent) (ecc : LatEcc), s.lat.merging = [(e, at_)] →
    (at_ + 64 * 256 < (s.tick dt).elapsed → s.slot e.vertex = none →
      ∃ t : State, Gives (.mergeWindowExpiry dt ecc) s t ∧ t.lat.merging = [] ∧ t.lat.taken = s.lat.taken ++ [e.key] ∧
        t.get LAT_IGNORED_COUNT = min (2 ^ 32 - 1) (s.get LAT_IGNORED_COUNT + 1) ∧ SameRegs [LAT_IGNORED] s t ∧ SameMemories s t) ∧
    ((s.tick dt).elapsed ≤ at_ + 64 * 256 → Gives (.mergeWindowExpiry dt ecc) s (s.tick dt))) ∧
  (∀ (s : State) (dt f g serial v n : Nat) (q : List HubItem), s.latticeStopped = false →
    (s.fct f).queue = .marker g serial [(v, n)] :: q →
    (∀ ecc, Gives (.failEvent dt f ecc) s (s.tick dt)) ∧
    (∀ x : Slot, s.slot v = some x → x.serial = serial → x.from_ ≤ serial →
      (n = 0 → ∃ t : State, Gives (.endMarker dt f) s t ∧ (t.fct f).queue = q ∧
        t.slot v = some { x with waiting := x.waiting.filter fun g => g ≠ f } ∧ t.regs = s.regs ∧ SameMemories s t) ∧
      (n ≠ 0 → ∃ t : State, Gives (.endMarker dt f) s t ∧ (t.fct f).queue = q ∧
        t.slot v = some { x with waiting := x.waiting.filter fun g => g ≠ f, loss := true, lost := min (2 ^ 32 - 1) (x.lost + n) } ∧
        t.get LAT_LOST_COUNT = min (2 ^ 32 - 1) (s.get LAT_LOST_COUNT + n) ∧
        SameRegs [LAT_LOST, ICL_PEND 18, DMA_MSIX_PBA 0] s t ∧ SameMemories s t))) ∧
  (∀ (s : State) (dt v : Nat) (x : Slot), s.slot v = some x →
    (x.closing = none ∨ x.waiting ≠ [] → Gives (.latticeClose dt v .good) s (s.tick dt)) ∧
    (∀ status : Nat, x.closing = some status → x.verdict = none → x.waiting = [] → s.latticeStopped = false → s.lat.merging = [] →
      x.mode ≠ 2 → x.word.testBit 14 = false → x.word.testBit 4 = false → x.word.testBit 3 = false →
      ∃ t : State, Gives (.latticeClose dt v .good) s t ∧
        t.slot v = some { x with verdict := some (s.verdictOf x status).1, dup := false } ∧ t.regs = s.regs ∧ SameMemories s t)) ∧
  (∀ (s : State) (dt v : Nat) (x : Slot), s.slot v = some x →
    (x.closing = none ∨ x.verdict = none → Gives (.latticeCloseComplete dt v) s (s.tick dt)) ∧
    (∀ (status verdict : Nat) (o : ArcOp), x.closing = some status → x.verdict = some verdict → s.latticeStopped = false →
      s.reactionOn 16 = false → s.op v = some o → v < 4096 →
      ∃ t : State, Gives (.latticeCloseComplete dt v) s t ∧ t.slot v = none ∧ t.op v = none ∧
        t.vstate v = (if s.vhold v then vsHeld else vsIdle) ∧ t.get (ARC_RSEQ_RSEQ v) = (s.get (ARC_RSEQ_RSEQ v) + 1) % 2 ^ 32))

/-- LAT_CLEAR with START zeroes the column maps, and the bad-block counts, of the vertices of the range where so chosen, and START stays set until
LAT_CLEAR_END. A run of the repair analysis is refused for a range that is empty or beyond the member, or in another mode, with RESULT 3; otherwise it
holds its vertices or collectors. REPAIR_VERTEX_DONE goes on with the next, or ends the run: COMPLETE, or ABORTED after an ABORT. A vertex whose column map
is empty counts as repaired. COLLECTOR_CLEAR empties a collector. A write in the column map's window changes its four bytes and no other. -/
def Obligations.ClearsAndAnalyses : Prop :=
  (∀ (s : State) (dt : Nat) (p : Path) (columns blocks : Bool), s.takes p LAT_CLEAR = true → s.on LAT_CLEAR_START = false →
    modeBoot < s.mode → s.clearRange ≠ [] →
    ∃ t : State, Gives (.latClear dt p columns blocks) s t ∧ t.on LAT_CLEAR_START = true ∧
      (columns = true → ∀ v ∈ s.clearRange, ∀ e < 16384, t.cmapEntry v e = 0) ∧ (columns = false → t.cmap = s.cmap) ∧
      (blocks = true → ∀ v ∈ s.clearRange, ∀ i < 8, t.reg (LAT_BB v i) = 0) ∧
      (blocks = false → SameRegs [LAT_CLEAR, GLB_GUARD_STAT] s t)) ∧
  (∀ (s : State) (dt : Nat),
    (s.on LAT_CLEAR_START = false → Gives (.latClearEnd dt) s (s.tick dt)) ∧
    (s.on LAT_CLEAR_START = true →
      ∃ t : State, Gives (.latClearEnd dt) s t ∧ t.on LAT_CLEAR_START = false ∧ SameRegs [LAT_CLEAR, ICL_PEND 18, DMA_MSIX_PBA 0] s t ∧
        SameMemories s t)) ∧
  (∀ (s : State) (dt kind plane tag : Nat) (p : Path), s.takes p LAT_RA_CMD = true →
    let good := decide (s.mode ∈ [modeIdle, modeHost, modeAuto, modeCal]) && decide (s.get LAT_RA_RANGE_VFIRST ≤ s.get LAT_RA_RANGE_VLAST) &&
      decide (s.get LAT_RA_RANGE_VLAST < s.vertices)
    (s.lat.ra = none → good = false →
      ∃ t : State, Gives (.repairAnalysis dt p kind plane tag) s t ∧ t.get LAT_RA_STAT_RESULT = 3 ∧ t.lat = s.lat ∧
        SameRegs [LAT_RA_CMD, LAT_RA_STAT, ICL_PEND 18, DMA_MSIX_PBA 0, GLB_GUARD_STAT] s t ∧ SameMemories s t) ∧
    (s.lat.ra = none → good = true → (s.set LAT_RA_CMD_KIND kind).raTargets ≠ [] →
      ∃ t : State, Gives (.repairAnalysis dt p kind plane tag) s t ∧ t.on LAT_RA_CMD_START = true ∧
        t.lat.ra = some ⟨(s.set LAT_RA_CMD_KIND kind).raTargets, decide (kind % 2 = 1), plane % 16, tag % 2 ^ 16, false⟩ ∧
        SameRegs [LAT_RA_CMD, LAT_RA_STAT, LAT_RA_STAT2, GLB_GUARD_STAT] s t ∧ SameMemories s t) ∧
    (s.lat.ra.isSome = true → ∃ t : State, Gives (.repairAnalysis dt p kind plane tag) s t ∧ t.lat = s.lat ∧
      SameRegs [LAT_RA_CMD, GLB_GUARD_STAT] s t ∧ SameMemories s t) ∧
    (∃ t : State, Gives (.repairAnalysisAbort dt p kind plane tag) s t ∧
      t.lat.ra = s.lat.ra.map (fun x => { x with abort := true }) ∧ SameRegs [LAT_RA_CMD, GLB_GUARD_STAT] s t ∧ SameMemories s t)) ∧
  (∀ (s : State) (dt : Nat),
    (s.latticeStopped = true ∨ s.lat.ra = none → Gives (.repairVertexDone dt) s (s.tick dt)) ∧
    (∀ (x : RaRun) (v : Nat) (vs : List Nat), s.latticeStopped = false → s.lat.ra = some x → x.todo = v :: vs →
      (x.abort = true ∨ vs = [] →
        ∃ t : State, Gives (.repairVertexDone dt) s t ∧ t.lat.ra = none ∧ t.on LAT_RA_CMD_START = false ∧
          t.get LAT_RA_STAT_RESULT = (if x.abort then 2 else 1)) ∧
      (x.abort = false → vs ≠ [] → ∃ t : State, Gives (.repairVertexDone dt) s t ∧ t.lat.ra = some { x with todo := vs } ∧
        (v < 4096 → x.twoD = false → s.columnCounts v = [] →
          t.get LAT_RA_STAT_REPAIRED = (s.get LAT_RA_STAT_REPAIRED + 1) % 2 ^ 13)))) ∧
  (∀ (s : State) (dt c : Nat) (p : Path), c < 128 → s.takes p (LAT_COLL_CLEAR c) = true →
    ∃ t : State, Gives (.collectorClear dt p c) s t ∧ (t.collector c).working = CollSide.init ∧ (t.collector c).committed = CollSide.init ∧
      t.get (LAT_COLL_STAT_STORED c) = 0 ∧ t.on (LAT_COLL_STAT_EARLY c) = false ∧ t.on (LAT_COLL_STAT_PENDING c) = false ∧
      SameRegs [LAT_COLL_STAT c, GLB_GUARD_STAT] s t ∧ SameMemories s t) ∧
  (∀ (s : State) (dt word d : Nat) (p : Path), word < 262144 → s.takes p (LAT_CMAPWIN word) = true →
    (∀ a : Nat, s.windowPlace (4 * word) = some a →
      ∃ t : State, Gives (.cmapWindowWrite dt p word d) s t ∧ Memory.word t.cmap a 4 = d % 2 ^ 32 ∧
        (∀ b, b < a ∨ a + 4 ≤ b → Memory.byte t.cmap b = Memory.byte s.cmap b) ∧ t.pool = s.pool ∧ t.ucode = s.ucode ∧
        t.stream = s.stream ∧ t.flash = s.flash ∧ SameRegs [GLB_GUARD_STAT] s t) ∧
    (s.windowPlace (4 * word) = none → Gives (.cmapWindowWrite dt p word d) s (s.request dt p)))

/-! ## Time measurement and acquisition -/

/-- TDC_START with no run in progress stores N - 1 and, in HOST or AUTO with no AXIS start, waits for the first shot; in another mode the run ends ABORTED
at once. With a run in progress it has no effect. TDC_ABORT ends the run ABORTED, with the mean of the shots counted, and sets its DONE bit.
TDC_SHOT_TIMEOUT of a shot older than the timeout counts it, and the next shot waits for its start; a younger shot goes on. TDC_AXIS_EVENT starts or counts
the shot at the event's stamp once that has come, and has no effect at an endpoint of another kind. -/
def Obligations.TdcUnits : Prop :=
  (∀ (s : State) (dt f u n1 : Nat) (p : Path), f < 16 → u < 32 → s.takes p (FCT_TDC_CTRL f u) = true →
    (s.tdcRun f u = none → s.running = true → s.get (FCT_TDC_START_SEL_KIND f u) ≠ 2 →
      ∃ t : State, Gives (.tdcStart dt p f u n1) s t ∧ t.tdcRun f u = some ⟨0, none, none, none, 0, 0, 2 ^ 64 - 1, 0⟩ ∧
        t.get (FCT_TDC_CTRL_N_M1 f u) = n1 % 2 ^ 24 ∧ t.get (FCT_TDC_COUNT_COUNT f u) = 0 ∧ t.on (FCT_TDC_STAT_BUSY f u) = true ∧
        SameRegs [FCT_TDC_CTRL f u, FCT_TDC_COUNT f u, FCT_TDC_STAT f u, GLB_GUARD_STAT] s t ∧ SameMemories s t) ∧
    (s.tdcRun f u = none → s.running = false →
      ∃ t : State, Gives (.tdcStart dt p f u n1) s t ∧ t.tdcRun f u = none ∧ t.get (FCT_TDC_STAT_END f u) = 2 ∧
        t.on (FCT_TDC_STAT_BUSY f u) = false ∧ t.bitOf (FCT_TMU_DONE_DONE f) u = true) ∧
    ((s.tdcRun f u).isSome = true → Gives (.tdcStart dt p f u n1) s (s.request dt p)) ∧
    (s.tdcRun f u = none → Gives (.tdcAbort dt p f u) s ((s.request dt p).set (FCT_TDC_CTRL_N_M1 f u) 0)) ∧
    (∀ r : TdcRun, s.tdcRun f u = some r →
      let n := s.get (FCT_TDC_COUNT_COUNT f u)
      ∃ t : State, Gives (.tdcAbort dt p f u) s t ∧ t.tdcRun f u = none ∧ t.get (FCT_TDC_STAT_END f u) = 2 ∧
        t.on (FCT_TDC_STAT_BUSY f u) = false ∧ t.on (FCT_TDC_CTRL_START f u) = false ∧ t.bitOf (FCT_TMU_DONE_DONE f) u = true ∧
        t.get (FCT_TDC_MEAN_MEAN f u) = (if n = 0 then 0 else (2 ^ 17 * r.sum + n) / (2 * n)) % 2 ^ 64 ∧ SameMemories s t)) ∧
  (∀ (s : State) (dt f u : Nat), s.tdcRun f u = none →
    Gives (.tdcShotTimeout dt f u) s (s.tick dt) ∧ ∀ stop, Gives (.tdcAxisEvent dt f u stop) s (s.tick dt)) ∧
  (∀ (s : State) (dt f u b : Nat) (r : TdcRun), f < 16 → u < 32 → s.tdcRun f u = some r → r.start = some b →
    let lim := ticksOf (s.get (FCT_TDC_TIMEOUT_TICKS f u))
    let x := stampDiff (s.tick dt).now b
    (lim ≠ 0 → (lim : Int) < x → s.get (FCT_TDC_START_SEL_KIND f u) ≠ 2 →
      ∃ t : State, Gives (.tdcShotTimeout dt f u) s t ∧ t.tdcRun f u = some { r with start := none, shot := r.shot + 1 } ∧
        t.get (FCT_TDC_TIMEOUTS_COUNT f u) = min (2 ^ 32 - 1) (s.get (FCT_TDC_TIMEOUTS_COUNT f u) + 1) ∧
        SameRegs [FCT_TDC_TIMEOUTS f u, ICL_PEND f, DMA_MSIX_PBA 0] s t ∧ SameMemories s t) ∧
    (lim = 0 ∨ x ≤ (lim : Int) → x < (2 ^ 40 : Int) → Gives (.tdcShotTimeout dt f u) s (s.tick dt))) ∧
  (∀ (s : State) (dt f u : Nat) (r : TdcRun), f < 16 → u < 32 → s.tdcRun f u = some r →
    (∀ stop : Bool, s.tdcKind f u stop ≠ 2 ∨ (s.tick dt).past (s.axisEvent f u stop r.shot) = false →
      Gives (.tdcAxisEvent dt f u stop) s (s.tick dt)) ∧
    (s.tdcKind f u false = 2 → r.start = none → (s.tick dt).past (s.axisEvent f u false r.shot) = true →
      ∃ t : State, Gives (.tdcAxisEvent dt f u false) s t ∧
        t.tdcRun f u = some { r with start := some (s.axisEvent f u false r.shot) } ∧ SameRegs [FCT_TDC_STAT f u] s t ∧ SameMemories s t) ∧
    (∀ b : Nat, s.tdcKind f u true = 2 → r.start = some b → (s.tick dt).past (s.axisEvent f u true r.shot) = true →
      ticksOf (s.get (FCT_TDC_TIMEOUT_TICKS f u)) = 0 → 0 ≤ stampDiff (s.axisEvent f u true r.shot) b →
      stampDiff (s.axisEvent f u true r.shot) b < (2 ^ 40 : Int) →
      ∃ t : State, Gives (.tdcAxisEvent dt f u true) s t ∧
        t.get (FCT_TDC_LAST_LAST f u) = (stampDiff (s.axisEvent f u true r.shot) b).toNat ∧ t.get (FCT_TDC_LAST_AT_AT f u) = b % 2 ^ 64 ∧
        t.get (FCT_TDC_COUNT_COUNT f u) = (s.get (FCT_TDC_COUNT_COUNT f u) + 1) % 2 ^ 25))

/-- RC_START with no run stores TIMED and M_MAX and, in HOST or AUTO, waits for its gate: 64 ticks from now, or GATE_AT where TIMED asks for a time no sooner,
and as long as RC_GATE says. RC_GATE_OPEN opens the gate once its time has come. RC_GATE_END at the end of the gate ends the run with END GATE, and RC_ABORT
with END ABORTED: BUSY clears, RC_DONE sets, and with fewer than three edges FEW sets and the results are 0. Before their time, and without a run, the
gate events have no effect. -/
def Obligations.RegressionCounter : Prop :=
  (∀ (s : State) (dt f m : Nat) (timed : Bool) (p : Path), f < 16 → s.takes p (FCT_RC_CTRL f) = true →
    (s.rcRun f = none → s.running = true →
      let soon := stampAdd (s.tick dt).now (ticksOf 64)
      let from_ := if timed && decide (0 ≤ stampDiff (s.get (FCT_RC_GATE_AT_AT f)) soon) then s.get (FCT_RC_GATE_AT_AT f) else soon
      let g := s.get (FCT_RC_GATE_TICKS f)
      ∃ t : State, Gives (.rcStart dt p f timed m) s t ∧
        t.rcRun f = some ⟨from_, if g = 0 then none else some (stampAdd from_ (ticksOf g)), false, none, 0, 0, 0, 0, 0, 0⟩ ∧
        t.on (FCT_RC_CTRL_TIMED f) = timed ∧ t.get (FCT_RC_CTRL_M_MAX f) = m % 2 ^ 20 ∧ t.on (FCT_RC_STAT_BUSY f) = true ∧
        t.get (FCT_RC_M_M f) = 0 ∧ SameRegs [FCT_RC_CTRL f, FCT_RC_STAT f, FCT_RC_M f, GLB_GUARD_STAT] s t ∧ SameMemories s t) ∧
    (s.rcRun f = none →
      ∃ t : State, Gives (.rcAbort dt p f timed m) s t ∧ t.on (FCT_RC_CTRL_TIMED f) = timed ∧ t.get (FCT_RC_CTRL_M_MAX f) = m % 2 ^ 20 ∧
        SameRegs [FCT_RC_CTRL f, GLB_GUARD_STAT] s t ∧ SameMemories s t) ∧
    (∀ r : RcRun, s.rcRun f = some r →
      ∃ t : State, Gives (.rcAbort dt p f timed m) s t ∧ t.rcRun f = none ∧ t.get (FCT_RC_STAT_END f) = 3 ∧
        t.on (FCT_RC_STAT_BUSY f) = false ∧ t.on (FCT_TMU_STAT_RC_DONE f) = true ∧ t.on (FCT_RC_STAT_FEW f) = decide (r.count < 3) ∧
        (r.count < 3 → t.get (FCT_RC_PERIOD_PERIOD f) = 0 ∧ t.get (FCT_RC_FREQ_FREQ f) = 0 ∧ t.get (FCT_RC_RESID_RESID f) = 0) ∧
        SameMemories s t)) ∧
  (∀ (s : State) (dt f : Nat), s.rcRun f = none →
    Gives (.rcGateOpen dt f) s (s.tick dt) ∧ Gives (.rcGateEnd dt f) s (s.tick dt)) ∧
  (∀ (s : State) (dt f : Nat) (r : RcRun), f < 16 → s.rcRun f = some r →
    ((s.tick dt).past r.from_ = true →
      ∃ t : State, Gives (.rcGateOpen dt f) s t ∧ t.rcRun f = some { r with opened := true } ∧ t.regs = s.regs ∧ SameMemories s t) ∧
    ((s.tick dt).past r.from_ = false → Gives (.rcGateOpen dt f) s (s.tick dt)) ∧
    (r.until_ = none → Gives (.rcGateEnd dt f) s (s.tick dt)) ∧
    (∀ e : Nat, r.until_ = some e →
      ((s.tick dt).past e = false → Gives (.rcGateEnd dt f) s (s.tick dt)) ∧
      ((s.tick dt).past e = true →
        ∃ t : State, Gives (.rcGateEnd dt f) s t ∧ t.rcRun f = none ∧ t.get (FCT_RC_STAT_END f) = 1 ∧ t.on (FCT_RC_STAT_BUSY f) = false ∧
          t.on (FCT_TMU_STAT_RC_DONE f) = true ∧ t.get (FCT_RC_FIRST_AT_AT f) = r.first % 2 ^ 64 ∧
          t.get (FCT_RC_LAST_AT_AT f) = r.last % 2 ^ 64)))

/-- PMI_SAMPLE of a running input with a sample due shows its code, limited, with OVR and STALE; an input that is off has no effect. ADC_CONVERSION that is
due gives the unit the value of its next channel, and 0 with NOPMU where that is not in the PMU state. A sample of a STREAM block with room is
stored. ACQ_ARM of an idle unit with nothing wrong enters STREAM, FILL or READY; otherwise ERR says why. A software trigger of a READY unit whose capture
needs nothing before it enters POST and counts; in FILL it is counted as ignored; idle or in STREAM it has no effect. ACQ_AXIS_TRIGGER triggers once, at its
stamp. -/
def Obligations.UnitsAreArmedAndTriggered : Prop :=
  (∀ (s : State) (dt n : Nat) (code : Int), n < 64 →
    (s.pmiRuns n = false → Gives (.pmiSample dt n code) s (s.tick dt)) ∧
    (∀ at_ : Nat, s.pmiRuns n = true → (s.tick dt).pmiStamp n = some at_ → s.aqUnits 0 n = [] →
      ∃ t : State, Gives (.pmiSample dt n code) s t ∧
        t.get (ACQ_PMI_LAST_CODE n) = unsigned 24 (clampInt (-(2 ^ 23 - 1)) (2 ^ 23 - 1) code) ∧
        t.on (ACQ_PMI_LAST_OVR n) = decide (code < -(2 ^ 23 - 1) ∨ 2 ^ 23 - 1 < code) ∧
        t.on (ACQ_PMI_LAST_STALE n) = (s.tick dt).pmiStale n at_ ∧ SameRegs [ACQ_PMI_LAST n] s t ∧ SameMemories s t)) ∧
  (∀ (s : State) (dt u : Nat) (value : Int) (clamped : Bool),
    (s.aqKind u ≠ 1 → Gives (.adcConversion dt u value clamped) s (s.tick dt)) ∧
    (s.aqKind u = 1 → s.aqState u ∈ [aqFill, aqReady, aqPost, aqRearm, aqStream] →
      let x := s.acqUnit u
      let at_ := x.convAt + x.conv * 1600 * 256
      let chans := setBits 16 (s.get (ACQ_U_CHMASK_CHMASK u))
      let i := chans.getD (x.conv % chans.length) 0
      let c := 16 * s.aqSource u + i
      ((s.tick dt).past (at_ + 1600 * 256) = false → Gives (.adcConversion dt u value clamped) s (s.tick dt)) ∧
      ((s.tick dt).past (at_ + 1600 * 256) = true →
        let e : AcqEntry := if s.channelState c = chPmu then ⟨at_, value, clamped, false, (s.tick dt).suspect (c / 128), false, i⟩
          else ⟨at_, 0, false, false, (s.tick dt).suspect (c / 128), true, i⟩
        Gives (.adcConversion dt u value clamped) s (inputSample u e (modAcq u (fun x => { x with conv := x.conv + 1 }) (s.tick dt)))))) ∧
  (∀ (s : State) (u : Nat) (e : AcqEntry), s.aqState u = aqStream → 0 ≤ stampDiff e.at_ (s.acqUnit u).armedAt → s.aqReduces u = false →
    s.aqKind u ≠ 1 → (s.acqUnit u).items ≠ [] → (s.acqUnit u).items.length + 1 < s.aqIpb u →
    (inputSample u e s).acqUnit u =
      { s.acqUnit u with items := (s.acqUnit u).items ++ [⟨e.at_, [e]⟩], prev := some e.value } ∧ (inputSample u e s).regs = s.regs) ∧
  (∀ (s : State) (dt u : Nat) (p : Path), u < 16 → s.takes p (ACQ_U_CTRL u) = true →
    (s.aqState u ≠ aqIdle → Gives (.acqArm dt p u) s (s.request dt p)) ∧
    (s.aqState u = aqIdle → s.armError u ≠ 0 →
      ∃ t : State, Gives (.acqArm dt p u) s t ∧ t.get (ACQ_U_STAT_ERR u) = s.armError u ∧ t.aqState u = aqIdle ∧
        SameRegs [ACQ_U_STAT u, ICL_PEND 25, DMA_MSIX_PBA 0, GLB_GUARD_STAT] s t ∧ SameMemories s t) ∧
    (s.aqState u = aqIdle → s.armError u = 0 →
      ∃ t : State, Gives (.acqArm dt p u) s t ∧ t.get (ACQ_U_STAT_ERR u) = 0 ∧ t.on (ACQ_U_CTRL_ARM u) = true ∧
        (t.acqUnit u).armedAt = (s.tick dt).now ∧
        t.aqState u = (if s.get (ACQ_U_CFG_MODE u) = 2 then aqStream else if s.get (ACQ_U_PRE_PRE u) = 0 then aqReady else aqFill) ∧
        SameMemories s t) ∧
    (s.aqState u = aqIdle ∨ s.aqState u = aqStream → Gives (.acqSoftwareTrigger dt p u) s (s.request dt p)) ∧
    (s.aqState u = aqFill →
      ∃ t : State, Gives (.acqSoftwareTrigger dt p u) s t ∧
        t.get (ACQ_U_IGN_FILL_COUNT u) = min (2 ^ 32 - 1) (s.get (ACQ_U_IGN_FILL_COUNT u) + 1) ∧
        SameRegs [ACQ_U_IGN_FILL u, GLB_GUARD_STAT] s t ∧ SameMemories s t) ∧
    (s.aqState u = aqReady → s.get (ACQ_U_PRE_PRE u) = 0 → (s.acqUnit u).items = [] →
      (∀ w < 16, s.get (ACQ_U_TRIG_CFG_KIND w) = 4 → s.get (ACQ_U_TRIG_CFG_UNIT w) ≠ u) →
      ∃ t : State, Gives (.acqSoftwareTrigger dt p u) s t ∧ t.aqState u = aqPost ∧ (t.acqUnit u).trig = some (s.tick dt).now ∧
        t.get (ACQ_U_CAPTURES_COUNT u) = (s.get (ACQ_U_CAPTURES_COUNT u) + 1) % 2 ^ 32 ∧
        SameRegs [ACQ_U_STAT u, ACQ_U_CAPTURES u, GLB_GUARD_STAT] s t ∧ SameMemories s t)) ∧
  (∀ (s : State) (dt u : Nat),
    (s.get (ACQ_U_TRIG_CFG_KIND u) ≠ 1 ∨ (s.acqUnit u).axisDone = true → Gives (.acqAxisTrigger dt u) s (s.tick dt)) ∧
    (s.get (ACQ_U_TRIG_CFG_KIND u) = 1 → (s.acqUnit u).axisDone = false → s.aqState u ≠ aqIdle →
      (s.tick dt).past (s.get (ACQ_U_TRIG_AT_AT u)) = true →
      Gives (.acqAxisTrigger dt u) s
        (trigger u (s.get (ACQ_U_TRIG_AT_AT u)) (modAcq u (fun x => { x with axisDone := true }) (s.tick dt)))))

/-- ACQ_STOP of a unit in FILL, READY or REARM with nothing to deliver returns it to IDLE; idle it has no effect; in STREAM with nothing stored it ends
with ENDED. ACQ_REARM_END enters FILL or READY after HOLD with a slot free and no overflow, and not before. ACQ_STREAM_FLUSH closes the block whose first
item is HOLD ticks old, and none without items. ACQ_BLOCK_DELIVERED of a block on its way to a LOCAL destination writes it into the pool and advances PROD; with
none on its way it has no effect. A write to DEST_CONS stores it and lets waiting blocks go on. -/
def Obligations.UnitsStopAndDeliver : Prop :=
  (∀ (s : State) (dt u : Nat) (p : Path), u < 16 → s.takes p (ACQ_U_CTRL u) = true →
    (s.aqState u = aqIdle → Gives (.acqStop dt p u) s (s.request dt p)) ∧
    (s.aqState u ∈ [aqFill, aqReady, aqRearm] → (s.acqUnit u).blocks = [] →
      ∃ t : State, Gives (.acqStop dt p u) s t ∧ t.aqState u = aqIdle ∧ t.on (ACQ_U_CTRL_ARM u) = false ∧ (t.acqUnit u).pages = [] ∧
        SameMemories s t) ∧
    (s.aqState u = aqStream → (s.acqUnit u).items = [] → (s.acqUnit u).part = none → (s.acqUnit u).blocks = [] →
      ∃ t : State, Gives (.acqStop dt p u) s t ∧ t.aqState u = aqIdle ∧ t.on (ACQ_U_STAT_ENDED u) = true ∧ SameMemories s t)) ∧
  (∀ (s : State) (dt u : Nat), u < 16 →
    (s.aqState u ≠ aqRearm → Gives (.acqRearmEnd dt u) s (s.tick dt)) ∧
    (s.aqState u = aqRearm → (s.tick dt).past (stampAdd (s.acqUnit u).endAt (ticksOf (s.get (ACQ_U_HOLD_HOLD u)))) = false →
      Gives (.acqRearmEnd dt u) s (s.tick dt)) ∧
    (s.aqState u = aqRearm → (s.tick dt).past (stampAdd (s.acqUnit u).endAt (ticksOf (s.get (ACQ_U_HOLD_HOLD u)))) = true →
      (s.acqUnit u).overflow = false → s.slotsHeld u < s.get (ACQ_U_PAGES_PAGES u) / s.aqSlot u →
      ∃ t : State, Gives (.acqRearmEnd dt u) s t ∧ t.aqState u = (if s.get (ACQ_U_PRE_PRE u) = 0 then aqReady else aqFill) ∧
        (t.acqUnit u).items = [] ∧ SameRegs [ACQ_U_STAT u] s t ∧ SameMemories s t)) ∧
  (∀ (s : State) (dt u : Nat),
    ((s.acqUnit u).items = [] → Gives (.acqStreamFlush dt u) s (s.tick dt)) ∧
    (∀ (i : AcqItem) (l : List AcqItem), (s.acqUnit u).items = i :: l → s.aqState u = aqStream → s.get (ACQ_U_HOLD_HOLD u) ≠ 0 →
      let e := stampAdd i.at_ (ticksOf (s.get (ACQ_U_HOLD_HOLD u)))
      ((s.tick dt).past e = true → Gives (.acqStreamFlush dt u) s (closeStreamBlock u false false (s.tick dt))) ∧
      ((s.tick dt).past e = false → Gives (.acqStreamFlush dt u) s (s.tick dt)))) ∧
  (∀ (s : State) (dt u : Nat) (ecc : Ecc),
    ((s.acqUnit u).blocks = [] ∨ (s.acqUnit u).xfer ≠ .issued → Gives (.acqBlockDelivered dt u ecc) s (s.tick dt))) ∧
  (∀ (s : State) (dt u : Nat) (b : AcqBlock), u < 16 → (s.acqUnit u).blocks = [b] → (s.acqUnit u).xfer = .issued →
    s.on (ACQ_U_DEST_LOCAL u) = true → b.last = false → s.get (ACQ_U_CFG_MODE u) ≠ 2 →
    ∃ t : State, Gives (.acqBlockDelivered dt u .good) s t ∧
      t.pool = Memory.putBytes s.pool (s.destSlot u % poolBytes) (blockData u b (b.flags (s.acqUnit u).overflow false) s) ∧
      (t.acqUnit u).blocks = [] ∧ t.get (ACQ_U_DEST_PROD_PROD u) = (s.get (ACQ_U_DEST_PROD_PROD u) + 1) % 2 ^ 32 ∧
      t.cmap = s.cmap ∧ t.ucode = s.ucode ∧ t.stream = s.stream) ∧
  (∀ (s : State) (dt u cons : Nat) (p : Path), u < 16 → s.takes p (ACQ_U_DEST_CONS u) = true →
    Gives (.acqDestConsWrite dt p u cons) s (startBlock u ((s.request dt p).set (ACQ_U_DEST_CONS_CONS u) (cons % 2 ^ 32))))

/-! ## Rings, translation and copies -/

/-- A doorbell to a command ring stores a PROD that its entries fit, and one to an output ring a CONS that frees no more than there is; any other is
counted, with the ring, and source 358 pends. In RESET it has no effect, for a ring that does not exist it is captured, and a narrow one too. RING_ENABLE
of a disabled HOST ring stores the configuration and enters RUN, or CONFIG_ERR where the context is bad. RING_DISABLE of a ring with nothing in hand
leaves it DISABLED. RING_RETRY with the configuration unchanged does nothing to a ring that is not PARKED or still full, and begins the drain of a
full one with room. -/
def Obligations.DoorbellsAndRings : Prop :=
  (∀ (s : State) (dt v which x be : Nat) (p : Path), s.mode = modeReset →
    Gives (.doorbellCommand dt p v x be) s (s.tick dt) ∧ Gives (.doorbellOutput dt p v which x be) s (s.tick dt)) ∧
  (∀ (s : State) (dt v which x be : Nat) (p : Path), s.mode ≠ modeReset → be ≠ 0xF → 4 * v + 1 + which % 3 < s.rings →
    Gives (.doorbellCommand dt p v x be) s (capture p causeNarrow true 1 (8 * (4 * v)) be (s.tick dt)) ∧
    Gives (.doorbellOutput dt p v which x be) s (capture p causeNarrow true 1 (8 * (4 * v + 1 + which % 3)) be (s.tick dt))) ∧
  (∀ (s : State) (dt v x : Nat) (p : Path), s.mode ≠ modeReset → 4 * v < s.rings →
    let n := 4 * v
    (s.doorbellFits n (x % 2 ^ 32) = true → x % 2 ^ 32 ≠ s.get (RNG_CONS_CONS n) →
      ∃ t : State, Gives (.doorbellCommand dt p v x 0xF) s t ∧ t.get (RNG_PROD_PROD n) = x % 2 ^ 32 ∧ SameRegs [RNG_PROD n] s t ∧
        SameMemories s t) ∧
    (s.doorbellFits n (x % 2 ^ 32) = false →
      ∃ t : State, Gives (.doorbellCommand dt p v x 0xF) s t ∧ t.get DMA_DB_LAST_RING = n ∧
        t.get DMA_DB_BAD_COUNT = min (2 ^ 32 - 1) (s.get DMA_DB_BAD_COUNT + 1) ∧
        SameRegs [DMA_DB_LAST, DMA_DB_BAD, ICL_PEND 22, DMA_MSIX_PBA 0] s t ∧ SameMemories s t)) ∧
  (∀ (s : State) (dt v which x : Nat) (p : Path), s.mode ≠ modeReset → 4 * v + 1 + which % 3 < s.rings →
    let n := 4 * v + 1 + which % 3
    let fits := s.ringLive n && decide (indexDiff (x % 2 ^ 32) (s.get (RNG_CONS_CONS n)) ≤ s.ringCount n)
    (fits = true → s.ringState n = ringRun → s.on (RNG_STAT_DRAINING n) = false → (s.ring n).queue = [] →
      ∃ t : State, Gives (.doorbellOutput dt p v which x 0xF) s t ∧ t.get (RNG_CONS_CONS n) = x % 2 ^ 32 ∧ SameRegs [RNG_CONS n] s t ∧
        SameMemories s t) ∧
    (fits = false → Gives (.doorbellOutput dt p v which x 0xF) s (rejectDoorbell n (s.tick dt)))) ∧
  (∀ (s : State) (dt n d : Nat) (p : Path), s.takes p (RNG_CTRL n) = true →
    (s.on (RNG_CTRL_ENABLE n) = false →
      let u := setRingConfig p n ((d ||| 1) % 2 ^ 32) (s.request dt p)
      u.on (RNG_CTRL_ENABLE n) = true ∧ u.get (RNG_CTRL_LOG2SIZE n) = bitsAt d 2 5 ∧ u.on (RNG_CTRL_PLACE n) = d.testBit 1 ∧
      (u.contextBad n = false → d.testBit 1 = false → Gives (.ringEnable dt p n d) s (u.set (RNG_STAT_STATE n) ringRun)) ∧
      (u.contextBad n = true → ∃ t : State, Gives (.ringEnable dt p n d) s t ∧ t.ringState n = ringConfigErr ∧
        SameRegs [RNG_CTRL n, RNG_STAT n, ICL_PEND 22, DMA_MSIX_PBA 0, GLB_GUARD_STAT] s t ∧ SameMemories s t)) ∧
    (s.on (RNG_CTRL_ENABLE n) = true → s.on (RNG_CTRL_PLACE n) = false → n % 4 ≠ 0 → (s.ring n).queue = [] → (s.ring n).spill = [] →
      ∃ t : State, Gives (.ringDisable dt p n d) s t ∧ t.on (RNG_CTRL_ENABLE n) = false ∧ t.ringState n = ringDisabled ∧
        t.ring n = RingState.init ∧ SameRegs [RNG_CTRL n, RNG_STAT n, RNG_SPILLED n, GLB_GUARD_STAT] s t ∧ SameMemories s t) ∧
    (s.on (RNG_CTRL_ENABLE n) = true → d < 2 ^ 14 → (s.reg (RNG_CTRL n)).toNat &&& ringConfigMask = d →
      (s.ringState n ≠ ringParked → Gives (.ringRetry dt p n d) s (s.request dt p)) ∧
      (s.ringState n = ringParked → s.get (RNG_STAT_CAUSE n) = parkFull →
        (s.ringSize n ≤ s.ringCount n → Gives (.ringRetry dt p n d) s (s.request dt p)) ∧
        (s.ringCount n < s.ringSize n → Gives (.ringRetry dt p n d) s (beginDrain n (s.request dt p))))))

/-- RECORD_HANDOVER to a disabled ring discards and counts the record; to a LOCAL ring in RUN with nothing in hand and room it starts its write.
RECORD_WRITE_DONE puts a record of a LOCAL ring into the pool at the entry of PROD and advances PROD; with no write under way it has no effect.
WRITEBACK_TIMER writes the index back once 1,600 ticks have passed with advances unreported, and not before. COMPLETION_ERROR of a live command
ring parks it with cause COMPLETION and counts the park; of another ring it has no effect; a timeout is an event of fault source 123. -/
def Obligations.RecordsAndWriteBacks : Prop :=
  (∀ (s : State) (dt n : Nat) (d : List Byte), n < 16384 → n % 4 = 3 →
    (s.ringState n = ringDisabled →
      ∃ t : State, Gives (.recordHandover dt n d) s t ∧ t.on (RNG_STAT_LOSS n) = true ∧
        t.get (RNG_LOST_COUNT n) = min (2 ^ 32 - 1) (s.get (RNG_LOST_COUNT n) + 1) ∧
        t.get DMA_DISCARD_COUNT = min (2 ^ 32 - 1) (s.get DMA_DISCARD_COUNT + 1) ∧
        SameRegs [RNG_STAT n, RNG_LOST n, DMA_DISCARD, ICL_PEND 22, DMA_MSIX_PBA 0] s t ∧ SameMemories s t) ∧
    (s.ringState n = ringRun → s.on (RNG_STAT_DRAINING n) = false → s.on (RNG_CTRL_PLACE n) = true → (s.ring n).queue = [] →
      (s.ring n).xfer = .idle → s.ringCount n < s.ringSize n →
      ∃ t : State, Gives (.recordHandover dt n d) s t ∧ t.ring n = { s.ring n with queue := [⟨d, none, s.get (ARC_RSEQ_RSEQ (n / 4))⟩], xfer := .issued } ∧
        t.regs = s.regs ∧ SameMemories s t)) ∧
  (∀ (s : State) (dt n : Nat), (s.ring n).xfer ≠ .issued → Gives (.recordWriteDone dt n) s (s.tick dt)) ∧
  (∀ (s : State) (dt n : Nat) (r : Rec), n < 16384 → n % 4 ≠ 0 → (s.ring n).xfer = .issued → s.ringState n = ringRun →
    s.on (RNG_STAT_DRAINING n) = false → s.on (RNG_CTRL_PLACE n) = true → (s.ring n).queue = [r] →
    ∃ t : State, Gives (.recordWriteDone dt n) s t ∧
      t.pool = Memory.putBytes s.pool (s.entryAddr n (s.get (RNG_PROD_PROD n))) (markOverflow n r.data s) ∧
      t.get (RNG_PROD_PROD n) = (s.get (RNG_PROD_PROD n) + 1) % 2 ^ 32 ∧ (t.ring n).queue = [] ∧ (t.ring n).xfer = .idle) ∧
  (∀ (s : State) (dt n : Nat),
    ((s.ring n).unreported = 0 ∨ (s.tick dt).mono < (s.ring n).lastAdvance + 1600 → Gives (.writebackTimer dt n) s (s.tick dt)) ∧
    ((s.ring n).unreported ≠ 0 → (s.ring n).lastAdvance + 1600 ≤ (s.tick dt).mono → s.on (RNG_CTRL_WB_EN n) = true → s.dmaReady = true →
      s.on DMA_LINK_STAT_ATS_EN = false →
      ∃ t : State, Gives (.writebackTimer dt n) s t ∧
        t.sent = s.sent ++ [.hostWrite (s.get (RNG_WB_ADDR_ADDR n)) (leBytes 8 (writeBackWord n s))] ∧ (t.ring n).unreported = 0 ∧
        t.regs = s.regs ∧ SameMemories s t)) ∧
  (∀ (s : State) (dt n : Nat) (timeout : Bool), n < 16384 →
    (s.ringLive n = false ∨ n % 4 ≠ 0 →
      Gives (.completionError dt n timeout) s (if timeout then pulseLine 123 (s.tick dt) else s.tick dt)) ∧
    (s.ringState n = ringRun → n % 4 = 0 →
      ∃ t : State, Gives (.completionError dt n timeout) s t ∧
        (timeout = true → s.mode ≠ modeReset → s.on (faultActive 123) = false → s.on (faultRail 123) = false → ⟨123, false, false⟩ ∈ t.fcl.raised) ∧ t.ringState n = ringParked ∧ t.get (RNG_STAT_CAUSE n) = parkCompletion ∧
        t.get (RNG_PARK_INDEX_INDEX n) = s.get (RNG_CONS_CONS n) ∧
        t.get (RNG_PARKS_COUNT n) = min (2 ^ 32 - 1) (s.get (RNG_PARKS_COUNT n) + 1)))

/-- In DOZE a TRANSLATION_COMPLETION or PAGE_RESPONSE is kept. A completion for a page that was not asked for has no effect; one that grants what the copy
engine waits for is cached and ends the copy's park, and one that refuses it ends the copy with FAULT while PRI cannot be used. A page response with
a failure code halts PRI and is an event of fault source 124. INVALIDATE_REQUEST drops the entries of its pages and owes its completion, which INVALIDATE_COMPLETION sends once no issued
access uses them. PRI_CAPABILITY_RESET counts while the capability is disabled, and PRI_RESTART ends a halt after it. RETRY_AUX with nothing parked
has no effect, and retries a parked destination. -/
def Obligations.AnswersOfTheHost : Prop :=
  (∀ (s : State) (dt page n code : Nat) (r w : Bool), s.mode = modeDoze →
    (∃ t : State, Gives (.translationCompletion dt page n r w) s t ∧ t.dma.kept = s.dma.kept ++ [.translated page n r w] ∧ t.regs = s.regs) ∧
    (∃ t : State, Gives (.pageResponse dt page code) s t ∧ t.dma.kept = s.dma.kept ++ [.paged page code] ∧ t.regs = s.regs)) ∧
  (∀ (s : State) (dt page n code : Nat) (r w : Bool), s.mode ≠ modeDoze →
    (page ∉ s.dma.requested → Gives (.translationCompletion dt page n r w) s (s.tick dt)) ∧
    (page ∉ s.dma.asked → Gives (.pageResponse dt page code) s (s.tick dt)) ∧
    (s.dma.requested = [page] → s.dma.waiters = [⟨.copy, page, true⟩] →
      (∃ t : State, Gives (.translationCompletion dt page n r true) s t ∧ t.dma.requested = [] ∧ t.dma.waiters = [] ∧
        t.dma.copyPark = none ∧ (∃ e ∈ t.dma.cache, e.grants page true = true) ∧ t.regs = s.regs ∧ SameMemories s t) ∧
      (s.on DMA_XFER_STAT_BUSY = true → s.priUsable = false →
        ∃ t : State, Gives (.translationCompletion dt page n r false) s t ∧ t.get DMA_XFER_STAT_END = 3 ∧
          t.on DMA_XFER_STAT_BUSY = false ∧ t.dma.requested = [])) ∧
    (page ∈ s.dma.asked → 2 ≤ code →
      ∃ t : State, Gives (.pageResponse dt page code) s t ∧ t.on DMA_LINK_STAT_PRI_HALTED = true ∧ t.dma.toAsk = [] ∧
        (s.mode ≠ modeReset → s.on (faultActive 124) = false → s.on (faultRail 124) = false → ⟨124, false, false⟩ ∈ t.fcl.raised)) ∧
    (s.dma.asked = [page] → s.dma.toAsk = [] → s.parkedRings parkFault = [] → s.dma.sqPark = [] → s.dma.acqPark = [] →
      s.dma.copyPark = none →
      ∃ t : State, Gives (.pageResponse dt page 0) s t ∧ t.dma.asked = [] ∧ t.get DMA_PRI_OUT_OUT = 0 ∧
        (∀ e ∈ t.dma.cache, ¬ (e.page ≤ page ∧ page < e.page + e.pages)) ∧ SameRegs [DMA_PRI_OUT] s t ∧ SameMemories s t)) ∧
  (∀ (s : State) (dt tag page n : Nat),
    (∃ t : State, Gives (.invalidateRequest dt tag page n) s t ∧ t.dma.owed = s.dma.owed ++ [(tag, page, n)] ∧
      (∀ e, e ∈ t.dma.cache ↔ e ∈ s.dma.cache ∧ ¬ (e.page < page + n ∧ page < e.page + e.pages)) ∧ t.regs = s.regs ∧ SameMemories s t) ∧
    (s.dma.owed.find? (fun o => o.1 = tag) = none → Gives (.invalidateCompletion dt tag) s (s.tick dt)) ∧
    (s.dma.owed.find? (fun o => o.1 = tag) = some (tag, page, n) →
      (s.pagesInUse page n = true → Gives (.invalidateCompletion dt tag) s (s.tick dt)) ∧
      (s.pagesInUse page n = false →
        ∃ t : State, Gives (.invalidateCompletion dt tag) s t ∧ t.sent = s.sent ++ [.invalidateDone tag] ∧ (tag, page, n) ∉ t.dma.owed ∧
          t.regs = s.regs ∧ SameMemories s t))) ∧
  (∀ (s : State) (dt : Nat),
    (s.on DMA_LINK_STAT_PRI_CAP_EN = true → Gives (.priCapabilityReset dt) s (s.tick dt)) ∧
    (s.on DMA_LINK_STAT_PRI_CAP_EN = false →
      ∃ t : State, Gives (.priCapabilityReset dt) s t ∧ t.dma.priReset = true ∧ t.regs = s.regs ∧ SameMemories s t)) ∧
  (∀ (s : State) (dt : Nat) (p : Path), s.takes p DMA_PRI_RESTART = true →
    (s.on DMA_LINK_STAT_PRI_HALTED = true → s.dma.priReset = true →
      ∃ t : State, Gives (.priRestart dt p) s t ∧ t.on DMA_LINK_STAT_PRI_HALTED = false ∧
        SameRegs [DMA_LINK_STAT, GLB_GUARD_STAT] s t ∧ SameMemories s t) ∧
    (s.on DMA_LINK_STAT_PRI_HALTED = false ∨ s.dma.priReset = false → Gives (.priRestart dt p) s (s.request dt p))) ∧
  (∀ (s : State) (dt : Nat) (p : Path), s.takes p DMA_RETRY_AUX = true →
    (s.dma.acqPark = [] → s.dma.sqPark = [] → ∀ a q, Gives (.retryAux dt p a q) s (s.request dt p)) ∧
    (∀ (u : Nat) (x : AuxPark), s.dma.acqPark = [(u, some x)] → s.on DMA_LINK_STAT_ATS_EN = false →
      Gives (.retryAux dt p true false) s (grantDest u (s.request dt p))))

/-- COPY_START outside RESET and BOOT with no copy running stores SRC, sets BUSY and takes FIRST and COUNT; a COUNT of 0 ends COMPLETE at once.
COPY_ABORT makes a running copy stop after its page. COPY_END writes the current page to the host, and ends COMPLETE after the last page and ABORTED
where it is to stop; with no copy running it has no effect. LINK_UP at a width of 4, 8 or 16 shows the link; in RESET, or at another width, it has no effect.
MSIX_ENABLE stores the function's settings except in RESET. MSIX_UNMASK sends the messages that nothing masks any more, or lets them wait while the link is retrained. -/
def Obligations.CopiesAndLink : Prop :=
  (∀ (s : State) (dt : Nat) (src : Bool) (p : Path), s.takes p DMA_XFER_CTRL = true →
    (modeBoot < s.mode → s.on DMA_XFER_STAT_BUSY = false →
      ∃ t : State, Gives (.copyStart dt p src) s t ∧ t.on DMA_XFER_CTRL_SRC = src ∧
        (s.get DMA_XFER_SRC_COUNT ≠ 0 → t.on DMA_XFER_STAT_BUSY = true ∧ t.get DMA_XFER_STAT_END = 0 ∧ t.dma.copyNext = s.get DMA_XFER_SRC_FIRST ∧
          t.dma.copyEnd = s.get DMA_XFER_SRC_FIRST + s.get DMA_XFER_SRC_COUNT) ∧
        (s.get DMA_XFER_SRC_COUNT = 0 → t.on DMA_XFER_STAT_BUSY = false ∧ t.get DMA_XFER_STAT_END = 1) ∧
        SameRegs [DMA_XFER_CTRL, DMA_XFER_STAT, ICL_PEND 22, DMA_MSIX_PBA 0, GLB_GUARD_STAT] s t ∧ SameMemories s t) ∧
    (∃ t : State, Gives (.copyAbort dt p src) s t ∧ t.dma.copyStop = (s.dma.copyStop || s.on DMA_XFER_STAT_BUSY) ∧
      SameRegs [DMA_XFER_CTRL, GLB_GUARD_STAT] s t ∧ SameMemories s t)) ∧
  (∀ (s : State) (dt n : Nat),
    (s.on DMA_XFER_STAT_BUSY = false → Gives (.copyEnd dt n) s (s.tick dt)) ∧
    (s.on DMA_XFER_STAT_BUSY = true → s.dmaReady = true → s.dma.copyPark = none → s.on DMA_LINK_STAT_ATS_EN = false →
      s.on DMA_XFER_CTRL_SRC = true → s.dma.copyNext < 12288 →
      ∃ t : State, Gives (.copyEnd dt 1) s t ∧ .hostWrite s.copyAddr (Memory.bytes s.pool (s.dma.copyNext * 4096) 4096) ∈ t.sent ∧
        t.dma.copyNext = s.dma.copyNext + 1 ∧
        (s.dma.copyEnd ≤ s.dma.copyNext + 1 ∨ s.dma.copyStop = true → t.on DMA_XFER_STAT_BUSY = false ∧
          t.get DMA_XFER_STAT_END = (if s.dma.copyEnd ≤ s.dma.copyNext + 1 then 1 else 2)) ∧
        (s.dma.copyNext + 1 < s.dma.copyEnd → s.dma.copyStop = false → t.on DMA_XFER_STAT_BUSY = true ∧ t.regs = s.regs) ∧
        SameMemories s t)) ∧
  (∀ (s : State) (dt speed width : Nat),
    (s.mode = modeReset ∨ width ∉ [4, 8, 16] → Gives (.linkUp dt speed width) s (s.tick dt)) ∧
    (s.mode ≠ modeReset → width ∈ [4, 8, 16] →
      ∃ t : State, Gives (.linkUp dt speed width) s t ∧ t.on DMA_LINK_STAT_UP = true ∧ t.get DMA_LINK_STAT_WIDTH = width ∧
        t.get DMA_LINK_STAT_SPEED = speed % 16)) ∧
  (∀ (s : State) (dt alloc : Nat) (msix mask master ats pri : Bool),
    (s.mode = modeReset → Gives (.msixEnable dt msix mask master ats pri alloc) s (s.tick dt)) ∧
    (s.mode ≠ modeReset →
      ∃ t : State, Gives (.msixEnable dt msix mask master ats pri alloc) s t ∧ t.icl.msixOn = msix ∧ t.icl.funcMask = mask ∧
        t.icl.busMaster = master ∧ t.on DMA_LINK_STAT_ATS_EN = ats ∧ t.on DMA_LINK_STAT_PRI_CAP_EN = pri ∧ t.dma.priAlloc = alloc)) ∧
  (∀ (s : State) (dt k : Nat), k < 15 →
    (∃ t : State, Gives (.msixUnmask dt none) s t ∧ t.icl.funcMask = false ∧ SameRegs [DMA_MSIX_PBA 0] s t ∧ SameMemories s t) ∧
    (s.icl.funcMask = false → s.icl.msixOn = true → s.icl.busMaster = true → s.bitOf (DMA_MSIX_PBA_PBA 0) k = true →
      s.takes .host (DMA_MSIX_TABLE (4 * k + 3)) = true →
      ∃ t : State, Gives (.msixUnmask dt (some k)) s t ∧ t.sent = (if s.reactionOn 20 then s.sent else s.sent ++ [.msix k]) ∧
        t.icl.waiting = (if s.reactionOn 20 then s.icl.waiting ++ [k] else s.icl.waiting) ∧ t.bitOf (DMA_MSIX_PBA_PBA 0) k = false ∧
        SameRegs [DMA_MSIX_TABLE (4 * k + 3), DMA_MSIX_PBA 0, GLB_GUARD_STAT] s t ∧ SameMemories s t))

/-! ## Interrupts -/

/-- An event of an enabled edge source sets its pending bit and signals the targets to which its group becomes offered, or lets their messages wait while the link is retrained; one of another source has no
effect. A claim by a target returns the first group offered to it in rotation and holds it with its levels, or counts a spurious claim and returns 0x3FF.
ICL_DONE by the owner ends the claim; by another it sets DONE_BAD and is counted. A write to ICL_PEND clears the bits written 1. A write to ICL_ONLINE
releases the groups held by targets that go offline, and no other. ICL_MASK_WRITE stores the mask and the enable of a source, and disabling clears its
pending bit. ICL_SWSET is an event of the source it names. -/
def Obligations.InterruptController : Prop :=
  (∀ (s : State) (dt n : Nat), n < 512 →
    (edgeSource n = true → s.takesEvents n = true →
      ∃ t : State, Gives (.iclSourceEvent dt n) s t ∧ t.bitOf (ICL_PEND_PEND (n / 16)) (n % 16) = true ∧
        (∀ i, i < 16 → i ≠ n % 16 → t.bitOf (ICL_PEND_PEND (n / 16)) i = s.bitOf (ICL_PEND_PEND (n / 16)) i) ∧
        (∀ k, k < 15 → (t.offerSet (n / 16)).testBit k = true → (s.offerSet (n / 16)).testBit k = false → s.icl.msixOn = true →
          s.icl.busMaster = true → s.vectorMasked k = false → if s.reactionOn 20 then k ∈ t.icl.waiting else .msix k ∈ t.sent) ∧
        SameRegs [ICL_PEND (n / 16), DMA_MSIX_PBA 0] s t ∧ SameMemories s t) ∧
    (edgeSource n = false ∨ s.takesEvents n = false → Gives (.iclSourceEvent dt n) s (s.tick dt))) ∧
  (∀ (s : State) (dt k : Nat) (p : Path), k < 16 → s.takes p (ICL_CLAIM k) = true →
    let u := s.tick dt
    let next := ((List.range 32).map fun i => (Store.find (fun _ => 31) s.icl.pointer k + 1 + i) % 32).find? fun g =>
      u.online.testBit k && (u.offerSet g).testBit k
    (next = none →
      ∃ t : State, Gives (.iclClaim dt p k) s t ∧ t.sent = s.sent ++ [.readData p (ICL_CLAIM k) 0x3FF] ∧
        t.get ICL_SPURIOUS_COUNT = min (2 ^ 32 - 1) (s.get ICL_SPURIOUS_COUNT + 1) ∧ SameRegs [ICL_SPURIOUS] s t ∧ SameMemories s t) ∧
    (∀ g : Nat, next = some g →
      ∃ t : State, Gives (.iclClaim dt p k) s t ∧ t.sent = s.sent ++ [.readData p (ICL_CLAIM k) g] ∧
        t.heldGroup g = some ⟨k, u.liveLevels g⟩ ∧ Store.find (fun _ => 31) t.icl.pointer k = g ∧ t.regs = s.regs ∧ SameMemories s t)) ∧
  (∀ (s : State) (dt k g : Nat) (p : Path), k < 16 → g < 32 → s.takes p (ICL_DONE k) = true →
    (∀ h : Held, s.heldGroup g = some h → h.owner = k →
      ∃ t : State, Gives (.iclDone dt p k g) s t ∧ t.heldGroup g = none ∧ SameRegs [DMA_MSIX_PBA 0, GLB_GUARD_STAT] s t ∧ SameMemories s t) ∧
    ((∀ h : Held, s.heldGroup g = some h → h.owner ≠ k) →
      ∃ t : State, Gives (.iclDone dt p k g) s t ∧ t.on ICL_STAT_DONE_BAD = true ∧ t.icl = s.icl ∧
        t.get ICL_DONE_BAD_COUNT = min (2 ^ 32 - 1) (s.get ICL_DONE_BAD_COUNT + 1) ∧
        SameRegs [ICL_STAT, ICL_DONE_BAD, GLB_GUARD_STAT] s t ∧ SameMemories s t)) ∧
  (∀ (s : State) (dt g bits : Nat) (p : Path), g < 32 → s.takes p (ICL_PEND g) = true →
    ∃ t : State, Gives (.iclPendClear dt p g bits) s t ∧
      (∀ i, i < 16 → t.bitOf (ICL_PEND_PEND g) i = (s.bitOf (ICL_PEND_PEND g) i && !bits.testBit i)) ∧
      SameRegs [ICL_PEND g, DMA_MSIX_PBA 0, GLB_GUARD_STAT] s t ∧ SameMemories s t) ∧
  (∀ (s : State) (dt d : Nat) (p : Path), s.takes p ICL_ONLINE = true → s.mode ≠ modeDoze →
    ∃ t : State, Gives (.iclOnlineWrite dt p d) s t ∧ t.get ICL_ONLINE_HOST = d % 2 ^ 15 ∧ t.on ICL_ONLINE_APEX = d.testBit 15 ∧
      (∀ g h, g < 32 → s.heldGroup g = some h → h.owner < 16 →
        (d.testBit h.owner = true → t.heldGroup g = some h) ∧
        (d.testBit h.owner = false → s.online.testBit h.owner = true → t.heldGroup g = none)) ∧
      SameRegs [ICL_ONLINE, DMA_MSIX_PBA 0, GLB_GUARD_STAT] s t ∧ SameMemories s t) ∧
  (∀ (s : State) (dt n d : Nat) (p : Path), n < 512 →
    (s.takes p (ICL_SRC_CFG n) = true →
      ∃ t : State, Gives (.iclMaskWrite dt p n d) s t ∧ t.get (ICL_SRC_CFG_MASK n) = d % 2 ^ 16 ∧ t.on (ICL_SRC_CFG_ENABLE n) = d.testBit 16 ∧
        (d.testBit 16 = false → t.bitOf (ICL_PEND_PEND (n / 16)) (n % 16) = false) ∧
        SameRegs [ICL_SRC_CFG n, ICL_PEND (n / 16), DMA_MSIX_PBA 0, GLB_GUARD_STAT] s t ∧ SameMemories s t) ∧
    (s.takes p ICL_SWSET = true → Gives (.iclSwset dt p n) s (pend n (s.request dt p))))

/-! ## The mailbox -/

/-- Outside RESET and BOOT, with nothing left to follow of itself, no command waiting and the slot free, posting a command stores it in its slot and Apex
serves it (that it is served before the next command of the block is the model's choice, log 3): what the posting command answers is what serving it
leaves, with what follows of that. So for every opcode of the table and for one that it does not list. -/
def Obligations.MailboxCommandsAreServed : Prop :=
  ∀ (s : State) (dt slot seq : Nat) (g : Bool) (args : List Nat), s.calm = true → s.apex.waiting = [] → s.apex.reboot = false →
    modeBoot < s.mode → s.on (APX_DOORBELL_GO (if slot = 0 then 0 else 1)) = false →
    let c (op : Nat) : Cmd := posted slot g op seq args
    let d (op : Nat) (args : List Nat) : Cmd := posted slot g op seq args
    Served (.status dt slot g seq args) dt (c opStatus) s ∧ Served (.goIdle dt slot g seq args) dt (c opGoIdle) s ∧
    Served (.goHost dt slot g seq args) dt (c opGoHost) s ∧ Served (.goAuto dt slot g seq args) dt (c opGoAuto) s ∧
    Served (.goDoze dt slot g seq args) dt (c opGoDoze) s ∧ Served (.enterSafe dt slot g seq args) dt (c opEnterSafe) s ∧
    Served (.clearSafe dt slot g seq args) dt (c opClearSafe) s ∧ Served (.clearShutdown dt slot g seq args) dt (c opClearShutdown) s ∧
    Served (.selectProfile dt slot g seq args) dt (c opSelectProfile) s ∧ Served (.reboot dt slot g seq args) dt (c opReboot) s ∧
    Served (.calibrate dt slot g seq args) dt (c opCalibrate) s ∧ Served (.selftest dt slot g seq args) dt (c opSelftest) s ∧
    Served (.logCompact dt slot g seq args) dt (c opLogCompact) s ∧ Served (.trimRefresh dt slot g seq args) dt (c opTrimRefresh) s ∧
    Served (.attest dt slot g seq args) dt (c opAttest) s ∧
    (∀ op : Nat, Served (.unassignedOpcode dt slot g op seq args) dt (c op) s) ∧
    (∀ (b : Bool) (off len : Nat), Served (.fwStageBegin dt slot g seq b len) dt (d opFwStage [256 * bit01 b, len]) s ∧
      Served (.fwStageChunk dt slot g seq b off len) dt (d opFwStage [256 * bit01 b + 1, off, len]) s ∧
      Served (.fwStageCommit dt slot g seq b) dt (d opFwStage [256 * bit01 b + 2]) s) ∧
    (∀ id every : Nat, Served (.sealOpen dt slot g seq id every) dt (d opSealing [0, id, every]) s) ∧
    Served (.seal dt slot g seq) dt (d opSealing [1]) s ∧ Served (.sealClose dt slot g seq) dt (d opSealing [2]) s

/-- A command is refused by the first of the tests of R80 that fails: an opcode that is not listed, a mode in which it is illegal (which is counted), a
denial, a conflict, and bad arguments. An answer shows STATUS, SEQ and FINAL and frees the slot. GO_HOST, GO_AUTO, GO_DOZE, ENTER_SAFE and CLEAR_SAFE enter
their modes, but that ENTER_SAFE lets a shutdown sequence go on; one that is legal with no effect is answered OK. CALIBRATE, SELFTEST, TRIM_REFRESH and LOG_COMPACT are answered QUEUED and queued. REBOOT resets
the part, or waits for a program of the NVM. DRAIN_COMPLETE with no operation in flight enters IDLE. FLOW_RETURN in AUTO begins the drain, and so does
FLOW_STOP_TIMEOUT once its time has passed. -/
def Obligations.ServingACommand : Prop :=
  (∀ (s : State) (c : Cmd),
    s.refusal c = (if opcodeRow c.opcode = none then some stBadArg else if s.legality c.opcode = 0 then some stIllegal
      else if s.denied c = true then some stDenied else if s.conflicts c = true then some stBusy
      else if s.badArg c = true then some stBadArg else none) ∧
    (∀ st, s.refusal c = some st →
      serve c s = answer c st 0 0 (if st = stIllegal then s.countSat APX_CMD_REJECT_COUNT_COUNT 1 else s))) ∧
  (∀ (s : State) (c : Cmd) (st d0 d1 : Nat), c.slot < 2 → st < 256 →
    let t := answer c st d0 d1 s
    t.get (APX_RESP_STATUS c.slot) = st ∧ t.get (APX_RESP_SEQ c.slot) = c.seq % 256 ∧
    t.on (APX_RESP_FINAL c.slot) = decide (st ≠ stQueued) ∧ t.get (APX_RESP_DATA_DATA c.slot 0) = d0 % 2 ^ 32 ∧
    t.on (APX_DOORBELL_GO c.slot) = false ∧ t.mode = s.mode) ∧
  (∀ (s : State) (c : Cmd), s.refusal c = none → c.slot < 2 →
    (s.legality c.opcode = 2 → serve c s = answer c stOk 0 0 s) ∧
    (s.legality c.opcode = 1 →
      (c.opcode = opStatus → serve c s = answer c stOk (s.reg GLB_MODE).toNat (s.reg APX_SAFE_CAUSE).toNat s) ∧
      (c.opcode = opGoHost → (serve c s).mode = modeHost ∧ (serve c s).get (APX_RESP_STATUS c.slot) = stOk) ∧
      (c.opcode = opGoAuto → (serve c s).mode = modeAuto ∧ (serve c s).on APX_FLOW_CTRL_RUNNING = true) ∧
      (c.opcode = opGoDoze → (serve c s).mode = modeDoze) ∧
      (c.opcode = opEnterSafe → (serve c s).on APX_SAFE_CAUSE_COMMAND = true ∧
        (s.therm.stage = 0 → (serve c s).mode = modeSafe) ∧ (s.therm.stage ≠ 0 → (serve c s).mode = s.mode)) ∧
      (c.opcode = opClearSafe → (serve c s).mode = modeIdle) ∧
      (c.opcode = opClearShutdown → s.on THM_LEVEL_SHUTDOWN = false → serve c s = answer c stOk 2 0 s) ∧
      (c.opcode = opReboot → (s.nvmProgramming = true → (serve c s).apex.reboot = true ∧ (serve c s).regs = s.regs) ∧
        (s.nvmProgramming = false → serve c s = reboot s)) ∧
      (c.opcode = opCalibrate → serve c s = queueCal 1 c (answerQueued c s)) ∧
      (c.opcode = opSelftest → serve c s = queueCal 2 c (answerQueued c s)) ∧
      (c.opcode = opTrimRefresh → serve c s = queueCal 3 c (answerQueued c s)) ∧
      (c.opcode = opLogCompact → serve c s = queueNvm .compact (some c) (answerQueued c s)))) ∧
  (∀ (s : State) (dt : Nat),
    (s.arc.drain ≠ 1 ∨ s.get ARC_STAT_INFLIGHT ≠ 0 ∨ s.running = false → Gives (.drainComplete dt) s (s.tick dt)) ∧
    (s.arc.drain = 1 → s.get ARC_STAT_INFLIGHT = 0 → s.running = true →
      ∃ t : State, Gives (.drainComplete dt) s t ∧ t.mode = modeIdle ∧ t.arc.drain = 0) ∧
    (s.on APX_FLOW_CTRL_RUNNING = false → Gives (.flowReturn dt) s (s.tick dt)) ∧
    (s.on APX_FLOW_CTRL_RUNNING = true → s.mode = modeAuto → s.arc.drain = 0 →
      ∃ t : State, Gives (.flowReturn dt) s t ∧ t.arc.drain = 1 ∧ t.on APX_FLOW_CTRL_RUNNING = false) ∧
    (s.apex.flowBy = 0 ∨ (s.tick dt).elapsed < s.apex.flowBy → Gives (.flowStopTimeout dt) s (s.tick dt)) ∧
    (s.apex.flowBy ≠ 0 → s.apex.flowBy ≤ (s.tick dt).elapsed → s.on APX_FLOW_CTRL_RUNNING = true → s.mode = modeAuto → s.arc.drain = 0 →
      ∃ t : State, Gives (.flowStopTimeout dt) s t ∧ t.arc.drain = 1 ∧ t.on APX_FLOW_CTRL_RUNNING = false))

/-! ## Faults -/

/-- FAULT_EVENT of a source that is present, outside RESET and with no line or rail of it asserted, raises an event and shows the line ACTIVE, except for the
serial port's own events, whose lines deassert at once; otherwise it has no effect, but for a line that a rail fault holds, whose level it notes. RAIL_FAULT
raises a rail event once; RAIL_WIRES_DIFFER ends it, and the line takes the level that was noted. A line deasserts unless the rail has failed. A fault that is taken outside a shadow enters HISTORY; an ERROR advances ERR_SEQ and the grace timer runs, and a FATAL one escalates: the
part enters SAFE. -/
def Obligations.FaultsAreTaken : Prop :=
  (∀ (s : State) (dt n : Nat), n < 128 →
    (s.mode = modeReset ∨ s.faultPresent n = false ∨ (s.on (faultActive n) = true ∧ s.on (faultRail n) = false) → n ∉ [101, 102, 103] →
      Gives (.faultEvent dt n) s (s.tick dt)) ∧
    (s.mode ≠ modeReset → s.faultPresent n = true → s.on (faultRail n) = true → n ∉ [101, 102, 103] →
      Gives (.faultEvent dt n) s (holdLine n true (s.tick dt))) ∧
    (s.mode ≠ modeReset → s.faultPresent n = true → s.on (faultActive n) = false → s.on (faultRail n) = false →
      ∃ t : State, Gives (.faultEvent dt n) s t ∧ t.fcl.raised = s.fcl.raised ++ [⟨n, false, false⟩] ∧
        t.on (faultActive n) = decide (n ∉ [101, 102, 103]) ∧ SameRegs [(faultActive n).addr] s t ∧ SameMemories s t) ∧
    (s.on (faultRail n) = true → Gives (.faultLineDeassert dt n) s (holdLine n false (s.tick dt))) ∧
    (s.on (faultRail n) = false →
      ∃ t : State, Gives (.faultLineDeassert dt n) s t ∧ t.on (faultActive n) = false ∧ SameRegs [(faultActive n).addr] s t ∧ SameMemories s t) ∧
    (s.mode = modeReset ∨ s.faultPresent n = false ∨ s.on (faultRail n) = true → Gives (.railFault dt n) s (s.tick dt)) ∧
    (s.mode ≠ modeReset → s.faultPresent n = true → s.on (faultRail n) = false →
      ∃ t : State, Gives (.railFault dt n) s t ∧ t.fcl.raised = s.fcl.raised ++ [⟨n, true, false⟩] ∧ t.on (faultRail n) = true ∧
        t.lineLevel n = s.on (faultActive n) ∧ SameRegs [(faultRail n).addr] s t ∧ SameMemories s t) ∧
    (s.on (faultRail n) = false → Gives (.railWiresDiffer dt n) s (s.tick dt)) ∧
    (s.on (faultRail n) = true →
      ∃ t : State, Gives (.railWiresDiffer dt n) s t ∧ t.on (faultRail n) = false ∧ SameRegs [(faultRail n).addr, (faultActive n).addr] s t ∧
        SameMemories s t ∧ (s.mode ≠ modeReset → s.faultPresent n = true → t.on (faultActive n) = s.lineLevel n ∧
          (s.lineLevel n = true → s.on (faultActive n) = false → t.fcl.raised = s.fcl.raised ++ [⟨n, false, false⟩])))) ∧
  (∀ (s : State) (e : FaultEvent), e.source < 127 → e.injected = false → e.rail = false → s.shadowed e.source = false →
    s.on (FCL_SRC_CFG_METHOD e.source) = false →
    (s.on FCL_STAT_CAPMODE = false → s.severityOf e.source ≤ sevWarn →
      (takeFault e s).get FCL_HIST_COUNT_COUNT = (s.get FCL_HIST_COUNT_COUNT + 1) % 2 ^ 32 ∧ (takeFault e s).mode = s.mode) ∧
    (s.severityOf e.source = sevError → s.reactionOf e.source = 0 →
      (takeFault e s).get FCL_STAT_ERR_SEQ = (s.get FCL_STAT_ERR_SEQ + 1) % 2 ^ 16 ∧ (takeFault e s).mode = s.mode ∧
      (takeFault e s).on FCL_STAT_GRACE_RUN = true) ∧
    (s.severityOf e.source = sevFatal → s.on FCL_ESC_LATCHED = false → modeBoot < s.mode →
      (takeFault e s).mode = modeSafe ∧ (takeFault e s).on FCL_ESC_LATCHED = true ∧ (takeFault e s).get FCL_ESC_KIND = 2 ∧
      (takeFault e s).get FCL_ESC_SOURCE = e.source ∧ (takeFault e s).on APX_SAFE_CAUSE_FAULT = true))

/-- A reaction completes and its shadow lasts 16,000 ticks more, after which SHADOW_END ends it; training and the retrain timer act on a PE-die link that
a reaction retrains. GRACE_EXPIRY escalates; FCL_ACK with the sequence number stops the timer, and with another is rejected. A facet is released where
nothing holds it. ESC_CLEAR is refused outside SAFE, and otherwise clears the latch and ALIVE's freeze. FAULT_INJECT with the guard open raises an injected
event. ALIVE toggles at its instants, and a new frequency starts a new sequence. FAULT_CONFIG_WRITE with the guard open stores the configuration and discards the
held stamps. HIST_READ returns the entry and marks it read. Each has no effect where its condition does not hold. -/
def Obligations.ReactionsAndSoftware : Prop :=
  (∀ (s : State) (dt k : Nat), k < 21 →
    (s.reactionOn k = false ∨ s.training k = true → k ≠ 18 → k ≠ 20 →
      Gives (.reactionComplete dt k) s (s.tick dt)) ∧
    (s.reactionOn k = true → s.training k = false →
      ∃ t : State, Gives (.reactionComplete dt k) s t ∧ t.reactionOn k = false ∧
        Store.find (fun _ => 0) t.fcl.shadowEnd k = (s.tick dt).elapsed + ticksOf 16000 ∧
        (k ≠ 18 → k ≠ 20 → SameRegs [ICL_PEND 27, DMA_MSIX_PBA 0] s t) ∧ SameMemories s t) ∧
    (let e := Store.find (fun _ => 0) s.fcl.shadowEnd k;
      (e = 0 ∨ (s.tick dt).elapsed < e ∨ s.reactionOn k = true → Gives (.shadowEnd dt k) s (s.tick dt)) ∧
      (e ≠ 0 → e ≤ (s.tick dt).elapsed → s.reactionOn k = false →
        ∃ t : State, Gives (.shadowEnd dt k) s t ∧ t.bitOf FCL_SHADOW_SHADOW k = false ∧ SameRegs [FCL_SHADOW] s t ∧ SameMemories s t))) ∧
  (∀ (s : State) (dt f : Nat) (ok : Bool), f < 16 →
    (s.training f = false → Gives (.peLinkTrainingEnd dt f ok) s (s.tick dt)) ∧
    (s.training f = true → Store.find (fun _ => 0) s.fcl.trainings f < 3 →
      (s.on (faultRail (4 * f + 1)) = false →
        ∃ t : State, Gives (.peLinkTrainingEnd dt f true) s t ∧ t.reactionOn f = false ∧ t.on (faultActive (4 * f + 1)) = false) ∧
      (Store.find (fun _ => 0) s.fcl.trainings f + 1 < 3 →
        ∃ t : State, Gives (.peLinkTrainingEnd dt f false) s t ∧ t.reactionOn f = true ∧
          Store.find (fun _ => 0) t.fcl.trainings f = Store.find (fun _ => 0) s.fcl.trainings f + 1 ∧ t.regs = s.regs) ∧
      (Store.find (fun _ => 0) s.fcl.trainings f = 2 →
        ∃ t : State, Gives (.peLinkTrainingEnd dt f false) s t ∧ t.reactionOn f = false ∧ Store.find (fun _ => 0) t.fcl.trainings f = 3 ∧
          Store.find (fun _ => false) t.fcl.selfFree f = false ∧ t.on (faultActive (4 * f + 1)) = s.on (faultActive (4 * f + 1)))) ∧
    (s.training f = true → 3 ≤ Store.find (fun _ => 0) s.fcl.trainings f →
      ∃ t : State, Gives (.peLinkTrainingEnd dt f false) s t ∧ t.reactionOn f = false ∧ t.regs = s.regs) ∧
    (s.reactionOn f = true ∨ Store.find (fun _ => 0) s.fcl.trainings f < 3 ∨ s.lineLevel (4 * f + 1) = false →
      Gives (.peLinkRetrainTimer dt f) s (s.tick dt)) ∧
    (s.reactionOn f = false → 3 ≤ Store.find (fun _ => 0) s.fcl.trainings f → s.lineLevel (4 * f + 1) = true →
      ∃ t : State, Gives (.peLinkRetrainTimer dt f) s t ∧ t.reactions f = 8 ∧ t.bitOf FCL_SHADOW_SHADOW f = true ∧
        SameRegs [FCL_SHADOW] s t ∧ SameMemories s t)) ∧
  (∀ (s : State) (dt : Nat),
    (s.on FCL_STAT_GRACE_RUN = false ∨ (s.tick dt).elapsed < s.fcl.graceEnd → Gives (.graceExpiry dt) s (s.tick dt)) ∧
    (s.on FCL_STAT_GRACE_RUN = true → s.fcl.graceEnd ≤ (s.tick dt).elapsed →
      ∃ t : State, Gives (.graceExpiry dt) s t ∧ t.on FCL_STAT_GRACE_RUN = false ∧ t.on FCL_ESC_LATCHED = true) ∧
    (let due := s.fcl.aliveFrom + ticksOf ((s.fcl.aliveCount + 1) * 800000000 / s.aliveFreq);
      (s.fcl.aliveRuns = false ∨ s.on FCL_ALIVE_FROZEN = true ∨ (s.tick dt).elapsed < due → Gives (.aliveToggle dt) s (s.tick dt)) ∧
      (s.fcl.aliveRuns = true → s.on FCL_ALIVE_FROZEN = false → due ≤ (s.tick dt).elapsed →
        ∃ t : State, Gives (.aliveToggle dt) s t ∧ t.on FCL_ALIVE_LEVEL = (!s.on FCL_ALIVE_LEVEL) ∧ SameRegs [FCL_ALIVE] s t ∧ SameMemories s t))) ∧
  (∀ (s : State) (dt x : Nat) (p : Path), s.takes p FCL_ACK = true → s.on FCL_STAT_GRACE_RUN = false ∨ (s.tick dt).elapsed < s.fcl.graceEnd →
    (x % 2 ^ 16 = s.get FCL_STAT_ERR_SEQ →
      ∃ t : State, Gives (.fclAck dt p x) s t ∧ t.on FCL_STAT_GRACE_RUN = false ∧
        SameRegs [FCL_STAT, DMA_MSIX_PBA 0, GLB_GUARD_STAT] s t ∧ SameMemories s t) ∧
    (x % 2 ^ 16 ≠ s.get FCL_STAT_ERR_SEQ →
      ∃ t : State, Gives (.fclAck dt p x) s t ∧ t.on FCL_STAT_ACK_REJ = true ∧ t.on FCL_STAT_GRACE_RUN = s.on FCL_STAT_GRACE_RUN ∧
        SameRegs [FCL_STAT, GLB_GUARD_STAT] s t ∧ SameMemories s t)) ∧
  (∀ (s : State) (dt f : Nat) (p : Path), f < 16 → s.takes p FCL_FPARK = true →
    (s.facetParked f = true → s.releasable f = true →
      ∃ t : State, Gives (.facetRelease dt p (2 ^ f)) s t ∧ t.facetParked f = false ∧
        SameRegs [FCL_FPARK, DMA_MSIX_PBA 0, GLB_GUARD_STAT] s t ∧ SameMemories s t) ∧
    (s.facetParked f = false ∨ s.releasable f = false →
      Gives (.facetRelease dt p (2 ^ f)) s (s.request dt p))) ∧
  (∀ (s : State) (dt : Nat) (p : Path), s.takes p FCL_ESC = true →
    (s.mode ≠ modeSafe →
      ∃ t : State, Gives (.escClear dt p) s t ∧ t.on FCL_ESC_REFUSED = true ∧ t.on FCL_ESC_LATCHED = s.on FCL_ESC_LATCHED ∧
        SameRegs [FCL_ESC, GLB_GUARD_STAT] s t ∧ SameMemories s t) ∧
    (s.mode = modeSafe → (∀ i, i < 4 → s.get (FCL_RAIL_RAIL i) = 0) →
      (∀ n, n < 127 → s.on (faultActive n) = true → s.severityOf n < sevError) →
      ∃ t : State, Gives (.escClear dt p) s t ∧ t.on FCL_ESC_LATCHED = false ∧ t.on FCL_ALIVE_FROZEN = false ∧
        t.on FCL_STAT_GRACE_RUN = false ∧ SameRegs [FCL_ESC, FCL_STAT, FCL_ALIVE, DMA_MSIX_PBA 0, GLB_GUARD_STAT] s t ∧ SameMemories s t)) ∧
  (∀ (s : State) (dt n d : Nat) (rail : Bool) (p : Path),
    (s.takes p FCL_INJECT = true → s.guardOpen p = true → s.mode ≠ modeReset → s.faultPresent (n % 128) = true →
      ∃ t : State, Gives (.faultInject dt p n rail) s t ∧ t.fcl.raised = s.fcl.raised ++ [⟨n % 128, rail, true⟩] ∧
        SameRegs [FCL_INJECT, GLB_GUARD_STAT] s t ∧ SameMemories s t) ∧
    (s.takes p FCL_INJECT = true → s.guardOpen p = false → ∃ t : State, Gives (.faultInject dt p n rail) s t ∧ t.fcl.raised = s.fcl.raised) ∧
    (s.takes p FCL_ALIVE = true →
      ∃ t : State, Gives (.aliveFreqWrite dt p d) s t ∧ t.get FCL_ALIVE_FREQ = d % 2 ^ 14 ∧
        (d % 2 ^ 14 ≠ s.get FCL_ALIVE_FREQ → s.fcl.aliveRuns = true → t.fcl.aliveCount = 0 ∧ t.fcl.aliveFrom = (s.tick dt).elapsed) ∧
        t.on FCL_ALIVE_LEVEL = s.on FCL_ALIVE_LEVEL ∧ SameRegs [FCL_ALIVE, GLB_GUARD_STAT] s t ∧ SameMemories s t) ∧
    (n < 127 → s.takes p (FCL_SRC_CFG n) = true → s.guardOpen p = true →
      ∃ t : State, Gives (.faultConfigWrite dt p n false d) s t ∧ t.get (FCL_SRC_CFG_SEV n) = d % 4 ∧
        t.get (FCL_SRC_CFG_REACT n) = bitsAt d 4 2 ∧ t.get (FCL_SRC_CFG_N_M1 n) = bitsAt d 8 4 ∧
        Store.find (fun _ => []) t.fcl.stamps n = [] ∧ SameRegs [FCL_SRC_CFG n, GLB_GUARD_STAT] s t ∧ SameMemories s t) ∧
    (n < 127 → s.takes p (FCL_SRC_W n) = true → s.guardOpen p = true →
      ∃ t : State, Gives (.faultConfigWrite dt p n true d) s t ∧ t.get (FCL_SRC_W_W n) = d % 2 ^ 32 ∧
        Store.find (fun _ => []) t.fcl.stamps n = [] ∧ SameRegs [FCL_SRC_W n, GLB_GUARD_STAT] s t ∧ SameMemories s t)) ∧
  (∀ (s : State) (dt i : Nat) (p : Path), i < 16 → s.takes p (FCL_HIST i) = true →
    ∃ (t : State) (v : Nat), Gives (.histRead dt p i) s t ∧ t.sent = s.sent ++ [.readData p (FCL_HIST i) v] ∧
      t.fcl.readMask.testBit i = true ∧ t.regs = s.regs ∧ SameMemories s t)

/-! ## Temperature -/

/-- THERMAL_SAMPLE shows its stamp and the diode's state, and the code of a diode that is OK. The warning level sets at SET and clears at CLR, and a
code of 100 °C latches the shutdown. SHUTDOWN_DRAIN_END, once the drain time has passed or nothing is in flight, ends the drain; SHUTDOWN_COMPLETE ends the
sequence in SAFE. THERMAL_UNFREEZE is rejected while the sensor fault lasts. A level configuration with CLR < SET ≤ 96 °C is stored, another one is discarded
with CFG_BAD, and with the guard closed it is captured. -/
def Obligations.TemperatureAndShutdown : Prop :=
  (∀ (s : State) (dt d : Nat) (code : Int),
    ∃ t : State, Gives (.thermalSample dt code d) s t ∧ t.get THM_TEMP_AT_AT = (s.tick dt).now % 2 ^ 64 ∧ t.get THM_TEMP_DIODE = d % 3 ∧
      t.on THM_STAT_OPEN = decide (d % 3 = 1) ∧ t.on THM_STAT_SHORT = decide (d % 3 = 2) ∧
      t.on THM_TEMP_VALID = true ∧ (d % 3 = 0 → t.get THM_TEMP_CODE = unsigned 12 code) ∧
      (d % 3 ≠ 0 → t.get THM_TEMP_CODE = s.get THM_TEMP_CODE)) ∧
  (∀ (s : State) (code : Int),
    (s.on THM_LEVEL_WARN = false → s.code THM_WARN_CFG_SET ≤ code → (evaluateLevels code s).on THM_LEVEL_WARN = true) ∧
    (s.on THM_LEVEL_WARN = true → code ≤ s.code THM_WARN_CFG_CLR → (evaluateLevels code s).on THM_LEVEL_WARN = false) ∧
    (1000 ≤ code → (evaluateLevels code s).on THM_LEVEL_SHUTDOWN = true)) ∧
  (∀ (s : State) (dt : Nat),
    (s.therm.stage ≠ 1 ∨ (s.get ARC_STAT_INFLIGHT ≠ 0 ∧ (s.tick dt).elapsed < s.therm.startEl + s.drainTime) →
      Gives (.shutdownDrainEnd dt) s (s.tick dt)) ∧
    (s.therm.stage = 1 → s.get ARC_STAT_INFLIGHT = 0 ∨ s.therm.startEl + s.drainTime ≤ (s.tick dt).elapsed →
      ∃ t : State, Gives (.shutdownDrainEnd dt) s t ∧ t.therm.stage = 2 ∧ t.therm.drainEl = (s.tick dt).elapsed) ∧
    (s.therm.stage ≠ 2 ∨ (s.nvmProgramming = true ∧ (s.tick dt).elapsed < s.therm.drainEl + ticksOf 8000000) →
      Gives (.shutdownComplete dt) s (s.tick dt)) ∧
    (s.therm.stage = 2 → s.nvmProgramming = false ∨ s.therm.drainEl + ticksOf 8000000 ≤ (s.tick dt).elapsed →
      ∃ t : State, Gives (.shutdownComplete dt) s t ∧ t.therm.stage = 0 ∧ t.mode = modeSafe)) ∧
  (∀ (s : State) (dt : Nat) (p : Path), s.takes p THM_CTRL = true →
    (s.lineLevel 116 = true → ∃ t : State, Gives (.thermalUnfreeze dt p) s t ∧ t.on THM_STAT_UNFREEZE_REJ = true ∧
      SameRegs [THM_STAT, GLB_GUARD_STAT] s t ∧ SameMemories s t) ∧
    (s.lineLevel 116 = false → s.therm.quietAt + ticksOf 1600000 ≤ (s.tick dt).elapsed →
      ∃ t : State, Gives (.thermalUnfreeze dt p) s t ∧ t.on THM_LEVEL_SENS_FROZEN = false ∧
        SameRegs [THM_LEVEL, GLB_GUARD_STAT] s t ∧ SameMemories s t)) ∧
  (∀ (s : State) (dt d : Nat) (throttle : Bool) (p : Path),
    let a := if throttle then THM_THR_CFG else THM_WARN_CFG
    s.takes p a = true →
    (s.guardOpen p = false → Gives (.thmConfigWrite dt p throttle d) s (capture p causeGuard true 0 a 0xF (s.request dt p))) ∧
    (s.guardOpen p = true → signed 12 (d / 2 ^ 16) < signed 12 d → signed 12 d ≤ 960 →
      ∃ t : State, Gives (.thmConfigWrite dt p throttle d) s t ∧ t.get ⟨a, 0, 12⟩ = d % 2 ^ 12 ∧ t.get ⟨a, 16, 12⟩ = bitsAt d 16 12 ∧
        SameRegs [a, GLB_GUARD_STAT] s t ∧ SameMemories s t) ∧
    (s.guardOpen p = true → signed 12 d ≤ signed 12 (d / 2 ^ 16) ∨ 960 < signed 12 d →
      ∃ t : State, Gives (.thmConfigWrite dt p throttle d) s t ∧ t.on THM_STAT_CFG_BAD = true ∧
        SameRegs [THM_STAT, ICL_PEND 26, DMA_MSIX_PBA 0, GLB_GUARD_STAT] s t ∧ SameMemories s t))

/-! ## Calibration and maintenance -/

/-- A run with the DC, PMU or PMI kind enters its reference check when a facet is opened, before the PMI inputs, and after the last facet or
the PMI inputs; a check that passes lets the run go on, to the pin check, to the PMI inputs, or to the commit. A check that fails ends the run with
RESULT 3, REF_REJECT: nothing of it is staged any more, no trim register changes, no commit waits, the boot NVM is unchanged, and so is CAL_COUNT. A
run of the TIMING kind alone, or of the self-test, never stands at a reference check. -/
def Obligations.CalibrationChecksTheReference : Prop :=
  (∀ (s : State) (r : CalRun), s.maint.run = some r → r.checksRef = true →
    (∀ f fs n, r.facets = f :: fs → s.facetParked f = false →
      ∃ q, (openFacet (n + 1) s).maint.run = some q ∧ q.step = 0) ∧
    (∃ q, (afterFacets s).maint.run = some q ∧ q.step = if r.pmi then 6 else 8) ∧
    (∀ dt m data,
      ((s.tick dt).refGood m = true →
        (r.step = 0 → ∃ t q, Gives (.calibrationStepEnd dt m data) s t ∧ t.maint.run = some q ∧ q.step = 1 ∧ t.get CAL_REF_MEAS_M = m % 2 ^ 32) ∧
        (r.step = 6 → ∃ t q, Gives (.calibrationStepEnd dt m data) s t ∧ t.maint.run = some q ∧ q.step = 7) ∧
        (r.step = 8 → ∃ t q, Gives (.calibrationStepEnd dt m data) s t ∧ t.maint.run = some q ∧ q.step = 9)) ∧
      (r.step = 7 → ∃ t q, Gives (.calibrationStepEnd dt m data) s t ∧ t.maint.run = some q ∧ q.step = 8) ∧
      ((s.tick dt).refGood m = false → r.step ∈ [0, 6, 8] →
        ∃ t : State, Gives (.calibrationStepEnd dt m data) s t ∧ t.maint.run = none ∧ t.get CAL_STAT_RESULT = 3 ∧
          (∀ a, isTrim a = true → t.reg a = s.reg a) ∧ (∀ j ∈ t.maint.nvmq, j.work ≠ .calCommit) ∧ t.flash = s.flash ∧
          t.get CAL_COUNT_COUNT = s.get CAL_COUNT_COUNT))) ∧
  (∀ (s : State) (r : CalRun) (n : Nat), s.maint.run = some r → r.checksRef = false → r.step ∉ [0, 6, 7, 8] →
    (∀ m data q, (calStepEnd m data s).maint.run = some q → q.checksRef = false ∧ q.step ∉ [0, 6, 7, 8]) ∧
    (∀ q, (openFacet n s).maint.run = some q → q.checksRef = false ∧ q.step ∉ [0, 6, 7, 8]))

/-- TRIM_WRITE with the guard open stores the trim and sets MODIFIED, or is dropped while a calibration-bus activity runs (log 57). The pin check
skips a channel that leaks too much, with reason 1. CAL_COMMIT_DONE at the commit of a run ends it: without success, RESULT is 5 and no trim
changes; with it, unless the region has no room, the run is counted, CAL_LAST_AT is T_m and MODIFIED clears. CAL_ABORT ends a run, RESULT 4, with no
trim changed, and leaves a self-test. TRIM_REFRESH_READ_DONE takes both requests off their queues; with no record that qualifies no trim
changes. MAINTENANCE_DISPATCH starts the oldest waiting request of a free resource: a run enters CAL; an NVM activity ends and leaves its queue. -/
def Obligations.CalibrationAndMaintenance : Prop :=
  (∀ (s : State) (dt a d : Nat) (p : Path), s.takes p a = true → isTrim a = true →
    (s.guardOpen p = false → Gives (.trimWrite dt p a d) s (capture p causeGuard true 0 a 0xF (s.request dt p))) ∧
    (s.guardOpen p = true → s.get CAL_STAT_ACTIVITY ≠ 0 →
      Gives (.trimWrite dt p a d) s ((s.request dt p).raise CAL_STAT_WRITE_DROP)) ∧
    (s.guardOpen p = true → s.get CAL_STAT_ACTIVITY = 0 →
      Gives (.trimWrite dt p a d) s ((plainWrite p true a (d % 2 ^ 32) (s.request dt p)).raise CAL_STAT_MODIFIED))) ∧
  (∀ (s : State) (r : CalRun) (c : Nat) (na : Int), s.maint.run = some r → r.test = false → c < 2048 →
    Store.find (fun _ => false) r.skips c = false →
    let limit := if r.down then s.get CAL_PIN_ILIM_PD_NA else s.get CAL_PIN_ILIM_OPEN_NA
    (na.natAbs ≤ limit → SameRegs [CAL_CH_RES c] s (pinCheck c na s) ∧ (pinCheck c na s).runHas c = true) ∧
    (limit < na.natAbs → (pinCheck c na s).get (CAL_CH_RES_REASON c) = 1 ∧ (pinCheck c na s).get (CAL_CH_RES_RESULT c) = 2 ∧
      (pinCheck c na s).runHas c = false)) ∧
  (∀ (s : State) (dt m : Nat) (data : List (Nat × List Int)) (ok : Bool), s.maint.run = none →
    Gives (.calibrationStepEnd dt m data) s (s.tick dt) ∧ Gives (.calCommitDone dt ok) s (s.tick dt)) ∧
  (∀ (s : State) (dt : Nat) (r : CalRun) (j : NvmJob) (js : List NvmJob),
    s.maint.run = some r → r.test = false → r.step = 9 → s.maint.nvmq = j :: js → j.work = .calCommit →
    (∃ t : State, Gives (.calCommitDone dt false) s t ∧ t.maint.run = none ∧ t.get CAL_STAT_RESULT = 5 ∧
      (∀ a, isTrim a = true → t.reg a = s.reg a) ∧ t.get CAL_COUNT_COUNT = s.get CAL_COUNT_COUNT ∧ t.flash = s.flash) ∧
    (let c := signContainer 3 (calPayload r (s.tick dt)) (s.tick dt)
     ∃ t : State, Gives (.calCommitDone dt true) s t ∧ t.maint.run = none ∧
      if (c.2.recordRoom c.1.length).isSome then
        t.get CAL_STAT_RESULT = (if r.skipped = 0 then 1 else 2) ∧ t.get CAL_COUNT_COUNT = (s.get CAL_COUNT_COUNT + 1) % 2 ^ 32 ∧
        t.get CAL_LAST_AT_AT = r.atM % 2 ^ 64 ∧ t.on CAL_STAT_MODIFIED = false ∧
        (∀ a w, r.staged = [(a, w)] → isTrim a = true → t.reg a = w)
      else t.get CAL_STAT_RESULT = 5 ∧ (∀ a, isTrim a = true → t.reg a = s.reg a))) ∧
  (∀ (s : State) (dt : Nat) (p : Path), s.takes p CAL_CTRL = true →
    (s.maint.run = none → Gives (.calAbort dt p) s (s.request dt p)) ∧
    (∀ r, s.maint.run = some r → r.test = true → Gives (.calAbort dt p) s (s.request dt p)) ∧
    (∀ r, s.maint.run = some r → r.test = false →
      ∃ t : State, Gives (.calAbort dt p) s t ∧ t.maint.run = none ∧ t.get CAL_STAT_RESULT = 4 ∧ t.get CAL_STAT_ACTIVITY = 0 ∧
        (∀ a, isTrim a = true → t.reg a = s.reg a) ∧ t.get CAL_COUNT_COUNT = s.get CAL_COUNT_COUNT ∧ t.flash = s.flash)) ∧
  (∀ (s : State) (dt : Nat),
    (s.maint.nvmq = [] ∨ s.maint.calq = [] → Gives (.trimRefreshReadDone dt) s (s.tick dt)) ∧
    (∀ n ns j js, s.maint.nvmq = n :: ns → s.maint.calq = j :: js → n.work = .trimRead → j.kind = 3 →
      ∃ t : State, Gives (.trimRefreshReadDone dt) s t ∧ t.maint.nvmq = ns ∧ t.maint.calq = js ∧ t.get CAL_STAT_ACTIVITY = 0 ∧
        ((s.tick dt).bestRecord = none → ∀ a, isTrim a = true → t.reg a = s.reg a))) ∧
  (∀ (s : State) (dt : Nat),
    (s.maint.calq = [] ∨ s.get CAL_STAT_ACTIVITY ≠ 0 → Gives (.maintenanceDispatch dt false) s (s.tick dt)) ∧
    (∀ j js, s.maint.calq = j :: js → s.get CAL_STAT_ACTIVITY = 0 → j.kind = 3 →
      ∃ t : State, Gives (.maintenanceDispatch dt false) s t ∧ t.get CAL_STAT_ACTIVITY = 3 ∧ t.mode = s.mode ∧
        t.maint.nvmq = s.maint.nvmq ++ [⟨.trimRead, none⟩]) ∧
    (∀ j js f fs, s.maint.calq = j :: js → s.get CAL_STAT_ACTIVITY = 0 → j.kind = 1 ∨ j.kind = 2 →
      setBits 16 (j.cmd.args.getD 0 0 % 65536) = f :: fs → s.facetParked f = false →
      ∃ (t : State) (r : CalRun), Gives (.maintenanceDispatch dt false) s t ∧ t.get CAL_STAT_ACTIVITY = j.kind ∧ t.mode = modeCal ∧
        t.get CAL_STAT_FACET = f ∧ t.maint.run = some r ∧ r.cmd = j.cmd ∧ r.test = decide (j.kind = 2) ∧ r.facets = f :: fs ∧
        (∀ a, isTrim a = true → t.reg a = s.reg a)) ∧
    (s.maint.nvmq = [] → Gives (.maintenanceDispatch dt true) s (s.tick dt)) ∧
    (∀ j js, s.maint.nvmq = j :: js → j.work = .trimRead ∨ j.work = .calCommit → Gives (.maintenanceDispatch dt true) s (s.tick dt)) ∧
    (∀ j js, s.maint.nvmq = j :: js → j.work ≠ .trimRead → j.work ≠ .calCommit →
      ∃ t : State, Gives (.maintenanceDispatch dt true) s t ∧ t.maint.nvmq = js ∧ t.mode = s.mode))

/-! ## The serial port -/

/-- SPN_XFER_START is refused (RESULT 4) for select 0 and for a select that the host may not use, ignored while BUSY, and otherwise sets BUSY and,
with the port idle, starts the transfer. SPN_XFER_ABORT of a transfer on the port lets its byte end, and ends one that waits or polls, RESULT 2. At
its end LEN_DONE tells the bytes, and RESULT is 0; an edge mismatch gives 1, a prefix without READY 3; with WAIT_READY the engine polls. A poll stores the
status byte and, once it says ready, ends the engine 0 or, failed, 5. ERASE_TIMEOUT ends it 5 and gives line 102 an event; NVM_PROGRAM_TIMEOUT sets WR_FAIL;
ERASE_RESUME sends the resume command once no window read waits. Each has no effect where its condition does not hold. -/
def Obligations.EnginesOfTheSerialPort : Prop :=
  (∀ (s : State) (dt d : Nat) (p : Path), s.takes p SPN_XFER_CTRL = true →
    let k := bitsAt d 2 2
    (s.on SPN_XSTAT_BUSY = true →
      ∃ t : State, Gives (.spnXferStart dt p d) s t ∧ t.spn = s.spn ∧ SameRegs [SPN_XFER_CTRL, GLB_GUARD_STAT] s t ∧ SameMemories s t) ∧
    (s.on SPN_XSTAT_BUSY = false → k = 0 ∨ s.bitOf SPN_HOST_CFG_SEL_EN (k - 1) = false →
      ∃ t : State, Gives (.spnXferStart dt p d) s t ∧ t.get SPN_XSTAT_RESULT = 4 ∧ t.on SPN_XSTAT_BUSY = false ∧
        t.get SPN_XFER_CTRL_SEL = k ∧
        SameRegs [SPN_XFER_CTRL, SPN_XSTAT, SPN_LEN_DONE, ICL_PEND 29, DMA_MSIX_PBA 0, GLB_GUARD_STAT] s t ∧ SameMemories s t) ∧
    (s.on SPN_XSTAT_BUSY = false → k ≠ 0 → s.bitOf SPN_HOST_CFG_SEL_EN (k - 1) = true →
      ∃ t : State, Gives (.spnXferStart dt p d) s t ∧ t.on SPN_XSTAT_BUSY = true ∧ t.on SPN_XFER_CTRL_START = true ∧
        t.get SPN_XFER_CTRL_SEL = k ∧ t.get SPN_XFER_CTRL_DIR = bitsAt d 4 1 ∧ t.get SPN_LEN_DONE_LEN_DONE = 0 ∧
        (s.spn.cur = none → s.spn.engines = [] → s.spn.flush = none → s.spn.reads = [] → (s.device k).kind = 0 →
          t.spn.cur = some ⟨1, k, false⟩ ∧ t.sent = s.sent ++ [.serial k (t.engineOut 1)]) ∧
        SameRegs [SPN_XFER_CTRL, SPN_XSTAT, SPN_LEN_DONE, SPN_STAT, ICL_PEND 29, DMA_MSIX_PBA 0, GLB_GUARD_STAT] s t ∧ SameMemories s t) ∧
    (s.on SPN_XSTAT_BUSY = false →
      ∃ t : State, Gives (.spnXferAbort dt p d) s t ∧ t.spn = s.spn ∧ SameRegs [SPN_XFER_CTRL, GLB_GUARD_STAT] s t ∧ SameMemories s t) ∧
    (∀ j b, s.on SPN_XSTAT_BUSY = true → s.spn.cur = some ⟨1, j, b⟩ →
      ∃ t : State, Gives (.spnXferAbort dt p d) s t ∧ t.spn.cur = some ⟨1, j, true⟩ ∧ t.on SPN_XSTAT_BUSY = true) ∧
    (s.on SPN_XSTAT_BUSY = true → (∀ x, s.spn.cur = some x → x.who ≠ 1) →
      ∃ t : State, Gives (.spnXferAbort dt p d) s t ∧ t.get SPN_XSTAT_RESULT = 2 ∧ t.on SPN_XSTAT_BUSY = false)) ∧
  (∀ (s : State) (dt : Nat) (edge : Bool) (status data : List Byte), s.spn.cur = none →
    Gives (.spnTransferEnd dt edge status data) s (s.tick dt)) ∧
  (∀ (s : State) (dt k : Nat) (status data : List Byte), s.spn.cur = some ⟨1, k, false⟩ →
    let len := min 256 (s.get SPN_LEN_LEN)
    (s.on (SPN_SEL0_STATUS_FIRST k) = false → s.on SPN_XFER_CTRL_WAIT_READY = false →
      ∃ t : State, Gives (.spnTransferEnd dt false status data) s t ∧ t.get SPN_XSTAT_RESULT = 0 ∧ t.on SPN_XSTAT_BUSY = false ∧
        t.get SPN_LEN_DONE_LEN_DONE = len ∧
        (s.on SPN_XFER_CTRL_DIR = true → (t.engineData 1).take len = (data ++ List.replicate len 0).take len)) ∧
    (s.on (SPN_SEL0_STATUS_FIRST k) = false → s.on SPN_XFER_CTRL_WAIT_READY = true →
      ∃ t : State, Gives (.spnTransferEnd dt false status data) s t ∧ t.spn.polling = s.spn.polling ++ [1] ∧
        t.on SPN_XSTAT_BUSY = s.on SPN_XSTAT_BUSY) ∧
    (s.on (SPN_SEL0_STATUS_FIRST k) = true → s.on SPN_XFER_CTRL_DIR = true → (∀ b ∈ status, b.toNat < 128) →
      ∃ t : State, Gives (.spnTransferEnd dt false status data) s t ∧ t.get SPN_XSTAT_RESULT = 3 ∧ t.on SPN_XSTAT_BUSY = false ∧
        t.get SPN_LEN_DONE_LEN_DONE = 0) ∧
    (∃ t : State, Gives (.spnTransferEnd dt true status data) s t ∧ t.get SPN_XSTAT_RESULT = 1 ∧ t.on SPN_XSTAT_BUSY = false ∧
      t.on SPN_STAT_EDGE_FAULT = true)) ∧
  (∀ (s : State) (dt k status : Nat), status < 256 →
    ((∀ g, s.spn.flush ≠ some (g, 3)) → (∀ e ∈ s.spn.polling, s.eng e SPN_XFER_CTRL_SEL ≠ k) →
      Gives (.spnBusyPoll dt k status) s (s.tick dt)) ∧
    ((∀ g, s.spn.flush ≠ some (g, 3)) → s.spn.polling = [1] → s.get SPN_XFER_CTRL_SEL = k →
      (s.deviceReady k status = false →
        ∃ t : State, Gives (.spnBusyPoll dt k status) s t ∧ t.get SPN_XSTAT_STATUS = status ∧ t.spn = s.spn ∧
          SameRegs [SPN_XSTAT] s t ∧ SameMemories s t) ∧
      (s.deviceReady k status = true → (s.device k).suspend ≠ 1 →
        ∃ t : State, Gives (.spnBusyPoll dt k status) s t ∧ t.get SPN_XSTAT_STATUS = status ∧ t.on SPN_XSTAT_BUSY = false ∧
          t.get SPN_XSTAT_RESULT = if s.deviceFailed k status then 5 else 0))) ∧
  (∀ (s : State) (dt k : Nat),
    ((s.device k).kind ≠ 1 ∨ (s.tick dt).elapsed < (s.device k).since + 256 * 8000000 →
      Gives (.nvmProgramTimeout dt k) s (s.tick dt)) ∧
    (∀ g n, (s.device k).kind = 1 → (s.device k).since + 256 * 8000000 ≤ (s.tick dt).elapsed → s.spn.flush = some (g, n) →
      ∃ t : State, Gives (.nvmProgramTimeout dt k) s t ∧ t.on SPN_XIP_STAT_WR_FAIL = true ∧
        t.get SPN_WR_FAIL_ADDR_ADDR = g.page % 2 ^ 26) ∧
    ((s.device k).kind ≠ 2 ∨ (s.device k).suspend ≠ 0 ∨
      (s.tick dt).elapsed < (s.device k).since + 256 * 1600000 * s.get (SPN_SEL1_ERASE_MAX k) →
      Gives (.eraseTimeout dt k) s (s.tick dt)) ∧
    ((s.device k).kind = 2 → (s.device k).suspend = 0 →
      (s.device k).since + 256 * 1600000 * s.get (SPN_SEL1_ERASE_MAX k) ≤ (s.tick dt).elapsed → s.spn.polling = [1] →
      s.get SPN_XFER_CTRL_SEL = k →
      ∃ t : State, Gives (.eraseTimeout dt k) s t ∧ t.get SPN_XSTAT_RESULT = 5 ∧ t.on SPN_XSTAT_BUSY = false ∧
        (s.mode ≠ modeReset → s.on (faultActive 102) = false → s.on (faultRail 102) = false → ⟨102, false, false⟩ ∈ t.fcl.raised)) ∧
    ((s.device k).suspend ≠ 1 ∨ (∃ r ∈ s.spn.reads, r.sel = k) → Gives (.eraseResume dt k) s (s.tick dt)) ∧
    ((s.device k).suspend = 1 → (∀ r ∈ s.spn.reads, r.sel ≠ k) →
      ∃ t : State, Gives (.eraseResume dt k) s t ∧ (t.device k).suspend = 0 ∧ (t.device k).kind = (s.device k).kind ∧
        t.sent = s.sent ++ [.serial k [BitVec.ofNat 8 (s.get (SPN_SEL4_RES_CMD k))]] ∧ t.regs = s.regs ∧ SameMemories s t))

/-- A host read of the window in RESET or BOOT returns zeros; one of a select without XIP_EN is captured, or a bus error on Apex's path; otherwise, with the
port idle, the read command goes out with the address. The end of its last transfer returns the bytes, the boot NVM's own for select 0. A host read that has
waited HOST_WAIT µs ends with Completer Abort and HOST_TMO. A window write gathers, and waits while a flush runs; XIP_FLUSH and the flush timer send write
enable, then the page program with all 256 bytes; once the device is ready and has not failed the bytes stand in the boot NVM, a 0 bit staying 0. -/
def Obligations.TheFlashWindow : Prop :=
  (∀ (s : State) (dt k a len : Nat),
    (s.mode ≤ modeBoot →
      Gives (.xipRead dt true k a len) s ((s.tick dt).send (.windowData .host 0 a (List.replicate len 0)))) ∧
    (s.mode = modeReset → Gives (.xipRead dt false k a len) s (s.tick dt)) ∧
    (modeBoot < s.mode → s.on (SPN_SEL2_XIP_EN 0) = false →
      Gives (.xipRead dt true k a len) s (capture .host causeUnimpl false 2 a 0xF ((s.tick dt).send (.unsupported a)))) ∧
    (s.mode ≠ modeReset → s.on (SPN_SEL2_XIP_EN k) = false →
      Gives (.xipRead dt false k a len) s ((s.tick dt).send (.busError a))) ∧
    (s.spn.cur = none → s.spn.engines = [] → s.spn.flush = none → s.spn.gather = none → s.spn.reads = [] →
      (modeBoot < s.mode → s.on (SPN_SEL2_XIP_EN 0) = true → (s.device 0).kind = 0 →
        ∃ t : State, Gives (.xipRead dt true k a len) s t ∧ t.spn.cur = some ⟨3, 0, false⟩ ∧ t.regs = s.regs ∧ SameMemories s t ∧
          t.sent = s.sent ++ [.serial 0 ([BitVec.ofNat 8 (s.get (SPN_SEL2_RD_CMD 0))] ++ s.windowAddr 0 (a / 4 * 4))]) ∧
      (s.mode ≠ modeReset → s.on (SPN_SEL2_XIP_EN k) = true → (s.device k).kind = 0 →
        ∃ t : State, Gives (.xipRead dt false k a len) s t ∧ t.spn.cur = some ⟨2, k, false⟩ ∧ t.regs = s.regs ∧ SameMemories s t ∧
          t.sent = s.sent ++ [.serial k ([BitVec.ofNat 8 (s.get (SPN_SEL2_RD_CMD k))] ++ s.windowAddr k (a / 4 * 4))]))) ∧
  (∀ (s : State) (dt who : Nat) (r : WindowRead) (status data : List Byte),
    s.spn.cur = some ⟨who, r.sel, false⟩ → who = (if r.host then 3 else 2) → s.spn.reads = [r] → s.spn.engines = [] → s.spn.flush = none →
    r.left = r.piece →
    let got := r.got ++ if r.sel = 0 then s.flashBytes r.next r.left else (data ++ List.replicate r.left 0).take r.left
    ∃ t : State, Gives (.spnTransferEnd dt false status data) s t ∧ t.spn.reads = [] ∧ t.spn.cur = none ∧ t.regs = s.regs ∧ SameMemories s t ∧
      t.sent = s.sent ++ [.windowData (if r.host then .host else .apex) r.sel r.addr ((got.drop (r.addr % 4)).take r.len)]) ∧
  (∀ (s : State) (dt : Nat),
    ((∀ r ∈ s.spn.reads, r.host = false) → Gives (.xipHostTimeout dt) s (s.tick dt)) ∧
    (∀ r, s.spn.reads = [r] → r.host = true →
      ((s.tick dt).elapsed < r.since + 256 * 1600 * s.get SPN_HOST_WAIT_HOST_WAIT → Gives (.xipHostTimeout dt) s (s.tick dt)) ∧
      (r.since + 256 * 1600 * s.get SPN_HOST_WAIT_HOST_WAIT ≤ (s.tick dt).elapsed → (∀ x, s.spn.cur = some x → x.who ≠ 3) →
        ∃ t : State, Gives (.xipHostTimeout dt) s t ∧ t.spn.reads = [] ∧ .abortRead r.addr ∈ t.sent ∧ t.on SPN_XIP_STAT_HOST_TMO = true ∧
          SameRegs [SPN_XIP_STAT, ICL_PEND 29, DMA_MSIX_PBA 0] s t ∧ SameMemories s t))) ∧
  (∀ (s : State) (dt k a : Nat) (bytes : List Byte),
    (s.mode = modeReset → Gives (.xipWrite dt k a bytes) s (s.tick dt)) ∧
    (s.mode ≠ modeReset → s.spn.flush.isSome = true →
      ∃ t : State, Gives (.xipWrite dt k a bytes) s t ∧ t.spn = { s.spn with writes := s.spn.writes ++ [(k, a, bytes)] } ∧ t.regs = s.regs ∧
        SameMemories s t) ∧
    (s.mode ≠ modeReset → s.spn.flush = none → s.spn.gather = none → a % 256 + bytes.length < 256 →
      ∃ t : State, Gives (.xipWrite dt k a bytes) s t ∧
        t.spn = { s.spn with gather := some (Gather256.add ⟨k, a / 256 * 256, [], (s.tick dt).elapsed⟩ (a % 256) bytes (s.tick dt).elapsed) } ∧
        t.regs = s.regs ∧ SameMemories s t)) ∧
  (∀ (s : State) (dt : Nat),
    (s.spn.gather = none → Gives (.xipFlush dt) s (s.tick dt) ∧ Gives (.xipFlushTimer dt) s (s.tick dt)) ∧
    (∀ g, s.spn.gather = some g → (s.tick dt).elapsed < g.last + 256 * 16000 → Gives (.xipFlushTimer dt) s (s.tick dt)) ∧
    (∀ g, s.spn.gather = some g → s.spn.cur = none → s.spn.flush = none → (s.device g.sel).kind = 0 →
      ∃ t : State, (s.mode ≠ modeReset → Gives (.xipFlush dt) s t) ∧
        (g.last + 256 * 16000 ≤ (s.tick dt).elapsed → Gives (.xipFlushTimer dt) s t) ∧
        t.spn.cur = some ⟨4, g.sel, false⟩ ∧ t.spn.gather = none ∧ t.spn.flush = some (g, 1) ∧ t.regs = s.regs ∧ SameMemories s t ∧
        t.sent = s.sent ++ [.serial g.sel [BitVec.ofNat 8 (s.get (SPN_SEL3_WREN_CMD g.sel))]])) ∧
  (∀ (s : State) (dt : Nat) (g : Gather256) (status data : List Byte), s.spn.cur = some ⟨4, g.sel, false⟩ → s.spn.flush = some (g, 1) →
    ∃ t : State, Gives (.spnTransferEnd dt false status data) s t ∧ t.spn.cur = some ⟨5, g.sel, false⟩ ∧ (t.device g.sel).kind = 1 ∧
      t.regs = s.regs ∧ SameMemories s t ∧
      t.sent = s.sent ++ [.serial g.sel ([BitVec.ofNat 8 (s.get (SPN_SEL3_PP_CMD g.sel))] ++ s.windowAddr g.sel g.page ++ g.data)]) ∧
  (∀ (s : State) (dt status : Nat) (g : Gather256), s.spn.flush = some (g, 3) →
    (s.deviceReady g.sel status = false → Gives (.spnBusyPoll dt g.sel status) s (s.tick dt)) ∧
    (s.deviceReady g.sel status = true → s.deviceFailed g.sel status = false → (s.device g.sel).edge = false → s.spn.writes = [] →
      s.spn.engines = [] → s.spn.reads = [] →
      ∃ t : State, Gives (.spnBusyPoll dt g.sel status) s t ∧ t.spn.flush = none ∧ (t.device g.sel).kind = 0 ∧ t.regs = s.regs ∧
        t.flash = (if g.sel = 0 then flashProgram s.flash g.page g.data else s.flash)) ∧
    (s.deviceReady g.sel status = true → s.deviceFailed g.sel status = true →
      ∃ t : State, Gives (.spnBusyPoll dt g.sel status) s t ∧ t.on SPN_XIP_STAT_WR_FAIL = true ∧
        t.get SPN_WR_FAIL_ADDR_ADDR = g.page % 2 ^ 26))

/-! ## SMBus -/

/-- A Send Byte to ADDR + 1 selects the page, a Receive Byte from there returns it; another address is not acknowledged, and with VDD_AON down nothing
answers. With PEC a wrong code discards the transaction and sets PEC_ERR. Without PEC a write applies its bytes from its command code, and a read returns the bytes of the
page in force. A clock timeout discards what was staged. The Alert Response Address answers while an enabled condition is not yet answered for, and none is
then. The packet error code's polynomial is log 134. -/
def Obligations.SmbusTransactions : Prop :=
  (∀ (s : State) (dt a b c n : Nat) (bytes : List Nat) (ended : Bool), s.pins.aon = false →
    Gives (.smbusPageSelect dt a b c) s (s.tick dt) ∧ Gives (.smbusPageRead dt a) s (s.tick dt) ∧
    Gives (.smbusWrite dt a b bytes c ended) s (s.tick dt) ∧ Gives (.smbusRead dt a b n) s (s.tick dt) ∧
    Gives (.alertResponse dt) s (s.tick dt)) ∧
  (∀ (s : State) (dt a page code cmd n : Nat) (bytes : List Nat) (ended : Bool), s.pins.aon = true →
    let nack := (s.tick dt).send .smbusNack
    (a ≠ s.smbAddr + 1 → Gives (.smbusPageSelect dt a page code) s nack ∧ Gives (.smbusPageRead dt a) s nack) ∧
    (a ≠ s.smbAddr → Gives (.smbusRead dt a cmd n) s nack ∧
      (s.smb.open_ = none → Gives (.smbusWrite dt a cmd bytes code ended) s nack))) ∧
  (∀ (s : State) (dt page code : Nat), s.pins.aon = true →
    (s.on SPN_SMB_CFG_PEC_EN = false ∨ packetCode [2 * (s.smbAddr + 1), page] = code →
      Gives (.smbusPageSelect dt (s.smbAddr + 1) page code) s { s.tick dt with smb := { s.smb with page := page % 256 } }) ∧
    (s.on SPN_SMB_CFG_PEC_EN = true → packetCode [2 * (s.smbAddr + 1), page] ≠ code →
      ∃ t : State, Gives (.smbusPageSelect dt (s.smbAddr + 1) page code) s t ∧ t.smb = s.smb ∧ t.on SPN_SMB_STAT_PEC_ERR = true ∧
        SameRegs [SPN_SMB_STAT, ICL_PEND 29, DMA_MSIX_PBA 0] s t ∧ SameMemories s t) ∧
    (s.on SPN_SMB_CFG_PEC_EN = false →
      Gives (.smbusPageRead dt (s.smbAddr + 1)) s ((s.tick dt).send (.smbus [BitVec.ofNat 8 s.smb.page])))) ∧
  (∀ (s : State) (dt cmd code : Nat) (bytes : List Nat), s.pins.aon = true → s.smb.open_ = none →
    (s.on SPN_SMB_CFG_PEC_EN = false →
      ∃ t : State, Gives (.smbusWrite dt s.smbAddr cmd bytes code true) s t ∧
        t = { (pageWrite bytes cmd [] (s.tick dt)).2 with smb := { (pageWrite bytes cmd [] (s.tick dt)).2.smb with open_ := none } }) ∧
    (s.on SPN_SMB_CFG_PEC_EN = true → packetCode ([2 * s.smbAddr, cmd] ++ bytes) = code →
      Gives (.smbusWrite dt s.smbAddr cmd bytes code true) s (pageWrite bytes cmd [] (s.tick dt)).2) ∧
    (s.on SPN_SMB_CFG_PEC_EN = true → packetCode ([2 * s.smbAddr, cmd] ++ bytes) ≠ code →
      ∃ t : State, Gives (.smbusWrite dt s.smbAddr cmd bytes code true) s t ∧ t.smb = s.smb ∧ t.on SPN_SMB_STAT_PEC_ERR = true ∧
        SameRegs [SPN_SMB_STAT, ICL_PEND 29, DMA_MSIX_PBA 0] s t ∧ SameMemories s t)) ∧
  (∀ (s : State) (dt : Nat) (cmd n : Nat), s.pins.aon = true → s.on SPN_SMB_CFG_PEC_EN = false →
    let x := pageBytes n cmd none (s.tick dt)
    Gives (.smbusRead dt s.smbAddr cmd n) s ((afterPageRead s.smb.page cmd n x.2).send (.smbus (x.1.map (BitVec.ofNat 8)))) ∧
    x.1.length = n) ∧
  (∀ (s : State) (dt : Nat), Gives (.smbusClockTimeout dt) s { s.tick dt with smb := { s.smb with open_ := none } }) ∧
  (∀ (s : State) (dt : Nat), s.pins.aon = true →
    (s.alerts = 0 → Gives (.alertResponse dt) s ((s.tick dt).send .smbusNack)) ∧
    (s.alerts ≠ 0 →
      ∃ t : State, Gives (.alertResponse dt) s t ∧ t.sent = s.sent ++ [.smbus [BitVec.ofNat 8 s.smbAddr]] ∧ t.alerts = 0 ∧ t.regs = s.regs))

/-- A read of more bytes than remain up to offset 0xFF of the page returns those bytes, byte 0xFF as the last of them, then 0x00 for every further byte, and
sets OVERRUN. A write acts up to byte 0xFF as if it ended there; every byte behind it only sets OVERRUN, with its interrupt. A read or a write that ends leaves
nothing of its offset: the next transaction starts at its own command code. -/
def Obligations.TheSmbusOffsetSaturates : Prop :=
  (∀ (s : State) (o n : Nat) (held : Option (Nat × Nat)), o ≤ 0xFF → 256 - o < n →
    (pageBytes n o held s).1 = (pageBytes (256 - o) o held s).1 ++ List.replicate (n - (256 - o)) 0 ∧
    (pageBytes (256 - o) o held s).1.length = 256 - o ∧ (pageBytes n o held s).2.on SPN_SMB_STAT_OVERRUN = true) ∧
  (∀ (s : State) (o : Nat) (bs cs : List Nat) (staged : List Nat), o ≤ 0xFF → bs.length = 256 - o → cs ≠ [] →
    let x := pageWrite bs o staged s
    let t := (pageWrite (bs ++ cs) o staged s).2
    x.1.1 = 256 ∧ t.on SPN_SMB_STAT_OVERRUN = true ∧ SameRegs [SPN_SMB_STAT, ICL_PEND 29, DMA_MSIX_PBA 0] x.2 t ∧ SameMemories x.2 t ∧
    t.smb = x.2.smb ∧ t.apex = x.2.apex) ∧
  (∀ (s : State) (dt cmd n : Nat), s.pins.aon = true → s.on SPN_SMB_CFG_PEC_EN = false →
    ∃ t : State, Gives (.smbusRead dt s.smbAddr cmd n) s t ∧
      t.sent = (pageBytes n cmd none (s.tick dt)).2.sent ++ [.smbus ((pageBytes n cmd none (s.tick dt)).1.map (BitVec.ofNat 8))]) ∧
  (∀ (s : State) (dt cmd code : Nat) (bytes : List Nat), s.pins.aon = true → s.smb.open_ = none → s.on SPN_SMB_CFG_PEC_EN = false →
    ∃ t : State, Gives (.smbusWrite dt s.smbAddr cmd bytes code true) s t ∧ t.smb.open_ = none ∧
      t.regs = (pageWrite bytes cmd [] (s.tick dt)).2.regs)

/-! ## Keys, the log, seals, and JTAG -/

/-- KEY_ENROL behind a closed guard is captured. With it open, a slot that is burnt answers 2, slot 0 or a mode other than IDLE 3, and otherwise GO sets. KEY_ENROL_END
stores the hash in OTP and shows the slot PROGRAMMED with RESULT 1, or RESULT 4 and nothing else. LOG_COMPACT_AUTO queues a compaction when it is due and
none waits. SEAL_WRITTEN puts the oldest seal's container into slot k mod 8 of the window and advances SEAL_PROD. EXTEST, EXTEST_PULSE and EXTEST_TRAIN scan the boundary
register while PERST# is asserted and act as BYPASS otherwise; SAMPLE_PRELOAD always scans it; HIGHZ, CLAMP and BYPASS scan the bypass register; IDCODE returns the
identification code, 0x17C20B47 for the CJ2048 at stepping 0x01. None touches a register. -/
def Obligations.KeysLogSealsAndJtag : Prop :=
  (∀ (s : State) (dt k : Nat) (p : Path), k < 4 → s.takes p APX_KEY_ENROL = true →
    (s.guardOpen p = false → Gives (.keyEnrol dt p k) s (capture p causeGuard true 0 APX_KEY_ENROL 0xF (s.request dt p))) ∧
    (s.guardOpen p = true → s.on APX_KEY_ENROL_GO = true → Gives (.keyEnrol dt p k) s ((s.request dt p).set APX_KEY_ENROL_SLOT k)) ∧
    (s.guardOpen p = true → s.on APX_KEY_ENROL_GO = false →
      ∃ t : State, Gives (.keyEnrol dt p k) s t ∧ t.get APX_KEY_ENROL_SLOT = k ∧
        SameRegs [APX_KEY_ENROL, APX_KEY_STAT, ICL_PEND 28, DMA_MSIX_PBA 0, GLB_GUARD_STAT] s t ∧ SameMemories s t ∧
        if s.mode ≠ modeIdle ∨ k = 0 then t.get APX_KEY_STAT_RESULT = 3 ∧ t.apex = s.apex
        else if s.bitOf APX_KEY_STAT_PROGRAMMED k = true then t.get APX_KEY_STAT_RESULT = 2 ∧ t.apex = s.apex
        else t.on APX_KEY_ENROL_GO = true ∧ t.apex.enrol = some k)) ∧
  (∀ (s : State) (dt : Nat),
    (∀ ok, s.apex.enrol = none → Gives (.keyEnrolEnd dt ok) s (s.tick dt)) ∧
    (∀ k, s.apex.enrol = some k → k < 4 →
      (∃ t : State, Gives (.keyEnrolEnd dt false) s t ∧ t.apex.enrol = none ∧ t.on APX_KEY_ENROL_GO = false ∧ t.get APX_KEY_STAT_RESULT = 4 ∧
        t.get APX_KEY_STAT_PROGRAMMED = s.get APX_KEY_STAT_PROGRAMMED ∧ t.otp = s.otp ∧
        SameRegs [APX_KEY_ENROL, APX_KEY_STAT, ICL_PEND 28, DMA_MSIX_PBA 0] s t ∧ SameMemories s t) ∧
      (∃ t : State, Gives (.keyEnrolEnd dt true) s t ∧ t.apex.enrol = none ∧ t.on APX_KEY_ENROL_GO = false ∧ t.get APX_KEY_STAT_RESULT = 1 ∧
        t.bitOf APX_KEY_STAT_PROGRAMMED k = true ∧
        (∀ j, Store.find (fun _ => ([] : List Byte)) t.otp.keys j =
          if j = k then s.regBytes (APX_KEY_HASH 0) 12 else Store.find (fun _ => ([] : List Byte)) s.otp.keys j)))) ∧
  (∀ (s : State) (dt : Nat),
    (s.apex.log = [] → Gives (.logCompactAuto dt) s (s.tick dt)) ∧
    (s.maint.nvmq.any (fun j => j.work == .compact) = true → Gives (.logCompactAuto dt) s (s.tick dt)) ∧
    (128 ≤ s.apex.log.length ∨ (s.apex.log ≠ [] ∧ s.apex.logOldest + 1600000000 ≤ (s.tick dt).mono) →
      s.mode ∈ [modeIdle, modeHost, modeAuto, modeCal, modeSafe] → s.on APX_SAFE_CAUSE_NO_FIRMWARE = false →
      s.maint.nvmq.any (fun j => j.work == .compact) = false → s.nvmCount < 4 → s.therm.stage = 0 →
      ∃ t : State, Gives (.logCompactAuto dt) s t ∧ t.maint.nvmq = s.maint.nvmq ++ [⟨.compact, none⟩] ∧
        SameRegs [CAL_STAT, DMA_MSIX_PBA 0] s t ∧ SameMemories s t)) ∧
  (∀ (s : State) (dt : Nat),
    (s.apex.sealing = [] → Gives (.sealWritten dt) s (s.tick dt)) ∧
    (∀ j js, s.apex.sealing = j :: js →
      let k := s.get APX_SEAL_PROD_PROD
      ∃ t : State, Gives (.sealWritten dt) s t ∧ t.apex.sealing = js ∧ t.get APX_SEAL_PROD_PROD = (k + 1) % 2 ^ 32 ∧
        t.on APX_LOT_STAT_SEALING = decide (js ≠ []) ∧
        t.regBytes (APX_SEALWIN (k % 8 * 0x80)) 0x80 = fit 0x200 (signContainer 5 j.payload (s.tick dt)).1)) ∧
  (∀ (s : State) (dt ir : Nat) (i : Instr) (sampled bits : List Bool),
    (ir, i) ∈ [(0x00, Instr.extest dt sampled bits), (0x06, .extestPulse dt sampled bits), (0x07, .extestTrain dt sampled bits)] →
    (s.pins.perst = true → Gives i s { (s.tick dt).send (.tdo sampled) with jtag := ⟨ir, bits, true⟩ }) ∧
    (s.pins.perst = false →
      Gives i s { (s.tick dt).send (.tdo ((false :: bits).take bits.length)) with jtag := ⟨ir, s.jtag.boundary, false⟩ })) ∧
  (∀ (s : State) (dt code : Nat) (sampled bits : List Bool),
    let passed := (s.tick dt).send (.tdo ((false :: bits).take bits.length))
    Gives (.samplePreload dt sampled bits) s { (s.tick dt).send (.tdo sampled) with jtag := ⟨0x02, bits, false⟩ } ∧
    Gives (.highz dt bits) s { passed with jtag := ⟨0x04, s.jtag.boundary, s.pins.perst⟩ } ∧
    Gives (.clamp dt bits) s { passed with jtag := ⟨0x05, s.jtag.boundary, s.pins.perst⟩ } ∧
    (code % 256 ∉ [0x00, 0x01, 0x02, 0x04, 0x05, 0x06, 0x07] →
      Gives (.bypass dt code bits) s { passed with jtag := ⟨code % 256, s.jtag.boundary, false⟩ }) ∧
    Gives (.idcode dt) s { (s.tick dt).send (.tdo ((List.range 32).map fun j => s.idCode.testBit j)) with
      jtag := ⟨0x01, s.jtag.boundary, false⟩ } ∧
    (s.get GLB_IDENT_MEMBER = 0 → s.get GLB_IDENT_STEPPING = 1 → s.idCode = 0x17C20B47))

/-! ## Vector periods -/

/-- When the period of an FCT_PERIOD entry comes into use, with no bus phase running on the facet or at a granule boundary, the facet's period is the entry's value, or
the nearest limit where that lies outside 0x0000_0400_0000 to 0x186A_0000_0000; PER_CLIP then sets, and stands as it was otherwise. -/
def Obligations.PeriodsAreLimited : Prop :=
  ∀ (s t : State) (f e n : Nat), t = changeRate f e s ∨ t = switchRate f e n s →
    let p := s.get (FCT_PERIOD_PERIOD f e)
    (0x4000000 ≤ p → p ≤ 0x186A00000000 → (t.fct f).period = p ∧ t.on (FCT_TIMING_STAT_PER_CLIP f) = s.on (FCT_TIMING_STAT_PER_CLIP f)) ∧
    (p < 0x4000000 → (t.fct f).period = 0x4000000 ∧ t.on (FCT_TIMING_STAT_PER_CLIP f) = true) ∧
    (0x186A00000000 < p → (t.fct f).period = 0x186A00000000 ∧ t.on (FCT_TIMING_STAT_PER_CLIP f) = true)
end

