-- ==== Sys2Proof/Laws/Store.lean ====
section
/-!
SUPPORT. Sparse stores and byte memories: reading after writing, and the canonical form that every memory operation keeps.
-/

namespace Sys2Proof.Machine

variable {α : Type}

/-- Reading the key that was inserted gives the value. -/
theorem Store.find_insert_self (d : Nat → α) (m : Store α) (a : Nat) (v : α) : Store.find d (Store.insert a v m) a = v := by
  induction m with
  | nil => simp [Store.insert, Store.find]
  | cons e m ih =>
    obtain ⟨k, w⟩ := e
    simp only [Store.insert]
    split
    · simp [Store.find]
    · split
      · simp [Store.find]
      · rename_i h
        simp [Store.find, Ne.symm h, ih]

/-- Inserting leaves every other key alone. -/
theorem Store.find_insert_ne (d : Nat → α) (m : Store α) {a b : Nat} (v : α) (h : b ≠ a) :
    Store.find d (Store.insert a v m) b = Store.find d m b := by
  induction m with
  | nil => simp [Store.insert, Store.find, Ne.symm h]
  | cons e m ih =>
    obtain ⟨k, w⟩ := e
    simp only [Store.insert]
    split
    · simp [Store.find, Ne.symm h]
    · split
      · rename_i hk
        subst hk
        simp [Store.find, Ne.symm h]
      · simp [Store.find, ih]

/-- Removing a key leaves its default. -/
theorem Store.find_erase_self (d : Nat → α) (m : Store α) (a : Nat) : Store.find d (Store.erase a m) a = d a := by
  induction m with
  | nil => rfl
  | cons e m ih =>
    obtain ⟨k, w⟩ := e
    by_cases hk : k = a
    · simpa [Store.erase, hk] using ih
    · have : Store.erase a ((k, w) :: m) = (k, w) :: Store.erase a m := by simp [Store.erase, hk]
      simp [this, Store.find, hk, ih]

/-- Removing a key leaves every other key alone. -/
theorem Store.find_erase_ne (d : Nat → α) (m : Store α) {a b : Nat} (h : b ≠ a) :
    Store.find d (Store.erase a m) b = Store.find d m b := by
  induction m with
  | nil => rfl
  | cons e m ih =>
    obtain ⟨k, w⟩ := e
    by_cases hk : k = a
    · have : Store.erase a ((k, w) :: m) = Store.erase a m := by simp [Store.erase, hk]
      rw [this, ih]
      simp [Store.find, hk, Ne.symm h]
    · have : Store.erase a ((k, w) :: m) = (k, w) :: Store.erase a m := by simp [Store.erase, hk]
      simp [this, Store.find, ih]

/-- The entries after an insertion. -/
theorem Store.mem_insert {a : Nat} {v : α} {m : Store α} {e : Nat × α} (h : e ∈ Store.insert a v m) : e = (a, v) ∨ e ∈ m := by
  induction m with
  | nil => simpa [Store.insert] using h
  | cons x m ih =>
    obtain ⟨k, w⟩ := x
    simp only [Store.insert] at h
    split at h
    · rcases List.mem_cons.1 h with h | h
      · exact .inl h
      · exact .inr h
    · split at h
      · rcases List.mem_cons.1 h with h | h
        · exact .inl h
        · exact .inr (List.mem_cons_of_mem _ h)
      · rcases List.mem_cons.1 h with h | h
        · exact .inr (h ▸ List.mem_cons_self ..)
        · exact (ih h).imp id (List.mem_cons_of_mem _)

variable [DecidableEq α]

/-- Reading what was written. -/
@[simp] theorem Store.find_put_self (d : Nat → α) (m : Store α) (a : Nat) (v : α) : Store.find d (Store.put d m a v) a = v := by
  unfold Store.put
  split
  · rename_i h; rw [Store.find_erase_self, h]
  · exact Store.find_insert_self d m a v

/-- A write leaves every other key alone. -/
theorem Store.find_put_ne (d : Nat → α) (m : Store α) {a b : Nat} (v : α) (h : b ≠ a) :
    Store.find d (Store.put d m a v) b = Store.find d m b := by
  unfold Store.put
  split
  · exact Store.find_erase_ne d m h
  · exact Store.find_insert_ne d m v h

/-- Reading any key after a write. -/
theorem Store.find_put (d : Nat → α) (m : Store α) (a b : Nat) (v : α) :
    Store.find d (Store.put d m a v) b = if b = a then v else Store.find d m b := by
  split
  · rename_i h; rw [h, Store.find_put_self]
  · rename_i h; exact Store.find_put_ne d m v h

/-- The canonical form in terms of all entries: no entry is a default, and the keys rise strictly. -/
theorem Store.wf_iff (d : Nat → α) (m : Store α) :
    Store.wf d m = true ↔ (∀ e ∈ m, e.2 ≠ d e.1) ∧ m.Pairwise (fun x y => x.1 < y.1) := by
  induction m with
  | nil => simp [Store.wf]
  | cons e m ih =>
    obtain ⟨k, v⟩ := e
    match m, ih with
    | [], _ => simp [Store.wf]
    | (k', v') :: r, ih =>
      have unf : Store.wf d ((k, v) :: (k', v') :: r) =
          (decide (v ≠ d k) && decide (k < k') && Store.wf d ((k', v') :: r)) := rfl
      rw [unf, Bool.and_eq_true, Bool.and_eq_true, ih, decide_eq_true_eq, decide_eq_true_eq]
      constructor
      · rintro ⟨⟨h1, h2⟩, h3, h4⟩
        refine ⟨?_, ?_⟩
        · intro e he
          rcases List.mem_cons.1 he with rfl | he
          · exact h1
          · exact h3 e he
        · refine List.pairwise_cons.2 ⟨?_, h4⟩
          intro y hy
          rcases List.mem_cons.1 hy with rfl | hy
          · exact h2
          · exact Nat.lt_trans h2 ((List.pairwise_cons.1 h4).1 y hy)
      · rintro ⟨h3, h4⟩
        have h5 := List.pairwise_cons.1 h4
        exact ⟨⟨h3 _ (List.mem_cons_self ..), h5.1 _ (List.mem_cons_self ..)⟩,
          fun e he => h3 e (List.mem_cons_of_mem _ he), h5.2⟩

/-- Dropping entries keeps the canonical form. -/
theorem Store.wf_filter (d : Nat → α) (m : Store α) (p : Nat × α → Bool) (h : Store.wf d m = true) :
    Store.wf d (m.filter p) = true := by
  rw [Store.wf_iff] at h ⊢
  exact ⟨fun e he => h.1 e (List.mem_filter.1 he).1, h.2.filter p⟩

/-- Inserting a value that is no default keeps the canonical form. -/
theorem Store.wf_insert (d : Nat → α) (m : Store α) (a : Nat) (v : α) (hv : v ≠ d a) (h : Store.wf d m = true) :
    Store.wf d (Store.insert a v m) = true := by
  rw [Store.wf_iff] at h ⊢
  refine ⟨fun e he => ?_, ?_⟩
  · rcases Store.mem_insert he with rfl | he
    · exact hv
    · exact h.1 e he
  · obtain ⟨-, h⟩ := h
    induction m with
    | nil => simp [Store.insert]
    | cons x m ih =>
      obtain ⟨k, w⟩ := x
      have hp := List.pairwise_cons.1 h
      simp only [Store.insert]
      split
      · rename_i hk
        refine List.pairwise_cons.2 ⟨?_, h⟩
        intro y hy
        rcases List.mem_cons.1 hy with rfl | hy
        · exact hk
        · exact Nat.lt_trans hk (hp.1 y hy)
      · split
        · rename_i hk
          subst hk
          exact List.pairwise_cons.2 ⟨fun y hy => hp.1 y hy, hp.2⟩
        · refine List.pairwise_cons.2 ⟨?_, ih hp.2⟩
          intro y hy
          rcases Store.mem_insert hy with rfl | hy
          · change k < a
            omega
          · exact hp.1 y hy

/-- A write keeps the canonical form. -/
theorem Store.wf_put (d : Nat → α) (m : Store α) (a : Nat) (v : α) (h : Store.wf d m = true) :
    Store.wf d (Store.put d m a v) = true := by
  unfold Store.put
  split
  · exact Store.wf_filter d m _ h
  · rename_i hv; exact Store.wf_insert d m a v hv h

end Sys2Proof.Machine
end

