-- ==== Sys2Proof/Laws/Memory.lean ====
section
/-!
SUPPORT. Byte memories: every operation over them keeps the canonical form, and a byte reads as it was written.
-/

namespace Sys2Proof.Machine

/-- Writing a byte keeps the canonical form. -/
theorem Memory.wf_putByte (m : Mem) (a : Nat) (v : Byte) (h : Memory.wf zeroByte m = true) :
    Memory.wf zeroByte (Memory.putByte m a v) = true := Store.wf_put zeroByte m a v h

/-- Writing bytes keeps the canonical form. -/
theorem Memory.wf_putBytes (bs : List Byte) (m : Mem) (a : Nat) (h : Memory.wf zeroByte m = true) :
    Memory.wf zeroByte (Memory.putBytes m a bs) = true := by
  induction bs generalizing m a with
  | nil => exact h
  | cons b bs ih => exact ih _ _ (Memory.wf_putByte m a b h)

/-- Writing a little-endian number keeps the canonical form. -/
theorem Memory.wf_putWord (m : Mem) (a n v : Nat) (h : Memory.wf zeroByte m = true) :
    Memory.wf zeroByte (Memory.putWord m a n v) = true := Memory.wf_putBytes _ m a h

/-- Dropping bytes, as the clears of the column map do, keeps the canonical form. -/
theorem Memory.wf_filter (d : Nat → Byte) (m : Mem) (p : Host.Cell → Bool) (h : Memory.wf d m = true) :
    Memory.wf d (m.filter p) = true := Store.wf_filter d m p h

/-- Programming the boot NVM keeps the canonical form. -/
theorem flash_wf_program (bs : List Byte) (m : Mem) (a : Nat) (h : Memory.wf erasedByte m = true) :
    Memory.wf erasedByte (flashProgram m a bs) = true := by
  induction bs generalizing m a with
  | nil => exact h
  | cons b bs ih => exact ih _ _ (Store.wf_put erasedByte m a _ h)

/-- Erasing the boot NVM keeps the canonical form. -/
theorem flash_wf_erase (m : Mem) (a n : Nat) (h : Memory.wf erasedByte m = true) :
    Memory.wf erasedByte (flashErase m a n) = true := Store.wf_filter erasedByte m _ h

/-- A byte that was written reads back, and every other byte reads as before. -/
theorem Memory.byte_putByte (m : Mem) (a b : Nat) (v : Byte) :
    Memory.byte (Memory.putByte m a v) b = if b = a then v else Memory.byte m b := Store.find_put zeroByte m a b v

/-- A byte outside the bytes written reads as before. -/
theorem Memory.byte_putBytes_outside (bs : List Byte) (m : Mem) (a b : Nat) (h : b < a ∨ a + bs.length ≤ b) :
    Memory.byte (Memory.putBytes m a bs) b = Memory.byte m b := by
  induction bs generalizing m a with
  | nil => rfl
  | cons x bs ih =>
    simp only [List.length_cons] at h
    simp only [Memory.putBytes]
    rw [ih _ _ (by omega), Memory.byte_putByte, if_neg (by omega)]

/-- A byte among those written reads back. -/
theorem Memory.byte_putBytes_inside (bs : List Byte) (m : Mem) (a i : Nat) (h : i < bs.length) :
    Memory.byte (Memory.putBytes m a bs) (a + i) = bs[i] := by
  induction bs generalizing m a i with
  | nil => simp at h
  | cons x bs ih =>
    simp only [Memory.putBytes]
    cases i with
    | zero => rw [Memory.byte_putBytes_outside _ _ _ _ (by omega), Memory.byte_putByte]; simp
    | succ i =>
      have := ih (Memory.putByte m a x) (a + 1) i (by simpa using h)
      rw [show a + (i + 1) = a + 1 + i by omega, this]
      rfl

/-- The memories of the block right after reset are canonical. -/
theorem reset_memories_wf :
    Memory.wf zeroByte State.reset.pool = true ∧ Memory.wf zeroByte State.reset.ucode = true ∧
    Memory.wf zeroByte State.reset.stream = true ∧ Memory.wf zeroByte State.reset.cmap = true ∧
    Memory.wf erasedByte State.reset.flash = true := by decide

end Sys2Proof.Machine
end

