-- ==== Sys2Proof/Laws/State.lean ====
section
/-!
SUPPORT. What each update of the state leaves alone, and what it changes: one lemma for each field and update.
-/

namespace Sys2Proof.Machine

variable (s : State)

/-! ## State.setReg -/

@[simp] theorem State.setReg_regs (a : Nat) (v : Word64) : (s.setReg a v).regs = Store.put rstWord s.regs a v := rfl
@[simp] theorem State.setReg_shadow (a : Nat) (v : Word64) : (s.setReg a v).shadow = s.shadow := rfl
@[simp] theorem State.setReg_now (a : Nat) (v : Word64) : (s.setReg a v).now = s.now := rfl
@[simp] theorem State.setReg_elapsed (a : Nat) (v : Word64) : (s.setReg a v).elapsed = s.elapsed := rfl
@[simp] theorem State.setReg_icl (a : Nat) (v : Word64) : (s.setReg a v).icl = s.icl := rfl
@[simp] theorem State.setReg_dma (a : Nat) (v : Word64) : (s.setReg a v).dma = s.dma := rfl
@[simp] theorem State.setReg_apex (a : Nat) (v : Word64) : (s.setReg a v).apex = s.apex := rfl
@[simp] theorem State.setReg_fcl (a : Nat) (v : Word64) : (s.setReg a v).fcl = s.fcl := rfl
@[simp] theorem State.setReg_axs (a : Nat) (v : Word64) : (s.setReg a v).axs = s.axs := rfl
@[simp] theorem State.setReg_map (a : Nat) (v : Word64) : (s.setReg a v).map = s.map := rfl
@[simp] theorem State.setReg_facet (a : Nat) (v : Word64) : (s.setReg a v).facet = s.facet := rfl
@[simp] theorem State.setReg_rays (a : Nat) (v : Word64) : (s.setReg a v).rays = s.rays := rfl
@[simp] theorem State.setReg_chans (a : Nat) (v : Word64) : (s.setReg a v).chans = s.chans := rfl
@[simp] theorem State.setReg_waves (a : Nat) (v : Word64) : (s.setReg a v).waves = s.waves := rfl
@[simp] theorem State.setReg_adcs (a : Nat) (v : Word64) : (s.setReg a v).adcs = s.adcs := rfl
@[simp] theorem State.setReg_gates (a : Nat) (v : Word64) : (s.setReg a v).gates = s.gates := rfl
@[simp] theorem State.setReg_recover (a : Nat) (v : Word64) : (s.setReg a v).recover = s.recover := rfl
@[simp] theorem State.setReg_contact (a : Nat) (v : Word64) : (s.setReg a v).contact = s.contact := rfl
@[simp] theorem State.setReg_siteEdited (a : Nat) (v : Word64) : (s.setReg a v).siteEdited = s.siteEdited := rfl
@[simp] theorem State.setReg_siteMode (a : Nat) (v : Word64) : (s.setReg a v).siteMode = s.siteMode := rfl
@[simp] theorem State.setReg_pmuEnds (a : Nat) (v : Word64) : (s.setReg a v).pmuEnds = s.pmuEnds := rfl
@[simp] theorem State.setReg_lat (a : Nat) (v : Word64) : (s.setReg a v).lat = s.lat := rfl
@[simp] theorem State.setReg_tdc (a : Nat) (v : Word64) : (s.setReg a v).tdc = s.tdc := rfl
@[simp] theorem State.setReg_rc (a : Nat) (v : Word64) : (s.setReg a v).rc = s.rc := rfl
@[simp] theorem State.setReg_classes (a : Nat) (v : Word64) : (s.setReg a v).classes = s.classes := rfl
@[simp] theorem State.setReg_acq (a : Nat) (v : Word64) : (s.setReg a v).acq = s.acq := rfl
@[simp] theorem State.setReg_pmiAt (a : Nat) (v : Word64) : (s.setReg a v).pmiAt = s.pmiAt := rfl
@[simp] theorem State.setReg_arc (a : Nat) (v : Word64) : (s.setReg a v).arc = s.arc := rfl
@[simp] theorem State.setReg_therm (a : Nat) (v : Word64) : (s.setReg a v).therm = s.therm := rfl
@[simp] theorem State.setReg_maint (a : Nat) (v : Word64) : (s.setReg a v).maint = s.maint := rfl
@[simp] theorem State.setReg_spn (a : Nat) (v : Word64) : (s.setReg a v).spn = s.spn := rfl
@[simp] theorem State.setReg_smb (a : Nat) (v : Word64) : (s.setReg a v).smb = s.smb := rfl
@[simp] theorem State.setReg_otp (a : Nat) (v : Word64) : (s.setReg a v).otp = s.otp := rfl
@[simp] theorem State.setReg_pins (a : Nat) (v : Word64) : (s.setReg a v).pins = s.pins := rfl
@[simp] theorem State.setReg_jtag (a : Nat) (v : Word64) : (s.setReg a v).jtag = s.jtag := rfl
@[simp] theorem State.setReg_armed (a : Nat) (v : Word64) : (s.setReg a v).armed = s.armed := rfl
@[simp] theorem State.setReg_latches (a : Nat) (v : Word64) : (s.setReg a v).latches = s.latches := rfl
@[simp] theorem State.setReg_pool (a : Nat) (v : Word64) : (s.setReg a v).pool = s.pool := rfl
@[simp] theorem State.setReg_ucode (a : Nat) (v : Word64) : (s.setReg a v).ucode = s.ucode := rfl
@[simp] theorem State.setReg_stream (a : Nat) (v : Word64) : (s.setReg a v).stream = s.stream := rfl
@[simp] theorem State.setReg_cmap (a : Nat) (v : Word64) : (s.setReg a v).cmap = s.cmap := rfl
@[simp] theorem State.setReg_flash (a : Nat) (v : Word64) : (s.setReg a v).flash = s.flash := rfl
@[simp] theorem State.setReg_sent (a : Nat) (v : Word64) : (s.setReg a v).sent = s.sent := rfl
@[simp] theorem State.setReg_free (a : Nat) (v : Word64) : (s.setReg a v).free = s.free := rfl
@[simp] theorem State.setReg_pending (a : Nat) (v : Word64) : (s.setReg a v).pending = s.pending := rfl

/-! ## State.set -/

@[simp] theorem State.set_shadow (f : Fld) (v : Nat) : (s.set f v).shadow = s.shadow := rfl
@[simp] theorem State.set_now (f : Fld) (v : Nat) : (s.set f v).now = s.now := rfl
@[simp] theorem State.set_elapsed (f : Fld) (v : Nat) : (s.set f v).elapsed = s.elapsed := rfl
@[simp] theorem State.set_icl (f : Fld) (v : Nat) : (s.set f v).icl = s.icl := rfl
@[simp] theorem State.set_dma (f : Fld) (v : Nat) : (s.set f v).dma = s.dma := rfl
@[simp] theorem State.set_apex (f : Fld) (v : Nat) : (s.set f v).apex = s.apex := rfl
@[simp] theorem State.set_fcl (f : Fld) (v : Nat) : (s.set f v).fcl = s.fcl := rfl
@[simp] theorem State.set_axs (f : Fld) (v : Nat) : (s.set f v).axs = s.axs := rfl
@[simp] theorem State.set_map (f : Fld) (v : Nat) : (s.set f v).map = s.map := rfl
@[simp] theorem State.set_facet (f : Fld) (v : Nat) : (s.set f v).facet = s.facet := rfl
@[simp] theorem State.set_rays (f : Fld) (v : Nat) : (s.set f v).rays = s.rays := rfl
@[simp] theorem State.set_chans (f : Fld) (v : Nat) : (s.set f v).chans = s.chans := rfl
@[simp] theorem State.set_waves (f : Fld) (v : Nat) : (s.set f v).waves = s.waves := rfl
@[simp] theorem State.set_adcs (f : Fld) (v : Nat) : (s.set f v).adcs = s.adcs := rfl
@[simp] theorem State.set_gates (f : Fld) (v : Nat) : (s.set f v).gates = s.gates := rfl
@[simp] theorem State.set_recover (f : Fld) (v : Nat) : (s.set f v).recover = s.recover := rfl
@[simp] theorem State.set_contact (f : Fld) (v : Nat) : (s.set f v).contact = s.contact := rfl
@[simp] theorem State.set_siteEdited (f : Fld) (v : Nat) : (s.set f v).siteEdited = s.siteEdited := rfl
@[simp] theorem State.set_siteMode (f : Fld) (v : Nat) : (s.set f v).siteMode = s.siteMode := rfl
@[simp] theorem State.set_pmuEnds (f : Fld) (v : Nat) : (s.set f v).pmuEnds = s.pmuEnds := rfl
@[simp] theorem State.set_lat (f : Fld) (v : Nat) : (s.set f v).lat = s.lat := rfl
@[simp] theorem State.set_tdc (f : Fld) (v : Nat) : (s.set f v).tdc = s.tdc := rfl
@[simp] theorem State.set_rc (f : Fld) (v : Nat) : (s.set f v).rc = s.rc := rfl
@[simp] theorem State.set_classes (f : Fld) (v : Nat) : (s.set f v).classes = s.classes := rfl
@[simp] theorem State.set_acq (f : Fld) (v : Nat) : (s.set f v).acq = s.acq := rfl
@[simp] theorem State.set_pmiAt (f : Fld) (v : Nat) : (s.set f v).pmiAt = s.pmiAt := rfl
@[simp] theorem State.set_arc (f : Fld) (v : Nat) : (s.set f v).arc = s.arc := rfl
@[simp] theorem State.set_therm (f : Fld) (v : Nat) : (s.set f v).therm = s.therm := rfl
@[simp] theorem State.set_maint (f : Fld) (v : Nat) : (s.set f v).maint = s.maint := rfl
@[simp] theorem State.set_spn (f : Fld) (v : Nat) : (s.set f v).spn = s.spn := rfl
@[simp] theorem State.set_smb (f : Fld) (v : Nat) : (s.set f v).smb = s.smb := rfl
@[simp] theorem State.set_otp (f : Fld) (v : Nat) : (s.set f v).otp = s.otp := rfl
@[simp] theorem State.set_pins (f : Fld) (v : Nat) : (s.set f v).pins = s.pins := rfl
@[simp] theorem State.set_jtag (f : Fld) (v : Nat) : (s.set f v).jtag = s.jtag := rfl
@[simp] theorem State.set_armed (f : Fld) (v : Nat) : (s.set f v).armed = s.armed := rfl
@[simp] theorem State.set_latches (f : Fld) (v : Nat) : (s.set f v).latches = s.latches := rfl
@[simp] theorem State.set_pool (f : Fld) (v : Nat) : (s.set f v).pool = s.pool := rfl
@[simp] theorem State.set_ucode (f : Fld) (v : Nat) : (s.set f v).ucode = s.ucode := rfl
@[simp] theorem State.set_stream (f : Fld) (v : Nat) : (s.set f v).stream = s.stream := rfl
@[simp] theorem State.set_cmap (f : Fld) (v : Nat) : (s.set f v).cmap = s.cmap := rfl
@[simp] theorem State.set_flash (f : Fld) (v : Nat) : (s.set f v).flash = s.flash := rfl
@[simp] theorem State.set_sent (f : Fld) (v : Nat) : (s.set f v).sent = s.sent := rfl
@[simp] theorem State.set_free (f : Fld) (v : Nat) : (s.set f v).free = s.free := rfl
@[simp] theorem State.set_pending (f : Fld) (v : Nat) : (s.set f v).pending = s.pending := rfl

/-! ## State.send -/

@[simp] theorem State.send_regs (m : Msg) : (s.send m).regs = s.regs := rfl
@[simp] theorem State.send_shadow (m : Msg) : (s.send m).shadow = s.shadow := rfl
@[simp] theorem State.send_now (m : Msg) : (s.send m).now = s.now := rfl
@[simp] theorem State.send_elapsed (m : Msg) : (s.send m).elapsed = s.elapsed := rfl
@[simp] theorem State.send_icl (m : Msg) : (s.send m).icl = s.icl := rfl
@[simp] theorem State.send_dma (m : Msg) : (s.send m).dma = s.dma := rfl
@[simp] theorem State.send_apex (m : Msg) : (s.send m).apex = s.apex := rfl
@[simp] theorem State.send_fcl (m : Msg) : (s.send m).fcl = s.fcl := rfl
@[simp] theorem State.send_axs (m : Msg) : (s.send m).axs = s.axs := rfl
@[simp] theorem State.send_map (m : Msg) : (s.send m).map = s.map := rfl
@[simp] theorem State.send_facet (m : Msg) : (s.send m).facet = s.facet := rfl
@[simp] theorem State.send_rays (m : Msg) : (s.send m).rays = s.rays := rfl
@[simp] theorem State.send_chans (m : Msg) : (s.send m).chans = s.chans := rfl
@[simp] theorem State.send_waves (m : Msg) : (s.send m).waves = s.waves := rfl
@[simp] theorem State.send_adcs (m : Msg) : (s.send m).adcs = s.adcs := rfl
@[simp] theorem State.send_gates (m : Msg) : (s.send m).gates = s.gates := rfl
@[simp] theorem State.send_recover (m : Msg) : (s.send m).recover = s.recover := rfl
@[simp] theorem State.send_contact (m : Msg) : (s.send m).contact = s.contact := rfl
@[simp] theorem State.send_siteEdited (m : Msg) : (s.send m).siteEdited = s.siteEdited := rfl
@[simp] theorem State.send_siteMode (m : Msg) : (s.send m).siteMode = s.siteMode := rfl
@[simp] theorem State.send_pmuEnds (m : Msg) : (s.send m).pmuEnds = s.pmuEnds := rfl
@[simp] theorem State.send_lat (m : Msg) : (s.send m).lat = s.lat := rfl
@[simp] theorem State.send_tdc (m : Msg) : (s.send m).tdc = s.tdc := rfl
@[simp] theorem State.send_rc (m : Msg) : (s.send m).rc = s.rc := rfl
@[simp] theorem State.send_classes (m : Msg) : (s.send m).classes = s.classes := rfl
@[simp] theorem State.send_acq (m : Msg) : (s.send m).acq = s.acq := rfl
@[simp] theorem State.send_pmiAt (m : Msg) : (s.send m).pmiAt = s.pmiAt := rfl
@[simp] theorem State.send_arc (m : Msg) : (s.send m).arc = s.arc := rfl
@[simp] theorem State.send_therm (m : Msg) : (s.send m).therm = s.therm := rfl
@[simp] theorem State.send_maint (m : Msg) : (s.send m).maint = s.maint := rfl
@[simp] theorem State.send_spn (m : Msg) : (s.send m).spn = s.spn := rfl
@[simp] theorem State.send_smb (m : Msg) : (s.send m).smb = s.smb := rfl
@[simp] theorem State.send_otp (m : Msg) : (s.send m).otp = s.otp := rfl
@[simp] theorem State.send_pins (m : Msg) : (s.send m).pins = s.pins := rfl
@[simp] theorem State.send_jtag (m : Msg) : (s.send m).jtag = s.jtag := rfl
@[simp] theorem State.send_armed (m : Msg) : (s.send m).armed = s.armed := rfl
@[simp] theorem State.send_latches (m : Msg) : (s.send m).latches = s.latches := rfl
@[simp] theorem State.send_pool (m : Msg) : (s.send m).pool = s.pool := rfl
@[simp] theorem State.send_ucode (m : Msg) : (s.send m).ucode = s.ucode := rfl
@[simp] theorem State.send_stream (m : Msg) : (s.send m).stream = s.stream := rfl
@[simp] theorem State.send_cmap (m : Msg) : (s.send m).cmap = s.cmap := rfl
@[simp] theorem State.send_flash (m : Msg) : (s.send m).flash = s.flash := rfl
@[simp] theorem State.send_sent (m : Msg) : (s.send m).sent = s.sent ++ [m] := rfl
@[simp] theorem State.send_free (m : Msg) : (s.send m).free = s.free := rfl
@[simp] theorem State.send_pending (m : Msg) : (s.send m).pending = s.pending := rfl

/-! ## State.tick -/

@[simp] theorem State.tick_regs (dt : Nat) : (s.tick dt).regs = s.regs := rfl
@[simp] theorem State.tick_shadow (dt : Nat) : (s.tick dt).shadow = s.shadow := rfl
@[simp] theorem State.tick_now (dt : Nat) : (s.tick dt).now = (if s.on Reg.AXS_STAT_LOCKED then (s.now + dt) % 2 ^ 64 else s.now) := rfl
@[simp] theorem State.tick_elapsed (dt : Nat) : (s.tick dt).elapsed = s.elapsed + dt := rfl
@[simp] theorem State.tick_icl (dt : Nat) : (s.tick dt).icl = s.icl := rfl
@[simp] theorem State.tick_dma (dt : Nat) : (s.tick dt).dma = s.dma := rfl
@[simp] theorem State.tick_apex (dt : Nat) : (s.tick dt).apex = s.apex := rfl
@[simp] theorem State.tick_fcl (dt : Nat) : (s.tick dt).fcl = s.fcl := rfl
@[simp] theorem State.tick_axs (dt : Nat) : (s.tick dt).axs = s.axs := rfl
@[simp] theorem State.tick_map (dt : Nat) : (s.tick dt).map = s.map := rfl
@[simp] theorem State.tick_facet (dt : Nat) : (s.tick dt).facet = s.facet := rfl
@[simp] theorem State.tick_rays (dt : Nat) : (s.tick dt).rays = s.rays := rfl
@[simp] theorem State.tick_chans (dt : Nat) : (s.tick dt).chans = s.chans := rfl
@[simp] theorem State.tick_waves (dt : Nat) : (s.tick dt).waves = s.waves := rfl
@[simp] theorem State.tick_adcs (dt : Nat) : (s.tick dt).adcs = s.adcs := rfl
@[simp] theorem State.tick_gates (dt : Nat) : (s.tick dt).gates = s.gates := rfl
@[simp] theorem State.tick_recover (dt : Nat) : (s.tick dt).recover = s.recover := rfl
@[simp] theorem State.tick_contact (dt : Nat) : (s.tick dt).contact = s.contact := rfl
@[simp] theorem State.tick_siteEdited (dt : Nat) : (s.tick dt).siteEdited = s.siteEdited := rfl
@[simp] theorem State.tick_siteMode (dt : Nat) : (s.tick dt).siteMode = s.siteMode := rfl
@[simp] theorem State.tick_pmuEnds (dt : Nat) : (s.tick dt).pmuEnds = s.pmuEnds := rfl
@[simp] theorem State.tick_lat (dt : Nat) : (s.tick dt).lat = s.lat := rfl
@[simp] theorem State.tick_tdc (dt : Nat) : (s.tick dt).tdc = s.tdc := rfl
@[simp] theorem State.tick_rc (dt : Nat) : (s.tick dt).rc = s.rc := rfl
@[simp] theorem State.tick_classes (dt : Nat) : (s.tick dt).classes = s.classes := rfl
@[simp] theorem State.tick_acq (dt : Nat) : (s.tick dt).acq = s.acq := rfl
@[simp] theorem State.tick_pmiAt (dt : Nat) : (s.tick dt).pmiAt = s.pmiAt := rfl
@[simp] theorem State.tick_arc (dt : Nat) : (s.tick dt).arc = s.arc := rfl
@[simp] theorem State.tick_therm (dt : Nat) : (s.tick dt).therm = s.therm := rfl
@[simp] theorem State.tick_maint (dt : Nat) : (s.tick dt).maint = s.maint := rfl
@[simp] theorem State.tick_spn (dt : Nat) : (s.tick dt).spn = s.spn := rfl
@[simp] theorem State.tick_smb (dt : Nat) : (s.tick dt).smb = s.smb := rfl
@[simp] theorem State.tick_otp (dt : Nat) : (s.tick dt).otp = s.otp := rfl
@[simp] theorem State.tick_pins (dt : Nat) : (s.tick dt).pins = s.pins := rfl
@[simp] theorem State.tick_jtag (dt : Nat) : (s.tick dt).jtag = s.jtag := rfl
@[simp] theorem State.tick_armed (dt : Nat) : (s.tick dt).armed = s.armed := rfl
@[simp] theorem State.tick_latches (dt : Nat) : (s.tick dt).latches = s.latches := rfl
@[simp] theorem State.tick_pool (dt : Nat) : (s.tick dt).pool = s.pool := rfl
@[simp] theorem State.tick_ucode (dt : Nat) : (s.tick dt).ucode = s.ucode := rfl
@[simp] theorem State.tick_stream (dt : Nat) : (s.tick dt).stream = s.stream := rfl
@[simp] theorem State.tick_cmap (dt : Nat) : (s.tick dt).cmap = s.cmap := rfl
@[simp] theorem State.tick_flash (dt : Nat) : (s.tick dt).flash = s.flash := rfl
@[simp] theorem State.tick_sent (dt : Nat) : (s.tick dt).sent = s.sent := rfl
@[simp] theorem State.tick_free (dt : Nat) : (s.tick dt).free = s.free := rfl
@[simp] theorem State.tick_pending (dt : Nat) : (s.tick dt).pending = s.pending := rfl

/-! ## State.withPending -/

@[simp] theorem State.withPending_regs (q : List Instr) : (s.withPending q).regs = s.regs := rfl
@[simp] theorem State.withPending_shadow (q : List Instr) : (s.withPending q).shadow = s.shadow := rfl
@[simp] theorem State.withPending_now (q : List Instr) : (s.withPending q).now = s.now := rfl
@[simp] theorem State.withPending_elapsed (q : List Instr) : (s.withPending q).elapsed = s.elapsed := rfl
@[simp] theorem State.withPending_icl (q : List Instr) : (s.withPending q).icl = s.icl := rfl
@[simp] theorem State.withPending_dma (q : List Instr) : (s.withPending q).dma = s.dma := rfl
@[simp] theorem State.withPending_apex (q : List Instr) : (s.withPending q).apex = s.apex := rfl
@[simp] theorem State.withPending_fcl (q : List Instr) : (s.withPending q).fcl = s.fcl := rfl
@[simp] theorem State.withPending_axs (q : List Instr) : (s.withPending q).axs = s.axs := rfl
@[simp] theorem State.withPending_map (q : List Instr) : (s.withPending q).map = s.map := rfl
@[simp] theorem State.withPending_facet (q : List Instr) : (s.withPending q).facet = s.facet := rfl
@[simp] theorem State.withPending_rays (q : List Instr) : (s.withPending q).rays = s.rays := rfl
@[simp] theorem State.withPending_chans (q : List Instr) : (s.withPending q).chans = s.chans := rfl
@[simp] theorem State.withPending_waves (q : List Instr) : (s.withPending q).waves = s.waves := rfl
@[simp] theorem State.withPending_adcs (q : List Instr) : (s.withPending q).adcs = s.adcs := rfl
@[simp] theorem State.withPending_gates (q : List Instr) : (s.withPending q).gates = s.gates := rfl
@[simp] theorem State.withPending_recover (q : List Instr) : (s.withPending q).recover = s.recover := rfl
@[simp] theorem State.withPending_contact (q : List Instr) : (s.withPending q).contact = s.contact := rfl
@[simp] theorem State.withPending_siteEdited (q : List Instr) : (s.withPending q).siteEdited = s.siteEdited := rfl
@[simp] theorem State.withPending_siteMode (q : List Instr) : (s.withPending q).siteMode = s.siteMode := rfl
@[simp] theorem State.withPending_pmuEnds (q : List Instr) : (s.withPending q).pmuEnds = s.pmuEnds := rfl
@[simp] theorem State.withPending_lat (q : List Instr) : (s.withPending q).lat = s.lat := rfl
@[simp] theorem State.withPending_tdc (q : List Instr) : (s.withPending q).tdc = s.tdc := rfl
@[simp] theorem State.withPending_rc (q : List Instr) : (s.withPending q).rc = s.rc := rfl
@[simp] theorem State.withPending_classes (q : List Instr) : (s.withPending q).classes = s.classes := rfl
@[simp] theorem State.withPending_acq (q : List Instr) : (s.withPending q).acq = s.acq := rfl
@[simp] theorem State.withPending_pmiAt (q : List Instr) : (s.withPending q).pmiAt = s.pmiAt := rfl
@[simp] theorem State.withPending_arc (q : List Instr) : (s.withPending q).arc = s.arc := rfl
@[simp] theorem State.withPending_therm (q : List Instr) : (s.withPending q).therm = s.therm := rfl
@[simp] theorem State.withPending_maint (q : List Instr) : (s.withPending q).maint = s.maint := rfl
@[simp] theorem State.withPending_spn (q : List Instr) : (s.withPending q).spn = s.spn := rfl
@[simp] theorem State.withPending_smb (q : List Instr) : (s.withPending q).smb = s.smb := rfl
@[simp] theorem State.withPending_otp (q : List Instr) : (s.withPending q).otp = s.otp := rfl
@[simp] theorem State.withPending_pins (q : List Instr) : (s.withPending q).pins = s.pins := rfl
@[simp] theorem State.withPending_jtag (q : List Instr) : (s.withPending q).jtag = s.jtag := rfl
@[simp] theorem State.withPending_armed (q : List Instr) : (s.withPending q).armed = s.armed := rfl
@[simp] theorem State.withPending_latches (q : List Instr) : (s.withPending q).latches = s.latches := rfl
@[simp] theorem State.withPending_pool (q : List Instr) : (s.withPending q).pool = s.pool := rfl
@[simp] theorem State.withPending_ucode (q : List Instr) : (s.withPending q).ucode = s.ucode := rfl
@[simp] theorem State.withPending_stream (q : List Instr) : (s.withPending q).stream = s.stream := rfl
@[simp] theorem State.withPending_cmap (q : List Instr) : (s.withPending q).cmap = s.cmap := rfl
@[simp] theorem State.withPending_flash (q : List Instr) : (s.withPending q).flash = s.flash := rfl
@[simp] theorem State.withPending_sent (q : List Instr) : (s.withPending q).sent = s.sent := rfl
@[simp] theorem State.withPending_free (q : List Instr) : (s.withPending q).free = s.free := rfl
@[simp] theorem State.withPending_pending (q : List Instr) : (s.withPending q).pending = q := rfl

/-! ## modFcl -/

@[simp] theorem modFcl_regs (g : FclState → FclState) : (modFcl g s).regs = s.regs := rfl
@[simp] theorem modFcl_shadow (g : FclState → FclState) : (modFcl g s).shadow = s.shadow := rfl
@[simp] theorem modFcl_now (g : FclState → FclState) : (modFcl g s).now = s.now := rfl
@[simp] theorem modFcl_elapsed (g : FclState → FclState) : (modFcl g s).elapsed = s.elapsed := rfl
@[simp] theorem modFcl_icl (g : FclState → FclState) : (modFcl g s).icl = s.icl := rfl
@[simp] theorem modFcl_dma (g : FclState → FclState) : (modFcl g s).dma = s.dma := rfl
@[simp] theorem modFcl_apex (g : FclState → FclState) : (modFcl g s).apex = s.apex := rfl
@[simp] theorem modFcl_fcl (g : FclState → FclState) : (modFcl g s).fcl = g s.fcl := rfl
@[simp] theorem modFcl_axs (g : FclState → FclState) : (modFcl g s).axs = s.axs := rfl
@[simp] theorem modFcl_map (g : FclState → FclState) : (modFcl g s).map = s.map := rfl
@[simp] theorem modFcl_facet (g : FclState → FclState) : (modFcl g s).facet = s.facet := rfl
@[simp] theorem modFcl_rays (g : FclState → FclState) : (modFcl g s).rays = s.rays := rfl
@[simp] theorem modFcl_chans (g : FclState → FclState) : (modFcl g s).chans = s.chans := rfl
@[simp] theorem modFcl_waves (g : FclState → FclState) : (modFcl g s).waves = s.waves := rfl
@[simp] theorem modFcl_adcs (g : FclState → FclState) : (modFcl g s).adcs = s.adcs := rfl
@[simp] theorem modFcl_gates (g : FclState → FclState) : (modFcl g s).gates = s.gates := rfl
@[simp] theorem modFcl_recover (g : FclState → FclState) : (modFcl g s).recover = s.recover := rfl
@[simp] theorem modFcl_contact (g : FclState → FclState) : (modFcl g s).contact = s.contact := rfl
@[simp] theorem modFcl_siteEdited (g : FclState → FclState) : (modFcl g s).siteEdited = s.siteEdited := rfl
@[simp] theorem modFcl_siteMode (g : FclState → FclState) : (modFcl g s).siteMode = s.siteMode := rfl
@[simp] theorem modFcl_pmuEnds (g : FclState → FclState) : (modFcl g s).pmuEnds = s.pmuEnds := rfl
@[simp] theorem modFcl_lat (g : FclState → FclState) : (modFcl g s).lat = s.lat := rfl
@[simp] theorem modFcl_tdc (g : FclState → FclState) : (modFcl g s).tdc = s.tdc := rfl
@[simp] theorem modFcl_rc (g : FclState → FclState) : (modFcl g s).rc = s.rc := rfl
@[simp] theorem modFcl_classes (g : FclState → FclState) : (modFcl g s).classes = s.classes := rfl
@[simp] theorem modFcl_acq (g : FclState → FclState) : (modFcl g s).acq = s.acq := rfl
@[simp] theorem modFcl_pmiAt (g : FclState → FclState) : (modFcl g s).pmiAt = s.pmiAt := rfl
@[simp] theorem modFcl_arc (g : FclState → FclState) : (modFcl g s).arc = s.arc := rfl
@[simp] theorem modFcl_therm (g : FclState → FclState) : (modFcl g s).therm = s.therm := rfl
@[simp] theorem modFcl_maint (g : FclState → FclState) : (modFcl g s).maint = s.maint := rfl
@[simp] theorem modFcl_spn (g : FclState → FclState) : (modFcl g s).spn = s.spn := rfl
@[simp] theorem modFcl_smb (g : FclState → FclState) : (modFcl g s).smb = s.smb := rfl
@[simp] theorem modFcl_otp (g : FclState → FclState) : (modFcl g s).otp = s.otp := rfl
@[simp] theorem modFcl_pins (g : FclState → FclState) : (modFcl g s).pins = s.pins := rfl
@[simp] theorem modFcl_jtag (g : FclState → FclState) : (modFcl g s).jtag = s.jtag := rfl
@[simp] theorem modFcl_armed (g : FclState → FclState) : (modFcl g s).armed = s.armed := rfl
@[simp] theorem modFcl_latches (g : FclState → FclState) : (modFcl g s).latches = s.latches := rfl
@[simp] theorem modFcl_pool (g : FclState → FclState) : (modFcl g s).pool = s.pool := rfl
@[simp] theorem modFcl_ucode (g : FclState → FclState) : (modFcl g s).ucode = s.ucode := rfl
@[simp] theorem modFcl_stream (g : FclState → FclState) : (modFcl g s).stream = s.stream := rfl
@[simp] theorem modFcl_cmap (g : FclState → FclState) : (modFcl g s).cmap = s.cmap := rfl
@[simp] theorem modFcl_flash (g : FclState → FclState) : (modFcl g s).flash = s.flash := rfl
@[simp] theorem modFcl_sent (g : FclState → FclState) : (modFcl g s).sent = s.sent := rfl
@[simp] theorem modFcl_free (g : FclState → FclState) : (modFcl g s).free = s.free := rfl
@[simp] theorem modFcl_pending (g : FclState → FclState) : (modFcl g s).pending = s.pending := rfl

/-! ## modSmb -/

@[simp] theorem modSmb_regs (g : SmbState → SmbState) : (modSmb g s).regs = s.regs := rfl
@[simp] theorem modSmb_shadow (g : SmbState → SmbState) : (modSmb g s).shadow = s.shadow := rfl
@[simp] theorem modSmb_now (g : SmbState → SmbState) : (modSmb g s).now = s.now := rfl
@[simp] theorem modSmb_elapsed (g : SmbState → SmbState) : (modSmb g s).elapsed = s.elapsed := rfl
@[simp] theorem modSmb_icl (g : SmbState → SmbState) : (modSmb g s).icl = s.icl := rfl
@[simp] theorem modSmb_dma (g : SmbState → SmbState) : (modSmb g s).dma = s.dma := rfl
@[simp] theorem modSmb_apex (g : SmbState → SmbState) : (modSmb g s).apex = s.apex := rfl
@[simp] theorem modSmb_fcl (g : SmbState → SmbState) : (modSmb g s).fcl = s.fcl := rfl
@[simp] theorem modSmb_axs (g : SmbState → SmbState) : (modSmb g s).axs = s.axs := rfl
@[simp] theorem modSmb_map (g : SmbState → SmbState) : (modSmb g s).map = s.map := rfl
@[simp] theorem modSmb_facet (g : SmbState → SmbState) : (modSmb g s).facet = s.facet := rfl
@[simp] theorem modSmb_rays (g : SmbState → SmbState) : (modSmb g s).rays = s.rays := rfl
@[simp] theorem modSmb_chans (g : SmbState → SmbState) : (modSmb g s).chans = s.chans := rfl
@[simp] theorem modSmb_waves (g : SmbState → SmbState) : (modSmb g s).waves = s.waves := rfl
@[simp] theorem modSmb_adcs (g : SmbState → SmbState) : (modSmb g s).adcs = s.adcs := rfl
@[simp] theorem modSmb_gates (g : SmbState → SmbState) : (modSmb g s).gates = s.gates := rfl
@[simp] theorem modSmb_recover (g : SmbState → SmbState) : (modSmb g s).recover = s.recover := rfl
@[simp] theorem modSmb_contact (g : SmbState → SmbState) : (modSmb g s).contact = s.contact := rfl
@[simp] theorem modSmb_siteEdited (g : SmbState → SmbState) : (modSmb g s).siteEdited = s.siteEdited := rfl
@[simp] theorem modSmb_siteMode (g : SmbState → SmbState) : (modSmb g s).siteMode = s.siteMode := rfl
@[simp] theorem modSmb_pmuEnds (g : SmbState → SmbState) : (modSmb g s).pmuEnds = s.pmuEnds := rfl
@[simp] theorem modSmb_lat (g : SmbState → SmbState) : (modSmb g s).lat = s.lat := rfl
@[simp] theorem modSmb_tdc (g : SmbState → SmbState) : (modSmb g s).tdc = s.tdc := rfl
@[simp] theorem modSmb_rc (g : SmbState → SmbState) : (modSmb g s).rc = s.rc := rfl
@[simp] theorem modSmb_classes (g : SmbState → SmbState) : (modSmb g s).classes = s.classes := rfl
@[simp] theorem modSmb_acq (g : SmbState → SmbState) : (modSmb g s).acq = s.acq := rfl
@[simp] theorem modSmb_pmiAt (g : SmbState → SmbState) : (modSmb g s).pmiAt = s.pmiAt := rfl
@[simp] theorem modSmb_arc (g : SmbState → SmbState) : (modSmb g s).arc = s.arc := rfl
@[simp] theorem modSmb_therm (g : SmbState → SmbState) : (modSmb g s).therm = s.therm := rfl
@[simp] theorem modSmb_maint (g : SmbState → SmbState) : (modSmb g s).maint = s.maint := rfl
@[simp] theorem modSmb_spn (g : SmbState → SmbState) : (modSmb g s).spn = s.spn := rfl
@[simp] theorem modSmb_smb (g : SmbState → SmbState) : (modSmb g s).smb = g s.smb := rfl
@[simp] theorem modSmb_otp (g : SmbState → SmbState) : (modSmb g s).otp = s.otp := rfl
@[simp] theorem modSmb_pins (g : SmbState → SmbState) : (modSmb g s).pins = s.pins := rfl
@[simp] theorem modSmb_jtag (g : SmbState → SmbState) : (modSmb g s).jtag = s.jtag := rfl
@[simp] theorem modSmb_armed (g : SmbState → SmbState) : (modSmb g s).armed = s.armed := rfl
@[simp] theorem modSmb_latches (g : SmbState → SmbState) : (modSmb g s).latches = s.latches := rfl
@[simp] theorem modSmb_pool (g : SmbState → SmbState) : (modSmb g s).pool = s.pool := rfl
@[simp] theorem modSmb_ucode (g : SmbState → SmbState) : (modSmb g s).ucode = s.ucode := rfl
@[simp] theorem modSmb_stream (g : SmbState → SmbState) : (modSmb g s).stream = s.stream := rfl
@[simp] theorem modSmb_cmap (g : SmbState → SmbState) : (modSmb g s).cmap = s.cmap := rfl
@[simp] theorem modSmb_flash (g : SmbState → SmbState) : (modSmb g s).flash = s.flash := rfl
@[simp] theorem modSmb_sent (g : SmbState → SmbState) : (modSmb g s).sent = s.sent := rfl
@[simp] theorem modSmb_free (g : SmbState → SmbState) : (modSmb g s).free = s.free := rfl
@[simp] theorem modSmb_pending (g : SmbState → SmbState) : (modSmb g s).pending = s.pending := rfl

/-! ## modSpn -/

@[simp] theorem modSpn_regs (g : SpnState → SpnState) : (modSpn g s).regs = s.regs := rfl
@[simp] theorem modSpn_shadow (g : SpnState → SpnState) : (modSpn g s).shadow = s.shadow := rfl
@[simp] theorem modSpn_now (g : SpnState → SpnState) : (modSpn g s).now = s.now := rfl
@[simp] theorem modSpn_elapsed (g : SpnState → SpnState) : (modSpn g s).elapsed = s.elapsed := rfl
@[simp] theorem modSpn_icl (g : SpnState → SpnState) : (modSpn g s).icl = s.icl := rfl
@[simp] theorem modSpn_dma (g : SpnState → SpnState) : (modSpn g s).dma = s.dma := rfl
@[simp] theorem modSpn_apex (g : SpnState → SpnState) : (modSpn g s).apex = s.apex := rfl
@[simp] theorem modSpn_fcl (g : SpnState → SpnState) : (modSpn g s).fcl = s.fcl := rfl
@[simp] theorem modSpn_axs (g : SpnState → SpnState) : (modSpn g s).axs = s.axs := rfl
@[simp] theorem modSpn_map (g : SpnState → SpnState) : (modSpn g s).map = s.map := rfl
@[simp] theorem modSpn_facet (g : SpnState → SpnState) : (modSpn g s).facet = s.facet := rfl
@[simp] theorem modSpn_rays (g : SpnState → SpnState) : (modSpn g s).rays = s.rays := rfl
@[simp] theorem modSpn_chans (g : SpnState → SpnState) : (modSpn g s).chans = s.chans := rfl
@[simp] theorem modSpn_waves (g : SpnState → SpnState) : (modSpn g s).waves = s.waves := rfl
@[simp] theorem modSpn_adcs (g : SpnState → SpnState) : (modSpn g s).adcs = s.adcs := rfl
@[simp] theorem modSpn_gates (g : SpnState → SpnState) : (modSpn g s).gates = s.gates := rfl
@[simp] theorem modSpn_recover (g : SpnState → SpnState) : (modSpn g s).recover = s.recover := rfl
@[simp] theorem modSpn_contact (g : SpnState → SpnState) : (modSpn g s).contact = s.contact := rfl
@[simp] theorem modSpn_siteEdited (g : SpnState → SpnState) : (modSpn g s).siteEdited = s.siteEdited := rfl
@[simp] theorem modSpn_siteMode (g : SpnState → SpnState) : (modSpn g s).siteMode = s.siteMode := rfl
@[simp] theorem modSpn_pmuEnds (g : SpnState → SpnState) : (modSpn g s).pmuEnds = s.pmuEnds := rfl
@[simp] theorem modSpn_lat (g : SpnState → SpnState) : (modSpn g s).lat = s.lat := rfl
@[simp] theorem modSpn_tdc (g : SpnState → SpnState) : (modSpn g s).tdc = s.tdc := rfl
@[simp] theorem modSpn_rc (g : SpnState → SpnState) : (modSpn g s).rc = s.rc := rfl
@[simp] theorem modSpn_classes (g : SpnState → SpnState) : (modSpn g s).classes = s.classes := rfl
@[simp] theorem modSpn_acq (g : SpnState → SpnState) : (modSpn g s).acq = s.acq := rfl
@[simp] theorem modSpn_pmiAt (g : SpnState → SpnState) : (modSpn g s).pmiAt = s.pmiAt := rfl
@[simp] theorem modSpn_arc (g : SpnState → SpnState) : (modSpn g s).arc = s.arc := rfl
@[simp] theorem modSpn_therm (g : SpnState → SpnState) : (modSpn g s).therm = s.therm := rfl
@[simp] theorem modSpn_maint (g : SpnState → SpnState) : (modSpn g s).maint = s.maint := rfl
@[simp] theorem modSpn_spn (g : SpnState → SpnState) : (modSpn g s).spn = g s.spn := rfl
@[simp] theorem modSpn_smb (g : SpnState → SpnState) : (modSpn g s).smb = s.smb := rfl
@[simp] theorem modSpn_otp (g : SpnState → SpnState) : (modSpn g s).otp = s.otp := rfl
@[simp] theorem modSpn_pins (g : SpnState → SpnState) : (modSpn g s).pins = s.pins := rfl
@[simp] theorem modSpn_jtag (g : SpnState → SpnState) : (modSpn g s).jtag = s.jtag := rfl
@[simp] theorem modSpn_armed (g : SpnState → SpnState) : (modSpn g s).armed = s.armed := rfl
@[simp] theorem modSpn_latches (g : SpnState → SpnState) : (modSpn g s).latches = s.latches := rfl
@[simp] theorem modSpn_pool (g : SpnState → SpnState) : (modSpn g s).pool = s.pool := rfl
@[simp] theorem modSpn_ucode (g : SpnState → SpnState) : (modSpn g s).ucode = s.ucode := rfl
@[simp] theorem modSpn_stream (g : SpnState → SpnState) : (modSpn g s).stream = s.stream := rfl
@[simp] theorem modSpn_cmap (g : SpnState → SpnState) : (modSpn g s).cmap = s.cmap := rfl
@[simp] theorem modSpn_flash (g : SpnState → SpnState) : (modSpn g s).flash = s.flash := rfl
@[simp] theorem modSpn_sent (g : SpnState → SpnState) : (modSpn g s).sent = s.sent := rfl
@[simp] theorem modSpn_free (g : SpnState → SpnState) : (modSpn g s).free = s.free := rfl
@[simp] theorem modSpn_pending (g : SpnState → SpnState) : (modSpn g s).pending = s.pending := rfl

/-! ## modArc -/

@[simp] theorem modArc_regs (g : ArcState → ArcState) : (modArc g s).regs = s.regs := rfl
@[simp] theorem modArc_shadow (g : ArcState → ArcState) : (modArc g s).shadow = s.shadow := rfl
@[simp] theorem modArc_now (g : ArcState → ArcState) : (modArc g s).now = s.now := rfl
@[simp] theorem modArc_elapsed (g : ArcState → ArcState) : (modArc g s).elapsed = s.elapsed := rfl
@[simp] theorem modArc_icl (g : ArcState → ArcState) : (modArc g s).icl = s.icl := rfl
@[simp] theorem modArc_dma (g : ArcState → ArcState) : (modArc g s).dma = s.dma := rfl
@[simp] theorem modArc_apex (g : ArcState → ArcState) : (modArc g s).apex = s.apex := rfl
@[simp] theorem modArc_fcl (g : ArcState → ArcState) : (modArc g s).fcl = s.fcl := rfl
@[simp] theorem modArc_axs (g : ArcState → ArcState) : (modArc g s).axs = s.axs := rfl
@[simp] theorem modArc_map (g : ArcState → ArcState) : (modArc g s).map = s.map := rfl
@[simp] theorem modArc_facet (g : ArcState → ArcState) : (modArc g s).facet = s.facet := rfl
@[simp] theorem modArc_rays (g : ArcState → ArcState) : (modArc g s).rays = s.rays := rfl
@[simp] theorem modArc_chans (g : ArcState → ArcState) : (modArc g s).chans = s.chans := rfl
@[simp] theorem modArc_waves (g : ArcState → ArcState) : (modArc g s).waves = s.waves := rfl
@[simp] theorem modArc_adcs (g : ArcState → ArcState) : (modArc g s).adcs = s.adcs := rfl
@[simp] theorem modArc_gates (g : ArcState → ArcState) : (modArc g s).gates = s.gates := rfl
@[simp] theorem modArc_recover (g : ArcState → ArcState) : (modArc g s).recover = s.recover := rfl
@[simp] theorem modArc_contact (g : ArcState → ArcState) : (modArc g s).contact = s.contact := rfl
@[simp] theorem modArc_siteEdited (g : ArcState → ArcState) : (modArc g s).siteEdited = s.siteEdited := rfl
@[simp] theorem modArc_siteMode (g : ArcState → ArcState) : (modArc g s).siteMode = s.siteMode := rfl
@[simp] theorem modArc_pmuEnds (g : ArcState → ArcState) : (modArc g s).pmuEnds = s.pmuEnds := rfl
@[simp] theorem modArc_lat (g : ArcState → ArcState) : (modArc g s).lat = s.lat := rfl
@[simp] theorem modArc_tdc (g : ArcState → ArcState) : (modArc g s).tdc = s.tdc := rfl
@[simp] theorem modArc_rc (g : ArcState → ArcState) : (modArc g s).rc = s.rc := rfl
@[simp] theorem modArc_classes (g : ArcState → ArcState) : (modArc g s).classes = s.classes := rfl
@[simp] theorem modArc_acq (g : ArcState → ArcState) : (modArc g s).acq = s.acq := rfl
@[simp] theorem modArc_pmiAt (g : ArcState → ArcState) : (modArc g s).pmiAt = s.pmiAt := rfl
@[simp] theorem modArc_arc (g : ArcState → ArcState) : (modArc g s).arc = g s.arc := rfl
@[simp] theorem modArc_therm (g : ArcState → ArcState) : (modArc g s).therm = s.therm := rfl
@[simp] theorem modArc_maint (g : ArcState → ArcState) : (modArc g s).maint = s.maint := rfl
@[simp] theorem modArc_spn (g : ArcState → ArcState) : (modArc g s).spn = s.spn := rfl
@[simp] theorem modArc_smb (g : ArcState → ArcState) : (modArc g s).smb = s.smb := rfl
@[simp] theorem modArc_otp (g : ArcState → ArcState) : (modArc g s).otp = s.otp := rfl
@[simp] theorem modArc_pins (g : ArcState → ArcState) : (modArc g s).pins = s.pins := rfl
@[simp] theorem modArc_jtag (g : ArcState → ArcState) : (modArc g s).jtag = s.jtag := rfl
@[simp] theorem modArc_armed (g : ArcState → ArcState) : (modArc g s).armed = s.armed := rfl
@[simp] theorem modArc_latches (g : ArcState → ArcState) : (modArc g s).latches = s.latches := rfl
@[simp] theorem modArc_pool (g : ArcState → ArcState) : (modArc g s).pool = s.pool := rfl
@[simp] theorem modArc_ucode (g : ArcState → ArcState) : (modArc g s).ucode = s.ucode := rfl
@[simp] theorem modArc_stream (g : ArcState → ArcState) : (modArc g s).stream = s.stream := rfl
@[simp] theorem modArc_cmap (g : ArcState → ArcState) : (modArc g s).cmap = s.cmap := rfl
@[simp] theorem modArc_flash (g : ArcState → ArcState) : (modArc g s).flash = s.flash := rfl
@[simp] theorem modArc_sent (g : ArcState → ArcState) : (modArc g s).sent = s.sent := rfl
@[simp] theorem modArc_free (g : ArcState → ArcState) : (modArc g s).free = s.free := rfl
@[simp] theorem modArc_pending (g : ArcState → ArcState) : (modArc g s).pending = s.pending := rfl

/-! ## modLat -/

@[simp] theorem modLat_regs (g : LatState → LatState) : (modLat g s).regs = s.regs := rfl
@[simp] theorem modLat_shadow (g : LatState → LatState) : (modLat g s).shadow = s.shadow := rfl
@[simp] theorem modLat_now (g : LatState → LatState) : (modLat g s).now = s.now := rfl
@[simp] theorem modLat_elapsed (g : LatState → LatState) : (modLat g s).elapsed = s.elapsed := rfl
@[simp] theorem modLat_icl (g : LatState → LatState) : (modLat g s).icl = s.icl := rfl
@[simp] theorem modLat_dma (g : LatState → LatState) : (modLat g s).dma = s.dma := rfl
@[simp] theorem modLat_apex (g : LatState → LatState) : (modLat g s).apex = s.apex := rfl
@[simp] theorem modLat_fcl (g : LatState → LatState) : (modLat g s).fcl = s.fcl := rfl
@[simp] theorem modLat_axs (g : LatState → LatState) : (modLat g s).axs = s.axs := rfl
@[simp] theorem modLat_map (g : LatState → LatState) : (modLat g s).map = s.map := rfl
@[simp] theorem modLat_facet (g : LatState → LatState) : (modLat g s).facet = s.facet := rfl
@[simp] theorem modLat_rays (g : LatState → LatState) : (modLat g s).rays = s.rays := rfl
@[simp] theorem modLat_chans (g : LatState → LatState) : (modLat g s).chans = s.chans := rfl
@[simp] theorem modLat_waves (g : LatState → LatState) : (modLat g s).waves = s.waves := rfl
@[simp] theorem modLat_adcs (g : LatState → LatState) : (modLat g s).adcs = s.adcs := rfl
@[simp] theorem modLat_gates (g : LatState → LatState) : (modLat g s).gates = s.gates := rfl
@[simp] theorem modLat_recover (g : LatState → LatState) : (modLat g s).recover = s.recover := rfl
@[simp] theorem modLat_contact (g : LatState → LatState) : (modLat g s).contact = s.contact := rfl
@[simp] theorem modLat_siteEdited (g : LatState → LatState) : (modLat g s).siteEdited = s.siteEdited := rfl
@[simp] theorem modLat_siteMode (g : LatState → LatState) : (modLat g s).siteMode = s.siteMode := rfl
@[simp] theorem modLat_pmuEnds (g : LatState → LatState) : (modLat g s).pmuEnds = s.pmuEnds := rfl
@[simp] theorem modLat_lat (g : LatState → LatState) : (modLat g s).lat = g s.lat := rfl
@[simp] theorem modLat_tdc (g : LatState → LatState) : (modLat g s).tdc = s.tdc := rfl
@[simp] theorem modLat_rc (g : LatState → LatState) : (modLat g s).rc = s.rc := rfl
@[simp] theorem modLat_classes (g : LatState → LatState) : (modLat g s).classes = s.classes := rfl
@[simp] theorem modLat_acq (g : LatState → LatState) : (modLat g s).acq = s.acq := rfl
@[simp] theorem modLat_pmiAt (g : LatState → LatState) : (modLat g s).pmiAt = s.pmiAt := rfl
@[simp] theorem modLat_arc (g : LatState → LatState) : (modLat g s).arc = s.arc := rfl
@[simp] theorem modLat_therm (g : LatState → LatState) : (modLat g s).therm = s.therm := rfl
@[simp] theorem modLat_maint (g : LatState → LatState) : (modLat g s).maint = s.maint := rfl
@[simp] theorem modLat_spn (g : LatState → LatState) : (modLat g s).spn = s.spn := rfl
@[simp] theorem modLat_smb (g : LatState → LatState) : (modLat g s).smb = s.smb := rfl
@[simp] theorem modLat_otp (g : LatState → LatState) : (modLat g s).otp = s.otp := rfl
@[simp] theorem modLat_pins (g : LatState → LatState) : (modLat g s).pins = s.pins := rfl
@[simp] theorem modLat_jtag (g : LatState → LatState) : (modLat g s).jtag = s.jtag := rfl
@[simp] theorem modLat_armed (g : LatState → LatState) : (modLat g s).armed = s.armed := rfl
@[simp] theorem modLat_latches (g : LatState → LatState) : (modLat g s).latches = s.latches := rfl
@[simp] theorem modLat_pool (g : LatState → LatState) : (modLat g s).pool = s.pool := rfl
@[simp] theorem modLat_ucode (g : LatState → LatState) : (modLat g s).ucode = s.ucode := rfl
@[simp] theorem modLat_stream (g : LatState → LatState) : (modLat g s).stream = s.stream := rfl
@[simp] theorem modLat_cmap (g : LatState → LatState) : (modLat g s).cmap = s.cmap := rfl
@[simp] theorem modLat_flash (g : LatState → LatState) : (modLat g s).flash = s.flash := rfl
@[simp] theorem modLat_sent (g : LatState → LatState) : (modLat g s).sent = s.sent := rfl
@[simp] theorem modLat_free (g : LatState → LatState) : (modLat g s).free = s.free := rfl
@[simp] theorem modLat_pending (g : LatState → LatState) : (modLat g s).pending = s.pending := rfl

/-! ## modDma -/

@[simp] theorem modDma_regs (g : DmaState → DmaState) : (modDma g s).regs = s.regs := rfl
@[simp] theorem modDma_shadow (g : DmaState → DmaState) : (modDma g s).shadow = s.shadow := rfl
@[simp] theorem modDma_now (g : DmaState → DmaState) : (modDma g s).now = s.now := rfl
@[simp] theorem modDma_elapsed (g : DmaState → DmaState) : (modDma g s).elapsed = s.elapsed := rfl
@[simp] theorem modDma_icl (g : DmaState → DmaState) : (modDma g s).icl = s.icl := rfl
@[simp] theorem modDma_dma (g : DmaState → DmaState) : (modDma g s).dma = g s.dma := rfl
@[simp] theorem modDma_apex (g : DmaState → DmaState) : (modDma g s).apex = s.apex := rfl
@[simp] theorem modDma_fcl (g : DmaState → DmaState) : (modDma g s).fcl = s.fcl := rfl
@[simp] theorem modDma_axs (g : DmaState → DmaState) : (modDma g s).axs = s.axs := rfl
@[simp] theorem modDma_map (g : DmaState → DmaState) : (modDma g s).map = s.map := rfl
@[simp] theorem modDma_facet (g : DmaState → DmaState) : (modDma g s).facet = s.facet := rfl
@[simp] theorem modDma_rays (g : DmaState → DmaState) : (modDma g s).rays = s.rays := rfl
@[simp] theorem modDma_chans (g : DmaState → DmaState) : (modDma g s).chans = s.chans := rfl
@[simp] theorem modDma_waves (g : DmaState → DmaState) : (modDma g s).waves = s.waves := rfl
@[simp] theorem modDma_adcs (g : DmaState → DmaState) : (modDma g s).adcs = s.adcs := rfl
@[simp] theorem modDma_gates (g : DmaState → DmaState) : (modDma g s).gates = s.gates := rfl
@[simp] theorem modDma_recover (g : DmaState → DmaState) : (modDma g s).recover = s.recover := rfl
@[simp] theorem modDma_contact (g : DmaState → DmaState) : (modDma g s).contact = s.contact := rfl
@[simp] theorem modDma_siteEdited (g : DmaState → DmaState) : (modDma g s).siteEdited = s.siteEdited := rfl
@[simp] theorem modDma_siteMode (g : DmaState → DmaState) : (modDma g s).siteMode = s.siteMode := rfl
@[simp] theorem modDma_pmuEnds (g : DmaState → DmaState) : (modDma g s).pmuEnds = s.pmuEnds := rfl
@[simp] theorem modDma_lat (g : DmaState → DmaState) : (modDma g s).lat = s.lat := rfl
@[simp] theorem modDma_tdc (g : DmaState → DmaState) : (modDma g s).tdc = s.tdc := rfl
@[simp] theorem modDma_rc (g : DmaState → DmaState) : (modDma g s).rc = s.rc := rfl
@[simp] theorem modDma_classes (g : DmaState → DmaState) : (modDma g s).classes = s.classes := rfl
@[simp] theorem modDma_acq (g : DmaState → DmaState) : (modDma g s).acq = s.acq := rfl
@[simp] theorem modDma_pmiAt (g : DmaState → DmaState) : (modDma g s).pmiAt = s.pmiAt := rfl
@[simp] theorem modDma_arc (g : DmaState → DmaState) : (modDma g s).arc = s.arc := rfl
@[simp] theorem modDma_therm (g : DmaState → DmaState) : (modDma g s).therm = s.therm := rfl
@[simp] theorem modDma_maint (g : DmaState → DmaState) : (modDma g s).maint = s.maint := rfl
@[simp] theorem modDma_spn (g : DmaState → DmaState) : (modDma g s).spn = s.spn := rfl
@[simp] theorem modDma_smb (g : DmaState → DmaState) : (modDma g s).smb = s.smb := rfl
@[simp] theorem modDma_otp (g : DmaState → DmaState) : (modDma g s).otp = s.otp := rfl
@[simp] theorem modDma_pins (g : DmaState → DmaState) : (modDma g s).pins = s.pins := rfl
@[simp] theorem modDma_jtag (g : DmaState → DmaState) : (modDma g s).jtag = s.jtag := rfl
@[simp] theorem modDma_armed (g : DmaState → DmaState) : (modDma g s).armed = s.armed := rfl
@[simp] theorem modDma_latches (g : DmaState → DmaState) : (modDma g s).latches = s.latches := rfl
@[simp] theorem modDma_pool (g : DmaState → DmaState) : (modDma g s).pool = s.pool := rfl
@[simp] theorem modDma_ucode (g : DmaState → DmaState) : (modDma g s).ucode = s.ucode := rfl
@[simp] theorem modDma_stream (g : DmaState → DmaState) : (modDma g s).stream = s.stream := rfl
@[simp] theorem modDma_cmap (g : DmaState → DmaState) : (modDma g s).cmap = s.cmap := rfl
@[simp] theorem modDma_flash (g : DmaState → DmaState) : (modDma g s).flash = s.flash := rfl
@[simp] theorem modDma_sent (g : DmaState → DmaState) : (modDma g s).sent = s.sent := rfl
@[simp] theorem modDma_free (g : DmaState → DmaState) : (modDma g s).free = s.free := rfl
@[simp] theorem modDma_pending (g : DmaState → DmaState) : (modDma g s).pending = s.pending := rfl

/-! ## modMaint -/

@[simp] theorem modMaint_regs (g : MaintState → MaintState) : (modMaint g s).regs = s.regs := rfl
@[simp] theorem modMaint_shadow (g : MaintState → MaintState) : (modMaint g s).shadow = s.shadow := rfl
@[simp] theorem modMaint_now (g : MaintState → MaintState) : (modMaint g s).now = s.now := rfl
@[simp] theorem modMaint_elapsed (g : MaintState → MaintState) : (modMaint g s).elapsed = s.elapsed := rfl
@[simp] theorem modMaint_icl (g : MaintState → MaintState) : (modMaint g s).icl = s.icl := rfl
@[simp] theorem modMaint_dma (g : MaintState → MaintState) : (modMaint g s).dma = s.dma := rfl
@[simp] theorem modMaint_apex (g : MaintState → MaintState) : (modMaint g s).apex = s.apex := rfl
@[simp] theorem modMaint_fcl (g : MaintState → MaintState) : (modMaint g s).fcl = s.fcl := rfl
@[simp] theorem modMaint_axs (g : MaintState → MaintState) : (modMaint g s).axs = s.axs := rfl
@[simp] theorem modMaint_map (g : MaintState → MaintState) : (modMaint g s).map = s.map := rfl
@[simp] theorem modMaint_facet (g : MaintState → MaintState) : (modMaint g s).facet = s.facet := rfl
@[simp] theorem modMaint_rays (g : MaintState → MaintState) : (modMaint g s).rays = s.rays := rfl
@[simp] theorem modMaint_chans (g : MaintState → MaintState) : (modMaint g s).chans = s.chans := rfl
@[simp] theorem modMaint_waves (g : MaintState → MaintState) : (modMaint g s).waves = s.waves := rfl
@[simp] theorem modMaint_adcs (g : MaintState → MaintState) : (modMaint g s).adcs = s.adcs := rfl
@[simp] theorem modMaint_gates (g : MaintState → MaintState) : (modMaint g s).gates = s.gates := rfl
@[simp] theorem modMaint_recover (g : MaintState → MaintState) : (modMaint g s).recover = s.recover := rfl
@[simp] theorem modMaint_contact (g : MaintState → MaintState) : (modMaint g s).contact = s.contact := rfl
@[simp] theorem modMaint_siteEdited (g : MaintState → MaintState) : (modMaint g s).siteEdited = s.siteEdited := rfl
@[simp] theorem modMaint_siteMode (g : MaintState → MaintState) : (modMaint g s).siteMode = s.siteMode := rfl
@[simp] theorem modMaint_pmuEnds (g : MaintState → MaintState) : (modMaint g s).pmuEnds = s.pmuEnds := rfl
@[simp] theorem modMaint_lat (g : MaintState → MaintState) : (modMaint g s).lat = s.lat := rfl
@[simp] theorem modMaint_tdc (g : MaintState → MaintState) : (modMaint g s).tdc = s.tdc := rfl
@[simp] theorem modMaint_rc (g : MaintState → MaintState) : (modMaint g s).rc = s.rc := rfl
@[simp] theorem modMaint_classes (g : MaintState → MaintState) : (modMaint g s).classes = s.classes := rfl
@[simp] theorem modMaint_acq (g : MaintState → MaintState) : (modMaint g s).acq = s.acq := rfl
@[simp] theorem modMaint_pmiAt (g : MaintState → MaintState) : (modMaint g s).pmiAt = s.pmiAt := rfl
@[simp] theorem modMaint_arc (g : MaintState → MaintState) : (modMaint g s).arc = s.arc := rfl
@[simp] theorem modMaint_therm (g : MaintState → MaintState) : (modMaint g s).therm = s.therm := rfl
@[simp] theorem modMaint_maint (g : MaintState → MaintState) : (modMaint g s).maint = g s.maint := rfl
@[simp] theorem modMaint_spn (g : MaintState → MaintState) : (modMaint g s).spn = s.spn := rfl
@[simp] theorem modMaint_smb (g : MaintState → MaintState) : (modMaint g s).smb = s.smb := rfl
@[simp] theorem modMaint_otp (g : MaintState → MaintState) : (modMaint g s).otp = s.otp := rfl
@[simp] theorem modMaint_pins (g : MaintState → MaintState) : (modMaint g s).pins = s.pins := rfl
@[simp] theorem modMaint_jtag (g : MaintState → MaintState) : (modMaint g s).jtag = s.jtag := rfl
@[simp] theorem modMaint_armed (g : MaintState → MaintState) : (modMaint g s).armed = s.armed := rfl
@[simp] theorem modMaint_latches (g : MaintState → MaintState) : (modMaint g s).latches = s.latches := rfl
@[simp] theorem modMaint_pool (g : MaintState → MaintState) : (modMaint g s).pool = s.pool := rfl
@[simp] theorem modMaint_ucode (g : MaintState → MaintState) : (modMaint g s).ucode = s.ucode := rfl
@[simp] theorem modMaint_stream (g : MaintState → MaintState) : (modMaint g s).stream = s.stream := rfl
@[simp] theorem modMaint_cmap (g : MaintState → MaintState) : (modMaint g s).cmap = s.cmap := rfl
@[simp] theorem modMaint_flash (g : MaintState → MaintState) : (modMaint g s).flash = s.flash := rfl
@[simp] theorem modMaint_sent (g : MaintState → MaintState) : (modMaint g s).sent = s.sent := rfl
@[simp] theorem modMaint_free (g : MaintState → MaintState) : (modMaint g s).free = s.free := rfl
@[simp] theorem modMaint_pending (g : MaintState → MaintState) : (modMaint g s).pending = s.pending := rfl

/-! ## modTherm -/

@[simp] theorem modTherm_regs (g : ThermState → ThermState) : (modTherm g s).regs = s.regs := rfl
@[simp] theorem modTherm_shadow (g : ThermState → ThermState) : (modTherm g s).shadow = s.shadow := rfl
@[simp] theorem modTherm_now (g : ThermState → ThermState) : (modTherm g s).now = s.now := rfl
@[simp] theorem modTherm_elapsed (g : ThermState → ThermState) : (modTherm g s).elapsed = s.elapsed := rfl
@[simp] theorem modTherm_icl (g : ThermState → ThermState) : (modTherm g s).icl = s.icl := rfl
@[simp] theorem modTherm_dma (g : ThermState → ThermState) : (modTherm g s).dma = s.dma := rfl
@[simp] theorem modTherm_apex (g : ThermState → ThermState) : (modTherm g s).apex = s.apex := rfl
@[simp] theorem modTherm_fcl (g : ThermState → ThermState) : (modTherm g s).fcl = s.fcl := rfl
@[simp] theorem modTherm_axs (g : ThermState → ThermState) : (modTherm g s).axs = s.axs := rfl
@[simp] theorem modTherm_map (g : ThermState → ThermState) : (modTherm g s).map = s.map := rfl
@[simp] theorem modTherm_facet (g : ThermState → ThermState) : (modTherm g s).facet = s.facet := rfl
@[simp] theorem modTherm_rays (g : ThermState → ThermState) : (modTherm g s).rays = s.rays := rfl
@[simp] theorem modTherm_chans (g : ThermState → ThermState) : (modTherm g s).chans = s.chans := rfl
@[simp] theorem modTherm_waves (g : ThermState → ThermState) : (modTherm g s).waves = s.waves := rfl
@[simp] theorem modTherm_adcs (g : ThermState → ThermState) : (modTherm g s).adcs = s.adcs := rfl
@[simp] theorem modTherm_gates (g : ThermState → ThermState) : (modTherm g s).gates = s.gates := rfl
@[simp] theorem modTherm_recover (g : ThermState → ThermState) : (modTherm g s).recover = s.recover := rfl
@[simp] theorem modTherm_contact (g : ThermState → ThermState) : (modTherm g s).contact = s.contact := rfl
@[simp] theorem modTherm_siteEdited (g : ThermState → ThermState) : (modTherm g s).siteEdited = s.siteEdited := rfl
@[simp] theorem modTherm_siteMode (g : ThermState → ThermState) : (modTherm g s).siteMode = s.siteMode := rfl
@[simp] theorem modTherm_pmuEnds (g : ThermState → ThermState) : (modTherm g s).pmuEnds = s.pmuEnds := rfl
@[simp] theorem modTherm_lat (g : ThermState → ThermState) : (modTherm g s).lat = s.lat := rfl
@[simp] theorem modTherm_tdc (g : ThermState → ThermState) : (modTherm g s).tdc = s.tdc := rfl
@[simp] theorem modTherm_rc (g : ThermState → ThermState) : (modTherm g s).rc = s.rc := rfl
@[simp] theorem modTherm_classes (g : ThermState → ThermState) : (modTherm g s).classes = s.classes := rfl
@[simp] theorem modTherm_acq (g : ThermState → ThermState) : (modTherm g s).acq = s.acq := rfl
@[simp] theorem modTherm_pmiAt (g : ThermState → ThermState) : (modTherm g s).pmiAt = s.pmiAt := rfl
@[simp] theorem modTherm_arc (g : ThermState → ThermState) : (modTherm g s).arc = s.arc := rfl
@[simp] theorem modTherm_therm (g : ThermState → ThermState) : (modTherm g s).therm = g s.therm := rfl
@[simp] theorem modTherm_maint (g : ThermState → ThermState) : (modTherm g s).maint = s.maint := rfl
@[simp] theorem modTherm_spn (g : ThermState → ThermState) : (modTherm g s).spn = s.spn := rfl
@[simp] theorem modTherm_smb (g : ThermState → ThermState) : (modTherm g s).smb = s.smb := rfl
@[simp] theorem modTherm_otp (g : ThermState → ThermState) : (modTherm g s).otp = s.otp := rfl
@[simp] theorem modTherm_pins (g : ThermState → ThermState) : (modTherm g s).pins = s.pins := rfl
@[simp] theorem modTherm_jtag (g : ThermState → ThermState) : (modTherm g s).jtag = s.jtag := rfl
@[simp] theorem modTherm_armed (g : ThermState → ThermState) : (modTherm g s).armed = s.armed := rfl
@[simp] theorem modTherm_latches (g : ThermState → ThermState) : (modTherm g s).latches = s.latches := rfl
@[simp] theorem modTherm_pool (g : ThermState → ThermState) : (modTherm g s).pool = s.pool := rfl
@[simp] theorem modTherm_ucode (g : ThermState → ThermState) : (modTherm g s).ucode = s.ucode := rfl
@[simp] theorem modTherm_stream (g : ThermState → ThermState) : (modTherm g s).stream = s.stream := rfl
@[simp] theorem modTherm_cmap (g : ThermState → ThermState) : (modTherm g s).cmap = s.cmap := rfl
@[simp] theorem modTherm_flash (g : ThermState → ThermState) : (modTherm g s).flash = s.flash := rfl
@[simp] theorem modTherm_sent (g : ThermState → ThermState) : (modTherm g s).sent = s.sent := rfl
@[simp] theorem modTherm_free (g : ThermState → ThermState) : (modTherm g s).free = s.free := rfl
@[simp] theorem modTherm_pending (g : ThermState → ThermState) : (modTherm g s).pending = s.pending := rfl

end Sys2Proof.Machine
end

