-- ==== Sys2Proof/Laws/Regs.lean ====
section
/-!
SUPPORT. Registers and fields: a read after a write of the same register or field gives what was written, and a write leaves
every other register, and every other field of its own register, alone.
-/

namespace Sys2Proof.Machine

variable (s : State)

/-- A register after a register has been written. -/
theorem State.reg_setReg (a b : Nat) (v : Word64) : (s.setReg a v).reg b = if b = a then v else s.reg b :=
  Store.find_put rstWord s.regs a b v

@[simp] theorem State.reg_setReg_self (a : Nat) (v : Word64) : (s.setReg a v).reg a = v := Store.find_put_self rstWord s.regs a v

/-- Another register after a field has been written. -/
theorem State.reg_set_ne (f : Fld) (v : Nat) {b : Nat} (h : b ≠ f.addr) : (s.set f v).reg b = s.reg b := by
  rw [State.set, State.reg_setReg, if_neg h]

@[simp] theorem State.reg_tick (dt a : Nat) : (s.tick dt).reg a = s.reg a := rfl
@[simp] theorem State.reg_send (m : Msg) (a : Nat) : (s.send m).reg a = s.reg a := rfl
@[simp] theorem State.get_tick (dt : Nat) (f : Fld) : (s.tick dt).get f = s.get f := rfl
@[simp] theorem State.on_tick (dt : Nat) (f : Fld) : (s.tick dt).on f = s.on f := rfl
@[simp] theorem State.get_send (m : Msg) (f : Fld) : (s.send m).get f = s.get f := rfl
@[simp] theorem State.mode_tick (dt : Nat) : (s.tick dt).mode = s.mode := rfl

/-- Bits of a word as a number. -/
theorem bitsAt_testBit (v lo w i : Nat) : (bitsAt v lo w).testBit i = (decide (i < w) && v.testBit (lo + i)) := by
  simp [bitsAt, Nat.testBit_mod_two_pow, Nat.testBit_shiftRight]

/-- The bits of a word whose field has been replaced. -/
theorem insertBits_testBit (x : Word64) (lo w v i : Nat) (hi : i < 64) :
    (insertBits x lo w v).toNat.testBit i =
      if lo ≤ i ∧ i < lo + w then v.testBit (i - lo) else x.toNat.testBit i := by
  have h : (insertBits x lo w v).toNat.testBit i = (insertBits x lo w v).getLsbD i := rfl
  rw [h, insertBits, BitVec.getLsbD_or, BitVec.getLsbD_and, BitVec.getLsbD_not, BitVec.getLsbD_ofNat, BitVec.getLsbD_ofNat,
    Nat.testBit_shiftLeft, Nat.testBit_shiftLeft, Nat.testBit_mod_two_pow, Nat.testBit_two_pow_sub_one]
  by_cases h1 : lo ≤ i
  · by_cases h2 : i < lo + w
    · have h3 : i - lo < w := by omega
      simp [h1, h2, h3, hi]
    · have h3 : ¬ i - lo < w := by omega
      simp [h1, h2, h3, hi, BitVec.getLsbD]
  · simp [h1, hi, BitVec.getLsbD]

/-- A field reads as it was written, modulo its width. -/
@[simp] theorem State.get_set_self (f : Fld) (v : Nat) (h : f.lo + f.w ≤ 64 := by decide) : (s.set f v).get f = v % 2 ^ f.w := by
  apply Nat.eq_of_testBit_eq
  intro i
  rw [State.get, State.set, State.reg_setReg_self, bitsAt_testBit, Nat.testBit_mod_two_pow]
  by_cases hi : i < f.w
  · rw [insertBits_testBit _ _ _ _ _ (by omega), if_pos (by omega)]
    simp [hi]
  · simp [hi]

/-- A field of another register. -/
theorem State.get_set_ne (f g : Fld) (v : Nat) (h : g.addr ≠ f.addr) : (s.set f v).get g = s.get g := by
  rw [State.get, State.reg_set_ne s f v h, State.get]

/-- Another field of the same register. -/
theorem State.get_set_apart (f g : Fld) (v : Nat) (hg : g.lo + g.w ≤ 64)
    (h : g.lo + g.w ≤ f.lo ∨ f.lo + f.w ≤ g.lo) : (s.set f v).get g = s.get g := by
  by_cases ha : g.addr = f.addr
  · apply Nat.eq_of_testBit_eq
    intro i
    rw [State.get, State.set, ha, State.reg_setReg_self, State.get, bitsAt_testBit, bitsAt_testBit, ha]
    by_cases hi : i < g.w
    · rw [insertBits_testBit _ _ _ _ _ (by omega), if_neg (by omega)]
    · simp [hi]
  · exact State.get_set_ne s f g v ha

end Sys2Proof.Machine
end

