-- ==== Sys2Proof/Laws/Settle.lean ====
section
/-!
SUPPORT. What follows of itself after a command: nothing, where nothing is left to follow; and every command answers a next state
and leaves the queue alone.
-/

namespace Sys2Proof.Machine

/-- Where nothing is left to follow, settling changes nothing. -/
theorem settleRounds_calm (n : Nat) (s : State) (h : s.calm = true) : settleRounds n s = s := by
  cases n with
  | zero => rfl
  | succ n => simp [settleRounds, h]

theorem settle_calm (s : State) (h : s.calm = true) : settle s = s := settleRounds_calm 4 s h

/-- Where nothing is left to follow, the command's own effect is the next state. -/
theorem leave_calm (s t : State) (h : t.calm = true) (hq : t.pending = s.pending) : leave s t = t := by
  rw [leave, settle_calm t h, ← hq]

@[simp] theorem leave_pending (s t : State) : (leave s t).pending = s.pending := rfl

/-- A command answers a next state. -/
theorem act_next (dt : Nat) (f : State → State) (s : State) : act dt f s = .next (leave s (f (s.tick dt))) := rfl

end Sys2Proof.Machine
end

