-- ==== Sys2Proof/Laws/Requests.lean ====
section
/-!
SUPPORT. What every command and every register write go through, said once: a command's effect is what it gives; a whole write of a
register that takes it is the write of that register behind the guard as it stood.
-/

namespace Sys2Proof.Machine
open Sys2Proof.Reg

/-- A command that acts by `f` gives what `f` gives after the clock has advanced. -/
theorem gives_of_act {c : Instr} {s t : State} {dt : Nat} {f : State → State} (h : exec c s = act dt f s)
    (ht : f (s.tick dt) = t) : Gives c s t := by
  subst ht
  refine ⟨h, fun hc => ?_⟩
  rw [h, act, leave, settle_calm _ hc]

/-- The guard of a path stands in GLB_GUARD_STAT alone. -/
theorem reg_setGuard (p : Path) (b : Bool) (s : State) {a : Nat} (h : a ≠ GLB_GUARD_STAT) : (setGuard p b s).reg a = s.reg a := by
  cases p <;> simp only [setGuard, guardField]
  · exact State.reg_set_ne _ _ _ h
  · exact State.reg_set_ne _ _ _ h

/-- A field that is not in GLB_GUARD_STAT. -/
theorem get_setGuard (p : Path) (b : Bool) (s : State) (f : Fld) (h : f.addr ≠ GLB_GUARD_STAT) :
    (setGuard p b s).get f = s.get f := by
  rw [State.get, reg_setGuard p b s h, State.get]

@[simp] theorem mode_request (s : State) (dt : Nat) (p : Path) : (s.request dt p).mode = s.mode :=
  get_setGuard p false (s.tick dt) GLB_MODE_MODE (by decide)

theorem member_request (s : State) (dt : Nat) (p : Path) : (s.request dt p).member = s.member :=
  get_setGuard p false (s.tick dt) GLB_IDENT_MEMBER (by decide)

@[simp] theorem facets_request (s : State) (dt : Nat) (p : Path) : (s.request dt p).facets = s.facets := by
  unfold State.facets; rw [member_request]

/-- Whether an address is implemented, gated or shut depends on the mode and the member alone. -/
theorem implemented_request (s : State) (dt : Nat) (p : Path) (a : Nat) : (s.request dt p).implemented a = s.implemented a := by
  unfold State.implemented State.rings State.vertices State.chords
  rw [facets_request]

theorem hostShut_request (s : State) (dt : Nat) (p q : Path) (a : Nat) : (s.request dt p).hostShut q a = s.hostShut q a := by
  simp only [State.hostShut, mode_request]

theorem windowGated_request (s : State) (dt : Nat) (p : Path) (a : Nat) : (s.request dt p).windowGated a = s.windowGated a := by
  simp only [State.windowGated, mode_request, facets_request]

/-- A whole 32-bit write to a register that takes it. -/
theorem busWrite_takes (s : State) (dt : Nat) (p : Path) (a d : Nat) (h : s.takes p a = true) :
    busWrite p a [(d, 0xF)] (s.tick dt) = writeReg p (s.guardOpen p) a d (s.request dt p) := by
  simp only [State.takes, Bool.and_eq_true, Bool.not_eq_true'] at h
  obtain ⟨⟨⟨⟨h1, h2⟩, h3⟩, h4⟩, h5⟩ := h
  have hd : (s.tick dt).pathDead p = false := h1
  have hg : (s.tick dt).guardOpen p = s.guardOpen p := rfl
  rw [busWrite, hd, hg]
  show writeOne p (s.guardOpen p) a d 0xF (s.request dt p) = _
  rw [writeOne, admitWrite, hostShut_request, windowGated_request, implemented_request, h2, h3, h4]
  split at h5
  · rename_i r hi hr
    simp only [Bool.not_eq_true'] at h5
    simp [hr, h5]
  · exact absurd h5 (by decide)

/-- The same for a command that writes one register. -/
theorem write32_takes (s : State) (dt : Nat) (p : Path) (a d : Nat) (h : s.takes p a = true) :
    write32 p a d (s.tick dt) = writeReg p (s.guardOpen p) a (d % 2 ^ 32) (s.request dt p) :=
  busWrite_takes s dt p a (d % 2 ^ 32) h

end Sys2Proof.Machine
end

