-- ==== Sys2Proof/WellFormed.lean ====
section
/-!
DEFINITION. Well-formed commands: every operand within the range that the spec gives the thing it names (R1, R23, R25). The meanings
are total: an index that is out of range names nothing.
-/

namespace Sys2Proof

/-- A facet (R1). -/
def facetOk (x : Nat) : Bool := x < 16
/-- A ray, or a TDC unit, of a facet (R1, R244). -/
def rayOk (x : Nat) : Bool := x < 32
/-- A chord (R1). -/
def chordOk (x : Nat) : Bool := x < 512
/-- A vertex (R1). -/
def vertexOk (x : Nat) : Bool := x < 4096
/-- A channel (R1). -/
def channelOk (x : Nat) : Bool := x < 2048
/-- A waveform generator of a facet (R181). -/
def waveOk (x : Nat) : Bool := x < 4
/-- An acquisition unit (R264). -/
def unitOk (x : Nat) : Bool := x < 16
/-- A ring (R283). -/
def ringOk (x : Nat) : Bool := x < 16384
/-- An interrupt target (R309). -/
def targetOk (x : Nat) : Bool := x < 16
/-- A 16-bit, a 32-bit and a 64-bit number. -/
def word16 (x : Nat) : Bool := x < 2 ^ 16
@[inherit_doc word16] def word32 (x : Nat) : Bool := x < 2 ^ 32
@[inherit_doc word16] def word64 (x : Nat) : Bool := x < 2 ^ 64
/-- Byte enables of a doubleword, at least one of them on. -/
def bytesOn (x : Nat) : Bool := 0 < x && x < 16
/-- The byte enables of a read request. -/
def enablesOk (x : List Nat) : Bool := x != [] && x.all bytesOn
/-- The address of a doubleword. -/
def addressOk (x : Nat) : Bool := x % 4 = 0 && x < 2 ^ 32
/-- The doublewords of a write request, each with its byte enables. -/
def itemsOk (x : List (Nat × Nat)) : Bool := x != [] && x.all fun i => word32 i.1 && i.2 < 16
/-- The arguments of a mailbox command: at most four doublewords (R79). -/
def argsOk (x : List Nat) : Bool := x.length ≤ 4 && x.all word32
/-- A stamp that may be absent. -/
def stampOk (x : Option Nat) : Bool := x.all word64
/-- A page of host memory, and a range of pages that is not empty (R293). -/
def pageOk (x : Nat) : Bool := x < 2 ^ 52
@[inherit_doc pageOk] def pagesOk (x : Nat) : Bool := 0 < x && x ≤ 2 ^ 52
/-- A replica offset, a signed 16-bit number (R109), and one for each island. -/
def offsetOk (x : Int) : Bool := -(2 ^ 15) ≤ x && x < 2 ^ 15
@[inherit_doc offsetOk] def offsetsOk (x : List Int) : Bool := x.length ≤ 18 && x.all offsetOk
/-- What each island finds at a check pulse (R110). -/
def islandsOk (x : List (Int × Bool)) : Bool := x.length ≤ 18
/-- Contact-test readings of channels (R61). -/
def readingsOk (x : List (Nat × Int)) : Bool := x.all fun i => channelOk i.1
/-- Stream words of 32 bytes (R149). -/
def wordsOk (x : List Nat) : Bool := x.all fun w => w < 2 ^ 256
/-- An MSI-X vector of a target, or the function mask (R309). -/
def vectorOk (x : Option Nat) : Bool := x.all fun t => t < 15
/-- Bytes as numbers. -/
def octetsOk (x : List Nat) : Bool := x.all fun b => b < 256
/-- A place in a window of 64 MB, the bytes of a read, and those of a gathered write (R385, R386). -/
def windowOk (x : Nat) : Bool := x < 2 ^ 26
@[inherit_doc windowOk] def lengthOk (x : Nat) : Bool := 0 < x && x ≤ 256
@[inherit_doc windowOk] def gatherOk (x : List Byte) : Bool := x.length = 1 || x.length = 2 || x.length = 4
/-- A descriptor (R188). -/
def descriptorOk (x : List Byte) : Bool := x.length = 64
/-- A link width that the part forms (R281). -/
def widthOk (x : Nat) : Bool := x = 4 || x = 8 || x = 16

/-- Are the operands of a command in range? -/
def wellFormed (i : Instr) : Bool :=
  match i with
  | .powerOn _ => true
  | .vddAonLoss _ => true
  | .perstAssert _ => true
  | .perstDeassert _ prof => prof < 8
  | .suppliesGood _ prof => prof < 8
  | .railBrownout _ => true
  | .supplyMonitorSample _ rail _ => rail < 8
  | .refclkLoss _ => true
  | .axisPllLock _ => true
  | .linkDown _ => true
  | .bootFinished _ ofs => offsetsOk ofs
  | .apexWatchdogExpiry _ => true
  | .registerWrite _ _ addr items => addressOk addr && itemsOk items
  | .unimplementedAccess _ _ bar _ addr be => bar < 3 && addressOk addr && bytesOn be
  | .lowWordReadLatch _ _ addr => addressOk addr
  | .rcFieldRead _ _ addr bes => addressOk addr && enablesOk bes
  | .glbUpdateArm _ _ mask _ => mask < 2 ^ 18
  | .glbUpdateCancel _ _ => true
  | .updateApply _ => true
  | .glbUnlock _ _ key => word32 key
  | .siteTableWrite _ _ addr items => addressOk addr && itemsOk items
  | .siteCheck _ _ => true
  | .siteCommit _ _ => true
  | .siteCheckEnd _ => true
  | .contactTest _ _ => true
  | .contactAbort _ _ => true
  | .contactTestEnd _ readings => readingsOk readings
  | .vertexInk _ _ v => vertexOk v
  | .wallclockWrite _ _ seconds => word64 seconds
  | .status _ slot _ seq args => slot < 2 && seq < 256 && argsOk args
  | .goIdle _ slot _ seq args => slot < 2 && seq < 256 && argsOk args
  | .goHost _ slot _ seq args => slot < 2 && seq < 256 && argsOk args
  | .goAuto _ slot _ seq args => slot < 2 && seq < 256 && argsOk args
  | .goDoze _ slot _ seq args => slot < 2 && seq < 256 && argsOk args
  | .enterSafe _ slot _ seq args => slot < 2 && seq < 256 && argsOk args
  | .clearSafe _ slot _ seq args => slot < 2 && seq < 256 && argsOk args
  | .clearShutdown _ slot _ seq args => slot < 2 && seq < 256 && argsOk args
  | .selectProfile _ slot _ seq args => slot < 2 && seq < 256 && argsOk args
  | .reboot _ slot _ seq args => slot < 2 && seq < 256 && argsOk args
  | .calibrate _ slot _ seq args => slot < 2 && seq < 256 && argsOk args
  | .selftest _ slot _ seq args => slot < 2 && seq < 256 && argsOk args
  | .logCompact _ slot _ seq args => slot < 2 && seq < 256 && argsOk args
  | .fwStageBegin _ slot _ seq _ len => slot < 2 && seq < 256 && word32 len
  | .fwStageChunk _ slot _ seq _ off len => slot < 2 && seq < 256 && word32 off && word32 len
  | .fwStageCommit _ slot _ seq _ => slot < 2 && seq < 256
  | .trimRefresh _ slot _ seq args => slot < 2 && seq < 256 && argsOk args
  | .sealOpen _ slot _ seq id every => slot < 2 && seq < 256 && word32 id && word32 every
  | .seal _ slot _ seq => slot < 2 && seq < 256
  | .sealClose _ slot _ seq => slot < 2 && seq < 256
  | .attest _ slot _ seq args => slot < 2 && seq < 256 && argsOk args
  | .unassignedOpcode _ slot _ opcode seq args => slot < 2 && opcode < 256 && seq < 256 && argsOk args
  | .drainComplete _ => true
  | .flowReturn _ => true
  | .flowStopTimeout _ => true
  | .overcurrentTrip _ c => channelOk c
  | .ocClear _ _ f word data => facetOk f && word < 4 && word32 data
  | .channelUnpark _ f => facetOk f
  | .pmuStart _ _ c data => channelOk c && word32 data
  | .pmuSettleEnd _ c => channelOk c
  | .pmuMeasurementComplete _ c _ _ => channelOk c
  | .pmuAbort _ _ c data => channelOk c && word32 data
  | .pmuConfigWrite _ _ c word data => channelOk c && word < 4 && word32 data
  | .epochCheckPulse _ errs => islandsOk errs
  | .replicaResync _ k ofs => k < 18 && offsetOk ofs
  | .recal _ _ => true
  | .recalDone _ ofs => offsetsOk ofs
  | .syncEpochDetect _ => true
  | .epochZero _ => true
  | .syncArm _ _ outMode => outMode < 4
  | .syncFire _ _ => true
  | .rateChange _ f => facetOk f
  | .anchorApply _ f => facetOk f
  | .vectorPlay _ f r _ _ => facetOk f && rayOk r
  | .phaseStart _ f k => facetOk f && chordOk k
  | .startBoundary _ f r => facetOk f && rayOk r
  | .jump _ _ k vec at_ => chordOk k && vec < 16 && stampOk at_
  | .stop _ _ k at_ => chordOk k && stampOk at_
  | .abort _ _ k at_ => chordOk k && stampOk at_
  | .jumpTaken _ f r => facetOk f && rayOk r
  | .stopTaken _ f r => facetOk f && rayOk r
  | .abortTaken _ f r => facetOk f && rayOk r
  | .granuleDecision _ k => chordOk k
  | .fillEnd _ f r => facetOk f && rayOk r
  | .streamProduce _ _ f r prod => facetOk f && rayOk r && word32 prod
  | .streamWordsArrive _ f r words => facetOk f && rayOk r && wordsOk words
  | .sqCfgWrite _ _ f r data => facetOk f && rayOk r && word32 data
  | .microcodeWrite _ _ f word dword data => facetOk f && word < 8192 && dword < 8 && word32 data
  | .wgStart _ _ f g _ => facetOk f && waveOk g
  | .wgStop _ _ f g => facetOk f && waveOk g
  | .wgHalt _ _ f g => facetOk f && waveOk g
  | .wgPlayStart _ f g => facetOk f && waveOk g
  | .wgOutputUpdate _ f g _ => facetOk f && waveOk g
  | .wgSegmentEnd _ f g => facetOk f && waveOk g
  | .wgTsApply _ f g => facetOk f && waveOk g
  | .descriptorFetch _ v data _ => vertexOk v && descriptorOk data
  | .notBeforeReached _ v => vertexOk v
  | .gatherClose _ v _ => vertexOk v
  | .admission _ v => vertexOk v
  | .operationUrgent _ v => vertexOk v
  | .phaseIssue _ k => chordOk k
  | .startWithdraw _ k => chordOk k
  | .holdMaxExpiry _ k => chordOk k
  | .pollRoundIssue _ k => chordOk k
  | .phaseEnd _ k => chordOk k
  | .comparatorEdge _ c edge => channelOk c && edge < 4
  | .busyWindowExpiry _ v => vertexOk v
  | .busyTimeout _ v => vertexOk v
  | .powerSettleEnd _ v => vertexOk v
  | .pmiAverageEnd _ v => vertexOk v
  | .arcCancel _ _ tag => word16 tag
  | .arcReplayGo _ _ k => chordOk k
  | .vholdClear _ _ v => vertexOk v
  | .recoveryFailClear _ _ k => chordOk k
  | .failEvent _ f _ => facetOk f
  | .mergeWindowExpiry _ _ => true
  | .endMarker _ f => facetOk f
  | .latticeClose _ v _ => vertexOk v
  | .latticeCloseComplete _ v => vertexOk v
  | .latClear _ _ _ _ => true
  | .latClearEnd _ => true
  | .repairAnalysis _ _ kind plane tag => kind < 2 && plane < 16 && word16 tag
  | .repairAnalysisAbort _ _ kind plane tag => kind < 2 && plane < 16 && word16 tag
  | .repairVertexDone _ => true
  | .collectorClear _ _ c => c < 128
  | .cmapWindowWrite _ _ word data => word < 262144 && word32 data
  | .tdcStart _ _ f u n1 => facetOk f && rayOk u && n1 < 2 ^ 24
  | .tdcAbort _ _ f u => facetOk f && rayOk u
  | .tdcShotTimeout _ f u => facetOk f && rayOk u
  | .tdcAxisEvent _ f u _ => facetOk f && rayOk u
  | .rcStart _ _ f _ mMax => facetOk f && mMax < 2 ^ 20
  | .rcGateOpen _ f => facetOk f
  | .rcGateEnd _ f => facetOk f
  | .rcAbort _ _ f _ mMax => facetOk f && mMax < 2 ^ 20
  | .pmiSample _ n _ => n < 64
  | .adcConversion _ u _ _ => unitOk u
  | .acqArm _ _ u => unitOk u
  | .acqStop _ _ u => unitOk u
  | .acqSoftwareTrigger _ _ u => unitOk u
  | .acqAxisTrigger _ u => unitOk u
  | .acqRearmEnd _ u => unitOk u
  | .acqStreamFlush _ u => unitOk u
  | .acqBlockDelivered _ u _ => unitOk u
  | .acqDestConsWrite _ _ u cons => unitOk u && word32 cons
  | .doorbellCommand _ _ v value be => vertexOk v && word32 value && bytesOn be
  | .doorbellOutput _ _ v which value be => vertexOk v && which < 3 && word32 value && bytesOn be
  | .ringEnable _ _ n data => ringOk n && word32 data
  | .ringDisable _ _ n data => ringOk n && word32 data
  | .ringRetry _ _ n data => ringOk n && word32 data
  | .recordHandover _ n _ => ringOk n
  | .recordWriteDone _ n => ringOk n
  | .writebackTimer _ n => ringOk n
  | .translationCompletion _ page pages _ _ => pageOk page && pagesOk pages
  | .pageResponse _ page code => pageOk page && code < 16
  | .invalidateRequest _ tag page pages => tag < 32 && pageOk page && pagesOk pages
  | .invalidateCompletion _ tag => tag < 32
  | .completionError _ n _ => ringOk n
  | .priRestart _ _ => true
  | .retryAux _ _ _ _ => true
  | .copyStart _ _ _ => true
  | .copyAbort _ _ _ => true
  | .copyEnd _ _ => true
  | .msixEnable _ _ _ _ _ _ alloc => word32 alloc
  | .iclSourceEvent _ n => n < 512
  | .iclClaim _ _ t => targetOk t
  | .iclDone _ _ t g => targetOk t && g < 32
  | .iclPendClear _ _ g bits => g < 32 && word32 bits
  | .iclOnlineWrite _ _ data => word32 data
  | .iclMaskWrite _ _ n data => n < 512 && word32 data
  | .iclSwset _ _ n => n < 512
  | .faultEvent _ n => n < 128
  | .railFault _ n => n < 128
  | .reactionComplete _ t => t < 21
  | .peLinkTrainingEnd _ f _ => facetOk f
  | .peLinkRetrainTimer _ f => facetOk f
  | .shadowEnd _ t => t < 21
  | .graceExpiry _ => true
  | .fclAck _ _ seq => word16 seq
  | .facetRelease _ _ mask => word16 mask
  | .escClear _ _ => true
  | .faultInject _ _ source _ => source < 128
  | .aliveToggle _ => true
  | .aliveFreqWrite _ _ freq => word32 freq
  | .faultConfigWrite _ _ n _ data => n < 128 && word32 data
  | .histRead _ _ entry => entry < 16
  | .thermalSample _ _ diode => diode < 3
  | .shutdownDrainEnd _ => true
  | .shutdownComplete _ => true
  | .thermalUnfreeze _ _ => true
  | .thmConfigWrite _ _ _ data => word32 data
  | .calibrationStepEnd _ _ _ => true
  | .calCommitDone _ _ => true
  | .calAbort _ _ => true
  | .trimWrite _ _ addr data => addressOk addr && word32 data
  | .trimRefreshReadDone _ => true
  | .maintenanceDispatch _ _ => true
  | .spnXferStart _ _ data => word32 data
  | .spnXferAbort _ _ data => word32 data
  | .spnTransferEnd _ _ _ _ => true
  | .spnBusyPoll _ k status => k < 4 && status < 256
  | .xipRead _ _ k addr len => k < 4 && windowOk addr && lengthOk len
  | .xipHostTimeout _ => true
  | .xipWrite _ k addr bytes => k < 4 && windowOk addr && gatherOk bytes
  | .xipFlush _ => true
  | .xipFlushTimer _ => true
  | .nvmProgramTimeout _ k => k < 4
  | .eraseTimeout _ k => k < 4
  | .eraseResume _ k => k < 4
  | .smbusPageSelect _ addr page code => addr < 128 && page < 256 && code < 256
  | .smbusPageRead _ addr => addr < 128
  | .smbusWrite _ addr cmd bytes code _ => addr < 128 && cmd < 256 && octetsOk bytes && code < 256
  | .smbusRead _ addr cmd n => addr < 128 && cmd < 256 && lengthOk n
  | .smbusClockTimeout _ => true
  | .alertResponse _ => true
  | .keyEnrol _ _ slot => slot < 4
  | .keyEnrolEnd _ _ => true
  | .logCompactAuto _ => true
  | .sealWritten _ => true
  | .extest _ _ _ => true
  | .idcode _ => true
  | .samplePreload _ _ _ => true
  | .highz _ _ => true
  | .clamp _ _ => true
  | .extestPulse _ _ _ => true
  | .extestTrain _ _ _ => true
  | .bypass _ code _ => code < 256
  | .faultLineDeassert _ n => n < 128
  | .railWiresDiffer _ n => n < 128
  | .msixUnmask _ vector => vectorOk vector
  | .linkUp _ speed width => speed < 16 && widthOk width
  | .priCapabilityReset _ => true

end Sys2Proof
end

