-- ==== Sys2Proof/Tests/Slice0.lean ====
section
/-!
SUPPORT. Tests: ill-formed commands that the checks refuse, small states that meet the hypotheses of the statements, and single steps
whose outcome the spec gives.
-/

namespace Sys2Proof.Tests
open Sys2Proof Sys2Proof.Machine Sys2Proof.Reg

set_option maxRecDepth 8000

/-- The part out of reset, in IDLE. -/
def idle : State := State.reset.set GLB_MODE_MODE 2
/-- The same in another mode. -/
def inMode (m : Nat) : State := State.reset.set GLB_MODE_MODE m
/-- The state behind a command. -/
def after (c : Instr) (s : State) : State :=
  match exec c s with
  | .next t => t
  | .fault _ => s
  | .refused _ => s
/-- The same register values but for some registers, among those that either state lists. -/
def sameRegs (as : List Nat) (s t : State) : Bool := (s.regs ++ t.regs).all fun e => as.contains e.1 || e.1 == ARC_STAT || t.reg e.1 == s.reg e.1

/-! ## Witnesses: the machine, power, reset -/

/-- A state and operands that meet the hypotheses of QuietTellsTheTruth. -/
theorem witness_QuietTellsTheTruth :
    (idle.withPending [.powerOn 5]).on ARC_STAT_QUIET = (idle.withPending [.powerOn 5]).quiet ∧
    (match step (idle.withPending [.powerOn 5]) with | .next t => t.pending == [] | _ => false) = true := by
  repeat' apply And.intro
  all_goals decide

def powered : State := { State.reset with pins := { aon := true, perst := true, supplies := true, refclk := true, prof := 0, outside := [] } }

def unreset : State := { powered with pins := { powered.pins with perst := false } }

def booting : State := (inMode 1).set AXS_STAT_LOCKED 1

/-- A state and operands that meet the hypotheses of ResetsEnterReset. -/
theorem witness_ResetsEnterReset :
    (Instr.powerOn 5, ResetKind.power) ∈ [(Instr.powerOn 5, .power), (.vddAonLoss 5, .power), (.perstAssert 5, .perst), (.railBrownout 5, .brownout)] ∧
    keptBy .power (GLB_SCRATCH 0) = false ∧ (GLB_SCRATCH 0) ∉ [GLB_MODE, APX_KEY_STAT, APX_FW_SVN, THM_LEVEL, THM_SHUT_AT] := by
  repeat' apply And.intro
  all_goals decide

/-- A state and operands that meet the hypotheses of ReleaseAndBoot. -/
theorem witness_ReleaseAndBoot :
    powered.mode = modeReset ∧ powered.pins.aon = true ∧ powered.pins.supplies = true ∧
    unreset.mode = modeReset ∧ unreset.pins.aon = true ∧ unreset.pins.refclk = true ∧ unreset.pins.perst = false ∧ unreset.pins.supplies = true ∧
    State.reset.mode = modeReset ∧ State.reset.pins.supplies = false ∧
    { unreset with pins := { unreset.pins with refclk := false } }.pins.refclk = false ∧
    booting.mode = modeBoot ∧ booting.on AXS_STAT_LOCKED = true ∧ booting.get APX_BOOT_STAT_FW_RESULT ≠ 2 ∧
    (booting.set APX_BOOT_STAT_FW_RESULT 2).mode = modeBoot ∧ (booting.set APX_BOOT_STAT_FW_RESULT 2).on AXS_STAT_LOCKED = true ∧ (booting.set APX_BOOT_STAT_FW_RESULT 2).get APX_BOOT_STAT_FW_RESULT = 2 ∧
    idle.mode ≠ modeReset ∧ idle.mode ≠ modeBoot ∧ idle.on (faultActive 97) = false ∧ idle.on (faultRail 97) = false := by
  repeat' apply And.intro
  all_goals decide

/-! ## Witnesses: registers, updates, the site map -/

/-- A state and operands that meet the hypotheses of ClocksAndSupplies. -/
theorem witness_ClocksAndSupplies :
    State.reset.on AXS_STAT_LOCKED = false ∧ State.reset.pins.refclk = true ∧
    idle.mode ≠ modeReset ∧
    Store.find (fun _ => 0) { idle.pins with outside := [(5, 15)] }.outside 5 = 15 ∧ idle.on (faultActive 113) = false ∧ idle.on (faultRail 113) = false := by
  repeat' apply And.intro
  all_goals decide

/-- A state and operands that meet the hypotheses of RegisterWriteReachesTheRegister. -/
theorem witness_RegisterWriteReachesTheRegister :
    idle.takes .host (GLB_SCRATCH 0) = true ∧
    (inMode 1).hostShut .host 0x10000 = true ∧
    (inMode 6).windowGated 0x1000000 = true ∧
    (inMode 2).mode ≠ modeReset := by
  repeat' apply And.intro
  all_goals decide

/-- A state and operands that meet the hypotheses of FieldsFollowTheirAccessType. -/
theorem witness_FieldsFollowTheirAccessType :
    (match rowAt FCL_STAT with | some (r, false) => r.fields != [] | _ => false) = true := by
  repeat' apply And.intro
  all_goals decide

/-- A state and operands that meet the hypotheses of AccessErrorsAreCaptured. -/
theorem witness_AccessErrorsAreCaptured :
    idle.pathDead .host = false ∧ idle.hostShut .host GLB_SERIAL = false ∧ idle.windowGated GLB_SERIAL = false ∧ idle.implemented GLB_SERIAL = true ∧
    (match rowAt GLB_SERIAL with | some (r, false) => r.quad | _ => false) = true ∧ (match rowAt (GLB_SCRATCH 0) with | some (r, false) => !r.quad | _ => false) = true ∧
    idle.implemented (GLB_SCRATCH 0) = true ∧ (7 : Nat) ≠ 0xF ∧
    idle.on GLB_ACCESS_ERR_VALID = false ∧ (idle.set GLB_ACCESS_ERR_VALID 1).on GLB_ACCESS_ERR_VALID = true ∧
    (5 < 8 ∧ 2 < 4 ∧ 0x3FFFFFF < 2 ^ 26 ∧ 15 < 16 ∧ Path.apex ≠ Path.smbus : Prop) := by
  repeat' apply And.intro
  all_goals decide

def latched : State := { idle with latches := [(0, some (GLB_SERIAL, 9))] }

/-- A state and operands that meet the hypotheses of UnimplementedAccesses. -/
theorem witness_UnimplementedAccesses :
    idle.implemented 0x80000 = false ∧ idle.hostShut .host 0x80000 = false ∧ idle.windowGated 0x80000 = false ∧ idle.mode ≠ modeReset ∧
    idle.rings ≤ 131072 / 8 ∧ modeBoot < idle.mode := by
  repeat' apply And.intro
  all_goals decide

def opened : State := idle.set GLB_GUARD_STAT_HOST_OPEN 1

/-- A state and operands that meet the hypotheses of ReadsLatchAndReturn. -/
theorem witness_ReadsLatchAndReturn :
    (match rowAt GLB_SERIAL with | some (r, false) => r.quad && r.holds | _ => false) = true ∧ idle.implemented GLB_SERIAL = true ∧
    indexIn (ICL_CLAIM 0) 4 16 GLB_SERIAL = none ∧ indexIn (FCL_HIST 0) 16 16 GLB_SERIAL = none ∧
    (match rowAt (GLB_SERIAL + 4) with | some (r, true) => r.quad | _ => false) = true ∧ latched.implemented (GLB_SERIAL + 4) = true ∧ latched.latch .host = some (GLB_SERIAL, 9) ∧
    latched.pathDead .host = false ∧ latched.hostShut .host (GLB_SERIAL + 4) = false ∧ latched.windowGated (GLB_SERIAL + 4) = false ∧
    idle.takes .host (GLB_SCRATCH 0) = true ∧ indexIn (ICL_CLAIM 0) 4 16 (GLB_SCRATCH 0) = none ∧ indexIn (FCL_HIST 0) 16 16 (GLB_SCRATCH 0) = none := by
  repeat' apply And.intro
  all_goals decide

def armedAt : State := { (idle.set GLB_UPDATE_STAT_ARMED 1) with armed := some ⟨2 ^ 17, 100⟩, now := 200, shadow := [(0x20000, 3)] }

def armedLater : State := { armedAt with now := 50 }

/-- A state and operands that meet the hypotheses of UnlockOpensTheGuard. -/
theorem witness_UnlockOpensTheGuard :
    Path.host ≠ Path.smbus ∧ (5 : Nat) < 2 ^ 32 ∧ (5 : Nat) ≠ 0xC3D17A5E ∧ idle.mode ≠ modeReset ∧
    opened.takes .host (GLB_SCRATCH 0) = true ∧ opened.guardOpen .host = true := by
  repeat' apply And.intro
  all_goals decide

def armedSel : State := { armedAt with shadow := [(0x50050, 3)] }

def checking : State := idle.set ARC_SITE_CTRL_CHECK 1

def contacting : State := { idle with contact := some (2 ^ 3, 0) }

/-- A state and operands that meet the hypotheses of UpdatesArmCancelAndApply. -/
theorem witness_UpdatesArmCancelAndApply :
    idle.takes .host GLB_UPDATE = true ∧ 0x20000 < 2 ^ 18 ∧ idle.on GLB_UPDATE_STAT_ARMED = false ∧ 0x20000 &&& idle.islandMask ≠ 0 ∧
    armedAt.takes .host GLB_UPDATE = true ∧ armedAt.on GLB_UPDATE_STAT_ARMED = true ∧
    armedLater.armed = some ⟨2 ^ 17, 100⟩ ∧ (armedLater.tick 5).past 100 = false ∧
    armedAt.armed = some ⟨2 ^ 17, 100⟩ ∧ (armedAt.tick 5).past 100 = true ∧ idle.armed = none ∧
    armedSel.shadow = [(0x50050, 3)] ∧ islandOf 0x50050 = 17 ∧ armedSel.islandDown 17 = false ∧ 0x50050 ∉ [GLB_UPDATE_STAT, GLB_UPDATE_DONE, GLB_UPDATE_MISS, GLB_UPDATE_APPLIED_AT, GLB_SHADOW_DIRTY, ICL_PEND 31, DMA_MSIX_PBA 0] := by
  repeat' apply And.intro
  all_goals decide

def aligned : State := idle.set ARC_SITE_STAT_VALID 1

/-- A state and operands that meet the hypotheses of SiteMapCommands. -/
theorem witness_SiteMapCommands :
    idle.takes .host 0x600000 = true ∧ inSiteTables 0x600000 = true ∧ (match rowAt 0x600000 with | some (r, false) => !r.quad | _ => false) = true ∧
    idle.takes .host ARC_SITE_CTRL = true ∧ idle.siteRuns = false ∧ idle.contact = none ∧ idle.mode = modeIdle ∧
    checking.takes .host ARC_SITE_CTRL = true ∧ checking.siteRuns = true ∧ checking.siteEdited = false ∧
    contacting.siteRuns = false ∧ contacting.contact.isSome = true ∧ contacting.takes .host ARC_SITE_CTRL = true ∧
    (inMode 3).siteRuns = false ∧ (inMode 3).contact = none ∧ (inMode 3).mode ≠ modeIdle ∧ (inMode 3).mode ≠ modeBoot ∧ (inMode 3).takes .host ARC_SITE_CTRL = true := by
  repeat' apply And.intro
  all_goals decide

def seated : State := { aligned with map := [(0x600000, 1)] }

def site : State := let s := ((((idle.set GLB_IDENT_MEMBER 2).set (SIT_VX0_STATE 0) 1).set (SIT_CH0_SHARED_COUNT 0) 8).set (SIT_CH0_ENABLE 0) 1).set ARC_SITE_STAT_VALID 1; { s with map := s.editCopy }

/-- A state and operands that meet the hypotheses of ContactTest. -/
theorem witness_ContactTest :
    aligned.takes .host ARC_SITE_CTRL = true ∧ aligned.contact = none ∧ aligned.mode = modeIdle ∧ aligned.on ARC_SITE_STAT_VALID = true ∧
    contacting.contact = some (2 ^ 3, 0) ∧ (3 < 2048 ∧ 4 < 2048 ∧ 4 ≠ 3 : Prop) ∧ 0 + 256 * contacting.get ARC_CONTACT_SETTLE_SETTLE ≤ contacting.elapsed + 2 ^ 30 ∧
    contacting.elapsed + 5 < 0 + 256 * contacting.get ARC_CONTACT_SETTLE_SETTLE ∧
    (inMode 3).contact = none ∧ (inMode 3).mode ≠ modeIdle := by
  repeat' apply And.intro
  all_goals decide

/-! ## Witnesses: pin electronics, Axis time, rays, waveforms -/

def pmu : State := modFct 0 (fun x => { x with awake := 1 }) (((inMode 3).set (FCT_PMU_CTRL_MODE 0 0) 1).set (FCT_PMU_CTRL_RANGE 0 0) 2)

def settling : State := startPmu 0 pmu

def queued : State := modAdc 0 (fun x => { x with queue := [(0, 0)] }) (settling.set (FCT_PMU_CTRL_SAMPLES 0 0) 1)

def badClamps : State := (pmu.set (FCT_LS3_CLAMP_HI 0 0) 0).set (FCT_LS3_CLAMP_LO 0 0) 5

/-- A state and operands that meet the hypotheses of InkAndWallclock. -/
theorem witness_InkAndWallclock :
    site.takes .host (ARC_INKED 0) = true ∧ 0 < site.vertices ∧ site.onBus 0 = true ∧ site.inked 0 = false ∧ site.busFree (site.chordOf 0) = true ∧ site.op 0 = none ∧ site.vstate 0 ≠ vsHeld ∧
    idle.takes .host (ARC_INKED 127) = true ∧ idle.onBus 4095 = false ∧
    idle.pathDead .host = false ∧ idle.hostShut .host ARC_WALLCLOCK = false := by
  repeat' apply And.intro
  all_goals decide

/-- A state and operands that meet the hypotheses of OvercurrentParksTheChannel. -/
theorem witness_OvercurrentParksTheChannel :
    2047 < 2048 ∧ idle.maint.run = none ∧ idle.contact = none ∧
    idle.takes .host (FCT_OC_STAT 15 3) = true ∧
    (127 < 128 : Prop) := by
  repeat' apply And.intro
  all_goals decide

/-- A state and operands that meet the hypotheses of PmuMeasurementRuns. -/
theorem witness_PmuMeasurementRuns :
    pmu.takes .host (FCT_PMU_CTRL 0 0) = true ∧ pmu.channelState 0 = chPmu ∧ bitsAt 9 0 2 = pmu.get (FCT_PMU_CTRL_MODE 0 0) ∧ bitsAt 9 2 2 = pmu.get (FCT_PMU_CTRL_RANGE 0 0) ∧ (9).testBit 13 = false ∧ (9).testBit 12 = false ∧
    pmu.pmuBusy 0 = false ∧ pmu.contact = none ∧ pmu.badClamp 0 = false ∧
    badClamps.pmuBusy 0 = false ∧ badClamps.badClamp 0 = true ∧ settling.pmuBusy 0 = true ∧
    pmu.takes .host (FCT_PMU_CTRL 15 127 + 4) = true ∧
    (settling.chan 0).stage = .settling ∧ (settling.tick (2 ^ 40)).settleEnd 0 ≤ settling.elapsed + 2 ^ 40 ∧ settling.elapsed + 0 < (settling.tick 0).settleEnd 0 := by
  repeat' apply And.intro
  all_goals decide

def counterr : State := (idle.setBit AXS_REPLICA_CNTERR_ISLAND 17 true)

def recaling : State := { idle.set AXS_CTRL_RECAL 1 with axs := { idle.axs with calibrating := true } }

/-- A state and operands that meet the hypotheses of PmuMeasurementCompletes. -/
theorem witness_PmuMeasurementCompletes :
    (queued.adc (adcOf 0)).queue = [(0, 0)] ∧ [(-7 : Int)].length = queued.pmuSamples 0 ∧ max (256 * 0) (queued.adc (adcOf 0)).free + 256 * 1600 * queued.pmuSamples 0 ≤ queued.elapsed + 2 ^ 30 ∧ (queued.tick (2 ^ 30)).adcHeld (adcOf 0) (max (256 * 0) (queued.adc (adcOf 0)).free) = false ∧
    queued.elapsed + 0 < max (256 * 0) (queued.adc (adcOf 0)).free + 256 * 1600 * queued.pmuSamples 0 ∧
    (queued.adc (adcOf 1)).queue = [(0, 0)] ∧ (0 : Nat) ≠ 1 := by
  repeat' apply And.intro
  all_goals decide

def epochal : State := { (idle.set AXS_STAT_LOCKED 1).set AXS_SYNC_CFG_ARM 1 with now := 1000, axs := { idle.axs with epoch := some 900 } }

/-- A state and operands that meet the hypotheses of ReplicasAreKept. -/
theorem witness_ReplicasAreKept :
    (17 < 18 : Prop) ∧ idle.phaseOn 0 = false ∧ -32768 < idle.replicaOfs 0 ∧ idle.replicaOfs 0 < 32767 ∧ (5 : Int) ≠ 0 ∧
    4 < (5 : Int).natAbs ∧ { idle.axs with bigLast := 2 ^ 17 }.bigLast.testBit 17 = true ∧
    counterr.bitOf AXS_REPLICA_CNTERR_ISLAND 17 = true ∧ idle.bitOf AXS_REPLICA_CNTERR_ISLAND 17 = false ∧
    idle.takes .host AXS_CTRL = true ∧ idle.mode = modeIdle ∧ idle.on AXS_CTRL_RECAL = false ∧ (inMode 3).takes .host AXS_CTRL = true ∧ (inMode 3).mode ≠ modeIdle ∧
    recaling.axs.calibrating = true ∧ 0 ∈ recaling.islands ∧ [(-3 : Int)][0]? = some (-3) := by
  repeat' apply And.intro
  all_goals decide

/-! ## Witnesses: phases, vectors, streams, waveforms -/

def rig (st : Nat) : State := ((idle.set GLB_IDENT_MEMBER 2).set (FCT_RAY_STAT_ASSIGNED 0 0) 1).set (FCT_RAY_STAT_STATE 0 0) st

def boxed : State := modFct 0 (fun x => { x with inbox := [⟨0, 3, [0], [], [], 32, 1, 7⟩] }) (rig 0)

def entered : State := (boxed.set (FCT_ENTRY_VALID 0 0 3) 1).set (FCT_ENTRY_ADDR 0 0 3) 77

/-- A state and operands that meet the hypotheses of EpochsRestartTheCount. -/
theorem witness_EpochsRestartTheCount :
    epochal.axs.epoch = some 900 ∧ (epochal.tick 5).past (stampAdd 900 (epochal.get AXS_SYNC_DESKEW_D)) = true ∧ epochal.on AXS_SYNC_CFG_ARM = true ∧ epochal.mode = modeIdle ∧ epochal.on GLB_UPDATE_STAT_ARMED = false ∧ (endAllUnits (forgetEdges (zeroEpoch 900 (epochal.tick 5)))).mode ≠ modeDoze ∧
    { epochal with now := 100 }.axs.epoch = some 900 ∧ ({ epochal with now := 100 }.tick 5).past (stampAdd 900 (epochal.get AXS_SYNC_DESKEW_D)) = false ∧
    (epochal.set AXS_SYNC_CFG_ARM 0).on AXS_SYNC_CFG_ARM = false ∧ (epochal.set AXS_SYNC_CFG_ARM 0).mode ≠ modeDoze ∧
    idle.takes .host AXS_SYNC_CFG = true ∧ idle.takes .host AXS_SYNC_FIRE = true ∧ (idle.set AXS_SYNC_CFG_OUT_MODE 1).takes .host AXS_SYNC_FIRE = true ∧ (idle.set AXS_SYNC_CFG_OUT_MODE 1).get AXS_SYNC_CFG_OUT_MODE = 1 ∧ idle.get AXS_SYNC_CFG_OUT_MODE ≠ 1 := by
  repeat' apply And.intro
  all_goals decide

def asked (q : Request) (d : Bool) : State := modRay 0 0 (fun x => { x with latched := some q, due := d }) ((rig 2).set (FCT_JVEC_VALID 0 5) 1)

def aborting : State := modRay 0 0 (fun x => { x with abort := some 0, index := 0 }) { rig 2 with now := 256 * 200, elapsed := 256 * 200 }

def late : State := modRay 0 0 (fun x => { x with abort := some 0, index := 32 }) { rig 2 with now := 256 * 400, elapsed := 256 * 400 }

/-- A state and operands that meet the hypotheses of PhaseStartsAtItsBoundary. -/
theorem witness_PhaseStartsAtItsBoundary :
    (boxed.fct 0).inbox.find? (fun q => q.chord = 0) = some ⟨0, 3, [0], [], [], 32, 1, 7⟩ ∧ boxed.rayOf 0 0 = some 0 ∧ boxed.rayState 0 0 = rayIdle ∧
    boxed.mapGet (SIT_CH0_TEMPLATE 0) < 16 ∧ boxed.on (FCT_ENTRY_VALID 0 (boxed.mapGet (SIT_CH0_TEMPLATE 0)) 3) = false ∧
    (entered.fct 0).inbox.find? (fun q => q.chord = 0) = some ⟨0, 3, [0], [], [], 32, 1, 7⟩ ∧ entered.rayOf 0 0 = some 0 ∧ entered.rayState 0 0 = rayIdle ∧ entered.mapGet (SIT_CH0_TEMPLATE 0) < 16 ∧ entered.on (FCT_ENTRY_VALID 0 (entered.mapGet (SIT_CH0_TEMPLATE 0)) 3) = true ∧
    (rig 1).rayState 0 0 = rayArmed ∧ ((rig 1).ray 0 0).abort = none ∧ ((rig 1).tick 8).past (((rig 1).tick 8).vectorTime 0 ((rig 1).ray 0 0).start) = true ∧
    ((rig 0).fct 0).inbox.find? (fun q => q.chord = 0) = none ∧ (rig 0).rayState 0 0 ≠ rayArmed := by
  repeat' apply And.intro
  all_goals decide

/-- A state and operands that meet the hypotheses of RequestsReachTheRays. -/
theorem witness_RequestsReachTheRays :
    (rig 2).takes .host (ARC_JREQ 0) = true ∧ (rig 0).chordRunning 1 = false ∧
    (rig 2).chordRunning 0 = true ∧ (0, 0) ∈ (rig 2).chordRays 0 ∧ (rig 2).rayState 0 0 ≠ rayIdle ∧ ((rig 2).ray 0 0).abort = none ∧ ∀ x ∈ (rig 2).chordRays 0, ((rig 2).ray x.1 x.2).latched = none := by
  repeat' apply And.intro
  all_goals decide

def midway (st : Nat) : State := modRay 0 0 (fun x => { x with index := 1, left := 3 }) { rig st with now := 256 * 400, elapsed := 256 * 400 }

def rated : State := modFct 0 (fun x => { x with due := some ⟨none, 2⟩ }) (modRay 0 0 (fun x => { x with index := 31 }) { rig 4 with now := 256 * 400, elapsed := 256 * 400 })

def deferred : State := (idle.set (FCT_TIMING_STAT_ANCHOR_DEFERRED 0) 1).set (FCT_ANCHOR_ANCHOR 0) 1234

/-- A state and operands that meet the hypotheses of PhasesEnd. -/
theorem witness_PhasesEnd :
    ((asked ⟨0, 5, 0, 1⟩ true).ray 0 0).latched = some ⟨0, 5, 0, 1⟩ ∧ ((asked ⟨0, 5, 0, 1⟩ true).ray 0 0).due = true ∧ (asked ⟨0, 5, 0, 1⟩ true).rayState 0 0 = rayRun ∧ (asked ⟨0, 5, 0, 1⟩ true).on (FCT_JVEC_VALID 0 5) = true ∧ ((asked ⟨0, 5, 0, 1⟩ true).ray 0 0).block = none ∧
    ((asked ⟨1, 0, 0, 1⟩ true).ray 0 0).latched = some ⟨1, 0, 0, 1⟩ ∧ ((asked ⟨1, 0, 0, 1⟩ true).ray 0 0).due = true ∧ (asked ⟨1, 0, 0, 1⟩ true).rayState 0 0 = rayRun ∧
    ((rig 2).ray 0 0).latched = none ∧ ((rig 2).ray 0 0).abort = none ∧
    (late.ray 0 0).abort = some 0 ∧ late.rayState 0 0 = rayRun ∧ late.isBoundary 0 (late.ray 0 0).index = true ∧ (late.tick 5).past (late.vectorTime 0 (late.ray 0 0).index) = true ∧ 0 ≤ stampDiff (late.vectorTime 0 (late.ray 0 0).index) (abortFrom 0) ∧
    (rig 4).rayState 0 0 = rayFill ∧ ((rig 4).ray 0 0).left = 0 ∧ ((rig 4).ray 0 0).err < 16 ∧ ((rig 4).tick 5).past ((rig 4).vectorTime 0 ((rig 4).ray 0 0).index) = true ∧ (rig 2).rayState 0 0 ≠ rayFill := by
  repeat' apply And.intro
  all_goals decide

def linked (s : State) : State := { s.set DMA_LINK_STAT_UP 1 with icl := { s.icl with busMaster := true } }

def fetching : State := linked ((((rig 0).set (FCT_SQ_CFG_SIZE 0 0) 64).set (FCT_SQ_PROD_PROD 0 0) 4).set (FCT_SQ_CFG_BASE 0 0) 3)

/-- A state and operands that meet the hypotheses of VectorsPlayOnTheGrid. -/
theorem witness_VectorsPlayOnTheGrid :
    (midway 2).rayState 0 0 = rayRun ∧ ((midway 2).tick 5).past ((midway 2).vectorTime 0 ((midway 2).ray 0 0).index) = true ∧ (midway 2).isBoundary 0 ((midway 2).ray 0 0).index = false ∧ ((midway 2).ray 0 0).abort = none ∧ ((midway 2).ray 0 0).latched = none ∧ rateChange 0 ((midway 2).tick 5) = (midway 2).tick 5 ∧
    (midway 4).rayState 0 0 = rayFill ∧ ((midway 4).ray 0 0).left ≠ 0 ∧ ((midway 4).tick 5).past ((midway 4).vectorTime 0 ((midway 4).ray 0 0).index) = true ∧ (midway 4).isBoundary 0 ((midway 4).ray 0 0).index = false ∧ ((midway 4).ray 0 0).abort = none ∧ ((midway 4).ray 0 0).latched = none ∧ rateChange 0 ((midway 4).tick 5) = (midway 4).tick 5 ∧
    rayBusy (idle.rayState 0 0) = false ∧ ({ midway 2 with now := 0 }.tick 5).past ((midway 2).vectorTime 0 ((midway 2).ray 0 0).index) = false ∧
    rated.nextIndex 0 = some 31 ∧ (rated.fct 0).due = some ⟨none, 2⟩ ∧ rated.isBoundary 0 (31 + 1) = true ∧ (rated.fct 0).trans = none ∧ (rated.tick 5).past (rated.vectorTime 0 31) = true ∧ rated.selectors 0 31 = [] ∧ idle.nextIndex 0 = none ∧
    deferred.phaseOn 0 = false ∧ (deferred.fct 0).due = none ∧ Store.find (fun _ => (0 : Int)) deferred.axs.moves 0 = 0 ∧ deferred.on (FCT_TIMING_STAT_ANCHOR_DEFERRED 0) = true ∧ (rig 2).phaseOn 0 = true ∧
    (rig 2).chordRays 0 = [(0, 0)] ∧ (rig 2).rayState 0 0 = rayRun ∧ (rig 1).chordRays 0 = [(0, 0)] ∧ (rig 1).rayState 0 0 ≠ rayRun ∧ (rig 1).rayState 0 0 ≠ rayHold := by
  repeat' apply And.intro
  all_goals decide

def waved (st : Nat) : State := (idle.set (FCT_WG_STAT_STATE 0 0) st).set (FCT_WG_CFG_NSEG 0 0) 1

def wave (st : Nat) : State := (((waved st).set (FCT_WG_SEG_LEN_G 0 0 0) 4).set (FCT_WG_CFG_REPEAT 0 0) 1)

def waveArmed : State := modWave 0 0 (fun w => { w with armed := some 9 }) ((wave 1).set AXS_STAT_LOCKED 1)

def waveLatched (b : Bool) : State := modWave 0 0 (fun w => { w with latched := some b, latchEnd := 0 }) (wave 2)

def waveTs : State := modWave 0 0 (fun w => { w with newTs := some 0 }) (wave 2)

def waveLate : State := modWave 0 0 (fun w => { w with armed := some 2000 }) (wave 1)

/-- A state and operands that meet the hypotheses of StreamsAndMicrocode. -/
theorem witness_StreamsAndMicrocode :
    (rig 0).takes .host (FCT_SQ_CFG 0 0) = true ∧ (rig 0).rayState 0 0 = rayIdle ∧ (rig 2).takes .host (FCT_SQ_CFG 0 0) = true ∧ (rig 2).rayState 0 0 ≠ rayIdle ∧ (rig 2).takes .host (FCT_SQ_PROD 0 0) = true ∧
    (fetching.tick 5).queueFetches 0 0 = true ∧ 0 < (fetching.tick 5).queueWants 0 0 ∧ translate (.stream 0 0) ((fetching.tick 5).queueNextAt 0 0) false (fetching.tick 5) = (true, fetching.tick 5) ∧
    (15 < 16 ∧ 8191 < 8192 : Prop) ∧ idle.takes .host (0x1000000 + 0x80000 * 15 + 32 * 8191 + 4 * 7) = true ∧ (rig 2).takes .host (0x1000000 + 0x80000 * 0 + 32 * 8191 + 4 * 7) = true ∧ (rig 2).raysIdle 0 = false ∧ idle.raysIdle 15 = true := by
  repeat' apply And.intro
  all_goals decide

/-- A state and operands that meet the hypotheses of WaveCommands. -/
theorem witness_WaveCommands :
    idle.takes .host (FCT_WG_CMD 15 3) = true ∧ (waved 0).takes .host (FCT_WG_CMD 0 0) = true ∧ (waved 0).wgRefused 0 0 = true ∧ (wave 0).wgRefused 0 0 = false ∧ (wave 0).wgState 0 0 = wgIdle ∧
    (wave 1).takes .host (FCT_WG_CMD 0 0) = true ∧ (wave 1).wgState 0 0 = wgArmed ∧ (wave 2).takes .host (FCT_WG_CMD 0 0) = true ∧ (wave 2).wgState 0 0 = wgPlay ∧ (wave 2).wgRefused 0 0 = false ∧ (wave 3).wgState 0 0 = wgHeld ∧ (wave 3).wgRefused 0 0 = false ∧ (wave 3).takes .host (FCT_WG_CMD 0 0) = true := by
  repeat' apply And.intro
  all_goals decide

/-! ## Witnesses: Arc -/

def host : State := { site.set GLB_MODE_MODE 3 with now := 2 ^ 30, elapsed := 2 ^ 30 }

def ended (v : Nat) (t : State) : Option (Nat × Nat × Nat) := (t.op v).bind fun o => o.status.map fun x => (x.1, x.2, o.doneAt)

def command (ty busy p0 p1 : Nat) : List Byte := fit 64 ([5, 0, BitVec.ofNat 8 ty, 0, 3, BitVec.ofNat 8 busy, 0, 0, 0, 0, 0, 0, 0, 0, 0, 0, BitVec.ofNat 8 p0, 0, 0, 0, BitVec.ofNat 8 p1])

def posted1 (ty : Nat) : State := let s := ((host.set (RNG_CTRL_PLACE 0) 1).set (RNG_STAT_STATE 0) 1).set (RNG_PROD_PROD 0) 1; { s with pool := Memory.putBytes s.pool (s.entryAddr 0 0) (command ty 1 0 0) }

def holding (st : Nat) (o : ArcOp) : State := setOp 0 (some o) (host.set (ARC_VSTAT_STATE 0) st)

def gathering : State := modChord 0 (fun c => { c with gathers := [⟨[], [0], 0⟩] }) (holding 2 (ArcOp.init (command 1 1 0 0)))

/-- A state and operands that meet the hypotheses of WavesPlay. -/
theorem witness_WavesPlay :
    (waveArmed.wave 0 0).armed = some 9 ∧ waveArmed.wgState 0 0 = wgArmed ∧ (waveArmed.tick 10).past 9 = true ∧ (waveLate.wave 0 0).armed = some 2000 ∧ (waveLate.tick 10).past 2000 = false ∧
    (wave 3).wgState 0 0 ≠ wgPlay ∧ (wave 2).wgState 0 0 = wgPlay ∧ (wave 2).on (FCT_WG_CFG_REPEAT 0 0) = true ∧
    (waveLatched false).wgState 0 0 = wgPlay ∧ ((waveLatched false).tick 5).past ((waveLatched false).wgTimeOf 0 0 ((waveLatched false).wave 0 0).latchEnd) = true ∧ ((waveLatched false).wave 0 0).latched = some false ∧
    ((waveLatched true).tick 5).past ((waveLatched true).wgTimeOf 0 0 ((waveLatched true).wave 0 0).latchEnd) = true ∧ ((waveLatched true).wave 0 0).latched = some true ∧
    (waveTs.wave 0 0).newTs = some 0 ∧ waveTs.wgState 0 0 = wgPlay ∧ (waveTs.tick 5).past (waveTs.wgTimeOf 0 0 ((waveTs.wgPosition 0 0 0 + 64 * 65536 - 1) / (64 * 65536) * 64)) = true ∧
    ({ wave 2 with now := 0 } : State).wgState 0 0 = wgPlay ∧ ((modWave 0 0 (fun w => { w with newTs := some 70000 }) (wave 2)).tick 5).past ((wave 2).wgTimeOf 0 0 (((wave 2).wgPosition 0 0 70000 + 64 * 65536 - 1) / (64 * 65536) * 64)) = false := by
  repeat' apply And.intro
  all_goals decide

def gatedOp (gate : Bool) : State := let s := holding 2 (ArcOp.init (command 9 1 1 3)); let s := (s.set (SIT_VX2_GATE_EN 0) gate.toNat).set (SIT_VX2_GATE_CH 0) 7; { s with map := s.editCopy }

def ganged (n : Nat) : State := modChord 0 (fun c => { c with gangs := [⟨[0], 0, none, n, none⟩] }) ((((holding 2 (ArcOp.init (command 1 1 0 0))).set THM_BUDGET_MW 9000).set (FCT_RAY_STAT_ASSIGNED 0 0) 1).set (FCT_TPL_ID_ID 0 0) 9)

def outbid : State := let s := ganged 0; let s := (s.set (SIT_VX0_CHORD 1) 1).set (ARC_VSTAT_STATE 1) vsBusy; { s with map := s.editCopy, arc := { s.arc with ops := s.arc.ops ++ [(1, some { ArcOp.init (command 1 4 0 0) with admitted := some 0, due := 2 ^ 30, deadline := 2 ^ 40 })] } }

def granted : State := modChord 0 (fun c => { c with granted := some ⟨[0], 0, none, 0, none⟩, gangs := [] }) (ganged 0)

def polling : State := (((holding 4 { ArcOp.init (command 1 4 0 0) with admitted := some 0, due := 2 ^ 30, deadline := 2 ^ 40 }).set THM_BUDGET_MW 9000).set (FCT_RAY_STAT_ASSIGNED 0 0) 1).set (FCT_TPL_ID_ID 0 0) 9

/-- A state and operands that meet the hypotheses of DescriptorsAreTaken. -/
theorem witness_DescriptorsAreTaken :
    (posted1 1).on (faultActive 64) = false ∧ (posted1 1).on (faultRail 64) = false ∧ (posted1 1).reactionOn 16 = false ∧ 0 < (posted1 1).vertices ∧ (posted1 1).running = true ∧ (posted1 1).vstate 0 = vsIdle ∧ (posted1 1).ringState 0 = ringRun ∧ (posted1 1).ringCount 0 ≠ 0 ∧ (posted1 1).on (RNG_CTRL_PLACE 0) = true ∧ (posted1 1).arc.drain = 0 ∧ (posted1 1).arc.marks = [] ∧ (posted1 1).onBus 0 = true ∧ (posted1 1).inked 0 = false ∧ (posted1 1).backPressure 0 = false ∧
    (posted1 1).badDesc 0 ((posted1 1).headEntry 0 []) = 0 ∧
    (holding 1 (ArcOp.init (command 1 1 0 0))).op 0 = some (ArcOp.init (command 1 1 0 0)) ∧ (holding 1 (ArcOp.init (command 1 1 0 0))).vstate 0 = vsWait ∧ (holding 1 (ArcOp.init (command 1 1 0 0))).vhold 0 = false ∧ (holding 1 (ArcOp.init (command 1 1 0 0))).backPressure 0 = false ∧ ((holding 1 (ArcOp.init (command 1 1 0 0))).tick 5).notBeforeReached (ArcOp.init (command 1 1 0 0)).desc = true ∧
    gathering.reactionOn 16 = false ∧ (gathering.chord (gathering.chordOf 0)).gathers.find? (fun g => 0 ∈ g.members) = some ⟨[], [0], 0⟩ ∧ gathering.pollRuns (gathering.chordOf 0) (stampAdd 0 gathering.regang) = false ∧ (gathering.tick 5).past (stampAdd 0 gathering.regang) = true := by
  repeat' apply And.intro
  all_goals decide

def launched (p : BusPhase) : State := modChord 0 (fun c => { c with phase := some p }) { granted with arc := { granted.arc with serial := 9 } }

def aPhase (kind : Nat) : BusPhase := ⟨kind, [0], 3, [], 7, 2 ^ 30 + 4096, 0, 0, []⟩

def heldChord (t : Nat) : State := modChord 0 (fun c => { c with held := some (t, 2) }) (((ganged 0).set ARC_HOLD_MAX_TICKS 100).set (ARC_CHORD_STAT_HOLD_TPL 0) 1)

/-- A state and operands that meet the hypotheses of AdmissionAndIssue. -/
theorem witness_AdmissionAndIssue :
    (gatedOp false).reactionOn 16 = false ∧ (gatedOp false).op 0 = some (ArcOp.init (command 9 1 1 3)) ∧ (gatedOp false).vstate 0 = vsGather ∧ (gatedOp false).running = true ∧ (gatedOp false).on ARC_SITE_STAT_VALID = true ∧ (gatedOp false).arc.drain = 0 ∧ ((gatedOp false).tick 5).waits 0 = false ∧ opType (command 9 1 1 3) = opPower ∧ (gatedOp false).gateChannel 0 = none ∧
    (gatedOp true).op 0 = some (ArcOp.init (command 9 1 1 3)) ∧ (gatedOp true).vstate 0 = vsGather ∧ ((gatedOp true).tick 5).waits 0 = false ∧ (gatedOp true).gateChannel 0 ≠ none ∧
    (ganged 0).op 0 = some (ArcOp.init (command 1 1 0 0)) ∧ (ganged 0).reactionOn 16 = false ∧ (ganged 0).chordOf 0 = 0 ∧ ((ganged 0).chord 0).gangs.find? (fun g => 0 ∈ g.members) = some ⟨[0], 0, none, 0, none⟩ ∧ (ganged 0).on (ARC_CHORD_STAT_RECOVERY_FAIL 0) = false ∧
    ((ganged 0).tick 5).busy 0 = false ∧ (ganged 0).phaseHeld 0 false = false ∧ ((ganged 0).tick 5).chosen 0 ⟨[0], 0, none, 0, none⟩ = true ∧ ((ganged 0).gangCost 0 ((ganged 0).gangDesc [0]) [0] : Int) ≤ (ganged 0).credit ∧
    ((ganged 0).tick 5).laterWaits = false ∧ (outbid.tick 5).laterWaits = true ∧ (outbid.tick 5).busy 0 = false ∧ (outbid.tick 5).chosen 0 ⟨[0], 0, none, 0, none⟩ = true ∧ outbid.op 0 = some (ArcOp.init (command 1 1 0 0)) ∧ outbid.vstate 0 = vsGather ∧ (outbid.tick 5).waits 0 = false ∧
    idle.running = false ∧ ((ganged 64).chord ((ganged 64).chordOf 0)).gangs.find? (fun g => 0 ∈ g.members) = some ⟨[0], 0, none, 64, none⟩ ∧
    granted.running = true ∧ granted.busFree 0 = true ∧ (granted.chord 0).granted = some ⟨[0], 0, none, 0, none⟩ ∧ opType (granted.gangDesc [0]) ≠ opMeasure ∧
    idle.pollDue 0 = none ∧ polling.pollDue 0 = some (2 ^ 30) ∧ polling.running = true ∧ polling.busFree 0 = true ∧ (polling.chord 0).granted = none ∧ (polling.tick 5).pollReady 0 = true ∧ polling.on (ARC_CHORD_STAT_RECOVERY_FAIL 0) = false ∧ polling.needsRecovery 0 = false ∧ polling.phaseHeld 0 false = false ∧ polling.arc.drain = 0 ∧ (polling.phaseCost 0 : Int) ≤ polling.credit ∧
    ({ polling with now := 2 ^ 28 } : State).pollDue 0 = some (2 ^ 30) ∧ (({ polling with now := 2 ^ 28 } : State).tick 5).pollReady 0 = false := by
  repeat' apply And.intro
  all_goals decide

def phaseOver (st : Nat) : State := modRay 0 0 (fun x => { x with serial := 7, endAt := 77 }) ((modOp 0 (fun o => { o with admitted := some 1 }) (launched (aPhase 0))).set (ARC_VSTAT_STATE 0) 3 |>.set (FCT_RAY_STAT_STATE 0 0) st)

def inBusy (level deadline : Nat) : State := let s := holding 4 { ArcOp.init (command 4 2 0 0) with admitted := some 0, tEnd := 1000, level := level, deadline := deadline }; let s := (s.set (SIT_VX2_BUSY_EN 0) 1).set (SIT_VX2_BUSY_CH 0) 7; { s with map := s.editCopy }

def powering : State := setOp 0 (some { ArcOp.init (command 9 1 1 3) with admitted := some 0, tEnd := 1000 }) (gatedOp true |>.set (ARC_VSTAT_STATE 0) 4)

def averaging : State := modArc (fun a => { a with means := [⟨0, 3, 0, 10, 2 ^ 23, 2, true, false⟩] }) (inBusy 1 (2 ^ 40))

/-- A state and operands that meet the hypotheses of LateStartsAndHolds. -/
theorem witness_LateStartsAndHolds :
    (launched (aPhase 0)).reactionOn 16 = false ∧ ((launched (aPhase 0)).chord 0).phase = some (aPhase 0) ∧ (aPhase 0).kind ≠ pkMeasure ∧ stampDiff (aPhase 0).start ((launched (aPhase 0)).tick 5).now ≤ (ticksOf 64 : Int) ∧
    (((launched (aPhase 0)).chordRays 0).any fun x => (launched (aPhase 0)).rayState x.1 x.2 = rayIdle && ((launched (aPhase 0)).ray x.1 x.2).serial != (aPhase 0).serial) = true ∧
    ((launched (aPhase 4)).chord 0).phase = some (aPhase 4) ∧ (aPhase 4).kind = pkMeasure ∧ (idle.chord 511).phase = none ∧ (idle.chord 511).held = none ∧
    ((heldChord 0).chord 0).held = some (0, 2) ∧ (ticksOf ((heldChord 0).get ARC_HOLD_MAX_TICKS) : Int) < stampDiff ((heldChord 0).tick 5).now 0 ∧ ((heldChord 0).tick 5).pollReady 0 = false ∧ (heldChord 0).furtherOf 0 3 = [] ∧ (heldChord 0).nextOut 0 = none ∧ (heldChord 0).nextReplay 0 = none ∧ ((heldChord 0).chord 0).gangs = [⟨[0], 0, none, 0, none⟩] ∧
    ((heldChord (2 ^ 30)).chord 0).held = some (2 ^ 30, 2) ∧ stampDiff ((heldChord (2 ^ 30)).tick 5).now (2 ^ 30) ≤ (ticksOf ((heldChord (2 ^ 30)).get ARC_HOLD_MAX_TICKS) : Int) := by
  repeat' apply And.intro
  all_goals decide

def vheld (st : Nat) : State := (site.setBit (ARC_VHOLD_HOLD 0) 0 true).set (ARC_VSTAT_STATE 0) st

def replaying : State := modChord 511 (fun c => { c with replays := [([0], true), ([1], false)] }) idle

def failed : State := modChord 511 (fun c => { c with tries := 3 }) (idle.set (ARC_CHORD_STAT_RECOVERY_FAIL 511) 1)

/-- A state and operands that meet the hypotheses of PhasesAndBusyIntervalsEnd. -/
theorem witness_PhasesAndBusyIntervalsEnd :
    ((phaseOver 0).chord 0).phase = some (aPhase 0) ∧ (phaseOver 0).chordRays 0 = [(0, 0)] ∧ (phaseOver 2).rayState 0 0 ≠ rayIdle ∧ (phaseOver 2).chordRays 0 = [(0, 0)] ∧ ((phaseOver 2).chord 0).phase = some (aPhase 0) ∧ (idle.chord 0).phase = none ∧
    (phaseOver 0).reactionOn 16 = false ∧ (aPhase 0).kind = pkMain ∧ (aPhase 0).members = [0] ∧ (phaseOver 0).rayState 0 0 = rayIdle ∧ ((phaseOver 0).ray 0 0).serial = (aPhase 0).serial ∧ ((phaseOver 0).ray 0 0).refused = false ∧ ((phaseOver 0).tick 5).past ((phaseOver 0).ray 0 0).endAt = true ∧ (phaseOver 0).get (FCT_RAY_STAT_END_CAUSE 0 0) = endEnd ∧
    (phaseOver 0).op 0 = some { ArcOp.init (command 1 1 0 0) with admitted := some 1 } ∧ (phaseOver 0).vstate 0 = vsPhase ∧ (phaseOver 0).inked 0 = false ∧ descBusy (command 1 1 0 0) = false ∧ opType (command 1 1 0 0) ≠ opRead ∧
    (inBusy 1 (2 ^ 40)).op 0 = some { ArcOp.init (command 4 2 0 0) with admitted := some 0, tEnd := 1000, level := 1, deadline := 2 ^ 40 } ∧ (inBusy 1 (2 ^ 40)).vstate 0 = vsBusy ∧ opType (command 4 2 0 0) ≠ opPower ∧ (inBusy 1 (2 ^ 40)).busyChannel 0 = some 7 ∧ ((inBusy 1 (2 ^ 40)).tick 5).past (stampAdd 1000 (ticksOf ((inBusy 1 (2 ^ 40)).get ARC_BUSY_WB_TICKS))) = true ∧ ((inBusy 1 (2 ^ 40)).tick 5).past (2 ^ 40) = false ∧
    (inBusy 1 2000).op 0 = some { ArcOp.init (command 4 2 0 0) with admitted := some 0, tEnd := 1000, level := 1, deadline := 2000 } ∧ ((inBusy 1 2000).tick 5).past 2000 = true ∧ (inBusy 1 2000).get ARC_CFG_TO_ACTION = 0 ∧ (({ inBusy 1 2000 with now := 1000 } : State).tick 5).past (stampAdd 1000 (ticksOf ((inBusy 1 2000).get ARC_BUSY_WB_TICKS))) = false ∧
    powering.op 0 = some { ArcOp.init (command 9 1 1 3) with admitted := some 0, tEnd := 1000 } ∧ powering.vstate 0 = vsBusy ∧ (powering.tick 5).past (stampAdd 1000 (ticksOf (descParam (command 9 1 1 3) 1))) = true ∧
    averaging.reactionOn 16 = false ∧ averaging.arc.means.find? (fun m => m.vertex = 0) = some ⟨0, 3, 0, 10, 2 ^ 23, 2, true, false⟩ ∧ (averaging.tick 5).past 10 = true ∧ idle.arc.means.find? (fun m => m.vertex = 0) = none ∧
    idle.islandDown (2047 / 128) = false ∧ 2047 < idle.channels ∧ idle.channels ≤ 2048 := by
  repeat' apply And.intro
  all_goals decide

/-! ## Witnesses: Lattice -/

def aSlot (mode word : Nat) : Slot := { tag := 5, die := 0, word := word, page := 0, block := 0, readPage := true, mode := mode, map := host.posMap 0, layout := 0, bbMax := 0, toSlotCounts := SlotCounts.init, attempt := 0, before := 0, from_ := 0, integrity := false, split := false, serial := 7, waiting := [0], closing := none, verdict := none, dup := false }

def slotted (mode word : Nat) : State := setSlot 0 (some (aSlot mode word)) ((holding 6 { ArcOp.init (command 3 0 0 0) with admitted := some 0, status := some (0, 0) }).set (FCT_RAY_STAT_ASSIGNED 0 0) 1)

def fail (kind serial mask : Nat) : FailEvent := ⟨0, kind, 4, 0, mask, serial, 9, false⟩

def failing (mode word kind : Nat) : State := modFct 0 (fun x => { x with queue := [.event (fail kind 7 5)] }) (slotted mode word)

def unslotted : State := modFct 0 (fun x => { x with queue := [.event (fail 1 7 5)] }) site

def spanning : State := ((failing 3 0 1).set (FCT_RAY_STAT_ASSIGNED 1 0) 1)

def merging : State := { site with lat := { site.lat with merging := [(fail 1 7 5, 0)] }, elapsed := 2 ^ 20 }

def marked (n : Nat) : State := modFct 0 (fun x => { x with queue := [.marker 0 7 [(0, n)]] }) (slotted 3 0)

def closing (verdict : Option Nat) : State := modSlot 0 (fun x => { x with closing := some 0, waiting := [], verdict := verdict }) (slotted 1 0)

/-- A state and operands that meet the hypotheses of ArcCommandsOfSoftware. -/
theorem witness_ArcCommandsOfSoftware :
    idle.takes .host ARC_CANCEL = true ∧ modeBoot < idle.mode ∧ idle.mode ≠ modeDoze ∧ idle.arc.ops = [] ∧ host.takes .host ARC_CANCEL = true ∧
    (gathering).takes .host ARC_CANCEL = true ∧ gathering.arc.ops = [(0, some (ArcOp.init (command 1 1 0 0)))] ∧ modeBoot < gathering.mode ∧ gathering.mode ≠ modeDoze ∧ descTag (command 1 1 0 0) = 5 ∧
    replaying.takes .host ARC_REPLAY_GO = true ∧ (vheld 7).takes .host (ARC_VHOLD (0 / 32)) = true ∧ idle.takes .host (ARC_VHOLD (4095 / 32)) = true ∧ idle.vhold 4095 = false ∧ (vheld 7).vhold 0 = true ∧ (vheld 7).vstate 0 = vsHeld ∧ (vheld 4).vhold 0 = true ∧ (vheld 4).vstate 0 ≠ vsHeld ∧ (vheld 4).vstate 0 ≠ vsWait ∧
    failed.takes .host (ARC_CHORD_STAT 511) = true ∧ failed.on (ARC_CHORD_STAT_RECOVERY_FAIL 511) = true ∧ idle.on (ARC_CHORD_STAT_RECOVERY_FAIL 511) = false ∧ idle.takes .host (ARC_CHORD_STAT 511) = true := by
  repeat' apply And.intro
  all_goals decide

def clearing : State := ({ idle with cmap := [(5 * 4096 + 3, 9), (7 * 4096, 3)] }.set LAT_CLEAR_RANGE_VFIRST 5).set LAT_CLEAR_RANGE_VLAST 6 |>.set ⟨LAT_BB 5 7, 0, 32⟩ 77

def analysing (st vs : Nat) : State := (site.set LAT_RA_RANGE_VLAST vs).set (LAT_COLL_STAT_STORED 0) st

def running (vs : List Nat) (abort : Bool) : State := { (site.set LAT_RA_CMD_START 1) with lat := { site.lat with ra := some ⟨vs, false, 0, 3, abort⟩ } }

/-- A state and operands that meet the hypotheses of FailEventsAreAccounted. -/
theorem witness_FailEventsAreAccounted :
    (inMode 6).latticeStopped = true ∧ unslotted.latticeStopped = false ∧ (unslotted.fct 0).queue = .event (fail 1 7 5) :: [] ∧ (unslotted.chordRays (unslotted.chordOf (fail 1 7 5).vertex)).length ≤ 1 ∧ unslotted.slot (fail 1 7 5).vertex = none ∧
    (failing 3 0 1).latticeStopped = false ∧ ((failing 3 0 1).fct 0).queue = .event (fail 1 7 5) :: [] ∧ ((failing 3 0 1).chordRays ((failing 3 0 1).chordOf (fail 1 7 5).vertex)).length ≤ 1 ∧ (failing 3 0 1).slot (fail 1 7 5).vertex = some (aSlot 3 0) ∧ (fail 1 7 5).kind < 2 ∧ (aSlot 3 0).from_ ≤ (fail 1 7 5).serial ∧ bitsAt (aSlot 3 0).word 5 5 ≤ (aSlot 3 0).logged ∧ (aSlot 3 0).mode = 3 ∧
    (failing 1 0 1).slot 0 = some (aSlot 1 0) ∧ (aSlot 1 0).mode = 1 ∧ (aSlot 1 0).word.testBit 2 = false ∧ bitsAt (aSlot 1 0).word 5 5 ≤ (aSlot 1 0).logged ∧
    spanning.latticeStopped = false ∧ (spanning.fct 0).queue = .event (fail 1 7 5) :: [] ∧ 1 < (spanning.chordRays (spanning.chordOf (fail 1 7 5).vertex)).length ∧ spanning.lat.merging = [] ∧ (fail 1 7 5).key ∉ spanning.lat.taken ∧
    merging.lat.merging = [(fail 1 7 5, 0)] ∧ 0 + 64 * 256 < (merging.tick 5).elapsed ∧ merging.slot (fail 1 7 5).vertex = none ∧ (({ merging with elapsed := 9 } : State).tick 5).elapsed ≤ 0 + 64 * 256 ∧
    (marked 0).latticeStopped = false ∧ ((marked 0).fct 0).queue = .marker 0 7 [(0, 0)] :: [] ∧ (marked 0).slot 0 = some (aSlot 3 0) ∧ (aSlot 3 0).serial = 7 ∧ (aSlot 3 0).from_ ≤ 7 ∧ ((marked 2).fct 0).queue = .marker 0 7 [(0, 2)] :: [] ∧
    (closing none).slot 0 = some { aSlot 1 0 with closing := some 0, waiting := [], verdict := none } ∧ (closing none).latticeStopped = false ∧ (closing none).lat.merging = [] ∧ (aSlot 1 0).word.testBit 14 = false ∧ (aSlot 1 0).word.testBit 4 = false ∧ (aSlot 1 0).word.testBit 3 = false ∧
    (closing (some 1)).slot 0 = some { aSlot 1 0 with closing := some 0, waiting := [], verdict := some 1 } ∧ (closing (some 1)).latticeStopped = false ∧ (closing (some 1)).reactionOn 16 = false ∧ (closing (some 1)).op 0 = some { ArcOp.init (command 3 0 0 0) with admitted := some 0, status := some (0, 0) } := by
  repeat' apply And.intro
  all_goals decide

/-! ## Witnesses: time measurement and acquisition -/

def timer (x : TdcRun) : State := { ((inMode 3).set (FCT_TDC_STAT_BUSY 15 31) 1).set (FCT_TDC_TIMEOUT_TICKS 15 31) 4 with tdc := [(32 * 15 + 31, some x)], now := 2000 }

def axisTimer (x : TdcRun) : State := (((timer x).set (FCT_TDC_START_SEL_KIND 15 31) 2).set (FCT_TDC_STOP_SEL_KIND 15 31) 2).set (FCT_TDC_TIMEOUT_TICKS 15 31) 0 |>.set (FCT_TDC_CTRL_N_M1 15 31) 9

def shotless : TdcRun := ⟨0, none, none, none, 0, 0, 2 ^ 64 - 1, 0⟩

def oneShot : TdcRun := ⟨1, none, none, none, 300, 90000, 300, 300⟩

def begun (b : Nat) : TdcRun := ⟨1, some b, none, none, 300, 90000, 300, 300⟩

/-- A state and operands that meet the hypotheses of ClearsAndAnalyses. -/
theorem witness_ClearsAndAnalyses :
    clearing.takes .host LAT_CLEAR = true ∧ clearing.on LAT_CLEAR_START = false ∧ modeBoot < clearing.mode ∧
    (analysing 0 0).takes .host LAT_RA_CMD = true ∧ (analysing 0 0).lat.ra = none ∧ (decide ((analysing 0 0).mode ∈ [modeIdle, modeHost, modeAuto, modeCal]) && decide ((analysing 0 0).get LAT_RA_RANGE_VFIRST ≤ (analysing 0 0).get LAT_RA_RANGE_VLAST) && decide ((analysing 0 0).get LAT_RA_RANGE_VLAST < (analysing 0 0).vertices)) = true ∧
    (idle.set LAT_RA_RANGE_VFIRST 3).takes .host LAT_RA_CMD = true ∧ (idle.set LAT_RA_RANGE_VFIRST 3).lat.ra = none ∧ decide ((idle.set LAT_RA_RANGE_VFIRST 3).get LAT_RA_RANGE_VFIRST ≤ (idle.set LAT_RA_RANGE_VFIRST 3).get LAT_RA_RANGE_VLAST) = false ∧
    (running [0, 1] false).takes .host LAT_RA_CMD = true ∧ (running [0, 1] false).lat.ra.isSome = true ∧ (running [0, 1] false).latticeStopped = false ∧ (running [0, 1] false).lat.ra = some ⟨[0, 1], false, 0, 3, false⟩ ∧
    idle.takes .host (LAT_COLL_CLEAR 127) = true ∧ idle.takes .host (LAT_CMAPWIN 262143) = true ∧ idle.windowPlace (4 * 262143) ≠ none ∧ (idle.set LAT_CMAP_PAGE_PAGE 15).windowPlace (4 * 262143) ≠ none := by
  repeat' apply And.intro
  all_goals decide

def counter (x : RcRun) : State := { (inMode 3).set (FCT_RC_STAT_BUSY 15) 1 with rc := [(15, some x)], now := 2000 }

def gateRun : RcRun := ⟨100, some 900, false, none, 7, 8, 2, 0, 0, 0⟩

/-- A state and operands that meet the hypotheses of TdcUnits. -/
theorem witness_TdcUnits :
    idle.takes .host (FCT_TDC_CTRL 15 31) = true ∧ idle.tdcRun 15 31 = none ∧ idle.running = false ∧ (inMode 3).running = true ∧ (inMode 3).tdcRun 15 31 = none ∧ (inMode 3).get (FCT_TDC_START_SEL_KIND 15 31) ≠ 2 ∧
    (timer oneShot).takes .host (FCT_TDC_CTRL 15 31) = true ∧ (timer oneShot).tdcRun 15 31 = some oneShot ∧
    (timer (begun 0)).tdcRun 15 31 = some (begun 0) ∧ (begun 0).start = some 0 ∧ ticksOf ((timer (begun 0)).get (FCT_TDC_TIMEOUT_TICKS 15 31)) ≠ 0 ∧ (ticksOf ((timer (begun 0)).get (FCT_TDC_TIMEOUT_TICKS 15 31)) : Int) < stampDiff ((timer (begun 0)).tick 5).now 0 ∧ (timer (begun 0)).get (FCT_TDC_START_SEL_KIND 15 31) ≠ 2 ∧
    stampDiff ((timer (begun 1000)).tick 5).now 1000 ≤ (ticksOf ((timer (begun 1000)).get (FCT_TDC_TIMEOUT_TICKS 15 31)) : Int) ∧ stampDiff ((timer (begun 1000)).tick 5).now 1000 < (2 ^ 40 : Int) ∧
    (timer oneShot).tdcKind 15 31 true ≠ 2 ∧ (axisTimer shotless).tdcKind 15 31 false = 2 ∧ shotless.start = none ∧ ((axisTimer shotless).tick 5).past ((axisTimer shotless).axisEvent 15 31 false shotless.shot) = true ∧ (axisTimer shotless).tdcRun 15 31 = some shotless ∧
    (axisTimer (begun 0)).tdcKind 15 31 true = 2 ∧ (begun 0).start = some 0 ∧ ((axisTimer (begun 0)).tick 5).past ((axisTimer (begun 0)).axisEvent 15 31 true 1) = true ∧ ticksOf ((axisTimer (begun 0)).get (FCT_TDC_TIMEOUT_TICKS 15 31)) = 0 ∧ 0 ≤ stampDiff ((axisTimer (begun 0)).axisEvent 15 31 true 1) 0 ∧ stampDiff ((axisTimer (begun 0)).axisEvent 15 31 true 1) 0 < (2 ^ 40 : Int) ∧
    ((axisTimer shotless).set (FCT_TDC_INTERVAL_TICKS 15 31) 4000).tdcKind 15 31 false = 2 ∧ (((axisTimer oneShot).set (FCT_TDC_INTERVAL_TICKS 15 31) 4000).tick 5).past (((axisTimer oneShot).set (FCT_TDC_INTERVAL_TICKS 15 31) 4000).axisEvent 15 31 false oneShot.shot) = false := by
  repeat' apply And.intro
  all_goals decide

def sampled : State := { idle.set (ACQ_PMI_CFG_EN 63) 1 with now := 2 ^ 40 }

def acqIn (st kind mode : Nat) : State := ((({ inMode 3 with now := 2 ^ 30, elapsed := 2 ^ 30 }.set (ACQ_U_STAT_STATE 15) st).set (ACQ_U_CFG_SRC_KIND 15) kind).set (ACQ_U_CFG_MODE 15) mode).set (ACQ_PMI_CFG_EN 0) 1 |>.set (ACQ_U_CHMASK_CHMASK 15) 0x8001

def acqGood (mode : Nat) : State := ((((acqIn 0 0 mode).set (ACQ_U_POST_POST 15) 100).set (ACQ_U_PAGES_PAGES 15) 8).set (ACQ_U_DEST_BSIZE 15) 4).set DMA_POOL_FREE_FREE 9999

def entry (t : Nat) : AcqEntry := ⟨t, 5, false, false, false, false, 0⟩

def streaming : State := modAcq 15 (fun x => { x with items := [⟨7, [entry 7]⟩] }) (acqIn 5 0 2)

def axisUnit (done : Bool) : State := modAcq 15 (fun x => { x with axisDone := done }) ((acqIn 2 0 1).set (ACQ_U_TRIG_CFG_KIND 15) 1)

/-- A state and operands that meet the hypotheses of RegressionCounter. -/
theorem witness_RegressionCounter :
    (inMode 3).takes .host (FCT_RC_CTRL 15) = true ∧ (inMode 3).rcRun 15 = none ∧ (inMode 3).running = true ∧ (counter gateRun).rcRun 15 = some gateRun ∧ gateRun.count < 3 ∧ (counter gateRun).takes .host (FCT_RC_CTRL 15) = true ∧
    ((counter gateRun).tick 5).past gateRun.from_ = true ∧ (({ counter gateRun with now := 0 } : State).tick 5).past gateRun.from_ = false ∧ gateRun.until_ = some 900 ∧ ((counter gateRun).tick 5).past 900 = true ∧ (({ counter gateRun with now := 0 } : State).tick 5).past 900 = false := by
  repeat' apply And.intro
  all_goals decide

def aBlock : AcqBlock := ⟨[⟨7, [entry 7]⟩], 0, false, false, none, 0, 0, 0, 0, none⟩

def sending : State := modAcq 15 (fun x => { x with blocks := [aBlock], xfer := .issued, pages := [1, 2] }) ((acqIn 3 0 1).set (ACQ_U_DEST_LOCAL 15) 1 |>.set (ACQ_U_DEST_BSIZE 15) 3 |>.set (ACQ_U_PAGES_PAGES 15) 6 |>.set (ACQ_U_DEST_ADDR_ADDR 15) 8192)

def rearming (h : Nat) : State := modAcq 15 (fun x => { x with items := [⟨7, [entry 7]⟩], endAt := 2 ^ 30 }) ((acqIn 4 0 1).set (ACQ_U_HOLD_HOLD 15) h |>.set (ACQ_U_PAGES_PAGES 15) 6)

/-- A state and operands that meet the hypotheses of UnitsAreArmedAndTriggered. -/
theorem witness_UnitsAreArmedAndTriggered :
    idle.pmiRuns 63 = false ∧ sampled.pmiRuns 63 = true ∧ (sampled.tick 5).pmiStamp 63 ≠ none ∧ sampled.aqUnits 0 63 = [] ∧
    idle.aqKind 15 ≠ 1 ∧ (acqIn 2 1 1).aqKind 15 = 1 ∧ (acqIn 2 1 1).aqState 15 ∈ [aqFill, aqReady, aqPost, aqRearm, aqStream] ∧ ((acqIn 2 1 1).tick 5).past (((acqIn 2 1 1).acqUnit 15).convAt + ((acqIn 2 1 1).acqUnit 15).conv * 1600 * 256 + 1600 * 256) = true ∧ (({ acqIn 2 1 1 with now := 0 } : State).tick 5).past (((acqIn 2 1 1).acqUnit 15).convAt + ((acqIn 2 1 1).acqUnit 15).conv * 1600 * 256 + 1600 * 256) = false ∧
    streaming.aqState 15 = aqStream ∧ 0 ≤ stampDiff (entry 9).at_ (streaming.acqUnit 15).armedAt ∧ streaming.aqReduces 15 = false ∧ streaming.aqKind 15 ≠ 1 ∧ (streaming.acqUnit 15).items ≠ [] ∧ (streaming.acqUnit 15).items.length + 1 < streaming.aqIpb 15 ∧
    (acqGood 1).takes .host (ACQ_U_CTRL 15) = true ∧ (acqGood 1).aqState 15 = aqIdle ∧ (acqGood 1).armError 15 = 0 ∧ (acqGood 2).armError 15 = 0 ∧ idle.armError 15 ≠ 0 ∧ idle.aqState 15 = aqIdle ∧ idle.takes .host (ACQ_U_CTRL 15) = true ∧
    ((acqIn 1 0 1).aqState 15 = aqFill ∧ (acqIn 2 0 1).aqState 15 = aqReady ∧ (acqIn 2 0 1).get (ACQ_U_PRE_PRE 15) = 0 ∧ ((acqIn 2 0 1).acqUnit 15).items = [] ∧ decide (∀ w : Nat, w < 16 → (acqIn 2 0 1).get (ACQ_U_TRIG_CFG_KIND w) = 4 → (acqIn 2 0 1).get (ACQ_U_TRIG_CFG_UNIT w) ≠ 15) = true) ∧
    (axisUnit false).get (ACQ_U_TRIG_CFG_KIND 15) = 1 ∧ ((axisUnit false).acqUnit 15).axisDone = false ∧ (axisUnit false).aqState 15 ≠ aqIdle ∧ ((axisUnit false).tick 5).past ((axisUnit false).get (ACQ_U_TRIG_AT_AT 15)) = true ∧ ((axisUnit true).acqUnit 15).axisDone = true := by
  repeat' apply And.intro
  all_goals decide

/-! ## Witnesses: rings, translation and copies -/

def ringed (n st log2 prod : Nat) (place : Bool) : State := (((((inMode 3).set (RNG_CTRL_ENABLE n) 1).set (RNG_CTRL_PLACE n) place.toNat).set (RNG_STAT_STATE n) st).set (RNG_CTRL_LOG2SIZE n) log2).set (RNG_PROD_PROD n) prod

/-- A state and operands that meet the hypotheses of UnitsStopAndDeliver. -/
theorem witness_UnitsStopAndDeliver :
    idle.takes .host (ACQ_U_CTRL 15) = true ∧ idle.aqState 15 = aqIdle ∧ (acqIn 4 0 1).takes .host (ACQ_U_CTRL 15) = true ∧ (acqIn 4 0 1).aqState 15 ∈ [aqFill, aqReady, aqRearm] ∧ ((acqIn 4 0 1).acqUnit 15).blocks = [] ∧
    (acqIn 5 0 2).aqState 15 = aqStream ∧ ((acqIn 5 0 2).acqUnit 15).items = [] ∧ ((acqIn 5 0 2).acqUnit 15).part = none ∧ ((acqIn 5 0 2).acqUnit 15).blocks = [] ∧ idle.aqState 15 ≠ aqRearm ∧
    (rearming 0).aqState 15 = aqRearm ∧ ((rearming 0).tick 5).past (stampAdd ((rearming 0).acqUnit 15).endAt (ticksOf ((rearming 0).get (ACQ_U_HOLD_HOLD 15)))) = true ∧ ((rearming 0).acqUnit 15).overflow = false ∧ (rearming 0).slotsHeld 15 < (rearming 0).get (ACQ_U_PAGES_PAGES 15) / (rearming 0).aqSlot 15 ∧ ((rearming 9).tick 5).past (stampAdd ((rearming 9).acqUnit 15).endAt (ticksOf ((rearming 9).get (ACQ_U_HOLD_HOLD 15)))) = false ∧
    (streaming.acqUnit 15).items = ⟨7, [entry 7]⟩ :: [] ∧ (streaming.set (ACQ_U_HOLD_HOLD 15) 3).aqState 15 = aqStream ∧ (streaming.set (ACQ_U_HOLD_HOLD 15) 3).get (ACQ_U_HOLD_HOLD 15) ≠ 0 ∧ ((streaming.set (ACQ_U_HOLD_HOLD 15) 3).tick 5).past (stampAdd 7 (ticksOf 3)) = true ∧ (({ streaming with now := 9 }.set (ACQ_U_HOLD_HOLD 15) 3).tick 5).past (stampAdd 7 (ticksOf 3)) = false ∧
    (sending.acqUnit 15).blocks = [aBlock] ∧ (sending.acqUnit 15).xfer = .issued ∧ sending.on (ACQ_U_DEST_LOCAL 15) = true ∧ aBlock.last = false ∧ sending.get (ACQ_U_CFG_MODE 15) ≠ 2 ∧ sending.takes .host (ACQ_U_DEST_CONS 15) = true ∧ (idle.acqUnit 15).blocks = [] := by
  repeat' apply And.intro
  all_goals decide

def writing : State := { ringed 7 1 4 3 true with dma := { DmaState.init with rings := [(7, { RingState.init with queue := [⟨fit 64 [1, 2, 3], none, 0⟩], xfer := .issued })] } }.set (RNG_BASE_BASE 7) 2

def unreported : State := { linked (ringed 7 1 4 3 false) with elapsed := 2 ^ 30, dma := { DmaState.init with rings := [(7, { RingState.init with unreported := 2, lastAdvance := 100 })] } }.set (RNG_CTRL_WB_EN 7) 1

/-- A state and operands that meet the hypotheses of DoorbellsAndRings. -/
theorem witness_DoorbellsAndRings :
    (inMode 0).mode = modeReset ∧ idle.mode ≠ modeReset ∧ 4 * 4095 + 1 + 2 % 3 < idle.rings ∧ 4 * 4095 < idle.rings ∧ (7 : Nat) ≠ 0xF ∧
    (ringed 16380 1 4 5 false).mode ≠ modeReset ∧ (ringed 16380 1 4 5 false).doorbellFits 16380 (16 % 2 ^ 32) = true ∧ 16 % 2 ^ 32 ≠ (ringed 16380 1 4 5 false).get (RNG_CONS_CONS 16380) ∧ (ringed 16380 1 4 5 false).doorbellFits 16380 (17 % 2 ^ 32) = false ∧
    ((ringed 16383 1 4 5 false).ringLive 16383 && decide (indexDiff (5 % 2 ^ 32) ((ringed 16383 1 4 5 false).get (RNG_CONS_CONS 16383)) ≤ (ringed 16383 1 4 5 false).ringCount 16383)) = true ∧ (ringed 16383 1 4 5 false).ringState 16383 = ringRun ∧ (ringed 16383 1 4 5 false).on (RNG_STAT_DRAINING 16383) = false ∧ ((ringed 16383 1 4 5 false).ring 16383).queue = [] ∧
    (idle.ringLive 16383 && decide (indexDiff (5 % 2 ^ 32) (idle.get (RNG_CONS_CONS 16383)) ≤ idle.ringCount 16383)) = false ∧
    idle.takes .host (RNG_CTRL 16383) = true ∧ idle.on (RNG_CTRL_ENABLE 16383) = false ∧ (setRingConfig .host 16383 ((0x10 ||| 1) % 2 ^ 32) (idle.request 5 .host)).contextBad 16383 = false ∧ (setRingConfig .host 16383 ((0x8 ||| 1) % 2 ^ 32) (idle.request 5 .host)).contextBad 16383 = true ∧
    (ringed 16383 1 4 5 false).takes .host (RNG_CTRL 16383) = true ∧ (ringed 16383 1 4 5 false).on (RNG_CTRL_ENABLE 16383) = true ∧ (ringed 16383 1 4 5 false).on (RNG_CTRL_PLACE 16383) = false ∧ ((ringed 16383 1 4 5 false).ring 16383).spill = [] ∧
    0x11 < 2 ^ 14 ∧ ((ringed 16383 1 4 5 false).reg (RNG_CTRL 16383)).toNat &&& ringConfigMask = 0x11 ∧ (ringed 16383 1 4 5 false).ringState 16383 ≠ ringParked ∧
    (((ringed 16383 2 4 16 false).set (RNG_STAT_CAUSE 16383) 2).reg (RNG_CTRL 16383)).toNat &&& ringConfigMask = 0x11 ∧ ((ringed 16383 2 4 16 false).set (RNG_STAT_CAUSE 16383) 2).ringState 16383 = ringParked ∧ ((ringed 16383 2 4 16 false).set (RNG_STAT_CAUSE 16383) 2).get (RNG_STAT_CAUSE 16383) = parkFull ∧ (ringed 16383 2 4 16 false).ringSize 16383 ≤ (ringed 16383 2 4 16 false).ringCount 16383 ∧ (ringed 16383 2 4 15 false).ringCount 16383 < (ringed 16383 2 4 15 false).ringSize 16383 := by
  repeat' apply And.intro
  all_goals decide

def copying : State := { (linked (inMode 3)).set DMA_XFER_STAT_BUSY 1 with dma := { DmaState.init with requested := [9], waiters := [⟨.copy, 9, true⟩], copyPark := some ⟨1, 9 * 4096⟩, copyEnd := 1 } }

def askedPage : State := { linked (inMode 3) with dma := { DmaState.init with asked := [9], cache := [⟨8, 4, true, false, 8⟩, ⟨20, 1, true, true, 20⟩] } }

def owing (x : Xfer) : State := { ringed 7 1 4 3 false with dma := { DmaState.init with owed := [(3, 0, 4)], cache := [⟨3, 4, true, false, 8⟩], rings := [(7, { RingState.init with xfer := x })] } }

def halted : State := { idle.set DMA_LINK_STAT_PRI_HALTED 1 with dma := { DmaState.init with priReset := true } }

def parkedDest : State := { linked (acqIn 3 0 1) with dma := { DmaState.init with acqPark := [(15, some ⟨1, 0⟩)] } }

/-- A state and operands that meet the hypotheses of RecordsAndWriteBacks. -/
theorem witness_RecordsAndWriteBacks :
    16383 < 16384 ∧ 16383 % 4 = 3 ∧ idle.ringState 16383 = ringDisabled ∧ (ringed 16383 1 4 5 true).ringState 16383 = ringRun ∧ (ringed 16383 1 4 5 true).on (RNG_STAT_DRAINING 16383) = false ∧ (ringed 16383 1 4 5 true).on (RNG_CTRL_PLACE 16383) = true ∧ ((ringed 16383 1 4 5 true).ring 16383).queue = [] ∧ ((ringed 16383 1 4 5 true).ring 16383).xfer = .idle ∧ (ringed 16383 1 4 5 true).ringCount 16383 < (ringed 16383 1 4 5 true).ringSize 16383 ∧
    (idle.ring 16383).xfer ≠ .issued ∧ (writing.ring 7).xfer = .issued ∧ writing.ringState 7 = ringRun ∧ writing.on (RNG_STAT_DRAINING 7) = false ∧ writing.on (RNG_CTRL_PLACE 7) = true ∧ (writing.ring 7).queue = [⟨fit 64 [1, 2, 3], none, 0⟩] ∧
    (unreported.ring 7).unreported ≠ 0 ∧ (unreported.ring 7).lastAdvance + 1600 ≤ (unreported.tick 5).mono ∧ unreported.on (RNG_CTRL_WB_EN 7) = true ∧ unreported.dmaReady = true ∧ unreported.on DMA_LINK_STAT_ATS_EN = false ∧ (({ unreported with elapsed := 0 } : State).tick 5).mono < (unreported.ring 7).lastAdvance + 1600 ∧
    idle.ringLive 16380 = false ∧ (ringed 16380 1 4 5 false).ringState 16380 = ringRun ∧ 16380 % 4 = 0 ∧ (ringed 16380 1 4 5 false).mode ≠ modeReset ∧ (ringed 16380 1 4 5 false).on (faultActive 123) = false ∧ (ringed 16380 1 4 5 false).on (faultRail 123) = false := by
  repeat' apply And.intro
  all_goals decide

def copyRun (next : Nat) (stop : Bool) : State := { ((linked (inMode 3)).set DMA_XFER_STAT_BUSY 1).set DMA_XFER_CTRL_SRC 1 with dma := { DmaState.init with copyNext := next, copyEnd := 12288, copyStop := stop } }

def masked : State := let s := linked (inMode 3); { s.setBit (DMA_MSIX_PBA_PBA 0) 14 true with icl := { s.icl with msixOn := true } }

/-- A state and operands that meet the hypotheses of AnswersOfTheHost. -/
theorem witness_AnswersOfTheHost :
    (inMode 6).mode = modeDoze ∧ copying.mode ≠ modeDoze ∧ 5 ∉ copying.dma.requested ∧ 5 ∉ copying.dma.asked ∧ copying.dma.requested = [9] ∧ copying.dma.waiters = [⟨.copy, 9, true⟩] ∧ copying.on DMA_XFER_STAT_BUSY = true ∧ copying.priUsable = false ∧
    9 ∈ askedPage.dma.asked ∧ askedPage.dma.asked = [9] ∧ askedPage.dma.toAsk = [] ∧ askedPage.parkedRings parkFault = [] ∧ askedPage.dma.sqPark = [] ∧ askedPage.dma.acqPark = [] ∧ askedPage.dma.copyPark = none ∧ askedPage.mode ≠ modeDoze ∧ askedPage.mode ≠ modeReset ∧ askedPage.on (faultActive 124) = false ∧ askedPage.on (faultRail 124) = false ∧
    idle.dma.owed.find? (fun o => o.1 = 3) = none ∧ (owing .issued).dma.owed.find? (fun o => o.1 = 3) = some (3, 0, 4) ∧ (owing .issued).pagesInUse 0 4 = true ∧ (owing .idle).dma.owed.find? (fun o => o.1 = 3) = some (3, 0, 4) ∧ (owing .idle).pagesInUse 0 4 = false ∧
    idle.on DMA_LINK_STAT_PRI_CAP_EN = false ∧ (idle.set DMA_LINK_STAT_PRI_CAP_EN 1).on DMA_LINK_STAT_PRI_CAP_EN = true ∧ halted.takes .host DMA_PRI_RESTART = true ∧ halted.on DMA_LINK_STAT_PRI_HALTED = true ∧ halted.dma.priReset = true ∧ idle.on DMA_LINK_STAT_PRI_HALTED = false ∧ idle.takes .host DMA_PRI_RESTART = true ∧
    idle.takes .host DMA_RETRY_AUX = true ∧ idle.dma.acqPark = [] ∧ idle.dma.sqPark = [] ∧ parkedDest.takes .host DMA_RETRY_AUX = true ∧ parkedDest.dma.acqPark = [(15, some ⟨1, 0⟩)] ∧ parkedDest.on DMA_LINK_STAT_ATS_EN = false := by
  repeat' apply And.intro
  all_goals decide

/-! ## Witnesses: interrupts, the mailbox -/

def armedIcl : State := let s := linked (inMode 3); ({ s with icl := { s.icl with msixOn := true } }.set (ICL_SRC_CFG_ENABLE 501) 1).set (ICL_SRC_CFG_MASK 501) 0x8001 |>.set ICL_ONLINE_HOST 0x7FFF |>.set ICL_ONLINE_APEX 1 |>.set (DMA_MSIX_TABLE_DATA 3) 0

def pendIcl : State := armedIcl.setBit (ICL_PEND_PEND 31) 5 true

def heldIcl (k : Nat) : State := { pendIcl with icl := { pendIcl.icl with held := [(31, some ⟨k, 0⟩)] } }

/-- A state and operands that meet the hypotheses of CopiesAndLink. -/
theorem witness_CopiesAndLink :
    idle.takes .host DMA_XFER_CTRL = true ∧ modeBoot < idle.mode ∧ idle.on DMA_XFER_STAT_BUSY = false ∧ idle.get DMA_XFER_SRC_COUNT = 0 ∧ (idle.set DMA_XFER_SRC_COUNT 3).get DMA_XFER_SRC_COUNT ≠ 0 ∧
    (copyRun 12287 false).on DMA_XFER_STAT_BUSY = true ∧ (copyRun 12287 false).dmaReady = true ∧ (copyRun 12287 false).dma.copyPark = none ∧ (copyRun 12287 false).on DMA_LINK_STAT_ATS_EN = false ∧ (copyRun 12287 false).on DMA_XFER_CTRL_SRC = true ∧ (copyRun 12287 false).dma.copyNext < 12288 ∧ (copyRun 12287 false).dma.copyEnd ≤ (copyRun 12287 false).dma.copyNext + 1 ∧ (copyRun 5 true).dma.copyStop = true ∧ (copyRun 5 false).dma.copyNext + 1 < (copyRun 5 false).dma.copyEnd ∧
    (inMode 0).mode = modeReset ∧ idle.mode ≠ modeReset ∧ 16 ∈ [4, 8, 16] ∧ 2 ∉ [4, 8, 16] ∧
    14 < 15 ∧ masked.icl.funcMask = false ∧ masked.icl.msixOn = true ∧ masked.icl.busMaster = true ∧ masked.bitOf (DMA_MSIX_PBA_PBA 0) 14 = true ∧ masked.takes .host (DMA_MSIX_TABLE (4 * 14 + 3)) = true := by
  repeat' apply And.intro
  all_goals decide

def quiet : State := refreshQuiet idle

def cmd (op : Nat) : Cmd := ⟨0, op, 3, [0, 0, 0, 0], false⟩

def safe : State := (inMode 7).set APX_SAFE_CAUSE_COMMAND 1

def valid : State := (idle.set ARC_SITE_STAT_VALID 1)

def autoOk : State := { valid with apex := { valid.apex with run := { valid.apex.run with flow := true } } }

/-- A state and operands that meet the hypotheses of InterruptController. -/
theorem witness_InterruptController :
    (501 < 512 : Prop) ∧ edgeSource 501 = true ∧ armedIcl.takesEvents 501 = true ∧ edgeSource 511 = false ∧ (idle.set (ICL_SRC_CFG_ENABLE 501) 0).takesEvents 501 = false ∧
    (armedIcl.setBit (ICL_PEND_PEND 31) 5 true).offerSet 31 ≠ 0 ∧ armedIcl.icl.msixOn = true ∧ armedIcl.icl.busMaster = true ∧ armedIcl.vectorMasked 0 = false ∧ (armedIcl.offerSet 31).testBit 0 = false ∧
    idle.takes .apex (ICL_CLAIM 15) = true ∧ pendIcl.takes .host (ICL_CLAIM 0) = true ∧
    (((List.range 32).map fun i => (Store.find (fun _ => 31) (idle.tick 5).icl.pointer 15 + 1 + i) % 32).find? fun g => (idle.tick 5).online.testBit 15 && ((idle.tick 5).offerSet g).testBit 15) = none ∧
    (((List.range 32).map fun i => (Store.find (fun _ => 31) (pendIcl.tick 5).icl.pointer 0 + 1 + i) % 32).find? fun g => (pendIcl.tick 5).online.testBit 0 && ((pendIcl.tick 5).offerSet g).testBit 0) = some 31 ∧
    (heldIcl 15).heldGroup 31 = some ⟨15, 0⟩ ∧ (heldIcl 15).takes .host (ICL_DONE 15) = true ∧ idle.heldGroup 31 = none ∧ idle.takes .host (ICL_DONE 0) = true ∧ (heldIcl 15).takes .host ICL_ONLINE = true ∧ (heldIcl 15).online.testBit 15 = true ∧ (heldIcl 15).mode ≠ modeDoze ∧
    idle.takes .host (ICL_PEND 31) = true ∧ idle.takes .host (ICL_SRC_CFG 511) = true ∧ idle.takes .host ICL_SWSET = true := by
  repeat' apply And.intro
  all_goals decide

def draining (n : Nat) : State := { (inMode 4).set ARC_STAT_INFLIGHT n with arc := { (inMode 4).arc with drain := 1 } }

def flowing (by' : Nat) : State := { ((inMode 4).set APX_FLOW_CTRL_RUNNING 1) with apex := { idle.apex with flowBy := by' }, elapsed := 1000 }

/-- A state and operands that meet the hypotheses of MailboxCommandsAreServed. -/
theorem witness_MailboxCommandsAreServed :
    quiet.calm = true ∧ quiet.apex.waiting = [] ∧ quiet.apex.reboot = false ∧ modeBoot < quiet.mode ∧ quiet.on (APX_DOORBELL_GO 0) = false ∧ quiet.on (APX_DOORBELL_GO 1) = false := by
  repeat' apply And.intro
  all_goals decide

/-! ## Witnesses: faults and temperature -/

def lineOn (n : Nat) : State := idle.set (faultActive n) 1

def railOn (n : Nat) : State := idle.set (faultRail n) 1

def heldLow (n : Nat) : State := holdLine n true (railOn n)

def sev (n v : Nat) : State := idle.set (FCL_SRC_CFG_SEV n) v

/-- A state and operands that meet the hypotheses of ServingACommand. -/
theorem witness_ServingACommand :
    idle.refusal (cmd 0xEE) = some stBadArg ∧ idle.refusal (cmd opStatus) = none ∧ idle.legality opStatus = 1 ∧ idle.refusal (cmd opGoIdle) = none ∧ idle.legality opGoIdle = 2 ∧
    valid.refusal (cmd opGoHost) = none ∧ valid.legality opGoHost = 1 ∧ autoOk.refusal (cmd opGoAuto) = none ∧ autoOk.legality opGoAuto = 1 ∧ idle.refusal (cmd opGoDoze) = none ∧ idle.legality opGoDoze = 1 ∧ idle.refusal (cmd opEnterSafe) = none ∧ idle.legality opEnterSafe = 1 ∧ idle.therm.stage = 0 ∧ safe.refusal (cmd opClearSafe) = none ∧ safe.legality opClearSafe = 1 ∧
    safe.refusal (cmd opClearShutdown) = none ∧ safe.legality opClearShutdown = 1 ∧ safe.on THM_LEVEL_SHUTDOWN = false ∧ idle.refusal { cmd opReboot with guarded := true } = none ∧ idle.legality opReboot = 1 ∧ idle.nvmProgramming = false ∧
    idle.refusal ⟨0, opCalibrate, 3, [1, 1, 0, 0], false⟩ = none ∧ idle.legality opCalibrate = 1 ∧ idle.refusal ⟨0, opSelftest, 3, [1, 0, 0, 0], false⟩ = none ∧ idle.legality opSelftest = 1 ∧ idle.refusal (cmd opLogCompact) = none ∧ idle.legality opLogCompact = 1 ∧
    (draining 0).arc.drain = 1 ∧ (draining 0).get ARC_STAT_INFLIGHT = 0 ∧ (draining 0).running = true ∧ (draining 1).get ARC_STAT_INFLIGHT ≠ 0 ∧ idle.on APX_FLOW_CTRL_RUNNING = false ∧
    (flowing 5).on APX_FLOW_CTRL_RUNNING = true ∧ (flowing 5).mode = modeAuto ∧ (flowing 5).arc.drain = 0 ∧ (flowing 5).apex.flowBy ≠ 0 ∧ (flowing 5).apex.flowBy ≤ ((flowing 5).tick 5).elapsed ∧ ((flowing 5000).tick 5).elapsed < (flowing 5000).apex.flowBy := by
  repeat' apply And.intro
  all_goals decide

def react (k : Nat) (free : Bool) (n : Nat) : State := let t := if k < 16 then k else 0; { idle with fcl := { idle.fcl with reacting := [(k, if free then 8 else 2)], selfFree := if free then [(t, true)] else [], trainings := if n = 0 then [] else [(t, n)] } }

def shadowEnded (e : Nat) : State := { idle.setBit FCL_SHADOW_SHADOW 20 true with fcl := { idle.fcl with shadowEnd := [(20, e)] }, elapsed := 1000 }

def grace (e : Nat) : State := { idle.set FCL_STAT_GRACE_RUN 1 with fcl := { idle.fcl with graceEnd := e }, elapsed := 1000 }

def alive (a : Nat) : State := { idle with fcl := { idle.fcl with aliveRuns := true, aliveFrom := 0, aliveCount := a }, elapsed := 2 ^ 40 }

def trainable : State := { idle.set (faultActive 61) 1 with fcl := { idle.fcl with trainings := [(15, 3)] } }

def parkedFacet : State := (idle.setBit FCL_FPARK_FPARK 15 true)

def safeLatched : State := (((inMode 7).set FCL_ESC_LATCHED 1).set FCL_ALIVE_FROZEN 1).set (faultActive 3) 1 |>.set (FCL_SRC_CFG_SEV 3) 1

/-- A state and operands that meet the hypotheses of FaultsAreTaken. -/
theorem witness_FaultsAreTaken :
    (126 < 128 : Prop) ∧ (inMode 0).mode = modeReset ∧ (126 : Nat) ∉ [101, 102, 103] ∧ idle.faultPresent 126 = true ∧ idle.on (faultActive 126) = false ∧ idle.on (faultRail 126) = false ∧ idle.mode ≠ modeReset ∧
    (lineOn 126).on (faultActive 126) = true ∧ (lineOn 126).on (faultRail 126) = false ∧ (railOn 126).faultPresent 126 = true ∧ (railOn 126).mode ≠ modeReset ∧ (heldLow 126).lineLevel 126 = true ∧ (heldLow 126).on (faultActive 126) = false ∧ (heldLow 126).on (faultRail 126) = true ∧ (railOn 126).on (faultRail 126) = true ∧ idle.faultPresent 127 = false ∧ idle.faultPresent 101 = true ∧ (railOn 0).on (faultRail 0) = true ∧
    idle.shadowed 126 = false ∧ (idle.set (FCL_SRC_CFG_METHOD 126) 0).on (FCL_SRC_CFG_METHOD 126) = false ∧ idle.on FCL_STAT_CAPMODE = false ∧ (sev 126 0).severityOf 126 ≤ sevWarn ∧
    (sev 126 2).severityOf 126 = sevError ∧ ((sev 126 2).set (FCL_SRC_CFG_REACT 126) 0).reactionOf 126 = 0 ∧ (sev 126 3).severityOf 126 = sevFatal ∧ idle.on FCL_ESC_LATCHED = false ∧ modeBoot < idle.mode := by
  repeat' apply And.intro
  all_goals decide

def shutting (st n e : Nat) : State := { idle.set ARC_STAT_INFLIGHT n with therm := { idle.therm with stage := st, startEl := 0, drainEl := 0 }, elapsed := e }

def unfreezing (e : Nat) : State := { idle.set THM_LEVEL_SENS_FROZEN 1 with elapsed := e }

/-- A state and operands that meet the hypotheses of ReactionsAndSoftware. -/
theorem witness_ReactionsAndSoftware :
    (20 < 21 : Prop) ∧ idle.reactionOn 16 = false ∧ (16 : Nat) ≠ 18 ∧ (16 : Nat) ≠ 20 ∧ (react 20 false 0).reactionOn 20 = true ∧ (react 20 false 0).training 20 = false ∧ (react 15 true 0).training 15 = true ∧
    Store.find (fun _ => 0) (shadowEnded 500).fcl.shadowEnd 20 = 500 ∧ 500 ≤ ((shadowEnded 500).tick 5).elapsed ∧ (shadowEnded 500).reactionOn 20 = false ∧ ((shadowEnded 5000).tick 5).elapsed < 5000 ∧
    (react 15 true 0).training 15 = true ∧ Store.find (fun _ => 0) (react 15 true 0).fcl.trainings 15 < 3 ∧ Store.find (fun _ => 0) (react 15 true 2).fcl.trainings 15 = 2 ∧ (react 15 true 3).training 15 = true ∧ 3 ≤ Store.find (fun _ => 0) (react 15 true 3).fcl.trainings 15 ∧ (react 15 true 0).on (faultRail (4 * 15 + 1)) = false ∧ Store.find (fun _ => 0) (react 15 true 1).fcl.trainings 15 + 1 < 3 ∧ idle.training 15 = false ∧
    trainable.reactionOn 15 = false ∧ 3 ≤ Store.find (fun _ => 0) trainable.fcl.trainings 15 ∧ trainable.lineLevel (4 * 15 + 1) = true ∧ idle.lineLevel 61 = false ∧
    idle.on FCL_STAT_GRACE_RUN = false ∧ (grace 5).on FCL_STAT_GRACE_RUN = true ∧ (grace 5).fcl.graceEnd ≤ ((grace 5).tick 5).elapsed ∧ ((grace 5000).tick 5).elapsed < (grace 5000).fcl.graceEnd ∧
    idle.fcl.aliveRuns = false ∧ (alive 0).fcl.aliveRuns = true ∧ (alive 0).on FCL_ALIVE_FROZEN = false ∧ (alive 0).fcl.aliveFrom + ticksOf (((alive 0).fcl.aliveCount + 1) * 800000000 / (alive 0).aliveFreq) ≤ ((alive 0).tick 5).elapsed ∧
    idle.takes .host FCL_ACK = true ∧ 0x10000 % 2 ^ 16 = idle.get FCL_STAT_ERR_SEQ ∧ 7 % 2 ^ 16 ≠ idle.get FCL_STAT_ERR_SEQ ∧ idle.takes .host FCL_FPARK = true ∧ parkedFacet.takes .host FCL_FPARK = true ∧ parkedFacet.facetParked 15 = true ∧ parkedFacet.releasable 15 = true ∧ idle.facetParked 15 = false ∧
    (idle.takes .host FCL_ESC = true ∧ idle.mode ≠ modeSafe ∧ safeLatched.takes .host FCL_ESC = true ∧ safeLatched.mode = modeSafe ∧ (∀ i : Nat, i < 4 → safeLatched.get (FCL_RAIL_RAIL i) = 0) ∧ (∀ n : Nat, n < 127 → safeLatched.on (faultActive n) = true → safeLatched.severityOf n < sevError)) ∧
    opened.takes .host FCL_INJECT = true ∧ opened.guardOpen .host = true ∧ opened.mode ≠ modeReset ∧ opened.faultPresent (126 % 128) = true ∧ idle.takes .host FCL_INJECT = true ∧ idle.guardOpen .host = false ∧ idle.takes .host FCL_ALIVE = true ∧ opened.takes .host (FCL_SRC_CFG 126) = true ∧ opened.takes .host (FCL_SRC_W 126) = true ∧ idle.takes .host (FCL_HIST 15) = true := by
  repeat' apply And.intro
  all_goals decide

/-! ## Witnesses: calibration, the serial port, SMBus, keys -/

def aRun (step kinds : Nat) (test pmi : Bool) : CalRun := { cmd := ⟨0, 0x10, 1, [1, 1, 0, 0], false⟩, test := test, mask := 1, pmi := pmi, kinds := kinds, down := false, step := step, facets := [0], staged := [(0x1074000, 5)], skips := [], fails := 0, modified := false, temp0 := 0, temp1 := 0, atM := 77, wall := 0 }

def calibrating (r : CalRun) : State := { (((inMode 5).set CAL_STAT_ACTIVITY 1).set CAL_REF_DECLARED_D 2500000).set CAL_STAT_CALQ 1 with maint := { idle.maint with run := some r, calq := [⟨1, r.cmd⟩], nvmq := if r.step = 9 then [⟨.calCommit, none⟩] else [] } }

def calRunOf (s : State) : Option Nat := s.maint.run.map CalRun.step

/-- A state and operands that meet the hypotheses of TemperatureAndShutdown. -/
theorem witness_TemperatureAndShutdown :
    idle.on THM_LEVEL_WARN = false ∧ idle.code THM_WARN_CFG_SET ≤ 2047 ∧ (idle.set THM_LEVEL_WARN 1).on THM_LEVEL_WARN = true ∧ -2048 ≤ (idle.set THM_LEVEL_WARN 1).code THM_WARN_CFG_CLR ∧
    (shutting 1 3 5).therm.stage = 1 ∧ (shutting 1 3 5).get ARC_STAT_INFLIGHT ≠ 0 ∧ ((shutting 1 3 5).tick 5).elapsed < (shutting 1 3 5).therm.startEl + (shutting 1 3 5).drainTime ∧ (shutting 1 0 5).get ARC_STAT_INFLIGHT = 0 ∧ (shutting 2 0 5).therm.stage = 2 ∧ (shutting 2 0 5).nvmProgramming = false ∧ (shutting 1 3 (2 ^ 60)).therm.startEl + (shutting 1 3 (2 ^ 60)).drainTime ≤ ((shutting 1 3 (2 ^ 60)).tick 5).elapsed ∧
    idle.takes .host THM_CTRL = true ∧ (lineOn 116).takes .host THM_CTRL = true ∧ (lineOn 116).lineLevel 116 = true ∧ (unfreezing (2 ^ 40)).takes .host THM_CTRL = true ∧ (unfreezing (2 ^ 40)).lineLevel 116 = false ∧ (unfreezing (2 ^ 40)).therm.quietAt + ticksOf 1600000 ≤ ((unfreezing (2 ^ 40)).tick 5).elapsed ∧
    idle.takes .host THM_THR_CFG = true ∧ idle.takes .host THM_WARN_CFG = true ∧ idle.guardOpen .host = false ∧ opened.guardOpen .host = true ∧ opened.takes .host THM_THR_CFG = true ∧ signed 12 ((0xF9C03C0 : Nat) / 2 ^ 16) < signed 12 0xF9C03C0 ∧ signed 12 0xF9C03C0 ≤ 960 ∧ signed 12 0x3C0 = 960 ∧ 960 < signed 12 0x3C1 := by
  repeat' apply And.intro
  all_goals decide

def refreshing : State := { (idle.set CAL_STAT_ACTIVITY 3).set CAL_STAT_CALQ 1 with maint := { idle.maint with calq := [⟨3, ⟨0, 0x14, 1, [], false⟩⟩], nvmq := [⟨.trimRead, none⟩] } }

def queuedCal (k : Nat) : State := { idle with maint := { idle.maint with calq := [⟨k, ⟨0, 0x10, 1, [0x8000, 1, 0, 0], false⟩⟩] } }

def queuedNvm : State := { idle with maint := { idle.maint with nvmq := [⟨.compact, none⟩] } }

/-- A state and operands that meet the hypotheses of CalibrationChecksTheReference. -/
theorem witness_CalibrationChecksTheReference :
    (calibrating (aRun 0 1 false true)).maint.run = some (aRun 0 1 false true) ∧ (aRun 0 1 false true).checksRef = true ∧ (aRun 0 1 false true).facets = 0 :: [] ∧ (calibrating (aRun 0 1 false true)).facetParked 0 = false ∧
    ((calibrating (aRun 0 1 false true)).tick 5).refGood 2487500 = true ∧ ((calibrating (aRun 0 1 false true)).tick 5).refGood 2512500 = true ∧ ((calibrating (aRun 0 1 false true)).tick 5).refGood 2512501 = false ∧ (aRun 8 1 false true).step ∈ [0, 6, 8] ∧
    (calibrating (aRun 4 4 false false)).maint.run = some (aRun 4 4 false false) ∧ (aRun 4 4 false false).checksRef = false ∧ (aRun 4 4 false false).step ∉ [0, 6, 7, 8] ∧ (aRun 5 1 true false).checksRef = false ∧ (aRun 5 1 true false).step ∉ [0, 6, 7, 8] := by
  repeat' apply And.intro
  all_goals decide

def hostSel : State := idle.set SPN_HOST_CFG_SEL_EN 7

def engineRun (cur : Option Transfer) : State := { hostSel.set SPN_XSTAT_BUSY 1 |>.set SPN_XFER_CTRL_SEL 2 |>.set SPN_LEN_LEN 300 with spn := { idle.spn with cur := cur } }

def onPort (first dir wait : Nat) : State := let s := engineRun (some ⟨1, 2, false⟩); { (s.set (SPN_SEL0_STATUS_FIRST 2) first |>.set SPN_XFER_CTRL_DIR dir |>.set SPN_XFER_CTRL_WAIT_READY wait) with flash := s.flash }

def pollingEng : State := let s := engineRun none; { s with spn := { s.spn with polling := [1] } }

def device (k kind suspend : Nat) (el : Nat) : State := let s := pollingEng; { s with spn := { s.spn with devices := [(k, ⟨kind, 0, false, suspend, false⟩)] }, elapsed := el }

/-- A state and operands that meet the hypotheses of CalibrationAndMaintenance. -/
theorem witness_CalibrationAndMaintenance :
    idle.takes .host 0x1074000 = true ∧ isTrim 0x1074000 = true ∧ idle.guardOpen .host = false ∧ opened.guardOpen .host = true ∧ opened.get CAL_STAT_ACTIVITY = 0 ∧ (opened.set CAL_STAT_ACTIVITY 1).get CAL_STAT_ACTIVITY ≠ 0 ∧ opened.takes .host (CAL_PMI_TRIM 63) = true ∧ isTrim (CAL_PMI_TRIM 63) = true ∧
    (calibrating (aRun 1 1 false false)).maint.run = some (aRun 1 1 false false) ∧ (aRun 1 1 false false).test = false ∧ Store.find (fun _ => false) (aRun 1 1 false false).skips 2047 = false ∧ (5 : Int).natAbs ≤ (if (aRun 1 1 false false).down then (calibrating (aRun 1 1 false false)).get CAL_PIN_ILIM_PD_NA else (calibrating (aRun 1 1 false false)).get CAL_PIN_ILIM_OPEN_NA) ∧ (if (aRun 1 1 false false).down then (calibrating (aRun 1 1 false false)).get CAL_PIN_ILIM_PD_NA else (calibrating (aRun 1 1 false false)).get CAL_PIN_ILIM_OPEN_NA) < (-65536 : Int).natAbs ∧
    idle.maint.run = none ∧ (calibrating (aRun 9 1 false false)).maint.run = some (aRun 9 1 false false) ∧ (aRun 9 1 false false).step = 9 ∧ (calibrating (aRun 9 1 false false)).maint.nvmq = ⟨.calCommit, none⟩ :: [] ∧
    idle.takes .host CAL_CTRL = true ∧ (calibrating (aRun 5 1 true false)).takes .host CAL_CTRL = true ∧ (calibrating (aRun 5 1 true false)).maint.run = some (aRun 5 1 true false) ∧ (aRun 5 1 true false).test = true ∧ (calibrating (aRun 2 1 false false)).takes .host CAL_CTRL = true ∧
    refreshing.maint.nvmq = ⟨.trimRead, none⟩ :: [] ∧ refreshing.maint.calq = ⟨3, ⟨0, 0x14, 1, [], false⟩⟩ :: [] ∧ idle.maint.nvmq = [] ∧ idle.maint.calq = [] ∧ idle.get CAL_STAT_ACTIVITY = 0 ∧
    (queuedCal 1).maint.calq = ⟨1, ⟨0, 0x10, 1, [0x8000, 1, 0, 0], false⟩⟩ :: [] ∧ (queuedCal 1).get CAL_STAT_ACTIVITY = 0 ∧ setBits 16 ([0x8000, 1, 0, 0].getD 0 0 % 65536) = 15 :: [] ∧ (queuedCal 1).facetParked 15 = false ∧ queuedNvm.maint.nvmq = ⟨.compact, none⟩ :: [] := by
  repeat' apply And.intro
  all_goals decide

def reading (host : Bool) (sel left : Nat) : State := { hostSel.set (SPN_SEL2_XIP_EN 0) 1 |>.set (SPN_SEL2_XIP_EN 3) 1 with spn := { idle.spn with cur := some ⟨if host then 3 else 2, sel, false⟩, reads := [⟨host, sel, 5, 2, 4, left, [], 0⟩] } }

def windowOn : State := idle.set (SPN_SEL2_XIP_EN 0) 1 |>.set (SPN_SEL2_XIP_EN 3) 1

def gathered : State := { idle with spn := { idle.spn with gather := some ⟨0, 512, [(3, 7)], 0⟩ }, elapsed := 2 ^ 40 }

def flushing (stage : Nat) (cur : Option Transfer) : State := { idle with spn := { idle.spn with flush := some (⟨0, 512, [(3, 7)], 0⟩, stage), cur := cur, devices := if stage = 3 then [(0, ⟨1, 0, false, 0, true⟩)] else [] } }

/-- A state and operands that meet the hypotheses of EnginesOfTheSerialPort. -/
theorem witness_EnginesOfTheSerialPort :
    hostSel.takes .host SPN_XFER_CTRL = true ∧ hostSel.on SPN_XSTAT_BUSY = false ∧ bitsAt 8 2 2 = 2 ∧ hostSel.bitOf SPN_HOST_CFG_SEL_EN (2 - 1) = true ∧ idle.takes .host SPN_XFER_CTRL = true ∧ idle.bitOf SPN_HOST_CFG_SEL_EN (3 - 1) = false ∧ (engineRun none).on SPN_XSTAT_BUSY = true ∧ (engineRun none).takes .host SPN_XFER_CTRL = true ∧
    hostSel.spn.cur = none ∧ hostSel.spn.engines = [] ∧ hostSel.spn.flush = none ∧ hostSel.spn.reads = [] ∧ (hostSel.device 2).kind = 0 ∧ (engineRun (some ⟨1, 2, false⟩)).spn.cur = some ⟨1, 2, false⟩ ∧
    (onPort 0 1 0).spn.cur = some ⟨1, 2, false⟩ ∧ (onPort 0 1 0).on (SPN_SEL0_STATUS_FIRST 2) = false ∧ (onPort 0 1 0).on SPN_XFER_CTRL_WAIT_READY = false ∧ (onPort 0 1 0).on SPN_XFER_CTRL_DIR = true ∧ (onPort 0 0 1).on SPN_XFER_CTRL_WAIT_READY = true ∧ (onPort 1 1 0).on (SPN_SEL0_STATUS_FIRST 2) = true ∧ (onPort 1 1 0).on SPN_XFER_CTRL_DIR = true ∧ (∀ b ∈ ([127, 0] : List Byte), b.toNat < 128) ∧
    pollingEng.spn.flush = none ∧ pollingEng.spn.polling = [1] ∧ pollingEng.get SPN_XFER_CTRL_SEL = 2 ∧ pollingEng.deviceReady 2 1 = false ∧ pollingEng.deviceReady 2 0 = true ∧ (pollingEng.device 2).suspend ≠ 1 ∧ (∀ e ∈ idle.spn.polling, idle.eng e SPN_XFER_CTRL_SEL ≠ 2) ∧
    (idle.device 0).kind ≠ 1 ∧ ((device 2 1 0 (2 ^ 50)).device 2).kind = 1 ∧ ((device 2 1 0 (2 ^ 50)).device 2).since + 256 * 8000000 ≤ ((device 2 1 0 (2 ^ 50)).tick 5).elapsed ∧ ((device 2 2 0 (2 ^ 50)).device 2).kind = 2 ∧ ((device 2 2 0 (2 ^ 50)).device 2).suspend = 0 ∧ ((device 2 2 0 (2 ^ 50)).device 2).since + 256 * 1600000 * (device 2 2 0 (2 ^ 50)).get (SPN_SEL1_ERASE_MAX 2) ≤ ((device 2 2 0 (2 ^ 50)).tick 5).elapsed ∧ (device 2 2 0 (2 ^ 50)).spn.polling = [1] ∧ (device 2 2 0 (2 ^ 50)).on (faultActive 102) = false ∧
    ((device 2 2 1 0).device 2).suspend = 1 ∧ (device 2 2 1 0).spn.reads = [] ∧ ((device 2 2 1 0).tick 5).elapsed < ((device 2 2 1 0).device 2).since + 256 * 8000000 := by
  repeat' apply And.intro
  all_goals decide

def smbed (pec : Nat) : State := { idle.set SPN_SMB_CFG_PEC_EN pec with pins := { idle.pins with aon := true } }

def alerted : State := { (smbed 0).set SPN_SMB_CFG_ALERT_MASK 15 |>.set FCL_ESC_LATCHED 1 with pins := { idle.pins with aon := true } }

/-- A state and operands that meet the hypotheses of TheFlashWindow. -/
theorem witness_TheFlashWindow :
    (inMode 1).mode ≤ modeBoot ∧ (inMode 0).mode = modeReset ∧ modeBoot < idle.mode ∧ (idle.set (SPN_SEL2_XIP_EN 0) 0).on (SPN_SEL2_XIP_EN 0) = false ∧ (idle.set (SPN_SEL2_XIP_EN 3) 0).on (SPN_SEL2_XIP_EN 3) = false ∧ (idle.set (SPN_SEL2_XIP_EN 3) 0).mode ≠ modeReset ∧
    windowOn.spn.cur = none ∧ windowOn.spn.engines = [] ∧ windowOn.spn.flush = none ∧ windowOn.spn.gather = none ∧ windowOn.spn.reads = [] ∧ modeBoot < windowOn.mode ∧ windowOn.on (SPN_SEL2_XIP_EN 0) = true ∧ (windowOn.device 0).kind = 0 ∧ windowOn.on (SPN_SEL2_XIP_EN 3) = true ∧ (windowOn.device 3).kind = 0 ∧
    (reading true 0 4).spn.cur = some ⟨3, 0, false⟩ ∧ (reading true 0 4).spn.reads = [⟨true, 0, 5, 2, 4, 4, [], 0⟩] ∧ (reading true 0 4).spn.engines = [] ∧ (reading true 0 4).spn.flush = none ∧ (⟨true, 0, 5, 2, 4, 4, [], 0⟩ : WindowRead).left = (⟨true, 0, 5, 2, 4, 4, [], 0⟩ : WindowRead).piece ∧ (reading false 3 4).spn.cur = some ⟨2, 3, false⟩ ∧
    ((reading true 0 4).tick 5).elapsed < 0 + 256 * 1600 * (reading true 0 4).get SPN_HOST_WAIT_HOST_WAIT ∧ 0 + 256 * 1600 * ({ reading true 0 4 with elapsed := 2 ^ 50 } : State).get SPN_HOST_WAIT_HOST_WAIT ≤ (({ reading true 0 4 with elapsed := 2 ^ 50 } : State).tick 5).elapsed ∧ (∀ r ∈ idle.spn.reads, r.host = false) ∧
    (flushing 1 (some ⟨4, 0, false⟩)).spn.flush.isSome = true ∧ (flushing 1 (some ⟨4, 0, false⟩)).mode ≠ modeReset ∧ idle.spn.flush = none ∧ idle.spn.gather = none ∧ 509 % 256 + [(1 : Byte), 2].length < 256 ∧
    gathered.spn.gather = some ⟨0, 512, [(3, 7)], 0⟩ ∧ gathered.spn.cur = none ∧ gathered.spn.flush = none ∧ (gathered.device 0).kind = 0 ∧ gathered.mode ≠ modeReset ∧ 0 + 256 * 16000 ≤ (gathered.tick 5).elapsed ∧ (({ gathered with elapsed := 0 } : State).tick 5).elapsed < 0 + 256 * 16000 ∧
    (flushing 1 (some ⟨4, 0, false⟩)).spn.cur = some ⟨4, 0, false⟩ ∧ (flushing 1 (some ⟨4, 0, false⟩)).spn.flush = some (⟨0, 512, [(3, 7)], 0⟩, 1) ∧ (flushing 3 none).spn.flush = some (⟨0, 512, [(3, 7)], 0⟩, 3) ∧
    (flushing 3 none).deviceReady 0 1 = false ∧ (flushing 3 none).deviceReady 0 0 = true ∧ (flushing 3 none).deviceFailed 0 0 = false ∧ ((flushing 3 none).device 0).edge = false ∧ (flushing 3 none).spn.writes = [] ∧ (flushing 3 none).spn.engines = [] ∧ (flushing 3 none).spn.reads = [] ∧ ((flushing 3 none).set (SPN_SEL4_PFAIL_MASK 0) 4).deviceFailed 0 4 = true ∧ (flushing 3 none).deviceReady 0 4 = true := by
  repeat' apply And.intro
  all_goals decide

/-- A state and operands that meet the hypotheses of SmbusTransactions. -/
theorem witness_SmbusTransactions :
    ({ idle with pins := { idle.pins with aon := false } } : State).pins.aon = false ∧ (smbed 0).pins.aon = true ∧ (3 : Nat) ≠ (smbed 0).smbAddr + 1 ∧ (3 : Nat) ≠ (smbed 0).smbAddr ∧ (smbed 0).smb.open_ = none ∧ (smbed 0).on SPN_SMB_CFG_PEC_EN = false ∧ (smbed 1).on SPN_SMB_CFG_PEC_EN = true ∧
    packetCode [2 * ((smbed 1).smbAddr + 1), 1] ≠ 0 ∧ packetCode ([2 * (smbed 1).smbAddr, 0] ++ [5]) = packetCode [2 * (smbed 1).smbAddr, 0, 5] ∧ (smbed 0).alerts = 0 := by
  repeat' apply And.intro
  all_goals decide

def enrolling (k : Nat) : State := { idle.set APX_KEY_ENROL_GO 1 with apex := { idle.apex with enrol := some k } }

def logged (n : Nat) : State := { idle with apex := { idle.apex with log := (List.range n).map fun i => (i, ⟨1, 0, 0, []⟩) }, elapsed := 2 ^ 30 }

def sealing : State := { idle.set APX_SEAL_PROD_PROD 15 with apex := { idle.apex with sealing := [⟨[1, 2], none⟩] } }

def scanning (low : Bool) : State := { idle with pins := { idle.pins with perst := low } }

/-- A state and operands that meet the hypotheses of TheSmbusOffsetSaturates. -/
theorem witness_TheSmbusOffsetSaturates :
    0xFE ≤ 0xFF ∧ 256 - 0xFE < 4 ∧ ([1, 2] : List Nat).length = 256 - 0xFE ∧ ([3] : List Nat) ≠ [] ∧ (smbed 0).pins.aon = true ∧ (smbed 0).on SPN_SMB_CFG_PEC_EN = false ∧ (smbed 0).smb.open_ = none := by
  repeat' apply And.intro
  all_goals decide

/-- A state and operands that meet the hypotheses of KeysLogSealsAndJtag. -/
theorem witness_KeysLogSealsAndJtag :
    idle.takes .host APX_KEY_ENROL = true ∧ idle.guardOpen .host = false ∧ opened.guardOpen .host = true ∧ opened.on APX_KEY_ENROL_GO = false ∧ (opened.set APX_KEY_ENROL_GO 1).on APX_KEY_ENROL_GO = true ∧ opened.mode = modeIdle ∧ opened.bitOf APX_KEY_STAT_PROGRAMMED 3 = false ∧ (opened.setBit APX_KEY_STAT_PROGRAMMED 3 true).bitOf APX_KEY_STAT_PROGRAMMED 3 = true ∧
    idle.apex.enrol = none ∧ (enrolling 3).apex.enrol = some 3 ∧ idle.apex.log = [] ∧ idle.apex.sealing = [] ∧ sealing.apex.sealing = ⟨[1, 2], none⟩ :: [] ∧
    128 ≤ (logged 128).apex.log.length ∧ (logged 128).mode ∈ [modeIdle, modeHost, modeAuto, modeCal, modeSafe] ∧ (logged 128).on APX_SAFE_CAUSE_NO_FIRMWARE = false ∧ (logged 128).maint.nvmq.any (fun j => j.work == .compact) = false ∧ (logged 128).nvmCount < 4 ∧ (logged 128).therm.stage = 0 ∧ queuedNvm.maint.nvmq.any (fun j => j.work == .compact) = true ∧
    (scanning true).pins.perst = true ∧ (scanning false).pins.perst = false ∧ 255 % 256 ∉ [0x00, 0x01, 0x02, 0x04, 0x05, 0x06, 0x07] ∧ idle.get GLB_IDENT_MEMBER = 0 ∧ idle.get GLB_IDENT_STEPPING = 1 := by
  repeat' apply And.intro
  all_goals decide

/-! ## Ill-formed commands -/

/-- A CJ2048 has 16 facets (R1). -/
theorem test_facet_refused :
    wellFormed (.channelUnpark 0 16) = false ∧ wellFormed (.channelUnpark 0 15) = true := by decide

/-- A CJ2048 has 2,048 channels (R1). -/
theorem test_channel_refused :
    wellFormed (.overcurrentTrip 0 2048) = false ∧ wellFormed (.overcurrentTrip 0 2047) = true := by decide

/-- A facet has 32 rays (R1). -/
theorem test_ray_refused :
    wellFormed (.startBoundary 0 15 32) = false ∧ wellFormed (.startBoundary 0 15 31) = true := by decide

/-- A CJ2048 has 512 chords (R1). -/
theorem test_chord_refused :
    wellFormed (.phaseEnd 0 512) = false ∧ wellFormed (.phaseEnd 0 511) = true := by decide

/-- A CJ2048 has 4,096 vertices (R1). -/
theorem test_vertex_refused :
    wellFormed (.vertexInk 0 .host 4096) = false ∧ wellFormed (.vertexInk 0 .host 4095) = true := by decide

/-- A register stands at a multiple of 4 (R23). -/
theorem test_address_refused :
    wellFormed (.registerWrite 0 .host 2 [(1, 15)]) = false ∧ wellFormed (.registerWrite 0 .host 4 [(1, 15)]) = true := by decide

/-- A write carries doublewords of 32 bits with 4 byte enables, and at least one (R23). -/
theorem test_items_refused :
    wellFormed (.registerWrite 0 .host 4 []) = false ∧ wellFormed (.registerWrite 0 .host 4 [(2 ^ 32, 15)]) = false ∧ wellFormed (.registerWrite 0 .host 4 [(1, 16)]) = false := by decide

/-- A read asks for some byte. -/
theorem test_enables_refused :
    wellFormed (.rcFieldRead 0 .host 4 [0]) = false ∧ wellFormed (.rcFieldRead 0 .host 4 []) = false ∧ wellFormed (.rcFieldRead 0 .host 4 [1]) = true := by decide

/-- A mailbox command has four arguments of 32 bits (R79). -/
theorem test_arguments_refused :
    wellFormed (.status 0 0 false 0 [0, 0, 0, 0, 0]) = false ∧ wellFormed (.status 0 0 false 0 [2 ^ 32]) = false ∧ wellFormed (.status 0 0 false 0 []) = true := by decide

/-- A stamp has 64 bits (R8). -/
theorem test_stamp_refused :
    wellFormed (.stop 0 .host 0 (some (2 ^ 64))) = false ∧ wellFormed (.stop 0 .host 0 (some (2 ^ 64 - 1))) = true := by decide

/-- A facet has 4 waveform generators (R181). -/
theorem test_generator_refused :
    wellFormed (.wgHalt 0 .host 0 4) = false ∧ wellFormed (.wgHalt 0 .host 0 3) = true := by decide

/-- There are 16 acquisition units (R264). -/
theorem test_unit_refused :
    wellFormed (.acqArm 0 .host 16) = false ∧ wellFormed (.acqArm 0 .host 15) = true := by decide

/-- A CJ2048 has 16,384 rings (R283). -/
theorem test_ring_refused :
    wellFormed (.ringRetry 0 .host 16384 0) = false ∧ wellFormed (.ringRetry 0 .host 16383 0) = true := by decide

/-- There are 16 interrupt targets (R309). -/
theorem test_target_refused :
    wellFormed (.iclClaim 0 .host 16) = false ∧ wellFormed (.iclClaim 0 .host 15) = true := by decide

/-- A host target has one of 15 vectors (R309). -/
theorem test_vector_refused :
    wellFormed (.msixUnmask 0 (some 15)) = false ∧ wellFormed (.msixUnmask 0 (some 14)) = true := by decide

/-- The link forms at x16, x8 or x4 (R281). -/
theorem test_width_refused :
    wellFormed (.linkUp 0 5 2) = false ∧ wellFormed (.linkUp 0 5 16) = true := by decide

/-- A replica offset has 16 bits (R109), and there are at most 18 islands. -/
theorem test_offsets_refused :
    wellFormed (.recalDone 0 [2 ^ 15]) = false ∧ wellFormed (.recalDone 0 (List.replicate 19 0)) = false ∧ wellFormed (.epochCheckPulse 0 (List.replicate 19 (0, false))) = false := by decide

/-- A contact reading names a channel (R61). -/
theorem test_readings_refused :
    wellFormed (.contactTestEnd 0 [(2048, 0)]) = false ∧ wellFormed (.contactTestEnd 0 [(2047, 0)]) = true := by decide

/-- A stream word has 32 bytes (R149). -/
theorem test_stream_words_refused :
    wellFormed (.streamWordsArrive 0 0 0 [2 ^ 256]) = false ∧ wellFormed (.streamWordsArrive 0 0 0 [2 ^ 256 - 1]) = true := by decide

/-- SMBus carries bytes (R395). -/
theorem test_octets_refused :
    wellFormed (.smbusWrite 0 0x40 0 [256] 0 true) = false ∧ wellFormed (.smbusWrite 0 0x40 0 [255] 0 true) = true := by decide

/-- A window has 64 MB, and a read of it up to 256 bytes (R385). -/
theorem test_window_refused :
    wellFormed (.xipRead 0 true 0 (2 ^ 26) 4) = false ∧ wellFormed (.xipRead 0 true 0 0 257) = false ∧ wellFormed (.xipRead 0 true 0 0 256) = true := by decide

/-- A window write carries 1, 2 or 4 bytes (R386). -/
theorem test_gathered_write_refused :
    wellFormed (.xipWrite 0 0 0 [1, 2, 3]) = false ∧ wellFormed (.xipWrite 0 0 0 [1, 2, 3, 4]) = true := by decide

/-- A descriptor has 64 bytes (R188). -/
theorem test_descriptor_refused :
    wellFormed (.descriptorFetch 0 0 [1] .good) = false ∧ wellFormed (.descriptorFetch 0 0 (List.replicate 64 0) .good) = true := by decide

/-- A range of pages is not empty (R293). -/
theorem test_pages_refused :
    wellFormed (.invalidateRequest 0 0 0 0) = false ∧ wellFormed (.invalidateRequest 0 0 0 1) = true := by decide

/-! ## Single steps, with what the spec gives -/

/-- The table of operations gives its rows no bits. -/
theorem test_no_word_spells_a_command :
    decodeTableWord 32 0 = none ∧ (idle.withFetchWord 32 0).pending = [] := by decide

/-- The key 0xC3D1_7A5E opens the path's guard (R34). -/
theorem test_unlock_key :
    (after (.glbUnlock 5 .host 0xC3D17A5E) idle).guardOpen .host = true := by decide

/-- A register write takes all four bytes (R37). -/
theorem test_narrow_write_is_captured :
    (after (.registerWrite 5 .host (GLB_SCRATCH 0) [(5, 7)]) idle).get (GLB_SCRATCH_DATA 0) = 0 := by decide

/-- GLB_SCRATCH keeps what is written to it (R26). -/
theorem test_scratch_reads_back :
    (after (.registerWrite 5 .apex (GLB_SCRATCH 3) [(0xFFFFFFFF, 15)]) idle).get (GLB_SCRATCH_DATA 3) = 0xFFFFFFFF := by decide

/-- A mean of -7 reads as a 32-bit two's complement number (R100). -/
theorem test_pmu_result_is_signed :
    (after (.pmuMeasurementComplete (2 ^ 30) 0 [-7] true) queued).get (FCT_PMU_RESULT_RESULT 0 0) = 2 ^ 32 - 7 := by decide

/-- A STOP ends the phase with cause STOP (R155). -/
theorem test_stop_ends_a_phase :
    (after (.stopTaken 5 0 0) (asked ⟨1, 0, 0, 1⟩ true)).get (FCT_RAY_STAT_END_CAUSE 0 0) = 1 := by decide

/-- HALT leaves the generator HELD (R182). -/
theorem test_halt_holds_the_waveform :
    (after (.wgHalt 5 .host 15 3) idle).wgState 15 3 = 3 := by decide

/-- A good descriptor enters GATHER (R193). -/
theorem test_descriptor_is_gathered :
    (after (.descriptorFetch 5 0 [] .good) (posted1 1)).vstate 0 = 2 := by decide

/-- An empty range is refused with RESULT 3 (R230). -/
theorem test_repair_range :
    (after (.repairAnalysis 5 .host 0 3 4) (idle.set LAT_RA_RANGE_VFIRST 3)).get LAT_RA_STAT_RESULT = 3 := by decide

/-- A run that starts outside HOST and AUTO ends ABORTED (R249). -/
theorem test_tdc_in_idle :
    (after (.tdcStart 5 .host 15 31 9) idle).get (FCT_TDC_STAT_END 15 31) = 2 := by decide

/-- The end of the gate ends the run with END 1 (R253). -/
theorem test_counter_end :
    (after (.rcGateEnd 5 15) (counter gateRun)).get (FCT_RC_STAT_END 15) = 1 := by decide

/-- A code beyond the format is limited and OVR sets (R261). -/
theorem test_pmi_limits :
    (after (.pmiSample 5 63 (-8388608)) sampled).get (ACQ_PMI_LAST_CODE 63) = 0x800001 := by decide

/-- An ARM of a PMI that is off is refused with ERR 1 (R268). -/
theorem test_arm_without_a_source :
    (after (.acqArm 5 .host 15) idle).get (ACQ_U_STAT_ERR 15) = 1 := by decide

/-- A PROD more than the ring's size beyond CONS is rejected (R287). -/
theorem test_doorbell_beyond_the_ring :
    (after (.doorbellCommand 5 .host 4095 17 15) (ringed 16380 1 4 5 false)).get DMA_DB_BAD_COUNT = 1 := by decide

/-- A completion error parks the command ring with cause 4 (R293). -/
theorem test_completion_error_parks :
    (after (.completionError 5 16380 false) (ringed 16380 1 4 5 false)).get (RNG_STAT_CAUSE 16380) = 4 := by decide

/-- A copy of no page is complete at once (R302). -/
theorem test_empty_copy :
    (after (.copyStart 5 .host false) idle).get DMA_XFER_STAT_END = 1 := by decide

/-- STATUS answers OK with GLB_MODE (R81). -/
theorem test_status_answer :
    (after (.status 5 0 false 3 []) quiet).get (APX_RESP_DATA_DATA 0 0) = 2 := by decide

/-- An ERROR starts the grace timer under its next sequence number (R329). -/
theorem test_error_waits_for_an_answer :
    (after (.faultEvent 5 126) ((sev 126 2).set (FCL_SRC_CFG_REACT 126) 0)).get FCL_STAT_ERR_SEQ = 1 := by decide

/-- A code of 1000, 100 °C, latches the shutdown (R346). -/
theorem test_shutdown_temperature :
    (evaluateLevels 1000 idle).on THM_LEVEL_SHUTDOWN = true ∧ (evaluateLevels 999 idle).on THM_LEVEL_SHUTDOWN = false := by decide

/-- A reference that is more than 0.5 % off ends the run with REF_REJECT (R355). -/
theorem test_reference_is_rejected :
    (after (.calibrationStepEnd 5 2512501 []) (calibrating (aRun 0 1 false true))).get CAL_STAT_RESULT = 3 := by decide

/-- The host's engine has no access to select 0 (R384). -/
theorem test_transfer_to_select_0 :
    (after (.spnXferStart 5 .host 0) hostSel).get SPN_XSTAT_RESULT = 4 := by decide

/-- A page program leaves a 0 bit at 0 (R387). -/
theorem test_program_clears_bits :
    (after (.spnBusyPoll 5 0 0) { flushing 3 none with flash := [(515, 0xFC)] }).flash = [(515, 4)] := by decide

/-- Behind offset 0xFF a read returns 0x00 (R396). -/
theorem test_smbus_overrun :
    ((pageBytes 4 0xFE none (smbed 0)).1).drop 2 = [0, 0] := by decide

/-- The maker's slot takes no key (R412). -/
theorem test_key_slot_0 :
    (after (.keyEnrol 5 .host 0) opened).get APX_KEY_STAT_RESULT = 3 := by decide

/-- The identification code of a CJ2048 at stepping 0x01 (R444). -/
theorem test_identification :
    idle.idCode = 0x17C20B47 := by decide

/-- A state and operands that meet the hypotheses of PeriodsAreLimited. -/
theorem witness_PeriodsAreLimited :
    (idle.set (FCT_PERIOD_PERIOD 15 31) 0x4000000).get (FCT_PERIOD_PERIOD 15 31) = 0x4000000 ∧ (idle.set (FCT_PERIOD_PERIOD 15 31) 0x186A00000001).get (FCT_PERIOD_PERIOD 15 31) = 0x186A00000001 ∧ (idle.set (FCT_PERIOD_PERIOD 15 31) 0x3FFFFFF).get (FCT_PERIOD_PERIOD 15 31) < 0x4000000 := by
  repeat' apply And.intro
  all_goals decide

end Sys2Proof.Tests
end

section
/-!
SUPPORT. What the operations that most commands share leave alone: field writes, events of interrupt sources, captured access
errors and the guards. `Keeps` is the frame these lemmas state.
-/

namespace Sys2Proof.Machine
open Sys2Proof.Reg

/-! ## Fields -/

theorem State.get_lt (s : State) (f : Fld) : s.get f < 2 ^ f.w := Nat.mod_lt _ (Nat.two_pow_pos _)

/-- A field is read from its register alone. -/
theorem State.get_of_reg {s t : State} {f : Fld} (h : t.reg f.addr = s.reg f.addr) : t.get f = s.get f := by
  rw [State.get, h, State.get]

theorem State.on_of_get {s t : State} {f : Fld} (h : t.get f = s.get f) : t.on f = s.on f := by rw [State.on, h, State.on]

/-- A count that saturates, of a field that lies within its word. -/
theorem State.get_countSat (s : State) (f : Fld) (i : Nat) (h : f.lo + f.w ≤ 64) :
    (s.countSat f i).get f = min (2 ^ f.w - 1) (s.get f + i) := by
  have hw : min (2 ^ f.w - 1) (s.get f + i) < 2 ^ f.w := by have := Nat.two_pow_pos f.w; omega
  rw [State.countSat, State.get_set_self s f _ h, Nat.mod_eq_of_lt hw]

/-! ## Frames -/

/-- Every register but those listed, and every byte memory, reads in `t` as in `s`. -/
def Keeps (as : List Nat) (s t : State) : Prop := SameRegs as s t ∧ SameMemories s t

theorem Keeps.refl (as : List Nat) (s : State) : Keeps as s s := ⟨fun _ _ => rfl, rfl, rfl, rfl, rfl, rfl⟩

theorem Keeps.trans {as : List Nat} {s t u : State} (h : Keeps as s t) (k : Keeps as t u) : Keeps as s u := by
  obtain ⟨hr, hp, hu, hs, hc, hf⟩ := h
  obtain ⟨kr, kp, ku, ks, kc, kf⟩ := k
  exact ⟨fun a ha => (kr a ha).trans (hr a ha), kp.trans hp, ku.trans hu, ks.trans hs, kc.trans hc, kf.trans hf⟩

theorem Keeps.mono {as bs : List Nat} {s t : State} (h : Keeps as s t) (hab : as ⊆ bs) : Keeps bs s t :=
  ⟨fun a ha => h.1 a fun hm => ha (hab hm), h.2⟩

theorem Keeps.reg {as : List Nat} {s t : State} (h : Keeps as s t) {a : Nat} (ha : a ∉ as) : t.reg a = s.reg a := h.1 a ha

theorem Keeps.get {as : List Nat} {s t : State} (h : Keeps as s t) {f : Fld} (hf : f.addr ∉ as) : t.get f = s.get f :=
  State.get_of_reg (h.reg hf)

/-- A field write keeps everything but its register. -/
theorem keeps_set {as : List Nat} (s : State) {f : Fld} (v : Nat) (h : f.addr ∈ as) : Keeps as s (s.set f v) :=
  ⟨fun _ ha => State.reg_set_ne s f v fun he => ha (he ▸ h), rfl, rfl, rfl, rfl, rfl⟩

theorem keeps_tick (as : List Nat) (s : State) (dt : Nat) : Keeps as s (s.tick dt) := ⟨fun _ _ => rfl, rfl, rfl, rfl, rfl, rfl⟩

/-- What each of a list of actions keeps, all of them together keep. -/
theorem keeps_foldl {α : Type} {as : List Nat} {g : State → α → State} (hg : ∀ s x, Keeps as s (g s x)) (xs : List α)
    (s : State) : Keeps as s (xs.foldl g s) := by
  induction xs generalizing s with
  | nil => exact Keeps.refl as s
  | cons x xs ih => exact (hg s x).trans (ih (g s x))

/-! ## Signals and events -/

theorem keeps_sendMessage (as : List Nat) (t : Nat) (s : State) : Keeps as s (sendMessage t s) := by
  unfold sendMessage
  split <;> exact ⟨fun _ _ => rfl, rfl, rfl, rfl, rfl, rfl⟩

theorem keeps_signalTarget (t : Nat) (s : State) : Keeps [DMA_MSIX_PBA 0] s (signalTarget t s) := by
  unfold signalTarget
  split
  · exact Keeps.refl _ s
  · split
    · exact keeps_set s _ (List.mem_singleton.2 rfl)
    · exact keeps_sendMessage _ t s

theorem keeps_signalSet (m : Nat) (s : State) : Keeps [DMA_MSIX_PBA 0] s (signalSet m s) :=
  keeps_foldl (fun s t => keeps_signalTarget t s) _ s

/-- Signalling the targets that a group newly offers itself to adds MSIX_PBA to what a change may alter (R309). -/
theorem Keeps.withGroup {as : List Nat} {g : Nat} {f : State → State} {s : State} (h : Keeps as s (f s))
    (hp : DMA_MSIX_PBA 0 ∈ as) : Keeps as s (withGroup g f s) :=
  h.trans ((keeps_signalSet _ _).mono (List.cons_subset.2 ⟨hp, List.nil_subset _⟩))

/-- An event alters the pending bits of its group and those of the MSI-X table (R307, R309). -/
theorem keeps_pend (n : Nat) (s : State) : Keeps [ICL_PEND (n / 16), DMA_MSIX_PBA 0] s (pend n s) := by
  unfold pend
  split
  · exact Keeps.withGroup (keeps_set s _ List.mem_cons_self) (List.mem_cons_of_mem _ List.mem_cons_self)
  · exact Keeps.refl _ s

/-! ## Captured access errors (R41) -/

/-- What the capture of an error holds: the error, if none stands since VALID was cleared, or else OVF. -/
def holdError (p : Path) (cause : Nat) (write : Bool) (bar off be : Nat) (s : State) : State :=
  if s.on GLB_ACCESS_ERR_VALID then s.raise GLB_ACCESS_ERR_OVF
  else
    ((((((s.raise GLB_ACCESS_ERR_VALID).set GLB_ACCESS_ERR_CAUSE cause).set GLB_ACCESS_ERR_WRITE (bit01 write)).set
      GLB_ACCESS_ERR_REQUESTER (if p = .apex then 1 else 0)).set GLB_ACCESS_ERR_BYTE_EN be).set
      GLB_ACCESS_ERR_ADDR_OFFSET off).set GLB_ACCESS_ERR_ADDR_BAR bar

@[simp] theorem capture_smbus (cause : Nat) (w : Bool) (bar off be : Nat) (s : State) :
    capture .smbus cause w bar off be s = s := rfl

theorem capture_eq_pend {p : Path} (hp : p ≠ .smbus) (cause : Nat) (w : Bool) (bar off be : Nat) (s : State) :
    capture p cause w bar off be s = pend 497 ((holdError p cause w bar off be s).countSat GLB_ACCESS_ERR_COUNT_COUNT 1) :=
  if_neg hp

/-- The registers in which a capture shows. -/
def captureRegs : List Nat := [GLB_ACCESS_ERR, GLB_ACCESS_ERR_ADDR, GLB_ACCESS_ERR_COUNT, ICL_PEND 31, DMA_MSIX_PBA 0]

theorem keeps_holdError (p : Path) (cause : Nat) (w : Bool) (bar off be : Nat) (s : State) :
    Keeps [GLB_ACCESS_ERR, GLB_ACCESS_ERR_ADDR] s (holdError p cause w bar off be s) := by
  have err {f : Fld} (h : f.addr = GLB_ACCESS_ERR) (v : Nat) (s : State) :
      Keeps [GLB_ACCESS_ERR, GLB_ACCESS_ERR_ADDR] s (s.set f v) := keeps_set s v (by simp [h])
  have place {f : Fld} (h : f.addr = GLB_ACCESS_ERR_ADDR) (v : Nat) (s : State) :
      Keeps [GLB_ACCESS_ERR, GLB_ACCESS_ERR_ADDR] s (s.set f v) := keeps_set s v (by simp [h])
  unfold holdError
  split
  · exact err rfl 1 s
  · exact (err rfl _ _).trans ((err rfl _ _).trans ((err rfl _ _).trans ((err rfl _ _).trans
      ((err rfl _ _).trans ((place rfl _ _).trans (place rfl _ _))))))

theorem keeps_capture (p : Path) (cause : Nat) (w : Bool) (bar off be : Nat) (s : State) :
    Keeps captureRegs s (capture p cause w bar off be s) := by
  by_cases hp : p = .smbus
  · subst hp
    exact Keeps.refl _ s
  · rw [capture_eq_pend hp]
    have hold := (keeps_holdError p cause w bar off be s).mono (bs := captureRegs) (by decide)
    have count := keeps_set (as := captureRegs) (holdError p cause w bar off be s) (f := GLB_ACCESS_ERR_COUNT_COUNT)
      (min (2 ^ 32 - 1) ((holdError p cause w bar off be s).get GLB_ACCESS_ERR_COUNT_COUNT + 1)) (by decide)
    exact hold.trans (count.trans ((keeps_pend 497 _).mono (by decide)))

/-! ## Guards (R34) -/

theorem keeps_setGuard (p : Path) (b : Bool) (s : State) : Keeps [GLB_GUARD_STAT] s (setGuard p b s) := by
  cases p
  case smbus => exact Keeps.refl _ s
  all_goals exact keeps_set s _ List.mem_cons_self

theorem keeps_request (s : State) (dt : Nat) (p : Path) : Keeps [GLB_GUARD_STAT] s (s.request dt p) :=
  (keeps_tick _ s dt).trans (keeps_setGuard p false _)

/-- A guard that is set stands as it was set; the SMBus path's never opens (R35). -/
theorem guardOpen_setGuard {p : Path} (hp : p ≠ .smbus) (b : Bool) (s : State) : (setGuard p b s).guardOpen p = b := by
  cases p
  case smbus => exact absurd rfl hp
  all_goals cases b <;> simp [setGuard, guardField, State.guardOpen, State.on, bit01]

@[simp] theorem guardOpen_smbus (s : State) : s.guardOpen .smbus = false := rfl

theorem guardOpen_request (s : State) (dt : Nat) (p : Path) : (s.request dt p).guardOpen p = false := by
  by_cases hp : p = .smbus
  · subst hp
    rfl
  · exact guardOpen_setGuard hp false _

end Sys2Proof.Machine
end

section
/-!
SUPPORT. Whole writes by access type (R26): what `writeRow` leaves in each field of the register written, and in the registers beside
it; what the register map owes for it, that the fields of a row lie apart.
-/

namespace Sys2Proof.Machine
open Sys2Proof.Reg

/-! ## The register map -/

/-- Two fields of one register share no bit. -/
abbrev FieldRow.Apart (f g : FieldRow) : Prop := g.lo + g.w ≤ f.lo ∨ f.lo + f.w ≤ g.lo

/-- The fields of a register lie within 64 bits, and apart from one another. -/
abbrev FieldsFit (fs : List FieldRow) : Prop := (∀ f ∈ fs, f.lo + f.w ≤ 64) ∧ fs.Pairwise FieldRow.Apart

set_option maxRecDepth 8000 in
theorem rowsOf_fieldsFit (b : Blk) : ∀ r ∈ rowsOf b, FieldsFit r.fields := by
  cases b
  all_goals decide

theorem mem_of_findRow {rs : List RegRow} {o : Nat} {r : RegRow} {high : Bool} (h : findRow rs o = some (r, high)) : r ∈ rs := by
  induction rs with
  | nil => exact nomatch h
  | cons x rs ih =>
    rw [findRow] at h
    split at h
    · obtain ⟨rfl, -⟩ := h
      exact List.mem_cons_self
    · exact List.mem_cons_of_mem _ (ih h)

/-- Every register stands in the table of its block (R25). -/
theorem rowAt_mem {a : Nat} {r : RegRow} {high : Bool} (h : rowAt a = some (r, high)) : ∃ b, r ∈ rowsOf b := by
  unfold rowAt at h
  split at h
  · exact nomatch h
  · exact ⟨_, mem_of_findRow h⟩

theorem rowAt_fieldsFit {a : Nat} {r : RegRow} {high : Bool} (h : rowAt a = some (r, high)) : FieldsFit r.fields := by
  obtain ⟨b, hb⟩ := rowAt_mem h
  exact rowsOf_fieldsFit b r hb

/-- None of the registers in which a capture shows has a guarded field. -/
theorem captureRegs_unguarded {a : Nat} (ha : a ∈ captureRegs) {r : RegRow} {high : Bool} (h : rowAt a = some (r, high)) :
    r.guarded = false := by
  have table : ∀ a ∈ captureRegs, (rowAt a).all (fun x => !x.1.guarded) = true := by decide
  simpa [h] using table a ha

theorem shadowDirty_unshadowed {r : RegRow} {high : Bool} (h : rowAt GLB_SHADOW_DIRTY = some (r, high)) :
    fieldMask [.sh] r.fields = 0 := by
  have table : (rowAt GLB_SHADOW_DIRTY).all (fun x => fieldMask [.sh] x.1.fields == 0) = true := by decide
  simpa [h] using table

/-! ## One field -/

/-- A field of the register at `a`. -/
abbrev FieldRow.fld (f : FieldRow) (a : Nat) : Fld := ⟨a, f.lo, f.w⟩

/-- What a field that held `old` holds after `v` is written to it, by its access type (R26). -/
def FieldRow.written (f : FieldRow) (guard : Bool) (old v : Nat) : Nat :=
  match f.acc with
  | .rw | .ct | .cts => v
  | .gd => if guard then v else old
  | .w1c => old &&& (2 ^ f.w - 1 - v)
  | .w1s => old ||| v
  | .ro | .wo | .rc | .hc | .sh => old

theorem FieldRow.written_lt (f : FieldRow) (guard : Bool) {old v : Nat} (ho : old < 2 ^ f.w) (hv : v < 2 ^ f.w) :
    f.written guard old v < 2 ^ f.w := by
  unfold FieldRow.written
  split
  · exact hv
  · exact hv
  · exact hv
  · split <;> assumption
  · exact Nat.lt_of_le_of_lt Nat.and_le_left ho
  · exact Nat.or_lt_two_pow ho hv
  all_goals exact ho

/-- A field's write leaves the state as it is, or sets the field to what its access type makes of the data. -/
theorem writeField_cases (guard : Bool) (a data : Nat) (f : FieldRow) (s : State) :
    (writeField guard a data f s = s ∧ f.written guard (s.get (f.fld a)) (bitsAt data f.lo f.w) = s.get (f.fld a)) ∨
    writeField guard a data f s = s.set (f.fld a) (f.written guard (s.get (f.fld a)) (bitsAt data f.lo f.w)) := by
  obtain ⟨_, lo, w, acc, _⟩ := f
  cases acc
  case rw | ct | cts | w1c | w1s => exact .inr rfl
  case ro | wo | rc | hc | sh => exact .inl ⟨rfl, rfl⟩
  case gd =>
    cases guard
    · exact .inl ⟨rfl, rfl⟩
    · exact .inr rfl

theorem writeField_self (guard : Bool) (a data : Nat) (f : FieldRow) (s : State) (hf : f.lo + f.w ≤ 64) :
    (writeField guard a data f s).get (f.fld a) = f.written guard (s.get (f.fld a)) (bitsAt data f.lo f.w) := by
  obtain ⟨hs, hw⟩ | hs := writeField_cases guard a data f s
  · rw [hs, hw]
  · have hw := f.written_lt guard (s.get_lt (f.fld a)) (Nat.mod_lt (data >>> f.lo) (Nat.two_pow_pos f.w))
    rw [hs, State.get_set_self s (f.fld a) _ hf]
    exact Nat.mod_eq_of_lt hw

theorem keeps_writeField (guard : Bool) (a data : Nat) (f : FieldRow) (s : State) : Keeps [a] s (writeField guard a data f s) := by
  obtain ⟨h, -⟩ | h := writeField_cases guard a data f s
  · rw [h]; exact Keeps.refl _ s
  · rw [h]; exact keeps_set s _ List.mem_cons_self

theorem writeField_apart (guard : Bool) (a data : Nat) {f g : FieldRow} (s : State) (hg : g.lo + g.w ≤ 64) (h : f.Apart g) :
    (writeField guard a data f s).get (g.fld a) = s.get (g.fld a) := by
  obtain ⟨hs, -⟩ | hs := writeField_cases guard a data f s
  · rw [hs]
  · rw [hs, State.get_set_apart s (f.fld a) (g.fld a) _ hg h]

/-! ## A whole register -/

theorem keeps_writeFields (guard : Bool) (a data : Nat) (fs : List FieldRow) (s : State) :
    Keeps [a] s (fs.foldl (fun s f => writeField guard a data f s) s) :=
  keeps_foldl (fun s f => keeps_writeField guard a data f s) fs s

theorem writeFields_apart (guard : Bool) (a data : Nat) (fs : List FieldRow) {g : FieldRow} (hg : g.lo + g.w ≤ 64)
    (h : ∀ f ∈ fs, f.Apart g) (s : State) :
    (fs.foldl (fun s f => writeField guard a data f s) s).get (g.fld a) = s.get (g.fld a) := by
  induction fs generalizing s with
  | nil => rfl
  | cons f fs ih =>
    obtain ⟨hf, hfs⟩ := List.forall_mem_cons.1 h
    rw [List.foldl_cons, ih hfs, writeField_apart guard a data s hg hf]

/-- Each field of a register takes the write by its own access type. -/
theorem writeFields_get (guard : Bool) (a data : Nat) {fs : List FieldRow} (fit : FieldsFit fs) {f : FieldRow} (hf : f ∈ fs)
    (s : State) :
    (fs.foldl (fun s f => writeField guard a data f s) s).get (f.fld a) =
      f.written guard (s.get (f.fld a)) (bitsAt data f.lo f.w) := by
  obtain ⟨inWord, apart⟩ := fit
  induction fs generalizing s with
  | nil => exact nomatch hf
  | cons x fs ih =>
    obtain ⟨hx, hfs⟩ := List.forall_mem_cons.1 inWord
    obtain ⟨apartX, apartFs⟩ := List.pairwise_cons.1 apart
    rw [List.foldl_cons]
    obtain rfl | hmem := List.mem_cons.1 hf
    · rw [writeFields_apart guard a data fs hx (fun g hg => (apartX g hg).symm), writeField_self guard a data f s hx]
    · rw [ih hmem _ hfs apartFs, writeField_apart guard a data s (hfs f hmem) (apartX f hmem)]

theorem keeps_setShadow (a : Nat) (w : Word64) (s : State) : Keeps [GLB_SHADOW_DIRTY] s (setShadow a w s) :=
  keeps_set { s with shadow := Store.insert a (w &&& BitVec.ofNat 64 (shadowMask a)) s.shadow } _ List.mem_cons_self

theorem keeps_writeRow (guard : Bool) (a data : Nat) (r : RegRow) (s : State) :
    Keeps [a, GLB_SHADOW_DIRTY] s (writeRow guard a data r s) := by
  have fields := (keeps_writeFields guard a data r.fields s).mono (bs := [a, GLB_SHADOW_DIRTY]) (by simp)
  unfold writeRow
  dsimp only
  split
  · exact fields
  · exact fields.trans ((keeps_setShadow a _ _).mono (by simp))

theorem writeRow_get (guard : Bool) (a data : Nat) {r : RegRow} (h : rowAt a = some (r, false)) {f : FieldRow} (hf : f ∈ r.fields)
    (s : State) :
    (writeRow guard a data r s).get (f.fld a) = f.written guard (s.get (f.fld a)) (bitsAt data f.lo f.w) := by
  rw [← writeFields_get guard a data (rowAt_fieldsFit h) hf s]
  unfold writeRow
  dsimp only
  split
  · rfl
  next shadowed =>
    have ha : a ≠ GLB_SHADOW_DIRTY := by
      rintro rfl
      exact shadowed (shadowDirty_unshadowed h)
    exact (keeps_setShadow a _ _).get (by simpa using ha)

/-! ## A register without a behaviour of its own -/

/-- The state in which the fields of a plain write are written: behind a closed guard the write has been captured (R35). -/
def guardChecked (p : Path) (guard : Bool) (a : Nat) (r : RegRow) (s : State) : State :=
  if r.guarded && !guard then capture p causeGuard true 0 a 0xF s else s

theorem plainWrite_row {a : Nat} {r : RegRow} (h : rowAt a = some (r, false)) (p : Path) (guard : Bool) (data : Nat) (s : State) :
    plainWrite p guard a data s = writeRow guard a data r (guardChecked p guard a r s) := by
  simp [plainWrite, h, guardChecked]

theorem keeps_guardChecked (p : Path) (guard : Bool) (a : Nat) (r : RegRow) (s : State) :
    Keeps captureRegs s (guardChecked p guard a r s) := by
  unfold guardChecked
  split
  · exact keeps_capture ..
  · exact Keeps.refl _ s

/-- A capture never shows in the register whose write it reports. -/
theorem guardChecked_reg_self (p : Path) (guard : Bool) {a : Nat} {r : RegRow} (h : rowAt a = some (r, false)) (s : State) :
    (guardChecked p guard a r s).reg a = s.reg a := by
  by_cases ha : a ∈ captureRegs
  · simp [guardChecked, captureRegs_unguarded ha h]
  · exact (keeps_guardChecked p guard a r s).reg ha

theorem plainWrite_get (p : Path) (guard : Bool) {a : Nat} (data : Nat) {r : RegRow} (h : rowAt a = some (r, false))
    {f : FieldRow} (hf : f ∈ r.fields) (s : State) :
    (plainWrite p guard a data s).get (f.fld a) = f.written guard (s.get (f.fld a)) (bitsAt data f.lo f.w) := by
  have same : (guardChecked p guard a r s).get (f.fld a) = s.get (f.fld a) := State.get_of_reg (guardChecked_reg_self p guard h s)
  rw [plainWrite_row h, writeRow_get guard a data h hf, same]

theorem keeps_plainWrite (p : Path) (guard : Bool) (a data : Nat) (s : State) :
    Keeps (a :: GLB_SHADOW_DIRTY :: captureRegs) s (plainWrite p guard a data s) := by
  unfold plainWrite
  split
  next r _ =>
    exact ((keeps_guardChecked p guard a r s).mono (by simp)).trans ((keeps_writeRow guard a data r _).mono (by simp))
  · exact Keeps.refl _ s

end Sys2Proof.Machine
end

section
/-!
SUPPORT. Requests of one doubleword: where a write or a read of the register map goes when nothing turns it away.
-/

namespace Sys2Proof.Machine
open Sys2Proof.Reg

/-! ## Addresses -/

theorem blockOf_lt {a : Nat} {b : Blk} (h : blockOf a = some b) : a < 0x1800000 := by
  by_contra ha
  have gap : blockOf a = none := by
    rw [blockOf]
    repeat rw [if_neg (by omega)]
  exact nomatch gap ▸ h

theorem implemented_lt {s : State} {a : Nat} (h : s.implemented a = true) : a < 0x1800000 := by
  unfold State.implemented at h
  split at h
  · exact nomatch h
  next hb => exact blockOf_lt hb

theorem State.facets_le (s : State) : s.facets ≤ 16 := by
  unfold State.facets
  split <;> decide

theorem windowGated_lt {s : State} {a : Nat} (h : s.windowGated a = true) : a < 0x1800000 := by
  have := s.facets_le
  simp only [State.windowGated, Bool.and_eq_true, decide_eq_true_eq] at h
  omega

/-- A gated window says that the part dozes, so that every path lives (R68). -/
theorem pathDead_of_windowGated {s : State} {a : Nat} (p : Path) (h : s.windowGated a = true) : s.pathDead p = false := by
  simp only [State.windowGated, Bool.and_eq_true, decide_eq_true_eq] at h
  simp [State.pathDead, h.1.1, modeDoze, modeReset]

/-! ## Writes -/

/-- Below the Apex engine's own registers a write request goes to the register map (R403). -/
theorem requestWrite_low {a : Nat} (h : a < 0x1800000) (p : Path) (items : List (Nat × Nat)) (s : State) :
    requestWrite p a items s = busWrite p a items s := by
  have below : ¬ apexEngineBase ≤ a := by unfold apexEngineBase; omega
  simp [requestWrite, inApexEngine, below]

theorem gives_registerWrite {s t : State} {dt a : Nat} {p : Path} {items : List (Nat × Nat)} (ha : a < 0x1800000)
    (h : busWrite p a items (s.tick dt) = t) : Gives (.registerWrite dt p a items) s t :=
  gives_of_act rfl ((requestWrite_low ha p items _).trans h)

theorem busWrite_one {s : State} {p : Path} (h : s.pathDead p = false) (dt a d be : Nat) :
    busWrite p a [(d, be)] (s.tick dt) = writeOne p (s.guardOpen p) a d be (s.request dt p) := by
  have hd : (s.tick dt).pathDead p = false := h
  rw [busWrite, hd]
  rfl

/-- Nothing turns an access to `a` on path `p` away, and a register of this part stands there. -/
structure State.Serves (s : State) (p : Path) (a : Nat) (r : RegRow) (high : Bool) : Prop where
  alive : s.pathDead p = false
  opens : s.hostShut p a = false
  powered : s.windowGated a = false
  present : s.implemented a = true
  row : rowAt a = some (r, high)

theorem serves_of_takes {s : State} {p : Path} {a : Nat} (h : s.takes p a = true) :
    ∃ r high, s.Serves p a r high ∧ r.quad = false := by
  simp only [State.takes, Bool.and_eq_true, Bool.not_eq_true'] at h
  obtain ⟨⟨⟨⟨h1, h2⟩, h3⟩, h4⟩, h5⟩ := h
  split at h5
  next r high hr => exact ⟨r, high, ⟨h1, h2, h3, h4, hr⟩, by simpa using h5⟩
  · exact nomatch h5

/-- One doubleword at a register: a word of a pair alone is captured, and so is a part of a 32-bit register (R37). -/
theorem busWrite_served {s : State} {p : Path} {a : Nat} {r : RegRow} {high : Bool} (h : s.Serves p a r high) (dt d be : Nat) :
    busWrite p a [(d, be)] (s.tick dt) =
      if r.quad then capture p causeSplit64 true 0 a be (s.request dt p)
      else if be ≠ 0xF then capture p causeNarrow true 0 a be (s.request dt p)
      else writeReg p (s.guardOpen p) a d (s.request dt p) := by
  rw [busWrite_one h.alive]
  simp [writeOne, admitWrite, hostShut_request, windowGated_request, implemented_request, h.opens, h.powered, h.present, h.row]

/-- A write that the mode turns away leaves what any request leaves (R68, R73). -/
theorem busWrite_turnedAway {s : State} {p : Path} {a : Nat} (hp : s.pathDead p = false)
    (h : s.hostShut p a = true ∨ s.windowGated a = true) (dt d be : Nat) :
    busWrite p a [(d, be)] (s.tick dt) = s.request dt p := by
  rw [busWrite_one hp]
  obtain h | h := h <;> simp [writeOne, admitWrite, hostShut_request, windowGated_request, h]

/-! ## Reads -/

theorem readOne_served {s : State} {p : Path} {a : Nat} {r : RegRow} {high : Bool} (h : s.Serves p a r high) (dt be : Nat) :
    readOne p a be (s.tick dt) =
      (some (maskBytes be (readDword p a be (s.tick dt)).1), (readDword p a be (s.tick dt)).2) := by
  have h1 : (s.tick dt).hostShut p a = false := h.opens
  have h2 : (s.tick dt).windowGated a = false := h.powered
  have h3 : (s.tick dt).implemented a = true := h.present
  simp [readOne, h1, h2, h3]

theorem busRead_served {s : State} {p : Path} {a : Nat} {r : RegRow} {high : Bool} (h : s.Serves p a r high) (dt be : Nat) :
    busRead p a [be] (s.tick dt) =
      (readDword p a be (s.tick dt)).2.send (.readData p a (maskBytes be (readDword p a be (s.tick dt)).1)) := by
  have hd : (s.tick dt).pathDead p = false := h.alive
  simp [busRead, hd, readItems, readOne_served h]

/-- The high word of a pair comes from the path's holding register, if it holds that pair's, and frees it (R36). -/
theorem readDword_held {s : State} {p : Path} {a h : Nat} {r : RegRow} (hr : rowAt (a + 4) = some (r, true))
    (hl : s.latch p = some (a, h)) (be : Nat) : readDword p (a + 4) be s = (h, setLatch p none s) := by
  simp [readDword, hr, hl]

/-- The low word of a pair of RO or CT fields leaves the pair's high word in the holding register (R36). -/
theorem readDword_holds {a : Nat} {r : RegRow} (hr : rowAt a = some (r, false)) (hq : r.quad = true) (hh : r.holds = true)
    (hc : indexIn (ICL_CLAIM 0) 4 16 a = none) (hi : indexIn (FCL_HIST 0) 16 16 a = none) (p : Path) (s : State) :
    readDword p a 0xF s = ((readWhole a (some r) s).1 % 2 ^ 32,
      setLatch p (some (a, (readWhole a (some r) s).1 / 2 ^ 32)) (readWhole a (some r) s).2) := by
  simp [readDword, hr, hq, hh, hc, hi]

/-- A 32-bit register clears its RC fields (R26). -/
theorem readDword_single {a : Nat} {r : RegRow} (hr : rowAt a = some (r, false)) (hq : r.quad = false)
    (hc : indexIn (ICL_CLAIM 0) 4 16 a = none) (hi : indexIn (FCL_HIST 0) 16 16 a = none) (p : Path) (s : State) :
    readDword p a 0xF s = ((readWhole a (some r) s).1 % 2 ^ 32, clearRc a r (readWhole a (some r) s).2) := by
  simp [readDword, hr, hq, hc, hi]

end Sys2Proof.Machine
end

section
/-!
SUPPORT. The registers of the GLB block that a request names by itself, what a captured error shows, and the guard written twice.
-/

namespace Sys2Proof.Machine
open Sys2Proof.Reg

/-! ## GLB -/

theorem blockOf_glb {a : Nat} (ha : a < 0x10000) : blockOf a = some .glb := by
  have page : a / 0x10000 = 0 := Nat.div_eq_of_lt ha
  rw [blockOf, if_pos (by omega), page]
  rfl

/-- A 32-bit register of GLB is served in every mode; in RESET no firmware runs to write it (R73). -/
theorem takes_glb {s : State} {p : Path} {a : Nat} {r : RegRow} (ha : a < 0x10000) (hr : rowAt a = some (r, false))
    (hq : r.quad = false) (hp : p = .apex → s.mode ≠ modeReset) : s.takes p a = true := by
  have alive : s.pathDead p = false := by simpa [State.pathDead] using hp
  have opens : s.hostShut p a = false := by simp [State.hostShut, ha]
  have powered : s.windowGated a = false := by
    have : ¬ 0x1000000 ≤ a := by omega
    simp [State.windowGated, this]
  have present : s.implemented a = true := by simp [State.implemented, blockOf_glb ha, hr]
  simp [State.takes, alive, opens, powered, present, hr, hq]

theorem writeReg_glb {a : Nat} (ha : a < 0x10000) (p : Path) (g : Bool) (data : Nat) (s : State) :
    writeReg p g a data s = writeGlb p g a data s := by
  rw [writeReg, blockOf_glb ha]

/-- The row of GLB_SCRATCH (R41). -/
def scratchRow : RegRow := ⟨"SCRATCH", 0x80, false, [(4, 0x4)], [⟨"DATA", 0, 32, .rw, 0⟩]⟩

theorem rowAt_scratch {i : Nat} (hi : i < 4) : rowAt (GLB_SCRATCH i) = some (scratchRow, false) := by
  have table : ∀ i < 4, rowAt (GLB_SCRATCH i) = some (scratchRow, false) := by decide
  exact table i hi

/-- The row of GLB_UNLOCK (R41). -/
def unlockRow : RegRow := ⟨"UNLOCK", 0x50, false, [], [⟨"KEY", 0, 32, .wo, 0⟩]⟩

theorem rowAt_unlock : rowAt GLB_UNLOCK = some (unlockRow, false) := by decide

/-- A register without GD and SH fields takes a plain write field by field and no more. -/
theorem plainWrite_fields {a : Nat} {r : RegRow} (h : rowAt a = some (r, false)) (hg : r.guarded = false)
    (hs : fieldMask [.sh] r.fields = 0) (p : Path) (guard : Bool) (data : Nat) (s : State) :
    plainWrite p guard a data s = r.fields.foldl (fun s f => writeField guard a data f s) s := by
  simp [plainWrite_row h, guardChecked, hg, writeRow, hs]

theorem writeReg_scratch {i : Nat} (hi : i < 4) (p : Path) (g : Bool) (data : Nat) (s : State) :
    writeReg p g (GLB_SCRATCH i) data s = plainWrite p g (GLB_SCRATCH i) data s := by
  have glb : GLB_SCRATCH i < 0x10000 ∧ GLB_SCRATCH i ≠ GLB_UPDATE ∧ GLB_SCRATCH i ≠ GLB_UNLOCK := by
    unfold GLB_SCRATCH GLB_UPDATE GLB_UNLOCK
    omega
  obtain ⟨low, update, unlock⟩ := glb
  rw [writeReg_glb low, writeGlb, if_neg update, if_neg unlock]

theorem get_writeReg_scratch {i : Nat} (hi : i < 4) (p : Path) (g : Bool) (data : Nat) (s : State) :
    (writeReg p g (GLB_SCRATCH i) data s).get (GLB_SCRATCH_DATA i) = data % 2 ^ 32 := by
  rw [writeReg_scratch hi]
  exact plainWrite_get p g data (rowAt_scratch hi) List.mem_cons_self s

theorem keeps_writeReg_scratch {i : Nat} (hi : i < 4) (p : Path) (g : Bool) (data : Nat) (s : State) :
    Keeps [GLB_SCRATCH i] s (writeReg p g (GLB_SCRATCH i) data s) := by
  rw [writeReg_scratch hi, plainWrite_fields (rowAt_scratch hi) rfl rfl]
  exact keeps_writeFields g _ data _ s

/-! ## Captured errors (R41) -/

/-- A captured error shows as it is held; the count and the interrupt stand in other registers. -/
theorem reg_capture {p : Path} (hp : p ≠ .smbus) (cause : Nat) (w : Bool) (bar off be : Nat) (s : State) {a : Nat}
    (ha : a ∉ [GLB_ACCESS_ERR_COUNT, ICL_PEND 31, DMA_MSIX_PBA 0]) :
    (capture p cause w bar off be s).reg a = (holdError p cause w bar off be s).reg a := by
  obtain ⟨hCount, hEvent⟩ := not_or.1 (ha ∘ List.mem_cons.2)
  rw [capture_eq_pend hp, (keeps_pend 497 _).reg hEvent, State.countSat, State.reg_set_ne _ _ _ hCount]

theorem get_capture {p : Path} (hp : p ≠ .smbus) (cause : Nat) (w : Bool) (bar off be : Nat) (s : State) {f : Fld}
    (hf : f.addr ∉ [GLB_ACCESS_ERR_COUNT, ICL_PEND 31, DMA_MSIX_PBA 0]) :
    (capture p cause w bar off be s).get f = (holdError p cause w bar off be s).get f :=
  State.get_of_reg (reg_capture hp cause w bar off be s hf)

theorem get_capture_count {p : Path} (hp : p ≠ .smbus) (cause : Nat) (w : Bool) (bar off be : Nat) (s : State) :
    (capture p cause w bar off be s).get GLB_ACCESS_ERR_COUNT_COUNT =
      min (2 ^ 32 - 1) (s.get GLB_ACCESS_ERR_COUNT_COUNT + 1) := by
  rw [capture_eq_pend hp, (keeps_pend 497 _).get (by decide), State.get_countSat _ _ _ (by decide),
    (keeps_holdError p cause w bar off be s).get (by decide)]

/-- The first error since VALID was cleared is held whole. -/
theorem capture_first {s : State} (h : s.on GLB_ACCESS_ERR_VALID = false) {p : Path} (hp : p ≠ .smbus) {cause bar off be : Nat}
    {w : Bool} (hc : cause < 8) (hb : bar < 4) (ho : off < 2 ^ 26) (he : be < 16) :
    let t := capture p cause w bar off be s
    t.on GLB_ACCESS_ERR_VALID = true ∧ t.get GLB_ACCESS_ERR_CAUSE = cause ∧ t.on GLB_ACCESS_ERR_WRITE = w ∧
      t.get GLB_ACCESS_ERR_REQUESTER = (if p = .apex then 1 else 0) ∧ t.get GLB_ACCESS_ERR_BYTE_EN = be ∧
      t.get GLB_ACCESS_ERR_ADDR_OFFSET = off ∧ t.get GLB_ACCESS_ERR_ADDR_BAR = bar := by
  have write : (bit01 w % 2 ^ 1 != 0) = w := by cases w <;> rfl
  have requester : (if p = .apex then 1 else 0) % 2 ^ 2 = if p = .apex then 1 else 0 := by split <;> rfl
  simp (disch := decide) only [State.on, get_capture hp]
  rw [holdError, if_neg (by simp [h])]
  simp (disch := decide) only [State.raise, State.get_set_apart, State.get_set_ne, State.get_set_self]
  exact ⟨rfl, Nat.mod_eq_of_lt hc, write, requester, Nat.mod_eq_of_lt he, Nat.mod_eq_of_lt ho, Nat.mod_eq_of_lt hb⟩

/-- A later one only sets OVF. -/
theorem capture_later {s : State} (h : s.on GLB_ACCESS_ERR_VALID = true) {p : Path} (hp : p ≠ .smbus) (cause bar off be : Nat)
    (w : Bool) :
    let t := capture p cause w bar off be s
    t.on GLB_ACCESS_ERR_OVF = true ∧ t.get GLB_ACCESS_ERR_CAUSE = s.get GLB_ACCESS_ERR_CAUSE ∧
      t.reg GLB_ACCESS_ERR_ADDR = s.reg GLB_ACCESS_ERR_ADDR := by
  have held : holdError p cause w bar off be s = s.set GLB_ACCESS_ERR_OVF 1 := if_pos h
  refine ⟨?_, ?_, ?_⟩
  · rw [State.on, get_capture hp cause w bar off be s (by decide), held, State.get_set_self _ _ _ (by decide)]
    rfl
  · rw [get_capture hp cause w bar off be s (by decide), held, State.get_set_apart s _ _ _ (by decide) (by decide)]
  · rw [reg_capture hp cause w bar off be s (by decide), held, State.reg_set_ne s _ _ (by decide)]

/-! ## The guard written twice -/

theorem Store.erase_idem {α : Type} (m : Store α) (a : Nat) : Store.erase a (Store.erase a m) = Store.erase a m := by
  simp [Store.erase]

theorem Store.insert_idem {α : Type} (m : Store α) (a : Nat) (v : α) :
    Store.insert a v (Store.insert a v m) = Store.insert a v m := by
  induction m with
  | nil => simp [Store.insert]
  | cons e m ih =>
    obtain ⟨k, w⟩ := e
    rcases Nat.lt_trichotomy a k with h | rfl | h
    · simp [Store.insert, h]
    · simp [Store.insert]
    · simp [Store.insert, Nat.not_lt.2 h.le, h.ne', ih]

theorem Store.put_idem {α : Type} [DecidableEq α] (d : Nat → α) (m : Store α) (a : Nat) (v : α) :
    Store.put d (Store.put d m a v) a v = Store.put d m a v := by
  by_cases h : v = d a
  · simp only [Store.put, if_pos h, Store.erase_idem]
  · simp only [Store.put, if_neg h, Store.insert_idem]

theorem insertBits_idem (x : Word64) (lo w v : Nat) : insertBits (insertBits x lo w v) lo w v = insertBits x lo w v := by
  refine BitVec.eq_of_getLsbD_eq fun i hi => ?_
  show (insertBits _ lo w v).toNat.testBit i = (insertBits x lo w v).toNat.testBit i
  rw [insertBits_testBit _ _ _ _ _ hi, insertBits_testBit _ _ _ _ _ hi]
  split <;> rfl

theorem State.set_idem (s : State) (f : Fld) (v : Nat) : (s.set f v).set f v = s.set f v := by
  have word : insertBits ((s.set f v).reg f.addr) f.lo f.w v = insertBits (s.reg f.addr) f.lo f.w v := by
    rw [State.set, State.reg_setReg_self, insertBits_idem]
  show (s.set f v).setReg f.addr _ = _
  rw [word]
  simp only [State.set, State.setReg, Store.put_idem]

theorem setGuard_idem (p : Path) (b : Bool) (s : State) : setGuard p b (setGuard p b s) = setGuard p b s := by
  cases p
  case smbus => rfl
  all_goals exact State.set_idem s _ _

/-- The count of bad keys stands above the guard bits. -/
theorem badKeys_request (s : State) (dt : Nat) (p : Path) :
    (s.request dt p).get GLB_GUARD_STAT_BAD_KEYS = s.get GLB_GUARD_STAT_BAD_KEYS := by
  cases p
  case smbus => rfl
  all_goals exact State.get_set_apart (s.tick dt) _ _ _ (by decide) (by decide)

theorem guardOpen_countBadKeys (s : State) (p : Path) :
    (s.countSat GLB_GUARD_STAT_BAD_KEYS 1).guardOpen p = s.guardOpen p := by
  cases p
  case smbus => rfl
  all_goals exact State.on_of_get (State.get_set_apart s _ _ _ (by decide) (by decide))

theorem Keeps.guardOpen {as : List Nat} {s t : State} (h : Keeps as s t) (hg : GLB_GUARD_STAT ∉ as) (p : Path) :
    t.guardOpen p = s.guardOpen p := by
  cases p
  case smbus => rfl
  all_goals exact State.on_of_get (h.get hg)

/-! ## GLB_UNLOCK (R34) -/

theorem writeReg_unlock (p : Path) (g : Bool) (data : Nat) (s : State) :
    writeReg p g GLB_UNLOCK data s = writeUnlock p data s := by
  rw [writeReg_glb (by decide), writeGlb, if_neg (by decide), if_pos rfl]

theorem gives_glbUnlock {s : State} {p : Path} (hp : p = .apex → s.mode ≠ modeReset) (dt key : Nat) :
    Gives (.glbUnlock dt p key) s (writeUnlock p (key % 2 ^ 32) (s.request dt p)) := by
  refine gives_of_act rfl ?_
  rw [write32_takes s dt p GLB_UNLOCK key (takes_glb (by decide) rowAt_unlock rfl hp), writeReg_unlock]

theorem writeUnlock_smbus (data : Nat) (s : State) : writeUnlock .smbus data s = s := by
  unfold writeUnlock
  split <;> rfl

theorem writeUnlock_badKey {p : Path} (hp : p ≠ .smbus) {data : Nat} (hd : data ≠ 0xC3D17A5E) (s : State) (dt : Nat) :
    writeUnlock p data (s.request dt p) =
      capture p causeBadKey true 0 GLB_UNLOCK 0xF ((s.request dt p).countSat GLB_GUARD_STAT_BAD_KEYS 1) := by
  have closed : setGuard p false (s.request dt p) = s.request dt p := setGuard_idem p false _
  simp only [writeUnlock, hd, hp, if_false, closed]

end Sys2Proof.Machine
end

section
/-!
PROOFS. The statements about register writes, access errors, reads and the guard (R26, R34 to R41), and about the state after reset.
-/

namespace Sys2Proof.Machine
open Sys2Proof.Reg

/-- Settles O11: each field by its access type, and beside the register written only what captures the error and what notes the
shadow. -/
theorem fieldsFollowTheirAccessType : Obligations.FieldsFollowTheirAccessType := by
  unfold Obligations.FieldsFollowTheirAccessType
  intro s p g a data r f hr hf
  refine ⟨plainWrite_get p g data hr hf s, ?_⟩
  exact ((keeps_plainWrite p g a data s).mono (by simp [captureRegs])).1

/-- Settles O10: `busWrite_takes` for a register that takes the write, GLB_SCRATCH as such a register, and `busWrite_turnedAway`. -/
theorem registerWriteReachesTheRegister : Obligations.RegisterWriteReachesTheRegister := by
  unfold Obligations.RegisterWriteReachesTheRegister
  refine ⟨?reaches, ?scratch, ?shut, ?gated⟩
  case reaches =>
    intro s dt a d p h
    obtain ⟨_, _, served, -⟩ := serves_of_takes h
    exact gives_registerWrite (implemented_lt served.present) (busWrite_takes s dt p a d h)
  case scratch =>
    intro s dt i d p hi hp
    have takes : s.takes p (GLB_SCRATCH i) = true := takes_glb (by unfold GLB_SCRATCH; omega) (rowAt_scratch hi) rfl hp
    have keeps : Keeps [GLB_SCRATCH i, GLB_GUARD_STAT] s
        (writeReg p (s.guardOpen p) (GLB_SCRATCH i) d (s.request dt p)) :=
      ((keeps_request s dt p).mono (by simp)).trans ((keeps_writeReg_scratch hi p _ d _).mono (by simp))
    exact ⟨_, gives_registerWrite (by unfold GLB_SCRATCH; omega) (busWrite_takes s dt p _ d takes),
      get_writeReg_scratch hi p _ d _, keeps⟩
  case shut =>
    intro s dt a d be h
    exact gives_of_act rfl (busWrite_turnedAway rfl (.inl h) dt d be)
  case gated =>
    intro s dt a d be p h
    exact gives_registerWrite (windowGated_lt h) (busWrite_turnedAway (pathDead_of_windowGated p h) (.inr h) dt d be)

/-- Settles O12: `busWrite_served` says which write is captured, `capture_first` and `capture_later` what the capture holds, and
`keeps_capture` what else it leaves. -/
theorem accessErrorsAreCaptured : Obligations.AccessErrorsAreCaptured := by
  unfold Obligations.AccessErrorsAreCaptured
  refine ⟨?part, ?held⟩
  case part =>
    intro s dt a d be p r high alive opens powered present row
    have write := busWrite_served ⟨alive, opens, powered, present, row⟩ dt d be
    refine ⟨fun pair => ?_, fun single narrow => ?_⟩
    · exact gives_registerWrite (implemented_lt present) (by rw [write, if_pos pair])
    · exact gives_registerWrite (implemented_lt present) (by rw [write, if_neg (by simp [single]), if_pos narrow])
  case held =>
    intro s p cause bar off be w hc hb ho he
    refine ⟨fun hp => hp ▸ capture_smbus cause w bar off be s, fun hp => ?_⟩
    exact ⟨fun first => capture_first first hp hc hb ho he, fun later => capture_later later hp cause bar off be w,
      get_capture_count hp cause w bar off be s, keeps_capture p cause w bar off be s⟩

/-- Settles O14: a full read of one doubleword that is served returns what `readDword` says, and leaves what it leaves. -/
theorem readsLatchAndReturn : Obligations.ReadsLatchAndReturn := by
  unfold Obligations.ReadsLatchAndReturn
  refine ⟨?low, ?high, ?single⟩
  case low =>
    intro s dt a p r alive opens powered present row pair holds claim hist
    exact gives_of_act rfl (by
      rw [busRead_served ⟨alive, opens, powered, present, row⟩, readDword_holds row pair holds claim hist])
  case high =>
    intro s dt a h p r alive opens powered present row latched
    have held : (s.tick dt).latch p = some (a, h) := latched
    exact gives_of_act rfl (by
      rw [busRead_served ⟨alive, opens, powered, present, row⟩, readDword_held row held])
  case single =>
    intro s dt a p r takes row claim hist
    obtain ⟨r', high, served, single⟩ := serves_of_takes takes
    obtain ⟨rfl, rfl⟩ : r' = r ∧ high = false := by simpa [row, eq_comm] using served.row
    have read := busRead_served served dt 0xF
    rw [readDword_single row single claim hist] at read
    exact ⟨gives_of_act rfl read, gives_of_act rfl read⟩

/-- Settles O15: `writeUnlock` is what GLB_UNLOCK gives, on a path whose request has armed its guard. -/
theorem unlockOpensTheGuard : Obligations.UnlockOpensTheGuard := by
  unfold Obligations.UnlockOpensTheGuard
  refine ⟨?key, ?badKey, ?smbus, ?next⟩
  case key =>
    intro s dt p hp live
    have keeps : Keeps [GLB_GUARD_STAT] s (setGuard p true (s.request dt p)) :=
      (keeps_request s dt p).trans (keeps_setGuard p true _)
    exact ⟨_, gives_glbUnlock live dt 0xC3D17A5E, guardOpen_setGuard hp true _, keeps⟩
  case badKey =>
    intro s dt key p small bad hp live
    have gives := gives_glbUnlock live dt key
    rw [Nat.mod_eq_of_lt small, writeUnlock_badKey hp bad] at gives
    have keeps := keeps_capture p causeBadKey true 0 GLB_UNLOCK 0xF ((s.request dt p).countSat GLB_GUARD_STAT_BAD_KEYS 1)
    refine ⟨_, gives, ?closed, ?counted, rfl⟩
    case closed => rw [keeps.guardOpen (by decide), guardOpen_countBadKeys, guardOpen_request]
    case counted =>
      rw [keeps.get (by decide), State.get_countSat _ _ _ (by decide), badKeys_request]
      rfl
  case smbus =>
    intro s dt key
    have gives := gives_glbUnlock (s := s) (p := .smbus) nofun dt key
    rw [writeUnlock_smbus] at gives
    exact ⟨guardOpen_smbus s, gives⟩
  case next =>
    intro s dt a d p
    refine ⟨guardOpen_request s dt p, fun takes opened => ?_⟩
    obtain ⟨_, _, served, -⟩ := serves_of_takes takes
    exact gives_registerWrite (implemented_lt served.present) (opened ▸ busWrite_takes s dt p a d takes)

/-- Settles O6: at reset no register is listed, so that each reads its table's value; `reset_memories_wf` for the memories. -/
theorem resetState : Obligations.ResetState := by
  unfold Obligations.ResetState
  obtain ⟨pool, -, -, -, flash⟩ := reset_memories_wf
  have glb : State.reset.mode = modeReset ∧ State.reset.get GLB_UPDATE_DONE_DONE = 0x3FFFF ∧
      State.reset.get GLB_IDENT_FAMILY = 0x7C20 := by decide
  have icl : State.reset.get (ICL_CLAIM_GROUP 3) = 0x3FF ∧ State.reset.get ICL_ONLINE_APEX = 1 ∧
      State.reset.on (ICL_SRC_CFG_ENABLE 77) = true := by decide
  have window : State.reset.get (FCL_SRC_W_W 5) = 1600000 := by decide
  obtain ⟨mode, done, family⟩ := glb
  obtain ⟨claim, apex, enable⟩ := icl
  exact ⟨mode, fun _ => rfl, done, family, window, claim, apex, enable, rfl, rfl, rfl, pool, flash⟩

end Sys2Proof.Machine
end

section
/-!
SUPPORT. The registers of the ARC block that ink a vertex and hold the wall clock (R52, R55), and what inking does to a vertex without an
operation (R206).
-/

namespace Sys2Proof.Machine
open Sys2Proof.Reg

/-! ## What a request leaves alone -/

/-- A request changes the clock and its path's guard alone. -/
theorem request_eq (s : State) (dt : Nat) (p : Path) :
    s.request dt p = { s.tick dt with regs := (s.request dt p).regs } := by cases p <;> rfl

theorem get_request (s : State) (dt : Nat) (p : Path) {f : Fld} (hf : f.addr ≠ GLB_GUARD_STAT) : (s.request dt p).get f = s.get f :=
  get_setGuard p false (s.tick dt) f hf

/-! ## Field writes and the number of vertices -/

/-- Of a value only as many bits as the field has are written. -/
theorem State.set_mod (s : State) (f : Fld) (v : Nat) : s.set f (v % 2 ^ f.w) = s.set f v := by simp [State.set, insertBits]

theorem State.vertices_le (s : State) : s.vertices ≤ 4096 := by
  have := s.facets_le
  unfold State.vertices
  omega

/-! ## Arrays of registers -/

theorem indexIn_elem {base stride n i : Nat} (hs : 0 < stride) (hi : i < n) : indexIn base stride n (base + i * stride) = some i := by
  simp [indexIn, Nat.mul_div_cancel i hs, hi]

theorem indexIn_beyond {base stride n a : Nat} (hs : 0 < stride) (h : base + n * stride ≤ a) : indexIn base stride n a = none := by
  have past : n ≤ (a - base) / stride := (Nat.le_div_iff_mul_le hs).2 (by omega)
  exact if_neg fun ⟨_, _, inside⟩ => by omega

/-- A write of one bit acts on that bit's index alone. -/
theorem eachBit_two_pow {b : Nat} (hb : b < 32) (i : Nat) (g : Nat → State → State) (s : State) :
    eachBit i (2 ^ b) g s = g (32 * i + b) s := by
  have one : ∀ b < 32, setBits 32 (2 ^ b) = [b] := by decide
  rw [eachBit, one b hb]
  rfl

/-! ## ARC_INKED (R52) -/

theorem blockOf_arc {a : Nat} (lo : 0x300000 ≤ a) (hi : a < 0x400000) : blockOf a = some .arc := by
  rw [blockOf, if_neg (by omega), if_neg (by omega), if_neg (by omega), if_neg (by omega), if_pos hi]

theorem writeReg_arc {a : Nat} (lo : 0x300000 ≤ a) (hi : a < 0x400000) (p : Path) (g : Bool) (data : Nat) (s : State) :
    writeReg p g a data s = writeArc p g a data s := by
  rw [writeReg, blockOf_arc lo hi]

theorem writeReg_inked {i : Nat} (hi : i < 128) (p : Path) (g : Bool) (data : Nat) (s : State) :
    writeReg p g (ARC_INKED i) data s = eachBit i data inkVertex s := by
  obtain ⟨low, high⟩ : 0x3F0100 ≤ ARC_INKED i ∧ ARC_INKED i < 0x3F0300 := by unfold ARC_INKED; omega
  have outside : inSiteTables (ARC_INKED i) = false := by
    simp only [inSiteTables, Bool.or_eq_false_iff, Bool.and_eq_false_iff, decide_eq_false_iff_not]
    omega
  have held : indexIn (ARC_VHOLD 0) 4 128 (ARC_INKED i) = none := indexIn_beyond (by decide) (by unfold ARC_VHOLD; omega)
  have bits : indexIn (ARC_INKED 0) 4 128 (ARC_INKED i) = some i := indexIn_elem (base := ARC_INKED 0) (by decide) hi
  rw [writeReg_arc (by omega) (by omega), writeArc, if_neg (by unfold ARC_CANCEL; omega), if_neg (by unfold ARC_REPLAY_GO; omega),
    if_neg (by unfold ARC_SITE_CTRL; omega), if_neg (by unfold ARC_WALLCLOCK; omega), outside, held, bits]
  rfl

theorem gives_vertexInk {s : State} {p : Path} {v : Nat} (h : s.takes p (ARC_INKED (v / 32)) = true) (hv : v < 4096) (dt : Nat) :
    Gives (.vertexInk dt p v) s (inkVertex v (s.request dt p)) := by
  have bit : v % 32 < 32 := Nat.mod_lt v (by decide)
  refine gives_of_act rfl ?_
  rw [write32_takes s dt p _ _ h, Nat.mod_eq_of_lt (Nat.pow_lt_pow_right (by decide) bit), writeReg_inked (by omega),
    eachBit_two_pow bit, Nat.div_add_mod]

/-! ## Inking (R206) -/

@[simp] theorem onBus_request (s : State) (dt : Nat) (p : Path) (v : Nat) : (s.request dt p).onBus v = s.onBus v := by
  rw [request_eq]; rfl

@[simp] theorem chordOf_request (s : State) (dt : Nat) (p : Path) (v : Nat) : (s.request dt p).chordOf v = s.chordOf v := by
  rw [request_eq]; rfl

@[simp] theorem busFree_request (s : State) (dt : Nat) (p : Path) (k : Nat) : (s.request dt p).busFree k = s.busFree k := by
  rw [request_eq]; rfl

@[simp] theorem op_request (s : State) (dt : Nat) (p : Path) (v : Nat) : (s.request dt p).op v = s.op v := by
  rw [request_eq]; rfl

@[simp] theorem vertices_request (s : State) (dt : Nat) (p : Path) : (s.request dt p).vertices = s.vertices := by
  simp [State.vertices]

@[simp] theorem inked_request (s : State) (dt : Nat) (p : Path) (v : Nat) : (s.request dt p).inked v = s.inked v := by
  have apart : ARC_INKED (v / 32) ≠ GLB_GUARD_STAT := by unfold ARC_INKED GLB_GUARD_STAT; omega
  rw [State.inked, State.bitOf, get_request s dt p apart, State.inked, State.bitOf]

@[simp] theorem vstate_request (s : State) (dt : Nat) (p : Path) (v : Nat) : (s.request dt p).vstate v = s.vstate v := by
  have apart : ARC_VSTAT v ≠ GLB_GUARD_STAT := by unfold ARC_VSTAT GLB_GUARD_STAT; omega
  exact get_request s dt p apart

/-- The ink bits stand apart from the states of the vertices. -/
theorem vstate_setInk (v i : Nat) (b : Bool) (s : State) :
    (s.setBit (ARC_INKED_INK (v / 32)) i b).vstate v = s.vstate v := by
  have apart : ARC_VSTAT v ≠ ARC_INKED (v / 32) := by unfold ARC_VSTAT ARC_INKED; omega
  exact State.get_set_ne s _ _ _ apart

theorem inkVertex_of_inked {s : State} {v : Nat} (h : s.inked v = true) : inkVertex v s = s := by simp [inkVertex, h]

theorem inkVertex_of_absent {s : State} {v : Nat} (h : s.onBus v = false) : inkVertex v s = s := by simp [inkVertex, h]

/-- A vertex with no operation in hand, and not HELD, loses its supply gate at once when its chord runs no phase. -/
theorem inkVertex_idle {s : State} {v : Nat} (hv : v < s.vertices) (present : s.onBus v = true) (clean : s.inked v = false)
    (free : s.busFree (s.chordOf v) = true) (noOp : s.op v = none) (notHeld : s.vstate v ≠ vsHeld) :
    inkVertex v s = setGate v false (s.setBit (ARC_INKED_INK (v / 32)) (v % 32) true) := by
  have state : (s.setBit (ARC_INKED_INK (v / 32)) (v % 32) true).vstate v ≠ vsHeld := by rwa [vstate_setInk]
  have bus : (s.setBit (ARC_INKED_INK (v / 32)) (v % 32) true).busFree (s.chordOf v) = true := free
  have op : (setGate v false (s.setBit (ARC_INKED_INK (v / 32)) (v % 32) true)).op v = none := noOp
  unfold inkVertex
  rw [if_neg (by simp [present, clean, hv])]
  dsimp only
  rw [if_pos bus, op]
  exact if_neg state

/-! ## ARC_WALLCLOCK (R55) -/

/-- The row of ARC_WALLCLOCK (R55). -/
def wallclockRow : RegRow := ⟨"WALLCLOCK", 0xf0020, true, [], [⟨"SECONDS", 0, 64, .rw, 0⟩]⟩

theorem rowAt_wallclock : rowAt ARC_WALLCLOCK = some (wallclockRow, false) := by decide

/-- Both words of a pair, written whole, are the write of the pair where nothing turns it away (R37). -/
theorem write64_served {s : State} {p : Path} {a : Nat} {r : RegRow} (h : s.Serves p a r false) (hq : r.quad = true) (dt d : Nat) :
    write64 p a d (s.tick dt) = writeReg p (s.guardOpen p) a (d % 2 ^ 64) (s.request dt p) := by
  have alive : (s.tick dt).pathDead p = false := h.alive
  have pair : lowOfPair a = true := by simp [lowOfPair, h.row, hq]
  have whole : d % 2 ^ 32 % 2 ^ 32 + 2 ^ 32 * (d / 2 ^ 32 % 2 ^ 32 % 2 ^ 32) = d % 2 ^ 64 := by omega
  rw [write64, busWrite, alive]
  show writeItems p (s.guardOpen p) a _ (s.request dt p) = _
  simp only [writeItems, pair, whole, admitWrite, hostShut_request, windowGated_request, implemented_request, h.opens, h.powered,
    h.present]
  rfl

theorem serves_wallclock {s : State} {p : Path} (alive : s.pathDead p = false) (opens : s.hostShut p ARC_WALLCLOCK = false) :
    s.Serves p ARC_WALLCLOCK wallclockRow false where
  alive := alive
  opens := opens
  powered := by
    have below : ¬ 0x1000000 ≤ ARC_WALLCLOCK := by decide
    simp [State.windowGated, below]
  present := by
    have block : blockOf ARC_WALLCLOCK = some .arc := blockOf_arc (by decide) (by decide)
    simp [State.implemented, block, rowAt_wallclock]
  row := rowAt_wallclock

theorem writeReg_wallclock (p : Path) (g : Bool) (data : Nat) (s : State) :
    writeReg p g ARC_WALLCLOCK data s = (s.set ARC_WALLCLOCK_SECONDS data).set ARC_WALLCLOCK_AT_AT s.now := by
  have seconds : plainWrite p false ARC_WALLCLOCK data s = s.set ARC_WALLCLOCK_SECONDS data :=
    (plainWrite_fields rowAt_wallclock rfl rfl p false data s).trans (State.set_mod s ARC_WALLCLOCK_SECONDS data)
  rw [writeReg_arc (by decide) (by decide), writeArc, if_neg (by decide), if_neg (by decide), if_neg (by decide), if_pos rfl,
    writeWallclock, seconds]

end Sys2Proof.Machine
end

section
/-!
PROOFS. The statement about inking and the wall clock (R52, R55, R206).
-/

namespace Sys2Proof.Machine
open Sys2Proof.Reg

/-- Settles O19: the ink bit's write is `inkVertex` (`inkVertex_idle`, `inkVertex_of_inked`, `inkVertex_of_absent`), and the wall clock's
pair takes its write whole, with the stamp (`writeReg_wallclock`). -/
theorem inkAndWallclock : Obligations.InkAndWallclock := by
  unfold Obligations.InkAndWallclock
  refine ⟨?inks, ?leaves, ?clock⟩
  case inks =>
    intro s dt v p takes small present clean free noOp notHeld
    have ink := gives_vertexInk takes (Nat.lt_of_lt_of_le small s.vertices_le) dt
    rwa [inkVertex_idle (by simpa) (by simpa) (by simpa) (by simpa) (by simpa) (by simpa)] at ink
  case leaves =>
    intro s dt v p takes small unmoved
    have ink := gives_vertexInk takes small dt
    obtain inked | absent := unmoved
    · rwa [inkVertex_of_inked (by simpa)] at ink
    · rwa [inkVertex_of_absent (by simpa)] at ink
  case clock =>
    intro s dt seconds p alive opens
    have write := write64_served (serves_wallclock alive opens) rfl dt seconds
    rw [writeReg_wallclock] at write
    have keeps : Keeps [ARC_WALLCLOCK, ARC_WALLCLOCK_AT, GLB_GUARD_STAT] s _ :=
      ((keeps_request s dt p).mono (by simp)).trans
        ((keeps_set _ (seconds % 2 ^ 64) (f := ARC_WALLCLOCK_SECONDS) (by simp)).trans
          (keeps_set _ (s.request dt p).now (f := ARC_WALLCLOCK_AT_AT) (by simp)))
    refine ⟨_, gives_of_act rfl write, ?seconds, ?stamp, keeps⟩
    case seconds =>
      rw [State.get_set_ne _ _ _ _ (by decide), State.get_set_self _ _ _ (by decide)]
      exact Nat.mod_mod ..
    case stamp =>
      rw [State.get_set_self _ _ _ (by decide), request_eq]

end Sys2Proof.Machine
end

section
/-!
SUPPORT. Signals to interrupt targets, and the entry to RESET: what they leave of the state beside registers (R70, R83, R309).
-/

namespace Sys2Proof.Machine
open Sys2Proof.Reg

/-- What each of a list of actions leaves as it is, all of them together leave. -/
theorem foldl_same {α β : Type} {g : State → α → State} (view : State → β) (h : ∀ s x, view (g s x) = view s) (xs : List α)
    (s : State) : view (xs.foldl g s) = view s := by
  induction xs generalizing s with
  | nil => rfl
  | cons x xs ih => exact (ih (g s x)).trans (h s x)

/-! ## Signals (R309) -/

/-- `t` is `s` but for registers, the interrupt controller and what has been sent since: all that signals to targets alter. -/
def Signals (s t : State) : Prop := ∃ regs icl more, t = { s with regs := regs, icl := icl, sent := s.sent ++ more }

namespace Signals

variable {s t u : State}

theorem ofRegs (s : State) (regs : Store Word64) : Signals s { s with regs := regs } :=
  ⟨regs, s.icl, [], by rw [List.append_nil]⟩

theorem refl (s : State) : Signals s s := ofRegs s s.regs

theorem trans (h : Signals s t) (k : Signals t u) : Signals s u := by
  obtain ⟨_, _, more, rfl⟩ := h
  obtain ⟨regs, icl, later, rfl⟩ := k
  exact ⟨regs, icl, more ++ later, by rw [← List.append_assoc]⟩

theorem sent (h : Signals s t) : s.sent ⊆ t.sent := by
  obtain ⟨_, _, more, rfl⟩ := h
  exact List.subset_append_left _ more

theorem spn (h : Signals s t) : t.spn = s.spn := by obtain ⟨_, _, _, rfl⟩ := h; rfl
theorem arc (h : Signals s t) : t.arc = s.arc := by obtain ⟨_, _, _, rfl⟩ := h; rfl
theorem otp (h : Signals s t) : t.otp = s.otp := by obtain ⟨_, _, _, rfl⟩ := h; rfl
theorem pins (h : Signals s t) : t.pins = s.pins := by obtain ⟨_, _, _, rfl⟩ := h; rfl

end Signals

theorem signals_set (s : State) (f : Fld) (v : Nat) : Signals s (s.set f v) := Signals.ofRegs s _

theorem signals_signalTarget (n : Nat) (s : State) : Signals s (signalTarget n s) := by
  unfold signalTarget
  split
  · exact Signals.refl s
  split
  · exact signals_set s _ _
  unfold sendMessage
  split
  · exact ⟨s.regs, s.icl, [.msix n], rfl⟩
  · exact ⟨s.regs, _, [], by rw [List.append_nil]⟩

theorem signals_signalSet (m : Nat) (s : State) : Signals s (signalSet m s) := by
  unfold signalSet
  induction setBits 16 m generalizing s with
  | nil => exact Signals.refl s
  | cons n ns ih => exact (signals_signalTarget n s).trans (ih _)

/-- A change to a group's sources signals, and alters beside that what the change itself alters. -/
theorem signals_withGroup (g : Nat) (f : State → State) (s : State) : Signals (f s) (withGroup g f s) := signals_signalSet _ _

theorem signals_pend (n : Nat) (s : State) : Signals s (pend n s) := by
  unfold pend
  split
  · exact (signals_set s _ _).trans (signals_withGroup _ _ s)
  · exact Signals.refl s

/-! ## OTP and pins under the actions that end what runs (R70, R402) -/

/-- The OTP and the pins, which no reset alters. -/
def State.board (s : State) : Otp × Pins := (s.otp, s.pins)

theorem Signals.board {s t : State} (h : Signals s t) : t.board = s.board := by
  rw [State.board, h.otp, h.pins, State.board]

theorem board_endEngine (e result : Nat) (s : State) : (endEngine e result s).board = s.board := by
  unfold endEngine
  dsimp only
  split
  · exact (signals_pend _ _).board
  · rfl

theorem board_suspendDevice (k how : Nat) (s : State) : (suspendDevice k how s).board = s.board := by
  unfold suspendDevice
  split
  · rfl
  · exact (signals_pend 469 _).board

theorem board_suspendPort (s : State) : (suspendPort s).board = s.board := by
  refine foldl_same State.board (fun s k => ?_) _ s
  split
  · rfl
  · exact (foldl_same State.board (fun s e => board_endEngine e _ s) _ _).trans (board_suspendDevice k 2 s)

theorem board_resetPort (s : State) : (resetPort s).board = s.board := by
  have ended := board_suspendPort s
  unfold resetPort
  generalize suspendPort s = u at ended ⊢
  rw [← ended]
  dsimp only
  split
  · split <;> rfl
  · rfl

theorem board_cutNvm (s : State) : (cutNvm s).board = s.board := by
  unfold cutNvm
  split
  · rfl
  split
  · refine (signals_pend 469 _).board.trans ?_
    split <;> rfl
  · dsimp only
    split
    · split <;> rfl
    · rfl
  · rfl

theorem board_resetMaint (s : State) : (resetMaint s).board = s.board := by
  have nvm (t : State) : (setNvmq [] t).board = t.board := (signals_withGroup _ _ t).board
  have cal (t : State) : (setCalq [] t).board = t.board := (signals_withGroup _ _ t).board
  rw [resetMaint, nvm, cal]
  exact board_cutNvm s

theorem board_cutBurn (s : State) : (cutBurn s).board = s.board := by
  unfold cutBurn
  split <;> rfl

/-! ## The entry to RESET (R70, R83) -/

/-- Of a store that a reset has filtered, a key that is not kept reads its default. -/
theorem Store.find_filter_dropped {α : Type} (d : Nat → α) (m : Store α) {keep : Nat → Bool} {a : Nat} (h : keep a = false) :
    Store.find d (m.filter fun e => keep e.1) a = d a := by
  induction m with
  | nil => rfl
  | cons e m ih =>
    by_cases he : keep e.1 = true
    · have ne : e.1 ≠ a := by rintro rfl; simp [h] at he
      simp [he, Store.find, ne, ih]
    · simp [he, ih]

/-- The registers that a reset rewrites: they hold the mode, a bit of OTP or of the thermal latch. -/
def rewrittenRegs : List Nat := [GLB_MODE, APX_KEY_STAT, APX_FW_SVN, THM_LEVEL, THM_SHUT_AT]

theorem keeps_restoreBits (k : ResetKind) (s r : State) : Keeps rewrittenRegs r (restoreBits k s r) := by
  have otp := (keeps_set (as := rewrittenRegs) r (f := APX_KEY_STAT_PROGRAMMED) (s.get APX_KEY_STAT_PROGRAMMED) (by decide)).trans
    (keeps_set _ (f := APX_FW_SVN_ROLLBACK) (s.get APX_FW_SVN_ROLLBACK) (by decide))
  unfold restoreBits
  dsimp only
  split
  · exact otp
  · exact otp.trans ((keeps_set _ (f := THM_LEVEL_SHUTDOWN) _ (by decide)).trans
      (keeps_set _ (f := THM_SHUT_AT_SHUT_AT) _ (by decide)))

/-- What every entry to RESET but a REBOOT's leaves of registers, shadows, armed updates, test memories and the map. -/
structure InReset (k : ResetKind) (t : State) : Prop where
  mode : t.mode = modeReset
  prev : t.get GLB_MODE_PREV_MODE = 0
  regs : ∀ a, keptBy k a = false → a ∉ rewrittenRegs → t.reg a = rstWord a
  shadow : t.shadow = []
  armed : t.armed = none
  pool : t.pool = []
  ucode : t.ucode = []
  stream : t.stream = []
  cmap : t.cmap = []
  map : t.map = []

/-- The pins and the JTAG port stand apart from all of it. -/
theorem InReset.withPins {k : ResetKind} {t : State} (h : InReset k t) (p : Pins) (j : Jtag) :
    InReset k { t with pins := p, jtag := j } :=
  ⟨h.mode, h.prev, h.regs, h.shadow, h.armed, h.pool, h.ucode, h.stream, h.cmap, h.map⟩

/-- The state in which the entry to RESET begins: what runs has been ended, but for a brownout. -/
def endedForReset (k : ResetKind) (s : State) : State := if k = .brownout then s else cutBurn (resetMaint (resetPort s))

theorem board_endedForReset (k : ResetKind) (s : State) : (endedForReset k s).board = s.board := by
  unfold endedForReset
  split
  · rfl
  · rw [board_cutBurn, board_resetMaint, board_resetPort]

/-- The part in RESET before its bits of OTP and of the thermal latch are restored. -/
def resetCore (k : ResetKind) (s : State) : State :=
  let r := match k with
    | .brownout => brownoutBase s (resetBase s)
    | .power => { resetBase s with smb := SmbState.init }
    | _ => resetBase s
  { r with regs := s.regs.filter fun e => keptBy k e.1 }

theorem enterReset_eq {k : ResetKind} (hk : k ≠ .reboot) (s : State) :
    enterReset k s = ((restoreBits k (endedForReset k s) (resetCore k (endedForReset k s))).set GLB_MODE_MODE modeReset).set
      GLB_MODE_PREV_MODE 0 := by
  cases k
  case reboot => exact absurd rfl hk
  all_goals rfl

theorem inReset_enterReset {k : ResetKind} (hk : k ≠ .reboot) (s : State) : InReset k (enterReset k s) := by
  have mode : (enterReset k s).mode = modeReset := by
    rw [enterReset_eq hk, State.mode, State.get_set_apart _ _ _ _ (by decide) (by decide), State.get_set_self _ _ _ (by decide)]
    rfl
  have prev : (enterReset k s).get GLB_MODE_PREV_MODE = 0 := by
    rw [enterReset_eq hk, State.get_set_self _ _ _ (by decide)]
    rfl
  have regs (a : Nat) (dropped : keptBy k a = false) (outside : a ∉ rewrittenRegs) : (enterReset k s).reg a = rstWord a := by
    have apart : a ≠ GLB_MODE := fun h => outside (h ▸ List.mem_cons_self)
    rw [enterReset_eq hk, State.reg_set_ne _ _ _ apart, State.reg_set_ne _ _ _ apart, (keeps_restoreBits k _ _).reg outside]
    exact Store.find_filter_dropped rstWord _ dropped
  cases k
  case reboot => exact absurd rfl hk
  all_goals exact ⟨mode, prev, regs, rfl, rfl, rfl, rfl, rfl, rfl, rfl⟩

/-- OTP stays, and the pins are as they were when the reset began. -/
theorem board_enterReset {k : ResetKind} (hk : k ≠ .reboot) (s : State) : (enterReset k s).board = s.board := by
  have board := board_endedForReset k s
  cases k
  case reboot => exact absurd rfl hk
  all_goals exact board

end Sys2Proof.Machine
end

section
/-!
PROOFS. The statement about power-on, the loss of VDD_AON, PERST# and a brownout (R70, R83, R434, R435).
-/

namespace Sys2Proof.Machine
open Sys2Proof.Reg

/-- Settles O7: each of the four commands enters RESET (`inReset_enterReset`), keeps OTP (`board_enterReset`) and leaves on the pins what
shows its cause. -/
theorem resetsEnterReset : Obligations.ResetsEnterReset := by
  unfold Obligations.ResetsEnterReset
  intro s dt c k hc
  suffices h : ∃ t : State, Gives c s t ∧ InReset k t ∧ t.otp = s.otp ∧
      (c = .powerOn dt → t.pins.aon = true ∧ t.pins.supplies = false) ∧ (c = .vddAonLoss dt → t.pins.aon = false) ∧
      (c = .perstAssert dt → t.pins = { s.pins with perst := true }) ∧
      (c = .railBrownout dt → t.pins = { s.pins with supplies := false } ∧ t.flash = s.flash) by
    obtain ⟨t, gives, r, otp, pins⟩ := h
    exact ⟨t, gives, r.mode, r.prev, r.regs, r.shadow, r.armed, r.pool, r.ucode, r.stream, r.cmap, r.map, otp, pins⟩
  simp only [List.mem_cons, Prod.mk.injEq, List.not_mem_nil, or_false] at hc
  obtain ⟨rfl, rfl⟩ | ⟨rfl, rfl⟩ | ⟨rfl, rfl⟩ | ⟨rfl, rfl⟩ := hc
  case inl =>
    have reset := inReset_enterReset (k := .power) nofun (s.tick dt)
    have board := board_enterReset (k := .power) nofun (s.tick dt)
    exact ⟨_, gives_of_act rfl rfl, reset.withPins _ _, congrArg Prod.fst board,
      fun _ => ⟨rfl, rfl⟩, nofun, nofun, nofun⟩
  case inr.inl =>
    have reset := inReset_enterReset (k := .power) nofun (s.tick dt)
    have board := board_enterReset (k := .power) nofun (s.tick dt)
    exact ⟨_, gives_of_act rfl rfl, reset.withPins _ _, congrArg Prod.fst board,
      nofun, fun _ => rfl, nofun, nofun⟩
  case inr.inr.inl =>
    have reset := inReset_enterReset (k := .perst) nofun
      { s.tick dt with pins := { s.pins with perst := true }, jtag := { s.jtag with control := takesBalls s.jtag.ir } }
    have board := board_enterReset (k := .perst) nofun
      { s.tick dt with pins := { s.pins with perst := true }, jtag := { s.jtag with control := takesBalls s.jtag.ir } }
    exact ⟨_, gives_of_act rfl rfl, reset, congrArg Prod.fst board,
      nofun, nofun, fun _ => congrArg Prod.snd board, nofun⟩
  case inr.inr.inr =>
    have reset := inReset_enterReset (k := .brownout) nofun { s.tick dt with pins := { s.pins with supplies := false } }
    have board := board_enterReset (k := .brownout) nofun { s.tick dt with pins := { s.pins with supplies := false } }
    exact ⟨_, gives_of_act rfl rfl, reset, congrArg Prod.fst board,
      nofun, nofun, nofun, fun _ => ⟨congrArg Prod.snd board, rfl⟩⟩

end Sys2Proof.Machine
end

section
/-!
SUPPORT. The serial port (R383 to R389): whom it serves next, what each kind of transfer sends, and what its actions leave alone.
-/

namespace Sys2Proof.Machine
open Sys2Proof.Reg

/-! ## The requesters (R383, R389) -/

theorem asks_engine {s : State} (h : s.spn.engines = []) {w : Nat} (hw : w < 2) : s.asks w = none := by
  obtain rfl | rfl : w = 0 ∨ w = 1 := by omega
  all_goals simp [State.asks, h]

theorem asks_read_of_flush {s : State} (h : s.spn.flush.isSome = true) {w : Nat} (hw : w = 2 ∨ w = 3) : s.asks w = none := by
  obtain rfl | rfl := hw
  all_goals simp [State.asks, h]

theorem asks_read {s : State} (h : s.spn.flush = none) {w : Nat} (hw : w = 2 ∨ w = 3) :
    s.asks w = (s.readOf (w = 3)).map WindowRead.sel := by
  obtain rfl | rfl := hw
  all_goals simp [State.asks, h]

theorem asks_flush_none {s : State} (h : s.spn.flush = none) : s.asks 4 = none := by simp [State.asks, h]

theorem asks_flush {s : State} {g : Gather256} (h : s.spn.flush = some (g, 0)) : s.asks 4 = some g.sel := by
  simp [State.asks, h]

theorem servable_of_asks_none {s : State} {w : Nat} (h : s.asks w = none) : s.servable w = false := by
  rw [State.servable, h]

/-- A device that is ready serves whoever asks for it. -/
theorem servable_of_ready {s : State} {w k : Nat} (h : s.asks w = some k) (ready : (s.device k).kind = 0) :
    s.servable w = true := by
  simp [State.servable, h, ready]

theorem readOf_nil {s : State} (h : s.spn.reads = []) (host : Bool) : s.readOf host = none := by
  simp [State.readOf, h]

theorem readOf_single {s : State} {r : WindowRead} (h : s.spn.reads = [r]) (host : Bool) :
    s.readOf host = if r.host = host then some r else none := by
  simp [State.readOf, h, List.find?_cons]
  split <;> simp_all

/-- The requester that a window read is: 3 for the host's, 2 for Apex firmware's. -/
def WindowRead.who (r : WindowRead) : Nat := if r.host then 3 else 2

theorem WindowRead.who_cases (r : WindowRead) : r.who = 2 ∨ r.who = 3 := by
  unfold WindowRead.who
  split
  · exact .inr rfl
  · exact .inl rfl

theorem WindowRead.who_eq_three (r : WindowRead) : decide (r.who = 3) = r.host := by
  unfold WindowRead.who
  cases r.host <;> rfl

theorem readOf_who {s : State} {r : WindowRead} (h : s.spn.reads = [r]) : s.readOf (r.who = 3) = some r := by
  rw [readOf_single h, r.who_eq_three, if_pos rfl]

/-- With one window read standing, the other path has none. -/
theorem readOf_other {s : State} {r : WindowRead} (h : s.spn.reads = [r]) {w : Nat} (hw : w = 2 ∨ w = 3) (ne : w ≠ r.who) :
    s.readOf (w = 3) = none := by
  rw [readOf_single h, if_neg]
  have := r.who_eq_three
  obtain rfl | rfl := hw <;> obtain h2 | h3 := r.who_cases <;> simp_all

/-! ## Who is served next -/

/-- In the rotation a sole requester comes up. -/
theorem nextServed_sole {s : State} {w : Nat} (hw : w < 4) (asks : s.servable w = true) (others : ∀ v < 5, v ≠ w → s.servable v = false) :
    s.nextServed = some w := by
  rw [State.nextServed, if_neg (by simp [others 4 (by decide) (by omega)])]
  cases found : ((List.range 4).map fun i => (s.spn.turn + 1 + i) % 4).find? fun v => s.servable v with
  | none =>
    have none := List.find?_eq_none.1 found w (by
      rw [List.mem_map]
      exact ⟨(w + 3 * (s.spn.turn + 1)) % 4, List.mem_range.2 (by omega), by omega⟩)
    exact absurd asks none
  | some v =>
    have servable : s.servable v = true := by simpa using List.find?_some found
    have small : v < 4 := by
      obtain ⟨i, -, rfl⟩ := List.mem_map.1 (List.mem_of_find?_eq_some found)
      omega
    by_contra ne
    rw [others v (by omega) (by simpa using ne)] at servable
    exact nomatch servable

theorem nextServed_nobody {s : State} (h : ∀ w < 5, s.asks w = none) : s.nextServed = none := by
  have idle (w : Nat) (hw : w < 5) : s.servable w = false := servable_of_asks_none (h w hw)
  rw [State.nextServed, if_neg (by simp [idle])]
  refine List.find?_eq_none.2 fun v hv => ?_
  obtain ⟨i, -, rfl⟩ := List.mem_map.1 hv
  simp [idle ((s.spn.turn + 1 + i) % 4) (by omega)]

theorem servePort_busy {s : State} (h : s.spn.cur.isSome = true) : servePort s = s := if_pos h

/-- With nothing asked of it the port stays as it is. -/
theorem servePort_nobody {s : State} (engines : s.spn.engines = []) (flush : s.spn.flush = none) (reads : s.spn.reads = []) :
    servePort s = s := by
  have nobody : s.nextServed = none := by
    refine nextServed_nobody fun w hw => ?_
    obtain h | h | rfl : w < 2 ∨ (w = 2 ∨ w = 3) ∨ w = 4 := by omega
    · exact asks_engine engines h
    · rw [asks_read flush h, readOf_nil reads]; rfl
    · exact asks_flush_none flush
  unfold servePort
  rw [nobody]
  split <;> rfl

/-- A sole window read is served on a port that is free, from a device that is ready (R385). -/
theorem servePort_read {s : State} {r : WindowRead} (free : s.spn.cur = none) (engines : s.spn.engines = [])
    (flush : s.spn.flush = none) (reads : s.spn.reads = [r]) (ready : (s.device r.sel).kind = 0) :
    servePort s = beginTransfer r.who r.sel s := by
  have asks : s.asks r.who = some r.sel := by rw [asks_read flush r.who_cases, readOf_who reads]; rfl
  have next : s.nextServed = some r.who := by
    refine nextServed_sole (by have := r.who_cases; omega) (servable_of_ready asks ready) fun v hv ne => ?_
    apply servable_of_asks_none
    obtain h | h | rfl : v < 2 ∨ (v = 2 ∨ v = 3) ∨ v = 4 := by omega
    · exact asks_engine engines h
    · rw [asks_read flush h, readOf_other reads h ne]; rfl
    · exact asks_flush_none flush
  have ahead : suspendDevice r.sel 1 s = s := if_pos (.inl (by omega))
  simp only [servePort, free, next, asks, ahead, Option.isSome_none, Bool.false_eq_true, if_false, ite_self]

/-- A flush that waits is served first (R386). -/
theorem servePort_flush {s : State} {g : Gather256} (free : s.spn.cur = none) (flush : s.spn.flush = some (g, 0))
    (ready : (s.device g.sel).kind = 0) : servePort s = beginTransfer 4 g.sel s := by
  have asks := asks_flush flush
  have next : s.nextServed = some 4 := if_pos (servable_of_ready asks ready)
  simp [servePort, free, next, asks]

/-! ## Transfers -/

theorem transferOut_read {s : State} {r : WindowRead} (reads : s.spn.reads = [r]) :
    s.transferOut r.who = [BitVec.ofNat 8 (s.get (SPN_SEL2_RD_CMD r.sel))] ++ s.windowAddr r.sel r.next := by
  obtain h | h := r.who_cases
  · have read : s.readOf false = some r := by simpa [h] using readOf_who reads
    simp [h, State.transferOut, read]
  · have read : s.readOf true = some r := by simpa [h] using readOf_who reads
    simp [h, State.transferOut, read]

/-- A window read's transfer alters the port's own state and sends its command (R385). -/
theorem beginTransfer_read (r : WindowRead) (k : Nat) (s : State) :
    beginTransfer r.who k s = modSpn (fun p => { p with cur := some ⟨r.who, k, false⟩, turn := r.who })
      (s.send (.serial k (s.transferOut r.who))) := by
  obtain h | h := r.who_cases
  all_goals
    rw [h]
    rfl

/-- So does a flush's write enable (R386). -/
theorem beginTransfer_writeEnable (k : Nat) (s : State) :
    beginTransfer 4 k s = modSpn (fun p => { p with cur := some ⟨4, k, false⟩, flush := p.flush.map fun x => (x.1, 1) })
      (s.send (.serial k (s.transferOut 4))) := rfl

/-- A page program keeps its device busy from its start (R387). -/
theorem beginTransfer_program (k : Nat) (s : State) :
    beginTransfer 5 k s = modDevice k (fun _ => { Device.init with kind := 1, since := s.elapsed, flush := true })
      (modSpn (fun p => { p with cur := some ⟨5, k, false⟩, flush := p.flush.map fun x => (x.1, 2) })
        (s.send (.serial k (s.transferOut 5)))) := rfl

theorem transferOut_writeEnable {s : State} {g : Gather256} {n : Nat} (h : s.spn.flush = some (g, n)) :
    s.transferOut 4 = [BitVec.ofNat 8 (s.get (SPN_SEL3_WREN_CMD g.sel))] := by simp [State.transferOut, h]

theorem transferOut_program {s : State} {g : Gather256} {n : Nat} (h : s.spn.flush = some (g, n)) :
    s.transferOut 5 = [BitVec.ofNat 8 (s.get (SPN_SEL3_PP_CMD g.sel))] ++ s.windowAddr g.sel g.page ++ g.data := by
  simp [State.transferOut, h]

theorem startFlush_none {s : State} (h : s.spn.gather = none) : startFlush s = s := by rw [startFlush, h]

/-! ## What the port's actions leave alone -/

/-- The registers in which a suspended erase shows (R388). -/
def suspendRegs : List Nat := [SPN_STAT, ICL_PEND 29, DMA_MSIX_PBA 0]

theorem keeps_modSpn (as : List Nat) (g : SpnState → SpnState) (s : State) : Keeps as s (modSpn g s) :=
  ⟨fun _ _ => rfl, rfl, rfl, rfl, rfl, rfl⟩

theorem keeps_suspendDevice (k how : Nat) (s : State) : Keeps suspendRegs s (suspendDevice k how s) := by
  unfold suspendDevice
  split
  · exact Keeps.refl _ s
  · exact (keeps_set (modDevice k _ (s.send _)) (f := SPN_STAT_ERASE_SUSP) 1 List.mem_cons_self).trans
      ((keeps_pend 469 _).mono (by decide))

theorem keeps_beginTransfer (as : List Nat) (who k : Nat) (s : State) : Keeps as s (beginTransfer who k s) := by
  have begun : Keeps as s (modSpn (fun p => { p with cur := some ⟨who, k, false⟩, turn := if who < 4 then who else p.turn })
      (s.send (.serial k (s.transferOut who)))) := ⟨fun _ _ => rfl, rfl, rfl, rfl, rfl, rfl⟩
  have device (g : Device → Device) (u : State) : Keeps as u (modDevice k g u) := keeps_modSpn _ _ u
  unfold beginTransfer
  dsimp only
  generalize modSpn _ (s.send _) = t at begun ⊢
  split
  · exact begun.trans ((keeps_modSpn _ _ t).trans (device _ _))
  split
  · exact begun.trans (keeps_modSpn _ _ t)
  split
  · exact begun.trans (keeps_modSpn _ _ t)
  split
  · exact begun.trans ((keeps_modSpn _ _ t).trans (device _ _))
  · exact begun

theorem keeps_servePort (s : State) : Keeps suspendRegs s (servePort s) := by
  unfold servePort
  split
  · exact Keeps.refl _ s
  split
  · exact Keeps.refl _ s
  split
  · exact Keeps.refl _ s
  split
  · exact (keeps_suspendDevice _ 1 s).trans (keeps_beginTransfer _ _ _ _)
  · exact keeps_beginTransfer _ _ _ s

theorem keeps_startFlush (s : State) : Keeps suspendRegs s (startFlush s) := by
  unfold startFlush
  split
  · exact Keeps.refl _ s
  · exact (keeps_modSpn _ _ s).trans (keeps_servePort _)

theorem keeps_windowWrite (k a : Nat) (bs : List Byte) (s : State) : Keeps suspendRegs s (windowWrite k a bs s) := by
  have put (g : Gather256) : Keeps suspendRegs s (modSpn (fun p => { p with gather := some g }) s) := keeps_modSpn _ _ s
  unfold windowWrite
  dsimp only
  split
  · exact keeps_modSpn _ _ s
  split
  · split
    · exact (put _).trans (keeps_startFlush _)
    · exact put _
  split
  · split
    · exact (put _).trans (keeps_startFlush _)
    · exact put _
  · exact (keeps_startFlush s).trans (keeps_modSpn _ _ _)

theorem keeps_flushDone (s : State) : Keeps suspendRegs s (flushDone s) :=
  (keeps_modSpn _ _ s).trans ((keeps_foldl (fun s (w : Nat × Nat × List Byte) => keeps_windowWrite w.1 w.2.1 w.2.2 s) _ _).trans (keeps_servePort _))

theorem keeps_holdLine (as : List Nat) (n : Nat) (b : Bool) (s : State) : Keeps as s (holdLine n b s) :=
  ⟨fun _ _ => rfl, rfl, rfl, rfl, rfl, rfl⟩

/-- A pulse of a fault line alters its ACTIVE bit alone of the registers (R318). -/
theorem keeps_pulseLine (n : Nat) (s : State) : Keeps [FCL_ACTIVE (n / 32)] s (pulseLine n s) := by
  have assert : Keeps [FCL_ACTIVE (n / 32)] s (assertLine n s) := by
    unfold assertLine
    split
    · exact Keeps.refl _ s
    split
    · exact keeps_holdLine _ n true s
    split
    · exact Keeps.refl _ s
    · exact keeps_set s (f := faultActive n) 1 List.mem_cons_self
  refine assert.trans ?_
  unfold pulseLine deassertLine
  split
  · exact keeps_holdLine _ n false _
  · exact keeps_set _ (f := faultActive n) 0 List.mem_cons_self

end Sys2Proof.Machine
end

section
/-!
SUPPORT. The window of the serial port (R385 to R389): reads that are served, that end and that time out, writes that gather, and the
flush of a page.
-/

namespace Sys2Proof.Machine
open Sys2Proof.Reg

/-! ## Reads (R385, R389) -/

theorem exec_xipRead (s : State) (dt : Nat) (host : Bool) (k a len : Nat) : exec (.xipRead dt host k a len) s =
    act dt (fun s => if !host && s.pathDead .apex then s else windowRead host (if host then 0 else k) a len s) s := rfl

theorem gives_xipRead_host (s : State) (dt k a len : Nat) :
    Gives (.xipRead dt true k a len) s (windowRead true 0 a len (s.tick dt)) :=
  gives_of_act (exec_xipRead s dt true k a len) rfl

/-- Apex firmware reaches the port in every mode but RESET (R73). -/
theorem pathDead_apex (s : State) (dt : Nat) : (s.tick dt).pathDead .apex = true ↔ s.mode = modeReset :=
  ⟨fun h => of_decide_eq_true (Bool.and_eq_true_iff.1 h).2, fun h => by simp [State.pathDead, h]⟩

theorem gives_xipRead_apex (s : State) (dt k a len : Nat) :
    Gives (.xipRead dt false k a len) s (if s.mode = modeReset then s.tick dt else windowRead false k a len (s.tick dt)) := by
  refine gives_of_act (exec_xipRead s dt false k a len) ?_
  simp [pathDead_apex]

theorem windowRead_early {s : State} (early : s.mode ≤ modeBoot) (k a len : Nat) :
    windowRead true k a len s = s.send (.windowData .host k a (List.replicate len 0)) := if_pos ⟨rfl, early⟩

theorem windowRead_closed_host {s : State} {k : Nat} (late : modeBoot < s.mode) (closed : s.on (SPN_SEL2_XIP_EN k) = false)
    (a len : Nat) : windowRead true k a len s = capture .host causeUnimpl false 2 a 0xF (s.send (.unsupported a)) := by
  simp [windowRead, closed, Nat.not_le.2 late]

theorem windowRead_closed_apex {s : State} {k : Nat} (closed : s.on (SPN_SEL2_XIP_EN k) = false) (a len : Nat) :
    windowRead false k a len s = s.send (.busError a) := by
  simp [windowRead, closed]

/-- A window read of a free port with nothing to flush goes out at once. -/
theorem windowRead_served {s : State} {host : Bool} {k : Nat} (a len : Nat) (opens : host = true → modeBoot < s.mode)
    (enabled : s.on (SPN_SEL2_XIP_EN k) = true) (free : s.spn.cur = none) (engines : s.spn.engines = [])
    (flush : s.spn.flush = none) (gather : s.spn.gather = none) (reads : s.spn.reads = []) (ready : (s.device k).kind = 0) :
    ∃ spn, spn.cur = some ⟨if host then 3 else 2, k, false⟩ ∧
      windowRead host k a len s = { s with spn := spn, sent := s.sent ++
        [.serial k ([BitVec.ofNat 8 (s.get (SPN_SEL2_RD_CMD k))] ++ s.windowAddr k (a / 4 * 4))] } := by
  let r : WindowRead := ⟨host, k, a, len, a / 4 * 4, (a + len + 3) / 4 * 4 - a / 4 * 4, [], s.elapsed⟩
  let u : State := modSpn (fun p => { p with reads := p.reads ++ [r] }) s
  have sole : u.spn.reads = [r] := congrArg (· ++ [r]) reads
  have open_ : ¬ (host = true ∧ s.mode ≤ modeBoot) := fun ⟨h, m⟩ => absurd (opens h) (Nat.not_lt.2 m)
  have read : windowRead host k a len s = servePort (startFlush u) := by
    simp only [windowRead, open_, enabled, Bool.not_true, Bool.false_eq_true, if_false]
    rfl
  have begun : windowRead host k a len s = beginTransfer r.who k u := by
    rw [read, startFlush_none (show u.spn.gather = none from gather)]
    exact servePort_read free engines flush sole ready
  rw [beginTransfer_read, transferOut_read sole] at begun
  exact ⟨_, rfl, begun⟩

/-- What a window read returns whose last piece has been clocked; the boot NVM returns its own bytes. -/
def WindowRead.answer (r : WindowRead) (data : List Byte) (s : State) : Msg :=
  let got := r.got ++ if r.sel = 0 then s.flashBytes r.next r.left else (data ++ List.replicate r.left 0).take r.left
  .windowData (if r.host then .host else .apex) r.sel r.addr ((got.drop (r.addr % 4)).take r.len)

/-- The last piece of a sole window read returns the bytes asked for, and leaves the port idle. -/
theorem transferEnd_read {s : State} {r : WindowRead} (status data : List Byte) (cur : s.spn.cur = some ⟨r.who, r.sel, false⟩)
    (reads : s.spn.reads = [r]) (engines : s.spn.engines = []) (flush : s.spn.flush = none) (last : r.left = r.piece) :
    transferEnd false status data s =
      { s with spn := { s.spn with cur := none, reads := [] }, sent := s.sent ++ [r.answer data s] } := by
  have piece : readPiece r data (modSpn (fun p => { p with cur := none }) s) =
      { s with spn := { s.spn with cur := none, reads := [] }, sent := s.sent ++ [r.answer data s] } := by
    simp only [readPiece, ← last, Nat.sub_self, if_true, dropRead, modSpn, reads, List.erase_cons_head]
    rfl
  have ends : transferEnd false status data s = servePort (readPiece r data (modSpn (fun p => { p with cur := none }) s)) := by
    obtain h | h := r.who_cases
    · have read : (modSpn (fun p => { p with cur := none }) s).readOf false = some r := by
        simpa [h] using readOf_who (s := modSpn (fun p => { p with cur := none }) s) reads
      simp [transferEnd, cur, h, read]
    · have read : (modSpn (fun p => { p with cur := none }) s).readOf true = some r := by
        simpa [h] using readOf_who (s := modSpn (fun p => { p with cur := none }) s) reads
      simp [transferEnd, cur, h, read]
  rw [ends, piece]
  exact servePort_nobody engines flush rfl

/-- The host's window read that stands alone ends once it has waited HOST_WAIT, unless its transfer runs (R389). -/
theorem windowTimeout_waited {s : State} {r : WindowRead} (reads : s.spn.reads = [r]) (host : r.host = true)
    (idle : ∀ x, s.spn.cur = some x → x.who ≠ 3) (due : r.since + 256 * 1600 * s.get SPN_HOST_WAIT_HOST_WAIT ≤ s.elapsed) :
    windowTimeout s = pendIf (!s.on SPN_XIP_STAT_HOST_TMO) 467 ((failRead r s).raise SPN_XIP_STAT_HOST_TMO) := by
  have read : s.readOf true = some r := by rw [readOf_single reads, if_pos host]
  unfold windowTimeout
  rw [read]
  cases cur : s.spn.cur with
  | none => simp [due]
  | some x => simp [idle x cur, due]

/-- The host's read is answered with Completer Abort, and HOST_TMO shows it. -/
theorem failRead_pended {s : State} {r : WindowRead} (reads : s.spn.reads = [r]) (host : r.host = true) (fresh : Bool) :
    let t := pendIf fresh 467 ((failRead r s).raise SPN_XIP_STAT_HOST_TMO)
    t.spn.reads = [] ∧ .abortRead r.addr ∈ t.sent ∧ t.on SPN_XIP_STAT_HOST_TMO = true ∧
      Keeps [SPN_XIP_STAT, ICL_PEND 29, DMA_MSIX_PBA 0] s t := by
  intro t
  have signals : Signals ((failRead r s).raise SPN_XIP_STAT_HOST_TMO) t := by
    cases fresh
    · exact Signals.refl _
    · exact signals_pend 467 _
  have pended : Keeps [ICL_PEND 29, DMA_MSIX_PBA 0] ((failRead r s).raise SPN_XIP_STAT_HOST_TMO) t := by
    cases fresh
    · exact Keeps.refl _ _
    · exact keeps_pend 467 _
  have failed : Keeps [SPN_XIP_STAT, ICL_PEND 29, DMA_MSIX_PBA 0] s ((failRead r s).raise SPN_XIP_STAT_HOST_TMO) :=
    (keeps_modSpn _ (fun p => { p with reads := p.reads.erase r }) s).trans (keeps_set ((dropRead r s).send _) (f := SPN_XIP_STAT_HOST_TMO) 1 List.mem_cons_self)
  refine ⟨?reads, ?sent, ?shown, failed.trans (pended.mono (by decide))⟩
  case reads =>
    rw [signals.spn]
    show s.spn.reads.erase r = []
    rw [reads, List.erase_cons_head]
  case sent =>
    refine signals.sent ?_
    show _ ∈ s.sent ++ [if r.host then Msg.abortRead r.addr else .busError r.addr]
    rw [if_pos host]
    exact List.mem_append_right _ List.mem_cons_self
  case shown =>
    rw [State.on, pended.get (by decide), State.raise, State.get_set_self _ _ _ (by decide)]
    rfl

theorem windowTimeout_early {s : State} {r : WindowRead} (reads : s.spn.reads = [r]) (host : r.host = true)
    (early : s.elapsed < r.since + 256 * 1600 * s.get SPN_HOST_WAIT_HOST_WAIT) : windowTimeout s = s := by
  have read : s.readOf true = some r := by rw [readOf_single reads, if_pos host]
  unfold windowTimeout
  rw [read]
  exact if_pos (.inr early)

theorem windowTimeout_none {s : State} (h : ∀ r ∈ s.spn.reads, r.host = false) : windowTimeout s = s := by
  have read : s.readOf true = none := List.find?_eq_none.2 fun r hr => by simp [h r hr]
  rw [windowTimeout, read]

/-! ## Writes and flushes (R386, R387) -/

theorem windowWrite_waits {s : State} (h : s.spn.flush.isSome = true) (k a : Nat) (bytes : List Byte) :
    windowWrite k a bytes s = modSpn (fun p => { p with writes := p.writes ++ [(k, a, bytes)] }) s := if_pos h

theorem windowWrite_gathers {s : State} (flush : s.spn.flush = none) (gather : s.spn.gather = none) (k : Nat) {a : Nat}
    {bytes : List Byte} (within : a % 256 + bytes.length < 256) :
    windowWrite k a bytes s = modSpn
      (fun p => { p with gather := some (Gather256.add ⟨k, a / 256 * 256, [], s.elapsed⟩ (a % 256) bytes s.elapsed) }) s := by
  unfold windowWrite
  dsimp only
  rw [if_neg (by simp [flush]), gather]
  exact if_neg (by omega)

theorem gives_xipWrite (s : State) (dt k a : Nat) (bytes : List Byte) :
    Gives (.xipWrite dt k a bytes) s (if s.mode = modeReset then s.tick dt else windowWrite k a bytes (s.tick dt)) := by
  refine gives_of_act (f := fun s => if s.pathDead .apex then s else windowWrite k a bytes s) rfl ?_
  simp [pathDead_apex]

theorem gives_xipFlush (s : State) (dt : Nat) :
    Gives (.xipFlush dt) s (if s.mode = modeReset then s.tick dt else startFlush (s.tick dt)) := by
  refine gives_of_act (f := fun s => if s.pathDead .apex then s else startFlush s) rfl ?_
  simp [pathDead_apex]

theorem flushTimer_none {s : State} (h : s.spn.gather = none) : flushTimer s = s := by rw [flushTimer, h]

theorem flushTimer_early {s : State} {g : Gather256} (h : s.spn.gather = some g) (early : s.elapsed < g.last + 256 * 16000) :
    flushTimer s = s := by
  rw [flushTimer, h]
  exact if_pos early

theorem flushTimer_due {s : State} {g : Gather256} (h : s.spn.gather = some g) (due : g.last + 256 * 16000 ≤ s.elapsed) :
    flushTimer s = startFlush s := by
  rw [flushTimer, h]
  exact if_neg (Nat.not_lt.2 due)

/-- A flush on a free port sends the write enable (R386). -/
theorem startFlush_sends {s : State} {g : Gather256} (gather : s.spn.gather = some g) (free : s.spn.cur = none)
    (ready : (s.device g.sel).kind = 0) :
    startFlush s = { s with
      spn := { s.spn with cur := some ⟨4, g.sel, false⟩, gather := none, flush := some (g, 1) }
      sent := s.sent ++ [.serial g.sel [BitVec.ofNat 8 (s.get (SPN_SEL3_WREN_CMD g.sel))]] } := by
  rw [startFlush, gather]
  dsimp only
  rw [servePort_flush (s := modSpn (fun p => { p with gather := none, flush := some (g, 0) }) s) free rfl ready,
    beginTransfer_writeEnable, transferOut_writeEnable (g := g) (n := 0) rfl]
  rfl

/-- After the write enable comes the page program, with all 256 bytes (R386). -/
theorem transferEnd_writeEnable {s : State} {g : Gather256} (cur : s.spn.cur = some ⟨4, g.sel, false⟩)
    (flush : s.spn.flush = some (g, 1)) (status data : List Byte) :
    transferEnd false status data s = modDevice g.sel
      (fun _ => { Device.init with kind := 1, since := s.elapsed, flush := true }) { s with
        spn := { s.spn with cur := some ⟨5, g.sel, false⟩, flush := some (g, 2) }
        sent := s.sent ++
          [.serial g.sel ([BitVec.ofNat 8 (s.get (SPN_SEL3_PP_CMD g.sel))] ++ s.windowAddr g.sel g.page ++ g.data)] } := by
  rw [transferEnd, cur]
  show beginTransfer 5 g.sel (modSpn (fun p => { p with cur := none }) s) = _
  rw [beginTransfer_program, transferOut_program (s := modSpn (fun p => { p with cur := none }) s) flush]
  simp only [modSpn, flush]
  rfl

theorem busyPoll_flush {s : State} {g : Gather256} (flush : s.spn.flush = some (g, 3)) (status : Nat) :
    busyPoll g.sel status s = if s.deviceReady g.sel status then
      flushEnd (!s.deviceFailed g.sel status && !(s.device g.sel).edge) s else s := by
  simp [busyPoll, flush]

@[simp] theorem device_modDevice (k : Nat) (g : Device → Device) (s : State) : (modDevice k g s).device k = g (s.device k) :=
  Store.find_put_self _ _ _ _

theorem flushDone_quiet {s : State} (writes : s.spn.writes = []) (engines : s.spn.engines = []) (reads : s.spn.reads = []) :
    flushDone s = modSpn (fun p => { p with flush := none, writes := [] }) s := by
  simp only [flushDone, writes, List.foldl_nil]
  exact servePort_nobody engines rfl reads

/-- A program that succeeded leaves its bytes in the boot NVM (R386, R387). -/
theorem flushEnd_ok {s : State} {g : Gather256} {n : Nat} (flush : s.spn.flush = some (g, n)) (writes : s.spn.writes = [])
    (engines : s.spn.engines = []) (reads : s.spn.reads = []) :
    flushEnd true s = modSpn (fun p => { p with flush := none, writes := [] }) { modDevice g.sel (fun _ => Device.init) s with
      flash := if g.sel = 0 then flashProgram s.flash g.page g.data else s.flash } := by
  rw [flushEnd, flush]
  dsimp only
  rw [if_pos rfl]
  split
  · exact flushDone_quiet (s := programFlash g.page g.data (modDevice g.sel (fun _ => Device.init) s)) writes engines reads
  · exact flushDone_quiet (s := modDevice g.sel (fun _ => Device.init) s) writes engines reads

/-- A program that failed shows WR_FAIL and its page, whatever is served then (R387). -/
theorem flushEnd_failed {s : State} {g : Gather256} {n : Nat} (flush : s.spn.flush = some (g, n)) :
    (flushEnd false s).on SPN_XIP_STAT_WR_FAIL = true ∧ (flushEnd false s).get SPN_WR_FAIL_ADDR_ADDR = g.page % 2 ^ 26 := by
  have shown (u : State) (f : Fld) (hf : f.addr ∉ [FCL_ACTIVE 3, SPN_STAT, ICL_PEND 29, DMA_MSIX_PBA 0]) :
      (flushDone (programFailed g.page u)).get f = ((u.raise SPN_XIP_STAT_WR_FAIL).set SPN_WR_FAIL_ADDR_ADDR g.page).get f := by
    have pulse := (keeps_pulseLine 101 ((u.raise SPN_XIP_STAT_WR_FAIL).set SPN_WR_FAIL_ADDR_ADDR g.page)).mono
      (bs := [FCL_ACTIVE 3, SPN_STAT, ICL_PEND 29, DMA_MSIX_PBA 0]) (by decide)
    exact (pulse.trans (((keeps_pend 467 _).mono (by decide)).trans ((keeps_flushDone _).mono (by decide)))).get hf
  unfold flushEnd
  rw [flush]
  dsimp only
  rw [if_neg (by decide), State.on, shown _ _ (by decide), shown _ _ (by decide), State.get_set_ne _ _ _ _ (by decide),
    State.raise, State.get_set_self _ _ _ (by decide), State.get_set_self _ _ _ (by decide)]
  exact ⟨rfl, rfl⟩

end Sys2Proof.Machine
end

section
/-!
PROOFS. The statement about the flash window (R73, R383 to R389).
-/

namespace Sys2Proof.Machine
open Sys2Proof.Reg

/-- Settles O56: a read by `windowRead_served` and `transferEnd_read`, its time-out by `windowTimeout_waited`, a write by
`windowWrite_gathers`, and a flush by `startFlush_sends`, `transferEnd_writeEnable`, `flushEnd_ok` and `flushEnd_failed`. -/
theorem theFlashWindow : Obligations.TheFlashWindow := by
  unfold Obligations.TheFlashWindow
  refine ⟨?read, ?readEnd, ?timeout, ?write, ?flush, ?program, ?poll⟩
  case read =>
    intro s dt k a len
    have host := gives_xipRead_host s dt k a len
    have apex := gives_xipRead_apex s dt k a len
    refine ⟨fun early => ?_, fun dead => ?_, fun late closed => ?_, fun alive closed => ?_, fun free engines flush gather reads => ?_⟩
    · rwa [windowRead_early (s := s.tick dt) early] at host
    · rwa [if_pos dead] at apex
    · rwa [windowRead_closed_host (s := s.tick dt) late closed] at host
    · rwa [if_neg alive, windowRead_closed_apex (s := s.tick dt) closed] at apex
    · refine ⟨fun late enabled ready => ?_, fun alive enabled ready => ?_⟩
      · obtain ⟨spn, cur, read⟩ := windowRead_served (s := s.tick dt) a len (fun _ => late) enabled free engines flush gather reads ready
        rw [read] at host
        exact ⟨_, host, cur, rfl, ⟨rfl, rfl, rfl, rfl, rfl⟩, rfl⟩
      · obtain ⟨spn, cur, read⟩ := windowRead_served (s := s.tick dt) (host := false) a len nofun enabled free engines flush gather reads ready
        rw [if_neg alive, read] at apex
        exact ⟨_, apex, cur, rfl, ⟨rfl, rfl, rfl, rfl, rfl⟩, rfl⟩
  case readEnd =>
    intro s dt who r status data cur hwho reads engines flush last
    subst hwho
    have gives : Gives (.spnTransferEnd dt false status data) s _ := gives_of_act rfl (transferEnd_read (s := s.tick dt) status data cur reads engines flush last)
    exact ⟨_, gives, rfl, rfl, rfl, ⟨rfl, rfl, rfl, rfl, rfl⟩, rfl⟩
  case timeout =>
    intro s dt
    refine ⟨fun none => gives_of_act rfl (windowTimeout_none none), fun r reads host => ⟨fun early => ?_, fun due idle => ?_⟩⟩
    · exact gives_of_act rfl (windowTimeout_early (s := s.tick dt) reads host early)
    · have gives : Gives (.xipHostTimeout dt) s _ := gives_of_act rfl (windowTimeout_waited (s := s.tick dt) reads host idle due)
      obtain ⟨none, abort, shown, keeps⟩ := failRead_pended (s := s.tick dt) reads host (!(s.tick dt).on SPN_XIP_STAT_HOST_TMO)
      exact ⟨_, gives, none, abort, shown, keeps⟩
  case write =>
    intro s dt k a bytes
    have write := gives_xipWrite s dt k a bytes
    refine ⟨fun dead => ?_, fun alive flush => ?_, fun alive flush gather within => ?_⟩
    · rwa [if_pos dead] at write
    · rw [if_neg alive, windowWrite_waits (s := s.tick dt) flush] at write
      exact ⟨_, write, rfl, rfl, ⟨rfl, rfl, rfl, rfl, rfl⟩⟩
    · rw [if_neg alive, windowWrite_gathers (s := s.tick dt) flush gather k within] at write
      exact ⟨_, write, rfl, rfl, ⟨rfl, rfl, rfl, rfl, rfl⟩⟩
  case flush =>
    intro s dt
    have flush := gives_xipFlush s dt
    refine ⟨fun none => ⟨?_, gives_of_act rfl (flushTimer_none none)⟩, fun g gather early => ?_, fun g gather free idle ready => ?_⟩
    · rwa [startFlush_none (s := s.tick dt) none, ite_self] at flush
    · exact gives_of_act rfl (flushTimer_early (s := s.tick dt) gather early)
    · have sends := startFlush_sends (s := s.tick dt) gather free ready
      refine ⟨startFlush (s.tick dt), fun alive => ?_, fun due => gives_of_act rfl (flushTimer_due gather due), ?_⟩
      · rwa [if_neg alive] at flush
      · rw [sends]
        exact ⟨rfl, rfl, rfl, rfl, ⟨rfl, rfl, rfl, rfl, rfl⟩, rfl⟩
  case program =>
    intro s dt g status data cur flush
    have gives : Gives (.spnTransferEnd dt false status data) s _ := gives_of_act rfl (transferEnd_writeEnable (s := s.tick dt) cur flush status data)
    exact ⟨_, gives, rfl, by rw [device_modDevice], rfl, ⟨rfl, rfl, rfl, rfl, rfl⟩, rfl⟩
  case poll =>
    intro s dt status g flush
    have poll : busyPoll g.sel status (s.tick dt) = if s.deviceReady g.sel status then
        flushEnd (!s.deviceFailed g.sel status && !(s.device g.sel).edge) (s.tick dt) else s.tick dt :=
      busyPoll_flush (s := s.tick dt) flush status
    refine ⟨fun busy => ?_, fun ready good edge writes engines reads => ?_, fun ready failed => ?_⟩
    · rw [busy] at poll
      exact gives_of_act rfl poll
    · rw [ready, good, edge] at poll
      have gives : Gives (.spnBusyPoll dt g.sel status) s _ :=
        gives_of_act rfl (poll.trans (flushEnd_ok (s := s.tick dt) flush writes engines reads))
      have device := device_modDevice g.sel (fun _ => Device.init) (s.tick dt)
      exact ⟨_, gives, rfl, congrArg Device.kind device, rfl, rfl⟩
    · rw [ready, failed] at poll
      exact ⟨_, gives_of_act rfl poll, flushEnd_failed (s := s.tick dt) flush⟩

end Sys2Proof.Machine
end

section
/-!
SUPPORT. Posting a mailbox command (R79): what the writes of a slot's registers leave, and that they change nothing but these registers
and the guard.
-/

namespace Sys2Proof.Machine
open Sys2Proof.Reg

/-! ## States that differ in registers alone -/

namespace OnlyRegs

variable {as bs : List Nat} {s t u : State}

theorem refl (as : List Nat) (s : State) : OnlyRegs as s s := ⟨rfl, fun _ _ => rfl⟩

theorem trans (h : OnlyRegs as s t) (k : OnlyRegs as t u) : OnlyRegs as s u := by
  obtain ⟨ht, hr⟩ := h
  obtain ⟨hu, kr⟩ := k
  refine ⟨?_, fun a ha => (kr a ha).trans (hr a ha)⟩
  rw [hu, ht]

theorem mono (h : OnlyRegs as s t) (hab : as ⊆ bs) : OnlyRegs bs s t := ⟨h.1, fun a ha => h.2 a fun hm => ha (hab hm)⟩

theorem get (h : OnlyRegs as s t) {f : Fld} (hf : f.addr ∉ as) : t.get f = s.get f := State.get_of_reg (h.2 f.addr hf)

theorem set (s : State) {f : Fld} (v : Nat) (h : f.addr ∈ as) : OnlyRegs as s (s.set f v) :=
  ⟨rfl, fun _ ha => State.reg_set_ne s f v fun he => ha (he ▸ h)⟩

end OnlyRegs

theorem onlyRegs_setGuard (p : Path) (b : Bool) (s : State) : OnlyRegs [GLB_GUARD_STAT] s (setGuard p b s) := by
  cases p
  case smbus => exact OnlyRegs.refl _ s
  all_goals exact OnlyRegs.set s _ List.mem_cons_self

/-! ## Writes in the APX and GLB ranges -/

theorem blockOf_apx {a : Nat} (lo : 0x50000 ≤ a) (hi : a < 0x60000) : blockOf a = some .apx := by
  have page : a / 0x10000 = 5 := by omega
  rw [blockOf, if_pos (by omega), page]
  rfl

/-- The host and the SMBus reach a 32-bit register of APX, and of GLB, in every mode (R35, R73). -/
theorem write32_open {s : State} {p : Path} {a : Nat} {r : RegRow} (hp : p ≠ .apex) (ha : a < 0x10000 ∨ 0x50000 ≤ a ∧ a < 0x60000)
    (hr : rowAt a = some (r, false)) (hq : r.quad = false) (d : Nat) :
    write32 p a d s = writeReg p (s.guardOpen p) a (d % 2 ^ 32) (setGuard p false s) := by
  have alive : s.pathDead p = false := by simp [State.pathDead, hp]
  have opens (t : State) : t.hostShut p a = false := by
    obtain h | ⟨lo, hi⟩ := ha
    · simp [State.hostShut, h]
    · simp [State.hostShut, lo, hi]
  have powered (t : State) : t.windowGated a = false := by
    have : ¬ 0x1000000 ≤ a := by omega
    simp [State.windowGated, this]
  have present (t : State) : t.implemented a = true := by
    obtain h | ⟨lo, hi⟩ := ha
    · simp [State.implemented, blockOf_glb h, hr]
    · simp [State.implemented, blockOf_apx lo hi, hr]
  rw [write32, busWrite, alive]
  show writeOne p (s.guardOpen p) a (d % 2 ^ 32) 0xF (setGuard p false s) = _
  simp [writeOne, admitWrite, opens, powered, present, hr, hq]

theorem writeReg_apx {a : Nat} (lo : 0x50000 ≤ a) (hi : a < 0x60000) (p : Path) (g : Bool) (data : Nat) (s : State) :
    writeReg p g a data s = writeApx p g a data s := by
  rw [writeReg, blockOf_apx lo hi]

/-! ## The registers of a mailbox slot (R79, R82) -/

def cmdRow : RegRow := ⟨"CMD", 0x0, false, [(2, 0x100)], [⟨"OPCODE", 0, 8, .rw, 0⟩, ⟨"SEQ", 8, 8, .rw, 0⟩]⟩

def argRow : RegRow := ⟨"ARG", 0x4, false, [(2, 0x100), (4, 0x4)], [⟨"ARG", 0, 32, .rw, 0⟩]⟩

def doorbellRow : RegRow := ⟨"DOORBELL", 0x18, false, [(2, 0x100)], [⟨"GO", 0, 1, .hc, 0⟩]⟩

theorem rowAt_cmd {k : Nat} (hk : k < 2) : rowAt (APX_CMD k) = some (cmdRow, false) := by
  have table : ∀ k < 2, rowAt (APX_CMD k) = some (cmdRow, false) := by decide
  exact table k hk

theorem rowAt_arg {k i : Nat} (hk : k < 2) (hi : i < 4) : rowAt (APX_ARG k i) = some (argRow, false) := by
  have table : ∀ k < 2, ∀ i < 4, rowAt (APX_ARG k i) = some (argRow, false) := by decide
  exact table k hk i hi

theorem rowAt_doorbell {k : Nat} (hk : k < 2) : rowAt (APX_DOORBELL k) = some (doorbellRow, false) := by
  have table : ∀ k < 2, rowAt (APX_DOORBELL k) = some (doorbellRow, false) := by decide
  exact table k hk

/-- A register below the staging window that is no doorbell and no key is written by its access types. -/
theorem writeApx_plain {a : Nat} (first : a ≠ APX_DOORBELL 0) (second : a ≠ APX_DOORBELL 1) (key : a ≠ APX_KEY_ENROL)
    (low : a < APX_STAGING 0) (p : Path) (g : Bool) (data : Nat) (s : State) : writeApx p g a data s = plainWrite p g a data s := by
  rw [writeApx, if_neg first, if_neg second, if_neg key, if_neg (fun h => absurd h.1 (Nat.not_le.2 low))]

theorem write32_cmd {p : Path} (hp : p ≠ .apex) {k : Nat} (hk : k < 2) (d : Nat) (s : State) :
    write32 p (APX_CMD k) d s =
      ((setGuard p false s).set (APX_CMD_OPCODE k) (bitsAt (d % 2 ^ 32) 0 8)).set (APX_CMD_SEQ k) (bitsAt (d % 2 ^ 32) 8 8) := by
  have range : 0x50000 ≤ APX_CMD k ∧ APX_CMD k < 0x60000 := by unfold APX_CMD; omega
  rw [write32_open hp (.inr range) (rowAt_cmd hk) rfl, writeReg_apx range.1 range.2,
    writeApx_plain (by grind) (by grind) (by grind) (by grind), plainWrite_fields (rowAt_cmd hk) rfl rfl]
  rfl

theorem write32_arg {p : Path} (hp : p ≠ .apex) {k i : Nat} (hk : k < 2) (hi : i < 4) (d : Nat) (s : State) :
    write32 p (APX_ARG k i) d s = (setGuard p false s).set (APX_ARG_ARG k i) (bitsAt (d % 2 ^ 32) 0 32) := by
  have range : 0x50000 ≤ APX_ARG k i ∧ APX_ARG k i < 0x60000 := by unfold APX_ARG; omega
  rw [write32_open hp (.inr range) (rowAt_arg hk hi) rfl, writeReg_apx range.1 range.2,
    writeApx_plain (by grind) (by grind) (by grind) (by grind), plainWrite_fields (rowAt_arg hk hi) rfl rfl]
  rfl

theorem write32_doorbell {p : Path} (hp : p ≠ .apex) {k : Nat} (hk : k < 2) (s : State) :
    write32 p (APX_DOORBELL k) 1 s = submit p (s.guardOpen p) k (setGuard p false s) := by
  have range : 0x50000 ≤ APX_DOORBELL k ∧ APX_DOORBELL k < 0x60000 := by unfold APX_DOORBELL; omega
  rw [write32_open hp (.inr range) (rowAt_doorbell hk) rfl, writeReg_apx range.1 range.2]
  obtain rfl | rfl : k = 0 ∨ k = 1 := by omega
  · exact if_pos rfl
  · exact (if_neg (by decide)).trans (if_pos rfl)

theorem write32_unlock {p : Path} (hp : p ≠ .apex) (s : State) :
    write32 p GLB_UNLOCK 0xC3D17A5E s = setGuard p true (setGuard p false s) := by
  rw [write32_open hp (.inl (by decide)) rowAt_unlock rfl, writeReg_unlock]
  rfl

/-! ## The writes that post a command -/

/-- The registers that posting a command in slot `k` writes. -/
def slotRegs (k : Nat) : List Nat :=
  [APX_CMD k, APX_ARG k 0, APX_ARG k 1, APX_ARG k 2, APX_ARG k 3, APX_DOORBELL k, GLB_GUARD_STAT]

theorem arg_mem_slotRegs (k : Nat) {i : Nat} (hi : i < 4) : APX_ARG k i ∈ slotRegs k := by
  obtain rfl | rfl | rfl | rfl : i = 0 ∨ i = 1 ∨ i = 2 ∨ i = 3 := by omega
  all_goals simp [slotRegs]

/-- The poster's path of a slot (R79). -/
def posterOf (k : Nat) : Path := if k = 0 then .host else .smbus

theorem posterOf_ne_apex (k : Nat) : posterOf k ≠ .apex := by
  unfold posterOf
  split <;> decide

/-- `t` is `s` with a command's opcode, sequence number and first `n` arguments in slot `k`, its doorbell as it was. -/
structure Filled (k op seq : Nat) (args : List Nat) (n : Nat) (s t : State) : Prop where
  only : OnlyRegs (slotRegs k) s t
  opcode : t.get (APX_CMD_OPCODE k) = op % 256
  seq : t.get (APX_CMD_SEQ k) = seq % 256
  args : ∀ i < n, t.get (APX_ARG_ARG k i) = args.getD i 0 % 2 ^ 32
  go : t.on (APX_DOORBELL_GO k) = s.on (APX_DOORBELL_GO k)

/-- Writes elsewhere leave a filled slot as it is. -/
theorem Filled.of_onlyRegs {k op seq n : Nat} {args as : List Nat} {s t u : State} (h : Filled k op seq args n s t)
    (only : OnlyRegs as t u) (within : as ⊆ slotRegs k) (cmd : APX_CMD k ∉ as) (arg : ∀ i < n, APX_ARG k i ∉ as)
    (bell : APX_DOORBELL k ∉ as) : Filled k op seq args n s u where
  only := h.only.trans (only.mono within)
  opcode := (only.get cmd).trans h.opcode
  seq := (only.get cmd).trans h.seq
  args := fun i hi => (only.get (arg i hi)).trans (h.args i hi)
  go := (State.on_of_get (only.get bell)).trans h.go

/-- The guard's register stands apart from the slots'. -/
theorem Filled.guard {k op seq n : Nat} {args : List Nat} {s t : State} (h : Filled k op seq args n s t) (p : Path) (b : Bool) :
    Filled k op seq args n s (setGuard p b t) :=
  h.of_onlyRegs (onlyRegs_setGuard p b t) (by simp [slotRegs]) (by grind) (fun i _ => by grind) (by grind)

theorem filled_cmd {k : Nat} (hk : k < 2) (op seq : Nat) (args : List Nat) (s : State) :
    Filled k op seq args 0 s (write32 (posterOf k) (APX_CMD k) (op % 256 + 256 * (seq % 256)) s) := by
  have guard := (onlyRegs_setGuard (posterOf k) false s).mono (bs := slotRegs k) (by simp [slotRegs])
  have low : bitsAt ((op % 256 + 256 * (seq % 256)) % 2 ^ 32) 0 8 = op % 256 := by
    rw [bitsAt, Nat.shiftRight_zero]
    omega
  have high : bitsAt ((op % 256 + 256 * (seq % 256)) % 2 ^ 32) 8 8 = seq % 256 := by
    rw [bitsAt, Nat.shiftRight_eq_div_pow]
    omega
  rw [write32_cmd (posterOf_ne_apex k) hk, low, high]
  have opcode := OnlyRegs.set (as := slotRegs k) (setGuard (posterOf k) false s) (f := APX_CMD_OPCODE k) (op % 256) List.mem_cons_self
  have seqNo := OnlyRegs.set (as := slotRegs k) ((setGuard (posterOf k) false s).set (APX_CMD_OPCODE k) (op % 256))
    (f := APX_CMD_SEQ k) (seq % 256) List.mem_cons_self
  refine ⟨guard.trans (opcode.trans seqNo), ?opcode, ?seq, fun i hi => absurd hi i.not_lt_zero, ?go⟩
  case opcode =>
    rw [State.get_set_apart _ _ _ _ (by simp) (by simp), State.get_set_self _ _ _ (by simp)]
    exact Nat.mod_mod _ 256
  case seq =>
    rw [State.get_set_self _ _ _ (by simp)]
    exact Nat.mod_mod _ 256
  case go =>
    refine State.on_of_get ?_
    rw [State.get_set_ne _ _ _ _ (by grind), State.get_set_ne _ _ _ _ (by grind)]
    exact get_setGuard _ _ _ _ (by grind)

/-- Each argument goes into its own register; the guard is armed again behind it (R34). -/
theorem Filled.writeArg {k op seq n : Nat} {args : List Nat} {s t : State} (h : Filled k op seq args n s t) (hk : k < 2) (hn : n < 4) :
    Filled k op seq args (n + 1) s (write32 (posterOf k) (APX_ARG k n) (args.getD n 0) t) := by
  have cmd : APX_CMD k ∉ [APX_ARG k n] := by grind
  have earlier : ∀ i < n, APX_ARG k i ∉ [APX_ARG k n] := fun i less => by
    simp only [List.mem_singleton, APX_ARG]
    omega
  have bell : APX_DOORBELL k ∉ [APX_ARG k n] := by grind
  have word : bitsAt (args.getD n 0 % 2 ^ 32) 0 32 = args.getD n 0 % 2 ^ 32 := by
    rw [bitsAt, Nat.shiftRight_zero, Nat.mod_mod]
  rw [write32_arg (posterOf_ne_apex k) hk hn, word]
  have armed := h.guard (posterOf k) false
  have arg := OnlyRegs.set (as := [APX_ARG k n]) (setGuard (posterOf k) false t) (f := APX_ARG_ARG k n) (args.getD n 0 % 2 ^ 32)
    List.mem_cons_self
  have filled := armed.of_onlyRegs arg (by simp [arg_mem_slotRegs k hn]) cmd earlier bell
  refine ⟨filled.only, filled.opcode, filled.seq, fun i hi => ?_, filled.go⟩
  obtain rfl | less : i = n ∨ i < n := by omega
  · rw [State.get_set_self _ _ _ (by simp)]
    exact Nat.mod_mod _ (2 ^ 32)
  · exact filled.args i less

theorem OnlyRegs.guardOpen {as : List Nat} {s t : State} (h : OnlyRegs as s t) (hg : GLB_GUARD_STAT ∉ as) (p : Path) :
    t.guardOpen p = s.guardOpen p := by
  cases p
  case smbus => rfl
  all_goals exact State.on_of_get (h.get hg)

theorem guardOpen_armed (p : Path) (s : State) : (setGuard p false s).guardOpen p = false := by
  by_cases hp : p = .smbus
  · subst hp
    rfl
  · exact guardOpen_setGuard hp false s

theorem guardOpen_write32_arg {k : Nat} (hk : k < 2) {i : Nat} (hi : i < 4) (d : Nat) (s : State) :
    (write32 (posterOf k) (APX_ARG k i) d s).guardOpen (posterOf k) = false := by
  rw [write32_arg (posterOf_ne_apex k) hk hi,
    (OnlyRegs.set (as := [APX_ARG k i]) _ (f := APX_ARG_ARG k i) _ List.mem_cons_self).guardOpen (by grind), guardOpen_armed]

/-- The key opens the guard of the host's slot alone (R35, R80). -/
theorem guardOpen_write32_unlock {k : Nat} (hk : k < 2) (s : State) :
    ((write32 (posterOf k) GLB_UNLOCK 0xC3D17A5E s).guardOpen (posterOf k) && posterOf k == .host) = (k == 0) := by
  rw [write32_unlock (posterOf_ne_apex k)]
  obtain rfl | rfl : k = 0 ∨ k = 1 := by omega
  · rw [guardOpen_setGuard (by decide)]
    rfl
  · rfl

/-- All four arguments. -/
theorem Filled.writeArgs {k op seq : Nat} {args : List Nat} {s t : State} (h : Filled k op seq args 0 s t) (hk : k < 2) :
    let u := (List.range 4).foldl (fun s i => write32 (posterOf k) (APX_ARG k i) (args.getD i 0) s) t
    Filled k op seq args 4 s u ∧ u.guardOpen (posterOf k) = false :=
  ⟨(((h.writeArg hk (by decide)).writeArg hk (by decide)).writeArg hk (by decide)).writeArg hk (by decide),
    guardOpen_write32_arg hk (i := 3) (by decide) _ _⟩

/-- `s` with one more command that waits for Apex. -/
def State.await (s : State) (c : Cmd) : State := { s with apex := { s.apex with waiting := s.apex.waiting ++ [c] } }

/-- The doorbell of a filled slot leaves its command waiting for Apex. -/
theorem Filled.rings {k op seq : Nat} {args : List Nat} {s t : State} (h : Filled k op seq args 4 s t) (free : s.on (APX_DOORBELL_GO k) = false)
    (p : Path) (g : Bool) :
    submit p g k t = (t.raise (APX_DOORBELL_GO k)).await
      ⟨k, op % 256, seq % 256, (List.range 4).map fun i => args.getD i 0 % 2 ^ 32, g && p == .host⟩ := by
  have same : ((List.range 4).map fun i => t.get (APX_ARG_ARG k i)) = (List.range 4).map fun i => args.getD i 0 % 2 ^ 32 :=
    List.map_congr_left fun i hi => h.args i (List.mem_range.1 hi)
  rw [submit, if_neg (by simp [h.go, free]), h.opcode, h.seq, same]
  rfl

/-- The slot in which a poster's command stands (R79). -/
def slotOf (slot : Nat) : Nat := if slot = 0 then 0 else 1

theorem slotOf_lt (slot : Nat) : slotOf slot < 2 := by
  unfold slotOf
  split <;> decide

/-- Posting a command in a free slot stores it there, rings the doorbell, and leaves it waiting. -/
theorem postCommand_waits (slot : Nat) (g : Bool) (op seq : Nat) (args : List Nat) {s : State}
    (free : s.on (APX_DOORBELL_GO (slotOf slot)) = false) :
    ∃ t, Filled (slotOf slot) op seq args 4 s t ∧ postCommand slot g op seq args s =
      (t.raise (APX_DOORBELL_GO (slotOf slot))).await (posted slot g op seq args) := by
  have hk := slotOf_lt slot
  have path : (if slot = 0 then Path.host else .smbus) = posterOf (slotOf slot) := by
    unfold posterOf slotOf
    split <;> rfl
  have written := (filled_cmd hk op seq args s).writeArgs hk
  generalize hu : (List.range 4).foldl _ _ = u at written
  obtain ⟨filled, closed⟩ := written
  have last : postCommand slot g op seq args s = write32 (posterOf (slotOf slot)) (APX_DOORBELL (slotOf slot)) 1
      (if g then write32 (posterOf (slotOf slot)) GLB_UNLOCK 0xC3D17A5E u else u) := by
    rw [← hu, ← path]
    rfl
  have ring {t : State} (h : Filled (slotOf slot) op seq args 4 s t)
      (guard : (t.guardOpen (posterOf (slotOf slot)) && posterOf (slotOf slot) == .host) = (g && slotOf slot == 0)) :
      ∃ t', Filled (slotOf slot) op seq args 4 s t' ∧ write32 (posterOf (slotOf slot)) (APX_DOORBELL (slotOf slot)) 1 t =
        (t'.raise (APX_DOORBELL_GO (slotOf slot))).await (posted slot g op seq args) := by
    refine ⟨_, h.guard (posterOf (slotOf slot)) false, ?_⟩
    rw [write32_doorbell (posterOf_ne_apex _) hk, (h.guard (posterOf (slotOf slot)) false).rings free, guard]
    rfl
  rw [last]
  cases g
  case false => exact ring filled (by simp [closed])
  case true =>
    refine ring ?_ (by simp [guardOpen_write32_unlock hk])
    rw [if_pos rfl, write32_unlock (posterOf_ne_apex _)]
    exact (filled.guard _ false).guard _ true

end Sys2Proof.Machine
end

section
/-!
SUPPORT. What a step leaves to follow of itself (R79): the parts of `settleOnce` before the mailbox do nothing where nothing but the command
waits.
-/

namespace Sys2Proof.Machine
open Sys2Proof.Reg

/-- Nothing follows of `s` by itself but what its mailbox and QUIET ask for. -/
structure Still (s : State) : Prop where
  pmu : s.pmuEnds = []
  faults : s.fcl.raised = []
  holds : s.holdEnded = false
  kept : s.mode = modeDoze ∨ s.dma.kept = [] ∧ s.arc.cancels = []
  reboot : s.apex.reboot = false
  alert : andNot s.smb.acked s.alertConditions = 0

theorem still_of_calm {s : State} (h : s.calm = true) (hr : s.apex.reboot = false) : Still s := by
  simp only [State.calm, Bool.and_eq_true, Bool.or_eq_true, Bool.not_eq_true', List.isEmpty_iff, decide_eq_true_eq, beq_iff_eq] at h
  obtain ⟨⟨⟨⟨⟨⟨⟨pmu, faults⟩, holds⟩, -⟩, -⟩, kept⟩, -⟩, alert⟩ := h
  exact ⟨pmu, faults, holds, kept, hr, alert⟩

theorem not_calm_of_waiting {s : State} (hw : s.apex.waiting ≠ []) (up : modeBoot < s.mode) (hr : s.apex.reboot = false) :
    s.calm = false := by
  refine Bool.eq_false_iff.2 fun h => ?_
  simp only [State.calm, Bool.and_eq_true, Bool.or_eq_true, List.isEmpty_iff, decide_eq_true_eq] at h
  obtain ⟨⟨⟨⟨⟨-, mailbox⟩, -⟩, -⟩, -⟩, -⟩ := h
  obtain (nothing | down) | reboot := mailbox
  · exact hw nothing
  · exact Nat.not_le.2 up down
  · simp [hr] at reboot

/-! ## The parts of a settling step that find nothing to do -/

theorem takePmuEnds_of_nil {s : State} (h : s.pmuEnds = []) : takePmuEnds s = s := by
  have same : { s with pmuEnds := [] } = s := by rw [← h]
  simp only [takePmuEnds, h, List.foldl_nil, same]

theorem settleFaults_of_nil {s : State} (h : s.fcl.raised = []) (n : Nat) : settleFaults n s = s := by
  cases n with
  | zero => rfl
  | succ n => rw [settleFaults, h, lowestFault]

theorem judgeHolds_of_not_holdEnded {s : State} (h : s.holdEnded = false) : judgeHolds s = s := by
  have none_ends := List.any_eq_false.1 h
  refine List.foldlRecOn (motive := fun t => t = s) _ _ rfl fun t ht e he => ?_
  subst ht
  rw [if_neg (none_ends e he)]

theorem takeKept_of_nil {s : State} (h : s.mode = modeDoze ∨ s.dma.kept = []) : takeKept s = s := if_pos h

theorem takeCancels_of_nil {s : State} (h : s.mode = modeDoze ∨ s.arc.cancels = []) : takeCancels s = s := by
  unfold takeCancels
  split
  case isTrue => rfl
  case isFalse awake =>
    have none : s.arc.cancels = [] := h.resolve_left awake
    rw [none]
    show { s with arc := { s.arc with cancels := [] } } = s
    rw [← none]

theorem settleAlert_of_andNot {s : State} (h : andNot s.smb.acked s.alertConditions = 0) : settleAlert s = s := by
  have kept : s.smb.acked &&& s.alertConditions = s.smb.acked := (Nat.xor_eq_zero_iff.1 h).symm
  show { s with smb := { s.smb with acked := s.smb.acked &&& s.alertConditions } } = s
  rw [kept]

theorem settleReboot_of_not_reboot {s : State} (h : s.apex.reboot = false) : settleReboot s = s := by
  simp [settleReboot, h]

theorem Still.settleOnce {s : State} (h : Still s) : settleOnce s = refreshQuiet (serveMailbox s) := by
  obtain ⟨pmu, faults, holds, kept, reboot, alert⟩ := h
  rw [Machine.settleOnce, takePmuEnds_of_nil pmu, settleFaults_of_nil faults, judgeHolds_of_not_holdEnded holds,
    takeKept_of_nil (kept.imp id And.left), takeCancels_of_nil (kept.imp id And.right), settleAlert_of_andNot alert,
    settleReboot_of_not_reboot reboot]

/-! ## What follows does not depend on a mailbox slot -/

/-- Rays and templates lie in the facets' register windows (R130). -/
theorem holdEnded_congr {s t : State} (h : t = { s with regs := t.regs }) (facets : t.facets = s.facets)
    (windows : ∀ a, 0x1000000 ≤ a → t.reg a = s.reg a) : t.holdEnded = s.holdEnded := by
  have get (f : Fld) (hf : 0x1000000 ≤ f.addr) : t.get f = s.get f := State.get_of_reg (windows f.addr hf)
  have rayOf (f k : Nat) : t.rayOf f k = s.rayOf f k := by
    simp only [State.rayOf, State.on, get (FCT_RAY_STAT_ASSIGNED f _) (by grind), get (FCT_RAY_STAT_CHORD f _) (by grind)]
  have chordRays (k : Nat) : t.chordRays k = s.chordRays k := by
    simp only [State.chordRays, facets, rayOf]
  have mapGet (f : Fld) : t.mapGet f = s.mapGet f := by rw [h]; rfl
  have fct (f : Nat) : t.fct f = s.fct f := by rw [h]; rfl
  have chord (k : Nat) : t.chord k = s.chord k := by rw [h]; rfl
  have chords : t.arc = s.arc := by rw [h]
  have templates (k : Nat) : t.templateHold k = s.templateHold k := by
    simp only [State.templateHold, chordRays, mapGet, get (FCT_TPL_ID_ID _ _) (by grind)]
  have grids (k : Nat) : t.gridHold k = s.gridHold k := by
    simp only [State.gridHold, chordRays, fct]
  simp only [State.holdEnded, chords, chord, templates, grids]

theorem not_mem_slotRegs {k a : Nat} (hk : k < 2) (guard : a ≠ GLB_GUARD_STAT) (range : a < 0x50000 ∨ 0x50200 ≤ a) : a ∉ slotRegs k := by
  simp only [slotRegs, List.mem_cons, List.not_mem_nil, or_false, APX_CMD, APX_ARG, APX_DOORBELL]
  omega

theorem Still.of_slotRegs {k : Nat} (hk : k < 2) {s t : State} (h : Still s) (only : OnlyRegs (slotRegs k) s t) : Still t := by
  obtain ⟨pmu, faults, holds, kept, reboot, alert⟩ := h
  have mode : t.mode = s.mode := only.get (not_mem_slotRegs hk (by decide) (.inl (by decide)))
  have facets : t.facets = s.facets := by
    have member : t.member = s.member := only.get (not_mem_slotRegs hk (by decide) (.inl (by decide)))
    rw [State.facets, member, State.facets]
  have smb : t.smb = s.smb := by rw [only.1]
  have alerts : t.alertConditions = s.alertConditions := by
    simp only [State.alertConditions, smb, only.get (f := THM_LEVEL_WARN) (not_mem_slotRegs hk (by decide) (.inl (by decide))),
      only.get (f := FCL_ESC_LATCHED) (not_mem_slotRegs hk (by decide) (.inl (by decide))),
      only.get (f := THM_LEVEL_SHUTDOWN) (not_mem_slotRegs hk (by decide) (.inl (by decide)))]
  have held : t.holdEnded = s.holdEnded :=
    holdEnded_congr only.1 facets fun a ha => only.2 a (not_mem_slotRegs hk (by grind) (.inr (by omega)))
  have pmuEnds : t.pmuEnds = s.pmuEnds := by rw [only.1]
  have fcl : t.fcl = s.fcl := by rw [only.1]
  have dma : t.dma = s.dma := by rw [only.1]
  have arc : t.arc = s.arc := by rw [only.1]
  have apex : t.apex = s.apex := by rw [only.1]
  exact ⟨by rw [pmuEnds, pmu], by rw [fcl, faults], by rw [held, holds], by rw [mode, dma, arc]; exact kept,
    by rw [apex, reboot], by rw [smb, alerts, alert]⟩

/-- Where nothing else follows, one command that waits is served first (R79, log 3). -/
theorem settle_await {s : State} (c : Cmd) (h : Still s) (hw : s.apex.waiting = []) (up : modeBoot < s.mode) :
    settle (s.await c) = settleRounds 3 (refreshQuiet (serve c s)) := by
  have still : Still (s.await c) := ⟨h.pmu, h.faults, h.holds, h.kept, h.reboot, h.alert⟩
  have busy : (s.await c).calm = false := not_calm_of_waiting (by simp [State.await]) up h.reboot
  have emptied : { s with apex := { s.apex with waiting := [] } } = s := by rw [← hw]
  have served : serveMailbox (s.await c) = serve c s := by
    have go : ¬(s.mode ≤ modeBoot ∨ s.apex.reboot = true) := by
      rw [h.reboot, not_or]
      exact ⟨Nat.not_le.2 up, Bool.false_ne_true⟩
    have all : serveMailbox (s.await c) = serveAll (s.apex.waiting ++ [c]) { s with apex := { s.apex with waiting := [] } } := if_neg go
    rw [all, emptied, hw, List.nil_append, serveAll, if_neg (Nat.not_le.2 up), serveAll]
  calc settle (s.await c)
    _ = settleRounds 3 (settleOnce (s.await c)) := if_neg (by simp [busy])
    _ = settleRounds 3 (refreshQuiet (serve c s)) := by rw [still.settleOnce, served]

end Sys2Proof.Machine
end

section
/-!
PROOFS. Every mailbox instruction posts a command, which is served at once.
-/

namespace Sys2Proof.Machine
open Sys2Proof.Reg

/-- An instruction that posts a command in a free slot, with nothing else to follow, answers what serving the command leaves. -/
theorem served_of_postCommand {i : Instr} {s : State} {dt slot seq op : Nat} {g : Bool} {args : List Nat} (calm : s.calm = true)
    (hw : s.apex.waiting = []) (hr : s.apex.reboot = false) (up : modeBoot < s.mode)
    (free : s.on (APX_DOORBELL_GO (slotOf slot)) = false) (posts : exec i s = act dt (postCommand slot g op seq args) s) :
    Served i dt (posted slot g op seq args) s := by
  have hk := slotOf_lt slot
  have cmd (k : Nat) : APX_CMD k ∉ [APX_DOORBELL k] := by simp only [List.mem_singleton, APX_CMD, APX_DOORBELL]; omega
  have arg (k j : Nat) (hj : j < 4) : APX_ARG k j ∉ [APX_DOORBELL k] := by simp only [List.mem_singleton, APX_ARG, APX_DOORBELL]; omega
  obtain ⟨t, filled, post⟩ := postCommand_waits slot g op seq args (s := s.tick dt) free
  have ring : OnlyRegs [APX_DOORBELL (slotOf slot)] t (t.raise (APX_DOORBELL_GO (slotOf slot))) := OnlyRegs.set _ _ List.mem_cons_self
  have bell : (t.raise (APX_DOORBELL_GO (slotOf slot))).on (APX_DOORBELL_GO (slotOf slot)) = true := by
    rw [State.raise, State.on, State.get_set_self _ _ _ (by simp)]
    rfl
  generalize t.raise (APX_DOORBELL_GO (slotOf slot)) = u at ring post bell
  have only := filled.only.trans (ring.mono (by simp [slotRegs]))
  have still : Still u := by
    have begun := still_of_calm calm hr
    exact Still.of_slotRegs hk (s := s.tick dt) ⟨begun.pmu, begun.faults, begun.holds, begun.kept, begun.reboot, begun.alert⟩ only
  have mode : u.mode = s.mode := only.get (not_mem_slotRegs hk (by decide) (.inl (by decide)))
  have waiting : u.apex.waiting = [] := by rw [only.1]; exact hw
  refine ⟨u, only.1, ?go, ?opcode, ?seq, ?args, fun a ha => only.2 a ha, ?answer⟩
  case go => exact bell
  case opcode => exact (ring.get (cmd _)).trans filled.opcode
  case seq => exact (ring.get (cmd _)).trans filled.seq
  case args =>
    intro j hj
    have stored : (posted slot g op seq args).arg j = args.getD j 0 % 2 ^ 32 := by simp [posted, Cmd.arg, hj]
    exact ((ring.get (arg _ j hj)).trans (filled.args j hj)).trans stored.symm
  case answer => rw [posts, act, leave, post, settle_await _ still waiting (mode ▸ up)]

/-- Settles O48: posting is five writes and a doorbell, behind which nothing but the command waits. -/
theorem mailboxCommandsAreServed : Obligations.MailboxCommandsAreServed := by
  intro s dt slot seq g args calm hw hr up free
  have served (i : Instr) (op : Nat) (args : List Nat) (posts : exec i s = act dt (postCommand slot g op seq args) s) :
      Served i dt (posted slot g op seq args) s := served_of_postCommand calm hw hr up free posts
  exact ⟨served _ _ _ rfl, served _ _ _ rfl, served _ _ _ rfl, served _ _ _ rfl, served _ _ _ rfl, served _ _ _ rfl, served _ _ _ rfl,
    served _ _ _ rfl, served _ _ _ rfl, served _ _ _ rfl, served _ _ _ rfl, served _ _ _ rfl, served _ _ _ rfl, served _ _ _ rfl,
    served _ _ _ rfl, fun op => served _ op _ rfl,
    fun b off len => ⟨served _ _ _ rfl, served _ _ _ rfl, served _ _ _ rfl⟩, fun id every => served _ _ _ rfl, served _ _ _ rfl,
    served _ _ _ rfl⟩

end Sys2Proof.Machine
end

section
/-!
SUPPORT. What the mode rests on (R65–R68): the three registers that show and steer it, and Arc's drain. The engines that a change of mode sets
in motion leave them alone.
-/

namespace Sys2Proof.Machine
open Sys2Proof.Reg

/-- The registers that show and steer the part's mode. -/
def modeRegs : List Nat := [GLB_MODE, APX_SAFE_CAUSE, APX_FLOW_CTRL]

/-- What the registers of the mode hold, and whether Arc drains. -/
def State.stance (s : State) : Word64 × Word64 × Word64 × Nat := (s.reg GLB_MODE, s.reg APX_SAFE_CAUSE, s.reg APX_FLOW_CTRL, s.arc.drain)

theorem stance_eq_iff {s t : State} :
    t.stance = s.stance ↔ (∀ a ∈ modeRegs, t.reg a = s.reg a) ∧ t.arc.drain = s.arc.drain := by
  simp [State.stance, modeRegs, Prod.ext_iff, and_assoc]

theorem get_of_stance {s t : State} (h : t.stance = s.stance) {f : Fld} (hf : f.addr ∈ modeRegs) : t.get f = s.get f :=
  State.get_of_reg ((stance_eq_iff.1 h).1 _ hf)

theorem on_of_stance {s t : State} (h : t.stance = s.stance) {f : Fld} (hf : f.addr ∈ modeRegs) : t.on f = s.on f :=
  State.on_of_get (get_of_stance h hf)

theorem mode_of_stance {s t : State} (h : t.stance = s.stance) : t.mode = s.mode := get_of_stance h List.mem_cons_self

theorem drain_of_stance {s t : State} (h : t.stance = s.stance) : t.arc.drain = s.arc.drain := (stance_eq_iff.1 h).2

theorem stance_foldl {α : Type} {g : State → α → State} (h : ∀ s x, (g s x).stance = s.stance) (xs : List α) (s : State) :
    (xs.foldl g s).stance = s.stance := foldl_same State.stance h xs s

/-! ## The state's operations -/

theorem stance_set {s : State} {f : Fld} {v : Nat} (h : f.addr ≠ GLB_MODE ∧ f.addr ≠ APX_SAFE_CAUSE ∧ f.addr ≠ APX_FLOW_CTRL) :
    (s.set f v).stance = s.stance := by
  obtain ⟨mode, cause, flow⟩ := h
  refine stance_eq_iff.2 ⟨fun a ha => State.reg_set_ne s f v ?_, rfl⟩
  simp only [modeRegs, List.mem_cons, List.not_mem_nil, or_false] at ha
  grind

theorem Keeps.stance {as : List Nat} {s t : State} (h : Keeps as s t) (arc : t.arc = s.arc) (apart : ∀ a ∈ modeRegs, a ∉ as) :
    t.stance = s.stance := stance_eq_iff.2 ⟨fun a ha => h.reg (apart a ha), by rw [arc]⟩

theorem Signals.arc_eq {s t : State} (h : Signals s t) : t.arc = s.arc := by
  obtain ⟨_, _, _, rfl⟩ := h
  rfl

@[simp] theorem stance_send (s : State) (m : Msg) : (s.send m).stance = s.stance := rfl
@[simp] theorem stance_modRing (n : Nat) (g : RingState → RingState) (s : State) : (modRing n g s).stance = s.stance := rfl
@[simp] theorem stance_modAcq (u : Nat) (g : AcqUnit → AcqUnit) (s : State) : (modAcq u g s).stance = s.stance := rfl
@[simp] theorem stance_modAdc (a : Nat) (g : AdcQueue → AdcQueue) (s : State) : (modAdc a g s).stance = s.stance := rfl
@[simp] theorem stance_modSpillPage (p : Nat) (v : SpillPage) (s : State) : (modSpillPage p v s).stance = s.stance := rfl
@[simp] theorem stance_markPages (b : Bool) (p k : Nat) (s : State) : (markPages b p k s).stance = s.stance := rfl
@[simp] theorem stance_with_dma (s : State) (d : DmaState) : ({ s with dma := d } : State).stance = s.stance := rfl
@[simp] theorem stance_with_apex (s : State) (a : ApexState) : ({ s with apex := a } : State).stance = s.stance := rfl
@[simp] theorem stance_with_lat (s : State) (l : LatState) : ({ s with lat := l } : State).stance = s.stance := rfl

@[simp] theorem stance_signalSet (m : Nat) (s : State) : (signalSet m s).stance = s.stance :=
  (keeps_signalSet m s).stance (signals_signalSet m s).arc_eq (by decide)

@[simp] theorem stance_withGroup (g : Nat) (f : State → State) (s : State) : (withGroup g f s).stance = (f s).stance :=
  stance_signalSet _ _

theorem edgeSource_lt {n : Nat} (h : edgeSource n = true) : n < 512 := by
  by_contra big
  unfold edgeSource at h
  simp only [show ¬n < 256 by omega, show ¬n < 288 by omega, show ¬n < 320 by omega, show ¬n < 384 by omega, show ¬n < 416 by omega,
    show ¬n < 432 by omega, show ¬n < 448 by omega, show ¬n < 464 by omega, show ¬n < 480 by omega, show ¬n < 496 by omega, if_false,
    decide_eq_true_eq] at h
  omega

@[simp] theorem stance_pend (n : Nat) (s : State) : (pend n s).stance = s.stance := by
  unfold pend
  split
  case isTrue =>
    have source : n < 512 := edgeSource_lt (by simp_all)
    rw [stance_withGroup]
    exact stance_set (by grind)
  case isFalse => rfl

/-! ## Pages, translations and records -/

@[simp] theorem stance_setFree (n : Nat) (s : State) : (setFree n s).stance = s.stance := by
  unfold setFree
  simp only [stance_withGroup]
  split
  · simp (disch := decide) [stance_set]
  · split <;> simp (disch := decide) [stance_set]

@[simp] theorem stance_freePages (p k : Nat) (s : State) : (freePages p k s).stance = s.stance := by
  simp [freePages]

@[simp] theorem stance_countSpillPages (s : State) : (countSpillPages s).stance = s.stance := stance_set (by decide)

@[simp] theorem stance_cacheLookup (page : Nat) (write : Bool) (s : State) : (cacheLookup page write s).2.stance = s.stance := by
  unfold cacheLookup
  split <;> rfl

@[simp] theorem stance_sendTranslations (s : State) : (sendTranslations s).stance = s.stance := by
  unfold sendTranslations
  split
  · rfl
  · refine stance_foldl (fun s w => ?_) _ _
    split <;> rfl

@[simp] theorem stance_translate (who : Requester) (addr : Nat) (write : Bool) (s : State) :
    (translate who addr write s).2.stance = s.stance := by
  have looked := stance_cacheLookup (pageOf addr) write s
  unfold translate
  split
  · rfl
  · generalize cacheLookup (pageOf addr) write s = found at looked
    obtain ⟨hit, t⟩ := found
    cases hit
    · dsimp only
      split
      · exact looked
      · simpa using looked
    · exact looked

@[simp] theorem stance_sendPageRequests (s : State) : (sendPageRequests s).stance = s.stance := by
  unfold sendPageRequests
  rw [stance_set (by decide)]
  refine stance_foldl (fun s p => ?_) _ _
  split <;> rfl

@[simp] theorem stance_writeBack (n : Nat) (s : State) : (writeBack n s).stance = s.stance := by
  have asked := stance_translate (.writeBack n) (s.get (RNG_WB_ADDR_ADDR n)) true s
  unfold writeBack
  split
  · rfl
  · split
    · rfl
    · generalize translate (.writeBack n) (s.get (RNG_WB_ADDR_ADDR n)) true s = answer at asked
      obtain ⟨go, t⟩ := answer
      cases go <;> exact asked

@[simp] theorem stance_loseRecord (n : Nat) (s : State) : (loseRecord n s).stance = s.stance := by
  have counted : (((s.countSat (RNG_LOST_COUNT n) 1).countSat DMA_LOST_RECS_COUNT 1).raise (RNG_STAT_LOSS n)).stance = s.stance := by
    simp only [State.countSat, State.raise]
    rw [stance_set (by grind), stance_set (by decide), stance_set (by grind)]
  unfold loseRecord
  dsimp only
  split
  · rw [stance_modRing, counted]
  · exact counted

theorem stance_takePages {k p : Nat} {s t : State} (h : takePages k s = some (p, t)) : t.stance = s.stance := by
  simp only [takePages, Option.ite_none_left_eq_some, Option.some.injEq, Prod.mk.injEq] at h
  obtain ⟨-, -, rfl⟩ := h
  rw [stance_setFree, stance_markPages]
  rfl

theorem stance_spillRoom {len p : Nat} {s t : State} (h : spillRoom len s = some (p, t)) : t.stance = s.stance := by
  unfold spillRoom at h
  have fresh : ∀ {q u v}, takePages 1 s = some (q, u) →
      some (q, countSpillPages (modSpillPage q ⟨len, 1⟩ { u with dma := { u.dma with spillPage := some q } })) = some (p, v) →
      v.stance = s.stance := by
    intro q u v taken same
    cases same
    rw [stance_countSpillPages, stance_modSpillPage, stance_with_dma, stance_takePages taken]
  cases taken : takePages 1 s with
  | none =>
    simp only [taken] at h
    split at h
    · split at h
      · cases h; rfl
      · cases h
    · cases h
  | some page =>
    simp only [taken] at h
    split at h
    · split at h
      · cases h; rfl
      · exact fresh taken h
    · exact fresh taken h

@[simp] theorem stance_spillRecord (n : Nat) (x : Rec) (s : State) : (spillRecord n x s).2.stance = s.stance := by
  unfold spillRecord
  dsimp only
  split
  case h_1 p t room =>
    dsimp only
    rw [stance_set (by grind), stance_modRing, stance_spillRoom room]
  case h_2 =>
    split
    · dsimp only [State.count]
      rw [stance_set (by decide), stance_set (by grind), stance_modRing]
    · exact stance_loseRecord n s

@[simp] theorem stance_loseWaiting (v : Nat) (x : Rec) (s : State) : (loseWaiting v x s).stance = s.stance := by
  unfold loseWaiting
  dsimp only
  split
  · rfl
  · split
    · rfl
    · rw [stance_modRing, stance_modRing]

@[simp] theorem stance_spillQueue (n : Nat) (s : State) : (spillQueue n s).stance = s.stance := by
  unfold spillQueue
  rw [stance_foldl, stance_modRing]
  intro s x
  have spilled := stance_spillRecord n x s
  generalize spillRecord n x s = answer at spilled
  obtain ⟨kept, t⟩ := answer
  cases kept
  · dsimp only
    split
    · exact (stance_loseWaiting _ _ _).trans spilled
    · exact spilled
  · exact spilled

@[simp] theorem stance_parkRing (n cause : Nat) (s : State) : (parkRing n cause s).stance = s.stance := by
  unfold parkRing
  dsimp only [State.countSat]
  split
  · rw [stance_modRing, stance_set (by grind), stance_set (by grind)]
  · rw [stance_writeBack, stance_spillQueue, stance_pend]
    iterate 5 rw [stance_set (by grind)]

@[simp] theorem stance_unparkRing (n : Nat) (s : State) : (unparkRing n s).stance = s.stance := by
  unfold unparkRing
  dsimp only
  rw [stance_writeBack, stance_pend, stance_set (by grind), stance_set (by grind), stance_set (by grind)]

@[simp] theorem stance_startTransfer (n : Nat) (s : State) : (startTransfer n s).stance = s.stance := by
  unfold startTransfer
  split
  · rfl
  · split
    · rfl
    · split
      · split
        · exact stance_unparkRing n s
        · rfl
      · split
        · exact stance_parkRing n _ s
        · dsimp only
          split
          · rfl
          · split
            · rfl
            · have asked := stance_translate (.ring n) (s.entryAddr n (s.get (RNG_PROD_PROD n))) true s
              generalize translate (.ring n) (s.entryAddr n (s.get (RNG_PROD_PROD n))) true s = answer at asked
              obtain ⟨go, t⟩ := answer
              cases go <;> exact asked

/-! ## Acquisition -/

@[simp] theorem stance_setAq (u st : Nat) (s : State) : (setAq u st s).stance = s.stance := stance_set (by grind)

@[simp] theorem stance_aqAlarm (u : Nat) (s : State) : (aqAlarm u s).stance = s.stance := stance_pend _ s

theorem stance_raiseAq {u : Nat} {f : Fld} {s : State}
    (h : f.addr ≠ GLB_MODE ∧ f.addr ≠ APX_SAFE_CAUSE ∧ f.addr ≠ APX_FLOW_CTRL) : (raiseAq u f s).stance = s.stance := by
  unfold raiseAq
  split
  · rfl
  · rw [stance_aqAlarm, State.raise, stance_set h]

@[simp] theorem stance_releaseUnit (u : Nat) (s : State) : (releaseUnit u s).stance = s.stance := by
  unfold releaseUnit
  dsimp only
  rw [stance_setAq, stance_set (by grind)]
  split
  · rw [stance_modAdc, stance_modAcq, stance_foldl fun s p => stance_freePages p 1 s]
  · rw [stance_modAcq, stance_foldl fun s p => stance_freePages p 1 s]

@[simp] theorem stance_deliverDone (u : Nat) (s : State) : (deliverDone u s).stance = s.stance := by
  unfold deliverDone
  split
  · exact stance_releaseUnit u s
  · rfl

@[simp] theorem stance_spillBlocks (u : Nat) (s : State) : (spillBlocks u s).stance = s.stance := by
  unfold spillBlocks
  refine stance_foldl (fun s i => ?_) _ s
  dsimp only
  split
  · split
    · rfl
    · split
      case h_1 => rfl
      case h_2 taken => rw [stance_modAcq, stance_countSpillPages, stance_modSpillPage, stance_takePages taken]
  · rfl

@[simp] theorem stance_startBlock (u : Nat) (s : State) : (startBlock u s).stance = s.stance := by
  unfold startBlock
  dsimp only
  split
  · rfl
  · split
    · exact stance_spillBlocks u s
    · split
      · rfl
      · split
        · rfl
        · split
          · rfl
          · have asked := stance_translate (.acq u) (s.destSlot u) true s
            generalize translate (.acq u) (s.destSlot u) true s = answer at asked
            obtain ⟨go, t⟩ := answer
            cases go <;> exact asked

@[simp] theorem stance_queueBlock (u : Nat) (b : AcqBlock) (s : State) : (queueBlock u b s).stance = s.stance := by
  rw [queueBlock, stance_startBlock, stance_modAcq]

@[simp] theorem stance_queueCapture (u : Nat) (items : List AcqItem) (trig : Option Nat) (ended : Bool) (s : State) :
    (queueCapture u items trig ended s).stance = s.stance :=
  stance_foldl (fun s b => stance_queueBlock u b s) _ s

@[simp] theorem stance_closeStreamBlock (u : Nat) (last ended : Bool) (s : State) : (closeStreamBlock u last ended s).stance = s.stance := by
  unfold closeStreamBlock
  dsimp only
  split
  · rfl
  · rw [stance_queueBlock, stance_modAcq]

@[simp] theorem stance_endCapture (u : Nat) (ended : Bool) (s : State) : (endCapture u ended s).stance = s.stance := by
  unfold endCapture
  dsimp only
  rw [stance_deliverDone, stance_queueCapture, stance_setAq, stance_modAcq]
  split
  · exact stance_raiseAq (by grind)
  · rfl

theorem stance_ite {c : Prop} [Decidable c] {s t u : State} (ht : t.stance = s.stance) (hu : u.stance = s.stance) :
    (if c then t else u).stance = s.stance := by
  split
  · exact ht
  · exact hu

@[simp] theorem stance_storeItem (u : Nat) (i : AcqItem) (s : State) : (storeItem u i s).stance = s.stance := by
  unfold storeItem
  dsimp only
  split
  case isTrue =>
    refine (stance_ite (stance_closeStreamBlock u false false _) rfl).trans ?_
    rw [stance_modAcq]
    exact stance_ite (stance_closeStreamBlock u false false s) rfl
  case isFalse =>
    refine stance_ite ?_ rfl
    refine (stance_ite (stance_setAq u aqReady _) ?_).trans (stance_ite (stance_set (by grind)) rfl)
    split
    · exact stance_ite (stance_endCapture u false _) rfl
    · rfl

/-- The item that was begun, if there is one, is stored as it is: what `stopUnit` does first. -/
def flushPart (u : Nat) (s : State) : State :=
  match (s.acqUnit u).part with
  | some (_, i) => storeItem u i (modAcq u (fun x => { x with part := none }) s)
  | none => s

theorem stance_flushPart (u : Nat) (s : State) : (flushPart u s).stance = s.stance := by
  unfold flushPart
  split
  · rw [stance_storeItem, stance_modAcq]
  · rfl

@[simp] theorem stance_stopUnit (u : Nat) (s : State) : (stopUnit u s).stance = s.stance := by
  have flushed := stance_flushPart u s
  unfold stopUnit
  dsimp only
  refine stance_ite ?fill (stance_ite ?post (stance_ite ?stream rfl))
  case fill => rw [stance_deliverDone, stance_setAq, stance_modAcq]
  case post =>
    show (if (flushPart u s).aqState u = aqPost then endCapture u true (flushPart u s) else flushPart u s).stance = s.stance
    exact stance_ite ((stance_endCapture u true _).trans flushed) flushed
  case stream =>
    have ended : (setAq u aqDeliver (raiseAq u (ACQ_U_STAT_ENDED u) (flushPart u s))).stance = s.stance := by
      rw [stance_setAq, stance_raiseAq (by grind), flushed]
    refine stance_ite (Eq.trans ?_ ended) ((stance_closeStreamBlock u true true _).trans ended)
    split
    · rfl
    · exact (stance_deliverDone u _).trans (stance_pend _ _)

@[simp] theorem stance_acqModeChange (s : State) : (acqModeChange s).stance = s.stance := by
  refine stance_foldl (fun s u => ?_) _ s
  exact stance_ite rfl (stance_stopUnit u s)

@[simp] theorem stance_kickDma (s : State) : (kickDma s).stance = s.stance := by
  unfold kickDma
  dsimp only
  rw [stance_sendPageRequests, stance_sendTranslations, stance_foldl (fun s u => stance_startBlock u s), stance_foldl]
  intro s e
  rw [stance_startTransfer]
  exact stance_ite (stance_writeBack e.1 s) rfl

/-! ## The log, confirmation of a firmware slot, and Arc's operations in hand -/

@[simp] theorem stance_exportEntry (bs : List Byte) (s : State) : (exportEntry bs s).stance = s.stance := by
  unfold exportEntry
  dsimp only [State.count]
  refine stance_ite ?_ rfl
  rw [stance_set (by decide), stance_send]

@[simp] theorem stance_bufferEntry (e : LogEntry) (s : State) : (bufferEntry e s).stance = s.stance := by
  unfold bufferEntry
  dsimp only [withLevel, State.count]
  rw [stance_withGroup, stance_set (by decide), stance_set (by decide), stance_with_apex, stance_exportEntry]

@[simp] theorem stance_logEvent (type arg : Nat) (data : List Byte) (s : State) : (logEvent type arg data s).stance = s.stance := by
  have lost (s : State) : (s.countSat APX_LOG_LOST_COUNT 1).stance = s.stance := stance_set (by decide)
  unfold logEvent
  dsimp only
  refine stance_ite rfl (stance_ite ?_ (stance_ite (stance_ite ?_ ?_) (stance_bufferEntry _ s)))
  · rw [stance_pend, stance_with_apex, lost]
  · rw [stance_pend, stance_with_apex, lost, stance_bufferEntry, stance_with_apex]
  · rw [stance_bufferEntry, stance_bufferEntry, stance_with_apex]

@[simp] theorem stance_writeFlag (k i : Nat) (s : State) : (writeFlag k i s).stance = s.stance := by
  unfold writeFlag
  split <;> rfl

@[simp] theorem stance_showSlots (s : State) : (showSlots s).stance = s.stance := by
  unfold showSlots
  dsimp only
  rw [stance_set (by decide), stance_set (by decide), stance_set (by decide)]

@[simp] theorem stance_confirmSlot (s : State) : (confirmSlot s).stance = s.stance := by
  unfold confirmSlot
  refine stance_ite rfl ?_
  dsimp only [State.fresh]
  generalize hu : ({ s with apex := { s.apex with run := { s.apex.run with confirm := false } } } : State) = u
  have base : u.stance = s.stance := hu ▸ rfl
  have flagged {c : Prop} [Decidable c] {k : Nat} : (if c then writeFlag k 2 u else u).stance = s.stance :=
    stance_ite ((stance_writeFlag k 2 u).trans base) base
  have raised {c d : Prop} [Decidable c] [Decidable d] {k v : Nat} : (if d then (if c then writeFlag k 2 u else u).set APX_FW_SVN_ROLLBACK v
      else if c then writeFlag k 2 u else u).stance = s.stance := stance_ite ((stance_set (by decide)).trans flagged) flagged
  refine stance_ite ?_ raised
  rw [stance_logEvent, stance_pend, stance_showSlots]
  exact raised

theorem stance_modArc {g : ArcState → ArcState} (h : ∀ a, (g a).drain = a.drain) (s : State) : (modArc g s).stance = s.stance :=
  stance_eq_iff.2 ⟨fun _ _ => rfl, h s.arc⟩

@[simp] theorem stance_modChord (k : Nat) (g : ArcChord → ArcChord) (s : State) : (modChord k g s).stance = s.stance :=
  rfl

@[simp] theorem stance_setOp (v : Nat) (o : Option ArcOp) (s : State) : (setOp v o s).stance = s.stance := stance_modArc (fun _ => rfl) s

@[simp] theorem stance_letGo (v : Nat) (s : State) : (letGo v s).stance = s.stance := by
  rw [letGo, enterV, stance_set (by grind), stance_set (by grind), stance_setOp, leaveGather, stance_modChord]

@[simp] theorem stance_letAllGo (s : State) : (letAllGo s).stance = s.stance := by
  unfold letAllGo
  dsimp only
  rw [stance_foldl (fun s k => stance_modChord k _ s), stance_foldl]
  intro s e
  split
  · exact stance_ite (stance_letGo e.1 s) rfl
  · rfl

/-! ## A change of mode -/

/-- `enterMode` changes GLB_MODE alone of what the mode rests on. -/
theorem stance_enterMode (m : Nat) (s : State) :
    (enterMode m s).stance = ((s.set GLB_MODE_PREV_MODE s.mode).set GLB_MODE_MODE m).stance := by
  rw [enterMode, stance_logEvent, stance_pend]

theorem mode_enterMode {m : Nat} (hm : m < 8) (s : State) : (enterMode m s).mode = m := by
  rw [mode_of_stance (stance_enterMode m s)]
  exact (State.get_set_self _ _ _ (by decide)).trans (Nat.mod_eq_of_lt hm)

theorem get_enterMode (m : Nat) (s : State) {f : Fld} (hf : f.addr ∈ [APX_SAFE_CAUSE, APX_FLOW_CTRL]) :
    (enterMode m s).get f = s.get f := by
  have apart : f.addr ≠ GLB_MODE := by
    rintro he
    rw [he] at hf
    exact absurd hf (by decide)
  rw [get_of_stance (stance_enterMode m s) (List.mem_cons_of_mem _ hf), State.get_set_ne _ _ _ _ apart, State.get_set_ne _ _ _ _ apart]

theorem drain_enterMode (m : Nat) (s : State) : (enterMode m s).arc.drain = s.arc.drain := by
  rw [drain_of_stance (stance_enterMode m s)]
  rfl

/-! ## The answer to a command (R81) -/

/-- The registers that a log entry and the events of source group 28 write. -/
def logRegs : List Nat :=
  [APX_LOG_EXP_PROD, APX_LOG_SEQ, APX_LOG_STAT, APX_LOG_LOST, ICL_PEND 28, DMA_MSIX_PBA 0]

theorem keeps_bufferEntry (e : LogEntry) (s : State) : Keeps logRegs s (bufferEntry e s) := by
  have exported : Keeps logRegs s (exportEntry (logBytes (s.get APX_LOG_SEQ_SEQ) e) s) := by
    unfold exportEntry
    dsimp only [State.count]
    split
    · exact Keeps.trans ⟨fun _ _ => rfl, rfl, rfl, rfl, rfl, rfl⟩ (keeps_set _ _ (by decide))
    · exact Keeps.refl _ s
  refine exported.trans (Keeps.withGroup ?_ (by decide))
  exact Keeps.trans (Keeps.trans ⟨fun _ _ => rfl, rfl, rfl, rfl, rfl, rfl⟩ (keeps_set _ _ (by decide))) (keeps_set _ _ (by decide))

theorem Keeps.ite {as : List Nat} {c : Prop} [Decidable c] {s t u : State} (ht : Keeps as s t) (hu : Keeps as s u) :
    Keeps as s (if c then t else u) := by
  split
  · exact ht
  · exact hu

theorem keeps_logEvent (type arg : Nat) (data : List Byte) (s : State) : Keeps logRegs s (logEvent type arg data s) := by
  have withApex (s : State) (a : ApexState) : Keeps logRegs s { s with apex := a } := ⟨fun _ _ => rfl, rfl, rfl, rfl, rfl, rfl⟩
  have lost (s : State) (a : ApexState) : Keeps logRegs s (pend 456 { s.countSat APX_LOG_LOST_COUNT 1 with apex := a }) :=
    ((keeps_set s _ (by decide)).trans (withApex _ a)).trans ((keeps_pend 456 _).mono (by decide))
  unfold logEvent
  dsimp only
  refine (Keeps.refl _ s).ite ((lost s _).ite (Keeps.ite (Keeps.ite ?_ ?_) (keeps_bufferEntry _ s)))
  · exact ((withApex s _).trans (keeps_bufferEntry _ _)).trans (lost _ _)
  · exact ((withApex s _).trans (keeps_bufferEntry _ _)).trans (keeps_bufferEntry _ _)

/-- The registers of the answer that `respond` shows, and the doorbell that it takes back. -/
def shown (c : Cmd) (first : Bool) (status : Nat) (abandoned : Bool) (d0 d1 : Nat) (s : State) : State :=
  let t := (((((s.set (APX_RESP_STATUS c.slot) status).set (APX_RESP_SEQ c.slot) c.seq).set
    (APX_RESP_FINAL c.slot) (if status = stQueued then 0 else 1)).set (APX_RESP_ABANDONED c.slot) (bit01 abandoned)).set
    (APX_RESP_DATA_DATA c.slot 0) d0).set (APX_RESP_DATA_DATA c.slot 1) d1
  if first then t.set (APX_DOORBELL_GO c.slot) 0 else t

/-- Beyond what it shows, an answer marks the SMBus's (R81), pends its source and enters the log. -/
theorem respond_eq (c : Cmd) (first : Bool) (status : Nat) (abandoned : Bool) (d0 d1 : Nat) (s : State) :
    ∃ smb, respond c first status abandoned d0 d1 s =
      logEvent logCommand (c.opcode + 256 * status) [] (pend (448 + c.slot) { shown c first status abandoned d0 d1 s with smb := smb }) := by
  by_cases slot : c.slot = 1
  · exact ⟨_, by rw [respond, if_pos slot]; rfl⟩
  · exact ⟨(shown c first status abandoned d0 d1 s).smb, by rw [respond, if_neg slot]; rfl⟩

theorem get_respond {c : Cmd} (slot : c.slot < 2) {first : Bool} {status : Nat} {abandoned : Bool} {d0 d1 : Nat} {s : State} {f : Fld}
    (hf : f.addr ∉ logRegs) : (respond c first status abandoned d0 d1 s).get f = (shown c first status abandoned d0 d1 s).get f := by
  obtain ⟨smb, answered⟩ := respond_eq c first status abandoned d0 d1 s
  have group : (448 + c.slot) / 16 = 28 := by omega
  have pended := keeps_pend (448 + c.slot) { shown c first status abandoned d0 d1 s with smb := smb }
  rw [group] at pended
  rw [answered, (keeps_logEvent _ _ _ _).get hf, (pended.mono (bs := logRegs) (by decide)).get hf]
  rfl

theorem stance_respond (c : Cmd) (first : Bool) (status : Nat) (abandoned : Bool) (d0 d1 : Nat) (s : State) :
    (respond c first status abandoned d0 d1 s).stance = s.stance := by
  obtain ⟨smb, answered⟩ := respond_eq c first status abandoned d0 d1 s
  rw [answered, stance_logEvent, stance_pend]
  show (shown c first status abandoned d0 d1 s).stance = s.stance
  unfold shown
  dsimp only
  refine stance_ite ((stance_set (by grind)).trans ?_) ?_
  all_goals iterate 6 rw [stance_set (by grind)]

theorem stance_finishJob (c : Cmd) (status d0 : Nat) (s : State) : (finishJob c status d0 s).stance = s.stance := by
  unfold finishJob answerJob
  exact stance_ite (stance_respond c false status false d0 0 _) rfl

end Sys2Proof.Machine
end

section
/-!
SUPPORT. Serving a mailbox command (R80, R81): its answer, and the modes that the commands enter.
-/

namespace Sys2Proof.Machine
open Sys2Proof.Reg

theorem get_shown_resp {c : Cmd} {status : Nat} {abandoned : Bool} {d0 d1 : Nat} {s : State} {f : Fld} (hf : f.addr = APX_RESP c.slot) :
    (shown c true status abandoned d0 d1 s).get f =
      ((((s.set (APX_RESP_STATUS c.slot) status).set (APX_RESP_SEQ c.slot) c.seq).set
        (APX_RESP_FINAL c.slot) (if status = stQueued then 0 else 1)).set (APX_RESP_ABANDONED c.slot) (bit01 abandoned)).get f := by
  rw [shown, if_pos rfl, State.get_set_ne _ _ _ _ (by grind), State.get_set_ne _ _ _ _ (by grind), State.get_set_ne _ _ _ _ (by grind)]

theorem resp_not_mem_logRegs {k : Nat} (hk : k < 2) : APX_RESP k ∉ logRegs ∧ APX_RESP_DATA k 0 ∉ logRegs ∧ APX_DOORBELL k ∉ logRegs := by
  have table : ∀ k < 2, APX_RESP k ∉ logRegs ∧ APX_RESP_DATA k 0 ∉ logRegs ∧ APX_DOORBELL k ∉ logRegs := by decide
  exact table k hk

section
variable {c : Cmd} (slot : c.slot < 2) (status d0 d1 : Nat) (s : State)
include slot

theorem get_answer_status : (answer c status d0 d1 s).get (APX_RESP_STATUS c.slot) = status % 256 := by
  rw [answer, get_respond slot (resp_not_mem_logRegs slot).1, get_shown_resp rfl, State.get_set_apart _ _ _ _ (by simp) (by simp),
    State.get_set_apart _ _ _ _ (by simp) (by simp), State.get_set_apart _ _ _ _ (by simp) (by simp), State.get_set_self _ _ _ (by simp)]
  rfl

theorem get_answer_seq : (answer c status d0 d1 s).get (APX_RESP_SEQ c.slot) = c.seq % 256 := by
  rw [answer, get_respond slot (resp_not_mem_logRegs slot).1, get_shown_resp rfl, State.get_set_apart _ _ _ _ (by simp) (by simp),
    State.get_set_apart _ _ _ _ (by simp) (by simp), State.get_set_self _ _ _ (by simp)]
  rfl

theorem on_answer_final : (answer c status d0 d1 s).on (APX_RESP_FINAL c.slot) = decide (status ≠ stQueued) := by
  rw [State.on, answer, get_respond slot (resp_not_mem_logRegs slot).1, get_shown_resp rfl, State.get_set_apart _ _ _ _ (by simp) (by simp),
    State.get_set_self _ _ _ (by simp)]
  split <;> simp_all

theorem get_answer_data : (answer c status d0 d1 s).get (APX_RESP_DATA_DATA c.slot 0) = d0 % 2 ^ 32 := by
  rw [answer, get_respond slot (resp_not_mem_logRegs slot).2.1, shown, if_pos rfl, State.get_set_ne _ _ _ _ (by grind),
    State.get_set_ne _ _ _ _ (by grind), State.get_set_self _ _ _ (by simp)]

theorem on_answer_go : (answer c status d0 d1 s).on (APX_DOORBELL_GO c.slot) = false := by
  rw [State.on, answer, get_respond slot (resp_not_mem_logRegs slot).2.2, shown, if_pos rfl, State.get_set_self _ _ _ (by simp)]
  rfl

end

theorem stance_answer (c : Cmd) (status d0 d1 : Nat) (s : State) : (answer c status d0 d1 s).stance = s.stance :=
  stance_respond c true status false d0 d1 s

/-! ## The modes that the commands enter -/

theorem mode_enterRunning {m : Nat} (hm : m < 8) (s : State) : (enterRunning m s).mode = m := by
  rw [enterRunning, mode_of_stance (stance_acqModeChange _), mode_enterMode hm]

theorem mode_enterDoze (s : State) : (enterDoze s).mode = modeDoze := by
  rw [enterDoze, mode_of_stance (stance_acqModeChange _), mode_enterMode (by decide)]

theorem on_enterAuto_running (s : State) : (enterAuto s).on APX_FLOW_CTRL_RUNNING = true := by
  rw [enterAuto, enterRunning, on_of_stance (stance_acqModeChange _) (by decide), State.on, get_enterMode _ _ (by decide),
    State.get_set_self _ _ _ (by decide)]
  rfl

/-- SAFE is entered last, behind the stops of all engines; only DMA held back by DOZE resumes after it (R66). -/
theorem stance_goSafe (cause : Fld) (s : State) :
    ∃ u : State, (goSafe cause s).stance = (enterMode modeSafe (endFlow (u.raise cause))).stance := by
  unfold goSafe
  dsimp only
  exact ⟨_, stance_ite ((stance_kickDma _).trans ((stance_set (by decide)).trans (stance_acqModeChange _))) (stance_acqModeChange _)⟩

theorem mode_goSafe (cause : Fld) (s : State) : (goSafe cause s).mode = modeSafe := by
  obtain ⟨u, safe⟩ := stance_goSafe cause s
  rw [mode_of_stance safe, mode_enterMode (by decide)]

theorem get_endFlow (s : State) {f : Fld} (hf : f.addr ≠ APX_FLOW_CTRL) : (endFlow s).get f = s.get f := by
  show ((s.set APX_FLOW_CTRL_STOP 0).set APX_FLOW_CTRL_RUNNING 0).get f = s.get f
  rw [State.get_set_ne _ _ _ _ hf, State.get_set_ne _ _ _ _ hf]

theorem on_endFlow_running (s : State) : (endFlow s).on APX_FLOW_CTRL_RUNNING = false := by
  show ((s.set APX_FLOW_CTRL_STOP 0).set APX_FLOW_CTRL_RUNNING 0).on APX_FLOW_CTRL_RUNNING = false
  rw [State.on, State.get_set_self _ _ _ (by decide)]
  rfl

theorem on_goSafe_command (s : State) : (goSafe APX_SAFE_CAUSE_COMMAND s).on APX_SAFE_CAUSE_COMMAND = true := by
  obtain ⟨u, safe⟩ := stance_goSafe APX_SAFE_CAUSE_COMMAND s
  rw [on_of_stance safe (by decide), State.on, get_enterMode _ _ (by decide), get_endFlow _ (by decide), State.raise,
    State.get_set_self _ _ _ (by decide)]
  rfl

/-! ## Drains and flows (R68, R420) -/

theorem mode_drainComplete {s : State} (draining : s.arc.drain = 1) (empty : s.get ARC_STAT_INFLIGHT = 0) (running : s.running = true) :
    (drainComplete s).mode = modeIdle ∧ (drainComplete s).arc.drain = 0 := by
  have goes : ¬(s.arc.drain ≠ 1 ∨ s.get ARC_STAT_INFLIGHT ≠ 0 ∨ (!s.running) = true) := by simp [draining, empty, running]
  have idle : (drainComplete s).stance =
      (enterMode modeIdle (modArc (fun a => { a with drain := 0 }) (abortAllMeasurements (parkPart s)))).stance := by
    rw [drainComplete, if_neg goes]
    dsimp only
    rw [stance_foldl fun s c => stance_finishJob c stOk 0 s, stance_acqModeChange]
  constructor
  · rw [mode_of_stance idle, mode_enterMode (by decide)]
  · rw [drain_of_stance idle, drain_enterMode]
    rfl

/-- The drain that begins at the end of a flow leaves the flow's register as it is (R68). -/
theorem stance_beginDrainIdle {s : State} (ended : s.on APX_FLOW_CTRL_RUNNING = false) :
    (beginDrainIdle s).stance = (modArc (fun a => { a with drain := 1 }) s).stance := by
  have let_go := stance_letAllGo (modArc (fun a => { a with drain := 1 }) s)
  have off : (letAllGo (modArc (fun a => { a with drain := 1 }) s)).on APX_FLOW_CTRL_RUNNING = false :=
    (on_of_stance let_go (by decide)).trans ended
  rw [beginDrainIdle]
  dsimp only
  rw [if_neg (by simp [off]), let_go]

theorem flowReturns_of_running {s : State} (flows : s.on APX_FLOW_CTRL_RUNNING = true) (auto : s.mode = modeAuto) (free : s.arc.drain = 0) :
    (flowReturns s).arc.drain = 1 ∧ (flowReturns s).on APX_FLOW_CTRL_RUNNING = false := by
  have pended := stance_pend 450 (endFlow s)
  have mode : (pend 450 (endFlow s)).mode = modeAuto := by
    rw [mode_of_stance pended, State.mode, get_endFlow _ (by decide)]
    exact auto
  have drain : (pend 450 (endFlow s)).arc.drain = 0 := (drain_of_stance pended).trans free
  have ended : (pend 450 (endFlow s)).on APX_FLOW_CTRL_RUNNING = false := (on_of_stance pended (by decide)).trans (on_endFlow_running s)
  have begun := stance_beginDrainIdle ended
  have returned : flowReturns s = beginDrainIdle (pend 450 (endFlow s)) := by
    rw [flowReturns, if_neg (by simp [flows])]
    exact if_pos ⟨mode, drain⟩
  rw [returned]
  exact ⟨(drain_of_stance begun).trans rfl, (on_of_stance begun (by decide)).trans ended⟩

end Sys2Proof.Machine
end

section
/-!
PROOFS. Serving a mailbox command.
-/

namespace Sys2Proof.Machine
open Sys2Proof.Reg

theorem serve_refused {s : State} {c : Cmd} {st : Nat} (refused : s.refusal c = some st) :
    serve c s = answer c st 0 0 (if st = stIllegal then s.countSat APX_CMD_REJECT_COUNT_COUNT 1 else s) := by
  rw [serve, refused]

theorem serve_accepted {s : State} {c : Cmd} (accepted : s.refusal c = none) : serve c s = perform c s := by
  rw [serve, accepted]

theorem answer_shows {c : Cmd} (slot : c.slot < 2) {st : Nat} (small : st < 256) (d0 d1 : Nat) (s : State) :
    let t := answer c st d0 d1 s
    t.get (APX_RESP_STATUS c.slot) = st ∧ t.get (APX_RESP_SEQ c.slot) = c.seq % 256 ∧
      t.on (APX_RESP_FINAL c.slot) = decide (st ≠ stQueued) ∧ t.get (APX_RESP_DATA_DATA c.slot 0) = d0 % 2 ^ 32 ∧
      t.on (APX_DOORBELL_GO c.slot) = false ∧ t.mode = s.mode :=
  ⟨(get_answer_status slot st d0 d1 s).trans (Nat.mod_eq_of_lt small), get_answer_seq slot st d0 d1 s, on_answer_final slot st d0 d1 s,
    get_answer_data slot st d0 d1 s, on_answer_go slot st d0 d1 s, mode_of_stance (stance_answer c st d0 d1 s)⟩

/-! ## Each command where its test of R80 lets it act -/

section
variable {s : State} {c : Cmd} (accepted : s.refusal c = none) (legal : s.legality c.opcode = 1)
include accepted legal

theorem serve_status (op : c.opcode = opStatus) :
    serve c s = answer c stOk (s.reg GLB_MODE).toNat (s.reg APX_SAFE_CAUSE).toNat s := by
  rw [serve_accepted accepted, perform, if_neg (by simp [legal]), op]
  rfl

theorem serve_goHost (op : c.opcode = opGoHost) : serve c s = answer c stOk 0 0 (enterRunning modeHost s) := by
  rw [serve_accepted accepted, perform, if_neg (by simp [legal]), op]
  rfl

theorem serve_goAuto (op : c.opcode = opGoAuto) : serve c s = answer c stOk 0 0 (enterAuto s) := by
  rw [serve_accepted accepted, perform, if_neg (by simp [legal]), op]
  rfl

theorem serve_goDoze (op : c.opcode = opGoDoze) : serve c s = answer c stOk 0 0 (enterDoze s) := by
  rw [serve_accepted accepted, perform, if_neg (by simp [legal]), op]
  rfl

theorem serve_enterSafe (op : c.opcode = opEnterSafe) : serve c s = doEnterSafe c s := by
  rw [serve_accepted accepted, perform, if_neg (by simp [legal]), op]
  rfl

theorem serve_clearSafe (op : c.opcode = opClearSafe) : serve c s = doClearSafe c s := by
  rw [serve_accepted accepted, perform, if_neg (by simp [legal]), op]
  rfl

theorem serve_clearShutdown (op : c.opcode = opClearShutdown) (off : s.on THM_LEVEL_SHUTDOWN = false) : serve c s = answer c stOk 2 0 s := by
  rw [serve_accepted accepted, perform, if_neg (by simp [legal]), op]
  exact if_pos (by simp [off])

theorem serve_reboot (op : c.opcode = opReboot) : serve c s = askReboot s := by
  rw [serve_accepted accepted, perform, if_neg (by simp [legal]), op]
  rfl

theorem serve_calibrate (op : c.opcode = opCalibrate) : serve c s = queueCal 1 c (answerQueued c s) := by
  rw [serve_accepted accepted, perform, if_neg (by simp [legal]), op]
  rfl

theorem serve_selftest (op : c.opcode = opSelftest) : serve c s = queueCal 2 c (answerQueued c s) := by
  rw [serve_accepted accepted, perform, if_neg (by simp [legal]), op]
  rfl

theorem serve_trimRefresh (op : c.opcode = opTrimRefresh) : serve c s = queueCal 3 c (answerQueued c s) := by
  rw [serve_accepted accepted, perform, if_neg (by simp [legal]), op]
  rfl

theorem serve_logCompact (op : c.opcode = opLogCompact) : serve c s = queueNvm .compact (some c) (answerQueued c s) := by
  rw [serve_accepted accepted, perform, if_neg (by simp [legal]), op]
  rfl

end

/-! ## What ENTER_SAFE, CLEAR_SAFE and REBOOT leave -/

/-- A shutdown sequence goes on under ENTER_SAFE (log 35); otherwise SAFE is entered (R66). -/
theorem doEnterSafe_leaves (c : Cmd) (s : State) :
    (doEnterSafe c s).on APX_SAFE_CAUSE_COMMAND = true ∧ (s.therm.stage = 0 → (doEnterSafe c s).mode = modeSafe) ∧
      (s.therm.stage ≠ 0 → (doEnterSafe c s).mode = s.mode) := by
  have answered (t : State) := stance_answer c stOk 0 0 t
  by_cases idle : s.therm.stage = 0
  · have safe : doEnterSafe c s = answer c stOk 0 0 (goSafe APX_SAFE_CAUSE_COMMAND (s.set APX_SAFE_CAUSE_CMD_CAUSE (c.arg 0))) :=
      congrArg (answer c stOk 0 0) (if_pos idle)
    rw [safe, on_of_stance (answered _) (by decide), mode_of_stance (answered _), mode_goSafe, on_goSafe_command]
    exact ⟨rfl, fun _ => rfl, fun runs => absurd idle runs⟩
  · have runs : doEnterSafe c s = answer c stOk 0 0 ((s.set APX_SAFE_CAUSE_CMD_CAUSE (c.arg 0)).raise APX_SAFE_CAUSE_COMMAND) :=
      congrArg (answer c stOk 0 0) (if_neg idle)
    rw [runs, on_of_stance (answered _) (by decide), mode_of_stance (answered _), State.raise, State.on, State.get_set_self _ _ _ (by decide),
      State.mode, State.get_set_ne _ _ _ _ (by decide), State.get_set_ne _ _ _ _ (by decide)]
    exact ⟨rfl, fun stage => absurd stage idle, fun _ => rfl⟩

theorem mode_doClearSafe (c : Cmd) (s : State) : (doClearSafe c s).mode = modeIdle := by
  rw [doClearSafe, mode_of_stance (stance_answer c stOk 0 0 _), mode_of_stance (stance_confirmSlot _), mode_of_stance (stance_acqModeChange _),
    mode_enterMode (by decide)]

/-- Settles O49: an answer, a log entry and a stop of the acquisition units leave the mode's registers and Arc's drain as they are. -/
theorem servingACommand : Obligations.ServingACommand := by
  refine ⟨fun s c => ⟨rfl, fun st refused => serve_refused refused⟩,
    fun s c st d0 d1 slot small => answer_shows slot small d0 d1 s, ?served, ?ends⟩
  case served =>
    intro s c accepted slot
    refine ⟨fun still => (serve_accepted accepted).trans (if_pos still), fun legal => ?_⟩
    have answered (t : State) : (answer c stOk 0 0 t).mode = t.mode := mode_of_stance (stance_answer c stOk 0 0 t)
    refine ⟨serve_status accepted legal, fun op => ?host, fun op => ?auto, fun op => ?doze, fun op => ?safe, fun op => ?clear,
      serve_clearShutdown accepted legal, fun op => ?reboot, serve_calibrate accepted legal, serve_selftest accepted legal,
      serve_trimRefresh accepted legal, serve_logCompact accepted legal⟩
    case host =>
      rw [serve_goHost accepted legal op, answered, mode_enterRunning (by decide), get_answer_status slot]
      exact ⟨rfl, rfl⟩
    case auto =>
      rw [serve_goAuto accepted legal op, answered, enterAuto, mode_enterRunning (by decide),
        on_of_stance (stance_answer c stOk 0 0 _) (by decide)]
      exact ⟨rfl, on_enterAuto_running s⟩
    case doze => rw [serve_goDoze accepted legal op, answered, mode_enterDoze]
    case safe => rw [serve_enterSafe accepted legal op]; exact doEnterSafe_leaves c s
    case clear => rw [serve_clearSafe accepted legal op]; exact mode_doClearSafe c s
    case reboot =>
      rw [serve_reboot accepted legal op]
      constructor
      · intro programming
        rw [askReboot, if_pos programming]
        exact ⟨rfl, rfl⟩
      · intro free
        exact if_neg (by simp [free])
  case ends =>
    intro s dt
    refine ⟨fun still => gives_of_act rfl (if_pos ?still),
      fun draining empty running => ⟨_, gives_of_act rfl rfl, mode_drainComplete draining empty running⟩,
      fun off => gives_of_act rfl (if_pos ?off),
      fun flows auto free => ⟨_, gives_of_act rfl rfl, flowReturns_of_running flows auto free⟩,
      fun early => gives_of_act rfl (if_pos early),
      fun asked due flows auto free => ⟨_, gives_of_act rfl (if_neg ?due), flowReturns_of_running flows auto free⟩⟩
    case still =>
      have same : (s.tick dt).running = s.running := rfl
      simpa [same] using still
    case off => simpa using off
    case due => exact not_or.2 ⟨asked, Nat.not_lt.2 due⟩

end Sys2Proof.Machine
end

section
/-!
SUPPORT. The registers of a facet's window (R25): in which row of the map they stand, where a write of one goes, and the writes of the
overcurrent bits (R102) and of the PMU's control and force (R97 to R100).
-/

namespace Sys2Proof.Machine
open Sys2Proof.Reg

/-! ## Rows -/

/-- The first dimension of a row, and so every register of the row, lies below offset `o`. -/
def RegRow.endsBy (r : RegRow) (o : Nat) : Bool :=
  match r.dims with
  | [] => r.off + 8 ≤ o
  | (n, st) :: _ => 0 < st && r.off + n * st ≤ o

theorem RegRow.hit_of_endsBy {r : RegRow} {b o : Nat} (h : r.endsBy b = true) (hb : b ≤ o) : r.hit o = none := by
  unfold RegRow.endsBy at h
  rw [RegRow.hit]
  split at h
  next single =>
    simp only [decide_eq_true_eq] at h
    rw [if_neg (by omega), single, dimsHit, if_neg (by omega), if_neg (by omega)]
  next n st ds array =>
    simp only [Bool.and_eq_true, decide_eq_true_eq] at h
    obtain ⟨pos, below⟩ := h
    have past : n ≤ (o - r.off) / st := (Nat.le_div_iff_mul_le pos).2 (by omega)
    rw [if_neg (by omega), array, dimsHit, if_neg (by omega)]

theorem RegRow.hit_elem {r : RegRow} {n st i : Nat} (array : r.dims = [(n, st)]) (pos : 0 < st) (hi : i < n) :
    r.hit (r.off + i * st) = some false := by
  rw [RegRow.hit, if_neg (by omega), array, Nat.add_sub_cancel_left, dimsHit, Nat.mul_div_cancel i pos, if_pos hi,
    Nat.mul_mod_left, dimsHit, if_pos rfl]

/-- The first row that an offset hits is the row of its register. -/
theorem findRow_of_hit {pre post : List RegRow} {r : RegRow} {o : Nat} {high : Bool} (missed : ∀ x ∈ pre, x.hit o = none)
    (h : r.hit o = some high) : findRow (pre ++ r :: post) o = some (r, high) := by
  induction pre with
  | nil => simp [findRow, h]
  | cons x pre ih =>
    obtain ⟨first, later⟩ := List.forall_mem_cons.1 missed
    simp [findRow, first, ih later]

/-! ## The window of a facet -/

theorem blockOf_fct {a : Nat} (lo : 0x1000000 ≤ a) (hi : a < 0x1800000) : blockOf a = some .fct := by
  rw [blockOf]
  repeat rw [if_neg (by omega)]
  rw [if_pos hi]

theorem rowAt_fct {a f o : Nat} (hf : f < 16) (ho : o < 0x80000) (ha : a = 0x1000000 + f * 0x80000 + o) :
    rowAt a = findRow rowsFct o := by
  have offset : blockOffset .fct a = o := by
    show (a - 0x1000000) % 0x80000 = o
    omega
  rw [rowAt, blockOf_fct (by omega) (by omega)]
  show findRow rowsFct (blockOffset .fct a) = _
  rw [offset]

theorem writeReg_fct {a f o : Nat} (hf : f < 16) (ho : o < 0x80000) (ha : a = 0x1000000 + f * 0x80000 + o) (p : Path) (g : Bool)
    (data : Nat) (s : State) : writeReg p g a data s = writeFct p g f o a data s := by
  have facet : (a - 0x1000000) / 0x80000 = f := by omega
  have offset : (a - 0x1000000) % 0x80000 = o := by omega
  rw [writeReg, blockOf_fct (by omega) (by omega)]
  show writeFct p g ((a - 0x1000000) / 0x80000) ((a - 0x1000000) % 0x80000) a data s = _
  rw [facet, offset]

/-! ## FCT_OC_STAT (R102) -/

/-- The row of FCT_OC_STAT (R105). -/
def ocStatRow : RegRow := ⟨"OC_STAT", 0x63010, false, [(4, 0x4)], [⟨"OC", 0, 32, .w1c, 0⟩]⟩

theorem rowAt_ocStat {f w : Nat} (hf : f < 16) (hw : w < 4) : rowAt (FCT_OC_STAT f w) = some (ocStatRow, false) := by
  have below : ∀ x ∈ rowsFct.take 15, x.endsBy 0x63010 = true := by decide
  have place : FCT_OC_STAT f w = 0x1000000 + f * 0x80000 + (0x63010 + w * 0x4) := by unfold FCT_OC_STAT; omega
  rw [rowAt_fct hf (by omega) place]
  exact findRow_of_hit (pre := rowsFct.take 15) (post := rowsFct.drop 16)
    (fun x hx => RegRow.hit_of_endsBy (below x hx) (by omega)) (RegRow.hit_elem (r := ocStatRow) rfl (by decide) hw)

theorem writeReg_ocStat {f w : Nat} (hf : f < 16) (hw : w < 4) (p : Path) (g : Bool) (data : Nat) (s : State) :
    writeReg p g (FCT_OC_STAT f w) data s = plainWrite p g (FCT_OC_STAT f w) data s := by
  have place : FCT_OC_STAT f w = 0x1000000 + f * 0x80000 + (0x63010 + w * 0x4) := by unfold FCT_OC_STAT; omega
  rw [writeReg_fct hf (by omega) place, writeFct]
  repeat rw [if_neg (by omega)]

/-- A write of FCT_OC_STAT drops the bits written 1. -/
theorem get_writeReg_ocStat {f w : Nat} (hf : f < 16) (hw : w < 4) (p : Path) (g : Bool) (data : Nat) (s : State) :
    (writeReg p g (FCT_OC_STAT f w) data s).get (FCT_OC_STAT_OC f w) =
      s.get (FCT_OC_STAT_OC f w) &&& (2 ^ 32 - 1 - data % 2 ^ 32) := by
  rw [writeReg_ocStat hf hw]
  exact plainWrite_get p g data (rowAt_ocStat hf hw) List.mem_cons_self s

theorem keeps_writeReg_ocStat {f w : Nat} (hf : f < 16) (hw : w < 4) (p : Path) (g : Bool) (data : Nat) (s : State) :
    Keeps [FCT_OC_STAT f w] s (writeReg p g (FCT_OC_STAT f w) data s) := by
  rw [writeReg_ocStat hf hw, plainWrite_fields (rowAt_ocStat hf hw) rfl rfl]
  exact keeps_writeFields g _ data _ s

/-! ## FCT_PMU_CTRL and FCT_PMU_FORCE (R97 to R100) -/

/-- The row of FCT_PMU_CTRL (R97). -/
def pmuCtrlRow : RegRow :=
  ⟨"PMU_CTRL", 0x62000, false, [(128, 0x10)], [⟨"MODE", 0, 2, .rw, 0⟩, ⟨"RANGE", 2, 2, .rw, 0⟩, ⟨"SAMPLES", 6, 6, .rw, 1⟩,
    ⟨"START", 12, 1, .hc, 0⟩, ⟨"ABORT", 13, 1, .wo, 0⟩]⟩

theorem rowAt_pmuCtrl {f i : Nat} (hf : f < 16) (hi : i < 128) : rowAt (FCT_PMU_CTRL f i) = some (pmuCtrlRow, false) := by
  have below : ∀ x ∈ rowsFct.take 9, x.endsBy 0x62000 = true := by decide
  have place : FCT_PMU_CTRL f i = 0x1000000 + f * 0x80000 + (0x62000 + i * 0x10) := by unfold FCT_PMU_CTRL; omega
  rw [rowAt_fct hf (by omega) place]
  exact findRow_of_hit (pre := rowsFct.take 9) (post := rowsFct.drop 10)
    (fun x hx => RegRow.hit_of_endsBy (below x hx) (by omega)) (RegRow.hit_elem (r := pmuCtrlRow) rfl (by decide) hi)

theorem writeReg_pmuCtrl {f i : Nat} (hf : f < 16) (hi : i < 128) (p : Path) (g : Bool) (data : Nat) (s : State) :
    writeReg p g (FCT_PMU_CTRL f i) data s = writePmuCtrl p f i data s := by
  have place : FCT_PMU_CTRL f i = 0x1000000 + f * 0x80000 + (0x62000 + i * 0x10) := by unfold FCT_PMU_CTRL; omega
  have channel : (0x62000 + i * 0x10 - 0x62000) / 0x10 = i := by omega
  rw [writeReg_fct hf (by omega) place, writeFct]
  rw [if_neg (by omega), if_neg (by omega), if_neg (by omega), if_neg (by omega), if_pos (by omega), if_pos (by omega), channel]

theorem writeReg_pmuForce {f i : Nat} (hf : f < 16) (hi : i < 128) (p : Path) (g : Bool) (data : Nat) (s : State) :
    writeReg p g (FCT_PMU_CTRL f i + 4) data s =
      touchPmu (128 * f + i) (plainWrite p g (FCT_PMU_CTRL f i + 4) data s) := by
  have place : FCT_PMU_CTRL f i + 4 = 0x1000000 + f * 0x80000 + (0x62004 + i * 0x10) := by unfold FCT_PMU_CTRL; omega
  have channel : (0x62004 + i * 0x10 - 0x62000) / 0x10 = i := by omega
  have force : (0x62004 + i * 0x10) % 0x10 = 4 := by omega
  rw [writeReg_fct hf (by omega) place, writeFct]
  rw [if_neg (by omega), if_neg (by omega), if_neg (by omega), if_neg (by omega), if_pos (by omega), if_neg (by omega), channel, force]
  rfl

/-- A write of FCT_PMU_CTRL that leaves MODE and RANGE as they are, on a channel that plays no vectors, acts by START and ABORT alone. -/
theorem writePmuCtrl_same {f i : Nat} (hf : f < 16) (hi : i < 128) {data : Nat} {s : State}
    (mode : bitsAt data 0 2 = s.get (FCT_PMU_CTRL_MODE f i)) (range : bitsAt data 2 2 = s.get (FCT_PMU_CTRL_RANGE f i))
    (still : s.channelState (128 * f + i) ≠ chVector) (p : Path) :
    writePmuCtrl p f i data s = actIf (data.testBit 13) (abortPmu (128 * f + i))
      (actIf (data.testBit 12) (startPmu (128 * f + i)) (plainWrite p false (FCT_PMU_CTRL f i) data s)) := by
  have modeKept : (plainWrite p false (FCT_PMU_CTRL f i) data s).get (FCT_PMU_CTRL_MODE f i) = s.get (FCT_PMU_CTRL_MODE f i) :=
    (plainWrite_get p false data (rowAt_pmuCtrl hf hi) (f := ⟨"MODE", 0, 2, .rw, 0⟩) (by decide) s).trans mode
  have rangeKept : (plainWrite p false (FCT_PMU_CTRL f i) data s).get (FCT_PMU_CTRL_RANGE f i) = s.get (FCT_PMU_CTRL_RANGE f i) :=
    (plainWrite_get p false data (rowAt_pmuCtrl hf hi) (f := ⟨"RANGE", 2, 2, .rw, 0⟩) (by decide) s).trans range
  simp [writePmuCtrl, modeKept, rangeKept, still, actIf]

end Sys2Proof.Machine
end

section
/-!
SUPPORT. Channels (R85 to R88) and their PMU measurements (R97 to R101): what the start, the abort and the end of a measurement leave in the
channel's registers, and what they leave alone.
-/

namespace Sys2Proof.Machine
open Sys2Proof.Reg

/-! ## One-bit fields and signalled changes -/

theorem State.on_set_bit01 (s : State) {f : Fld} (hf : f.w = 1) (hlo : f.lo < 64) (b : Bool) : (s.set f (bit01 b)).on f = b := by
  rw [State.on, State.get_set_self s f _ (by omega), hf]
  cases b <;> rfl

theorem State.on_raise (s : State) {f : Fld} (hf : f.w = 1) (hlo : f.lo < 64) : (s.raise f).on f = true := s.on_set_bit01 hf hlo true

theorem State.on_set_zero (s : State) {f : Fld} (hf : f.w = 1) (hlo : f.lo < 64) : (s.set f 0).on f = false := s.on_set_bit01 hf hlo false

theorem State.on_set_apart (s : State) (f g : Fld) (v : Nat) (hg : g.lo + g.w ≤ 64) (h : g.lo + g.w ≤ f.lo ∨ f.lo + f.w ≤ g.lo) :
    (s.set f v).on g = s.on g := State.on_of_get (State.get_set_apart s f g v hg h)

/-- What a change to a level source's condition leaves in a register but those that signal it (R309). -/
theorem get_withLevel (n : Nat) (g : State → State) (s : State) {f : Fld} (hf : f.addr ≠ DMA_MSIX_PBA 0) :
    (withLevel n g s).get f = (g s).get f := (keeps_signalSet _ _).get (by simpa using hf)

theorem testBit_andNot (a b i : Nat) : (andNot a b).testBit i = (a.testBit i && !b.testBit i) := by
  rw [andNot, Nat.testBit_xor, Nat.testBit_and]
  cases a.testBit i <;> cases b.testBit i <;> rfl

/-! ## Hidden state by index -/

@[simp] theorem chan_modChan (c : Nat) (g : Chan → Chan) (s : State) : (modChan c g s).chan c = g (s.chan c) := Store.find_put_self ..

@[simp] theorem adc_modAdc (a : Nat) (g : AdcQueue → AdcQueue) (s : State) : (modAdc a g s).adc a = g (s.adc a) :=
  Store.find_put_self ..

@[simp] theorem fct_modFct (f : Nat) (g : Facet → Facet) (s : State) : (modFct f g s).fct f = g (s.fct f) := Store.find_put_self ..

@[simp] theorem get_modChan (c : Nat) (g : Chan → Chan) (s : State) (f : Fld) : (modChan c g s).get f = s.get f := rfl
@[simp] theorem get_modAdc (a : Nat) (g : AdcQueue → AdcQueue) (s : State) (f : Fld) : (modAdc a g s).get f = s.get f := rfl
@[simp] theorem get_modFct (f : Nat) (g : Facet → Facet) (s : State) (x : Fld) : (modFct f g s).get x = s.get x := rfl

@[simp] theorem chan_set (s : State) (f : Fld) (v c : Nat) : (s.set f v).chan c = s.chan c := rfl
@[simp] theorem chan_modAdc (a : Nat) (g : AdcQueue → AdcQueue) (s : State) (c : Nat) : (modAdc a g s).chan c = s.chan c := rfl

theorem keeps_modChan (as : List Nat) (c : Nat) (g : Chan → Chan) (s : State) : Keeps as s (modChan c g s) :=
  ⟨fun _ _ => rfl, rfl, rfl, rfl, rfl, rfl⟩

theorem keeps_modAdc (as : List Nat) (a : Nat) (g : AdcQueue → AdcQueue) (s : State) : Keeps as s (modAdc a g s) :=
  ⟨fun _ _ => rfl, rfl, rfl, rfl, rfl, rfl⟩

theorem keeps_modFct (as : List Nat) (f : Nat) (g : Facet → Facet) (s : State) : Keeps as s (modFct f g s) :=
  ⟨fun _ _ => rfl, rfl, rfl, rfl, rfl, rfl⟩

/-! ## The state of a channel (R86) -/

/-- What the states of channels rest on beside registers, the active map, a contact test and what facets hold, and the maintenance
engine: signals and measurements leave all of it alone. -/
def State.fixtures (s : State) : Store Word64 × Option (Nat × Nat) × Store Facet × MaintState := (s.map, s.contact, s.facet, s.maint)

theorem Signals.fixtures {s t : State} (h : Signals s t) : t.fixtures = s.fixtures := by
  obtain ⟨_, _, _, rfl⟩ := h
  rfl

theorem fixtures_eq_iff {s t : State} :
    t.fixtures = s.fixtures ↔ t.map = s.map ∧ t.contact = s.contact ∧ t.facet = s.facet ∧ t.maint = s.maint := by
  simp [State.fixtures]

@[simp] theorem fixtures_set (s : State) (f : Fld) (v : Nat) : (s.set f v).fixtures = s.fixtures := rfl
@[simp] theorem fixtures_modChan (c : Nat) (g : Chan → Chan) (s : State) : (modChan c g s).fixtures = s.fixtures := rfl
@[simp] theorem fixtures_modAdc (a : Nat) (g : AdcQueue → AdcQueue) (s : State) : (modAdc a g s).fixtures = s.fixtures := rfl

theorem gateVertex_congr {s t : State} (h : t.map = s.map) (c : Nat) : t.gateVertex c = s.gateVertex c := by
  have byMap (u : State) : u.gateVertex c = ({ State.reset with map := u.map } : State).gateVertex c := rfl
  rw [byMap t, byMap s, h]

theorem claimed_congr {s t : State} (h : t.map = s.map) (c : Nat) : t.claimed c = s.claimed c := by
  have byMap (u : State) : u.claimed c = ({ State.reset with map := u.map } : State).claimed c := rfl
  rw [byMap t, byMap s, h]

/-- The registers that the state of channel `c` rests on but FCT_PMU_CTRL. -/
def stateRegs (c : Nat) : List Nat := [GLB_MODE, FCL_FPARK, FCT_OC_STAT (c / 128) (c % 128 / 32)]

theorem channelState_congr {s t : State} {c : Nat} (fixtures : t.fixtures = s.fixtures) (regs : ∀ a ∈ stateRegs c, t.reg a = s.reg a)
    (pmu : t.get (FCT_PMU_CTRL_MODE (c / 128) (c % 128)) = s.get (FCT_PMU_CTRL_MODE (c / 128) (c % 128))) :
    t.channelState c = s.channelState c := by
  obtain ⟨map, contact, facet, -⟩ := fixtures_eq_iff.1 fixtures
  have inContact : t.inContact c = s.inContact c := by rw [State.inContact, contact, State.inContact]
  have mode : t.mode = s.mode := State.get_of_reg (regs _ (by simp [stateRegs]))
  have parked : t.facetParked (c / 128) = s.facetParked (c / 128) :=
    congrArg (Nat.testBit · (c / 128)) (State.get_of_reg (f := FCL_FPARK_FPARK) (regs _ (by simp [stateRegs])))
  have tripped : t.on (ocBit c) = s.on (ocBit c) := State.on_of_get (State.get_of_reg (regs _ (by simp [stateRegs, ocBit])))
  have released : t.released c = s.released c := by
    rw [State.released, State.running, mode, parked, tripped, State.released, State.running]
  have awake : t.fct (c / 128) = s.fct (c / 128) := by rw [State.fct, facet, State.fct]
  rw [State.channelState, inContact, released, awake, gateVertex_congr map, claimed_congr map, pmu, State.channelState]

theorem inContact_of_none {s : State} (h : s.contact = none) (c : Nat) : s.inContact c = false := by rw [State.inContact, h]

/-- An overcurrent bit parks its channel, but in a contact test (R86, R102). -/
theorem channelState_of_overcurrent {s : State} {c : Nat} (tripped : s.on (ocBit c) = true) (none : s.contact = none) :
    s.channelState c = chParked := by
  simp [State.channelState, State.released, inContact_of_none none, tripped]

/-! ## The registers of a measurement -/

/-- The registers that the course of a measurement of channel `c` writes, but RESULT. -/
def pmuRegs (c : Nat) : List Nat :=
  [FCT_PMU_STAT (c / 128) (c % 128), FCT_PMU_CTRL (c / 128) (c % 128), FCT_PMU_DONE (c / 128) (c % 128 / 32), DMA_MSIX_PBA 0]

theorem not_mem_pmuRegs_of_low {a : Nat} (low : a < 0x1000000) (pba : a ≠ DMA_MSIX_PBA 0) (c : Nat) : a ∉ pmuRegs c := by
  simp only [pmuRegs, List.mem_cons, List.not_mem_nil, pba, or_false, FCT_PMU_STAT, FCT_PMU_CTRL, FCT_PMU_DONE]
  omega

/-- In a facet's window the PMUs have the offsets from 0x62000, and their DONE bits those from 0x63030. -/
theorem not_mem_pmuRegs_of_window {a f o : Nat} (ha : a = 0x1000000 + f * 0x80000 + o) (ho : o < 0x62000 ∨ 0x62800 ≤ o ∧ o < 0x63030)
    (c : Nat) : a ∉ pmuRegs c := by
  simp only [pmuRegs, List.mem_cons, List.not_mem_nil, or_false, FCT_PMU_STAT, FCT_PMU_CTRL, FCT_PMU_DONE, DMA_MSIX_PBA]
  omega

theorem pmuStat_ne_pmuCtrl (f i j : Nat) : FCT_PMU_STAT f i ≠ FCT_PMU_CTRL f j := by
  unfold FCT_PMU_STAT FCT_PMU_CTRL
  omega

theorem pmuStat_ne_pmuDone {i : Nat} (hi : i < 128) (f w : Nat) : FCT_PMU_STAT f i ≠ FCT_PMU_DONE f w := by
  unfold FCT_PMU_STAT FCT_PMU_DONE
  omega

theorem pmuStat_ne_pba (f i : Nat) : FCT_PMU_STAT f i ≠ DMA_MSIX_PBA 0 := by
  unfold FCT_PMU_STAT DMA_MSIX_PBA
  omega

theorem stateRegs_not_mem_pmuRegs {c a : Nat} (ha : a ∈ stateRegs c) : a ∉ pmuRegs c := by
  simp only [stateRegs, List.mem_cons, List.not_mem_nil, or_false] at ha
  obtain rfl | rfl | rfl := ha
  · exact not_mem_pmuRegs_of_low (by decide) (by decide) c
  · exact not_mem_pmuRegs_of_low (by decide) (by decide) c
  · exact not_mem_pmuRegs_of_window (f := c / 128) (o := 0x63010 + c % 128 / 32 * 4) (by unfold FCT_OC_STAT; omega) (by omega) c

/-- The level sets and the channels' settings stand apart from the PMUs (R91). -/
theorem badClamp_of_keeps {s t : State} {c : Nat} (h : Keeps (pmuRegs c) s t) : t.badClamp c = s.badClamp c := by
  have small : s.get (FCT_CH_LS (c / 128) (c % 128)) < 16 := s.get_lt _
  have channel : FCT_CH (c / 128) (c % 128) ∉ pmuRegs c :=
    not_mem_pmuRegs_of_window (f := c / 128) (o := 0x61000 + c % 128 * 4) (by unfold FCT_CH; omega) (by omega) c
  have clamps : FCT_LS3 (c / 128) (s.get (FCT_CH_LS (c / 128) (c % 128))) ∉ pmuRegs c :=
    not_mem_pmuRegs_of_window (f := c / 128) (o := 0x6000c + s.get (FCT_CH_LS (c / 128) (c % 128)) * 0x20)
      (by unfold FCT_LS3; omega) (by omega) c
  rw [State.badClamp, h.get (f := FCT_CH_LS (c / 128) (c % 128)) channel, State.clampBad, h.get clamps, h.get clamps, State.badClamp,
    State.clampBad]

/-! ## The end of a measurement (R100) -/

/-- The registers as the end of a measurement of channel `c` leaves them: BUSY and START clear, DONE set and signalled. -/
def clearedPmu (c : Nat) (s : State) : State :=
  withLevel (16 * (c / 128) + 13) (fun s => s.raise (pmuDoneBit c))
    ((s.set (FCT_PMU_STAT_BUSY (c / 128) (c % 128)) 0).set (FCT_PMU_CTRL_START (c / 128) (c % 128)) 0)

theorem keeps_clearedPmu (c : Nat) (s : State) : Keeps (pmuRegs c) s (clearedPmu c s) :=
  (keeps_set s 0 (f := FCT_PMU_STAT_BUSY (c / 128) (c % 128)) (by simp [pmuRegs])).trans
    ((keeps_set _ 0 (f := FCT_PMU_CTRL_START (c / 128) (c % 128)) (by simp [pmuRegs])).trans
      (Keeps.withGroup (keeps_set _ 1 (by simp [pmuRegs, pmuDoneBit])) (by simp [pmuRegs])))

theorem fixtures_clearedPmu (c : Nat) (s : State) : (clearedPmu c s).fixtures = s.fixtures := by
  rw [clearedPmu, withLevel, (signals_withGroup _ _ _).fixtures, State.raise, fixtures_set, fixtures_set, fixtures_set]

/-- Of FCT_PMU_STAT the end of a measurement writes what clearing BUSY does. -/
theorem get_clearedPmu_stat (c : Nat) (s : State) {f : Fld} (hf : f.addr = FCT_PMU_STAT (c / 128) (c % 128)) :
    (clearedPmu c s).get f = (s.set (FCT_PMU_STAT_BUSY (c / 128) (c % 128)) 0).get f := by
  have signal : f.addr ≠ DMA_MSIX_PBA 0 := hf ▸ pmuStat_ne_pba _ _
  have done : f.addr ≠ (pmuDoneBit c).addr := hf ▸ pmuStat_ne_pmuDone (Nat.mod_lt c (by decide)) _ _
  have start : f.addr ≠ FCT_PMU_CTRL (c / 128) (c % 128) := hf ▸ pmuStat_ne_pmuCtrl _ _ _
  rw [clearedPmu, get_withLevel _ _ _ signal, State.raise, State.get_set_ne _ _ _ _ done, State.get_set_ne _ _ _ _ start]

theorem on_clearedPmu_done (c : Nat) (s : State) : (clearedPmu c s).on (pmuDoneBit c) = true := by
  have signal : (pmuDoneBit c).addr ≠ DMA_MSIX_PBA 0 := by
    simp only [pmuDoneBit, FCT_PMU_DONE, DMA_MSIX_PBA]
    omega
  have word : c % 32 < 64 := by omega
  rw [clearedPmu, State.on_of_get (get_withLevel _ _ _ signal)]
  exact State.on_raise _ rfl word

/-- `s` with `ends` as the ends of measurements that Arc is to take. -/
def State.withPmuEnds (s : State) (ends : List (Nat × Bool)) : State := { s with pmuEnds := ends }

theorem keeps_withPmuEnds (as : List Nat) (s : State) (ends : List (Nat × Bool)) : Keeps as s (s.withPmuEnds ends) :=
  ⟨fun _ _ => rfl, rfl, rfl, rfl, rfl, rfl⟩

@[simp] theorem fixtures_withPmuEnds (s : State) (ends : List (Nat × Bool)) : (s.withPmuEnds ends).fixtures = s.fixtures := rfl
@[simp] theorem chan_withPmuEnds (s : State) (ends : List (Nat × Bool)) (c : Nat) : (s.withPmuEnds ends).chan c = s.chan c := rfl
@[simp] theorem adc_withPmuEnds (s : State) (ends : List (Nat × Bool)) (a : Nat) : (s.withPmuEnds ends).adc a = s.adc a := rfl

/-- Beyond its registers a measurement that ends leaves its channel and its ADC, and tells Arc of one of its own. -/
theorem endPmu_eq (c : Nat) (aborted : Bool) (s : State) :
    ∃ ends, endPmu c aborted s = (modAdc (adcOf c) (fun a => { a with queue := a.queue.filter fun e => e.1 ≠ c })
      (modChan c (fun x => { x with stage := .idle, forArc := false, settle := 0 }) (clearedPmu c s))).withPmuEnds ends := by
  by_cases mine : (s.chan c).forArc = true
  · exact ⟨_, if_pos mine⟩
  · exact ⟨(clearedPmu c s).pmuEnds, if_neg mine⟩

theorem keeps_endPmu_cleared (as : List Nat) (c : Nat) (aborted : Bool) (s : State) : Keeps as (clearedPmu c s) (endPmu c aborted s) := by
  obtain ⟨ends, h⟩ := endPmu_eq c aborted s
  rw [h]
  exact (keeps_modChan as c _ _).trans ((keeps_modAdc as _ _ _).trans (keeps_withPmuEnds as _ ends))

theorem keeps_endPmu (c : Nat) (aborted : Bool) (s : State) : Keeps (pmuRegs c) s (endPmu c aborted s) :=
  (keeps_clearedPmu c s).trans (keeps_endPmu_cleared _ c aborted s)

theorem on_endPmu (c : Nat) (aborted : Bool) (s : State) (f : Fld) : (endPmu c aborted s).on f = (clearedPmu c s).on f :=
  State.on_of_get ((keeps_endPmu_cleared [] c aborted s).get List.not_mem_nil)

theorem fixtures_endPmu (c : Nat) (aborted : Bool) (s : State) : (endPmu c aborted s).fixtures = s.fixtures := by
  obtain ⟨ends, h⟩ := endPmu_eq c aborted s
  rw [h, fixtures_withPmuEnds, fixtures_modAdc, fixtures_modChan, fixtures_clearedPmu]

theorem pmuBusy_endPmu (c : Nat) (aborted : Bool) (s : State) : (endPmu c aborted s).pmuBusy c = false := by
  rw [State.pmuBusy, on_endPmu, State.on_of_get (get_clearedPmu_stat c s rfl)]
  exact s.on_set_zero rfl (by simp)

/-- The report bits of FCT_PMU_STAT stand above BUSY. -/
theorem on_endPmu_stat (c : Nat) (aborted : Bool) (s : State) {f : Fld} (hf : f.addr = FCT_PMU_STAT (c / 128) (c % 128))
    (above : 1 ≤ f.lo) (fits : f.lo + f.w ≤ 64) : (endPmu c aborted s).on f = s.on f := by
  rw [on_endPmu, State.on_of_get (get_clearedPmu_stat c s hf)]
  exact s.on_set_apart _ f 0 fits (.inr above)

theorem on_endPmu_done (c : Nat) (aborted : Bool) (s : State) : (endPmu c aborted s).on (pmuDoneBit c) = true := by
  rw [on_endPmu, on_clearedPmu_done]

theorem stage_endPmu (c : Nat) (aborted : Bool) (s : State) : ((endPmu c aborted s).chan c).stage = .idle := by
  obtain ⟨ends, h⟩ := endPmu_eq c aborted s
  rw [h, chan_withPmuEnds, chan_modAdc, chan_modChan]

/-- A measurement that has ended waits at no ADC. -/
theorem queue_endPmu (c : Nat) (aborted : Bool) (s : State) : ∀ e ∈ ((endPmu c aborted s).adc (adcOf c)).queue, e.1 ≠ c := by
  obtain ⟨ends, h⟩ := endPmu_eq c aborted s
  intro e waits
  rw [h, adc_withPmuEnds, adc_modAdc] at waits
  simpa using (List.mem_filter.1 waits).2

/-! ## Abort (R100) -/

theorem abortPmu_of_busy {s : State} {c : Nat} (h : s.pmuBusy c = true) :
    abortPmu c s = endPmu c true (s.raise (FCT_PMU_STAT_ABORTED (c / 128) (c % 128))) := if_pos h

theorem keeps_abortPmu (c : Nat) (s : State) : Keeps (pmuRegs c) s (abortPmu c s) := by
  unfold abortPmu
  split
  · exact (keeps_set s 1 (by simp [pmuRegs])).trans (keeps_endPmu c true _)
  · exact Keeps.refl _ s

theorem fixtures_abortPmu (c : Nat) (s : State) : (abortPmu c s).fixtures = s.fixtures := by
  unfold abortPmu
  split
  · rw [fixtures_endPmu, State.raise, fixtures_set]
  · rfl

theorem pmuBusy_abortPmu (c : Nat) (s : State) : (abortPmu c s).pmuBusy c = false := by
  unfold abortPmu
  split
  · exact pmuBusy_endPmu c true _
  · simp_all

theorem on_abortPmu_aborted {s : State} {c : Nat} (h : s.pmuBusy c = true) :
    (abortPmu c s).on (FCT_PMU_STAT_ABORTED (c / 128) (c % 128)) = true := by
  rw [abortPmu_of_busy h, on_endPmu_stat c true _ rfl (by simp) (by simp)]
  exact s.on_raise rfl (by simp)

/-! ## Start (R99) -/

/-- Channel `c` with a measurement that settles from now. -/
def startedPmu (c : Nat) (s : State) : State :=
  ((modChan c (fun x => { x with startAt := s.elapsed, stage := .settling }) s).raise (FCT_PMU_STAT_BUSY (c / 128) (c % 128))).raise
    (FCT_PMU_CTRL_START (c / 128) (c % 128))

theorem startPmu_of_idle {s : State} {c : Nat} (h : s.pmuBusy c = false) :
    startPmu c s = if (startedPmu c s).channelState c ≠ chPmu || (startedPmu c s).inContact c || (startedPmu c s).badClamp c then
      abortPmu c (startedPmu c s) else startedPmu c s := if_neg (by simp [h])

theorem keeps_startedPmu (c : Nat) (s : State) : Keeps (pmuRegs c) s (startedPmu c s) :=
  (keeps_modChan _ c _ s).trans ((keeps_set _ 1 (f := FCT_PMU_STAT_BUSY (c / 128) (c % 128)) (by simp [pmuRegs])).trans
    (keeps_set _ 1 (f := FCT_PMU_CTRL_START (c / 128) (c % 128)) (by simp [pmuRegs])))

theorem pmuBusy_startedPmu (c : Nat) (s : State) : (startedPmu c s).pmuBusy c = true := by
  rw [State.pmuBusy, startedPmu, State.raise,
    State.on_of_get (State.get_set_ne _ (FCT_PMU_CTRL_START (c / 128) (c % 128)) _ _ (pmuStat_ne_pmuCtrl _ _ _))]
  exact State.on_raise _ rfl (by simp)

theorem chan_startedPmu (c : Nat) (s : State) :
    (startedPmu c s).chan c = { s.chan c with startAt := s.elapsed, stage := .settling } := by
  rw [startedPmu, State.raise, State.raise, chan_set, chan_set, chan_modChan]

theorem fixtures_startedPmu (c : Nat) (s : State) : (startedPmu c s).fixtures = s.fixtures := by
  rw [startedPmu, State.raise, State.raise, fixtures_set, fixtures_set, fixtures_modChan]

theorem channelState_startedPmu (c : Nat) (s : State) : (startedPmu c s).channelState c = s.channelState c := by
  refine channelState_congr (fixtures_startedPmu c s) (fun a ha => (keeps_startedPmu c s).reg (stateRegs_not_mem_pmuRegs ha)) ?mode
  case mode =>
    rw [startedPmu, State.raise, State.raise, State.get_set_apart _ _ _ _ (by simp) (by simp),
      State.get_set_ne _ _ _ _ (pmuStat_ne_pmuCtrl _ _ _).symm, get_modChan]

/-- On a channel in the PMU state with its clamps in order a measurement starts. -/
theorem startPmu_starts {s : State} {c : Nat} (idle : s.pmuBusy c = false) (state : s.channelState c = chPmu) (free : s.contact = none)
    (clamps : s.badClamp c = false) : startPmu c s = startedPmu c s := by
  have contact : (startedPmu c s).inContact c = false := by
    obtain ⟨-, contact, -⟩ := fixtures_eq_iff.1 (fixtures_startedPmu c s)
    exact inContact_of_none (contact.trans free) c
  rw [startPmu_of_idle idle, channelState_startedPmu, contact, badClamp_of_keeps (keeps_startedPmu c s), state, clamps]
  rfl

/-- With its clamps out of order it ends as soon as it starts. -/
theorem startPmu_badClamp {s : State} {c : Nat} (idle : s.pmuBusy c = false) (clamps : s.badClamp c = true) :
    startPmu c s = abortPmu c (startedPmu c s) := by
  rw [startPmu_of_idle idle, badClamp_of_keeps (keeps_startedPmu c s), clamps, Bool.or_true, if_pos rfl]

/-! ## Settling (R99) -/

theorem mem_queueMeasurement (e : Nat × Nat) (q : List (Nat × Nat)) : e ∈ queueMeasurement e q := by
  induction q with
  | nil => exact List.mem_singleton.2 rfl
  | cons x q ih =>
    rw [queueMeasurement]
    split
    · exact List.mem_cons_self
    · exact List.mem_cons_of_mem _ ih

theorem settlePmu_early {s : State} {c : Nat} (h : s.elapsed < s.settleEnd c) : settlePmu c s = s :=
  if_neg fun ⟨_, due⟩ => Nat.not_lt.2 due h

/-- Once it has settled, a measurement waits at its ADC. -/
theorem settlePmu_due {s : State} {c : Nat} (settling : (s.chan c).stage = .settling) (due : s.settleEnd c ≤ s.elapsed) :
    ((settlePmu c s).chan c).stage = .queued ∧ (c, s.settleEnd c / 256) ∈ ((settlePmu c s).adc (adcOf c)).queue ∧
      (settlePmu c s).regs = s.regs ∧ SameMemories s (settlePmu c s) := by
  have ends : (modChan c (fun x => { x with stage := .queued }) s).settleEnd c = s.settleEnd c := by
    simp [State.settleEnd]
  rw [settlePmu, if_pos ⟨settling, due⟩]
  refine ⟨congrArg Chan.stage (chan_modChan c (fun x => { x with stage := .queued }) s), ?queued, rfl, rfl, rfl, rfl, rfl, rfl⟩
  case queued =>
    simp only [adc_modAdc, ends]
    exact List.mem_append_right _ (mem_queueMeasurement _ _)

/-! ## Completion (R97, R100) -/

/-- What the conversions of channel `c` give, in RESULT and in the report bits of FCT_PMU_STAT. -/
def reportPmu (c : Nat) (mean : Int) (clamped : Bool) (s : State) : State :=
  let t := (s.set (FCT_PMU_RESULT_RESULT (c / 128) (c % 128)) (unsigned 32 mean)).set (FCT_PMU_STAT_CLAMPED (c / 128) (c % 128))
    (bit01 clamped)
  ((t.set (FCT_PMU_STAT_OVERRANGE (c / 128) (c % 128)) (bit01 (t.pmuOver c mean))).set (FCT_PMU_STAT_ABORTED (c / 128) (c % 128)) 0).set
    (FCT_PMU_STAT_STALE (c / 128) (c % 128)) 0

/-- The report leaves the settings of the PMU alone, by which a mean is out of range. -/
theorem pmuOver_reported (c : Nat) (mean m : Int) (clamped : Bool) (s : State) :
    ((s.set (FCT_PMU_RESULT_RESULT (c / 128) (c % 128)) (unsigned 32 m)).set (FCT_PMU_STAT_CLAMPED (c / 128) (c % 128))
      (bit01 clamped)).pmuOver c mean = s.pmuOver c mean := by
  have settings (f : Fld) (hf : f.addr = FCT_PMU_CTRL (c / 128) (c % 128)) :
      ((s.set (FCT_PMU_RESULT_RESULT (c / 128) (c % 128)) (unsigned 32 m)).set (FCT_PMU_STAT_CLAMPED (c / 128) (c % 128))
        (bit01 clamped)).get f = s.get f := by
    rw [State.get_set_ne _ _ _ _ (hf ▸ (pmuStat_ne_pmuCtrl _ _ _).symm), State.get_set_ne _ _ _ _ (by simp [hf])]
  rw [State.pmuOver, settings _ rfl, settings _ rfl, State.pmuOver]

theorem completePmu_early {s : State} {c when_ : Nat} {rest : List (Nat × Nat)} (head : (s.adc (adcOf c)).queue = (c, when_) :: rest)
    (early : s.elapsed < max (256 * when_) (s.adc (adcOf c)).free + 256 * 1600 * s.pmuSamples c) (conv : List Int) (clamped : Bool) :
    completePmu c conv clamped s = s := by
  simp only [completePmu, head]
  exact if_pos (.inr (.inr (.inl early)))

theorem completePmu_behind {s : State} {c d when_ : Nat} {rest : List (Nat × Nat)} (head : (s.adc (adcOf c)).queue = (d, when_) :: rest)
    (other : d ≠ c) (conv : List Int) (clamped : Bool) : completePmu c conv clamped s = s := by
  simp only [completePmu, head]
  exact if_pos (.inl other)

theorem completePmu_due {s : State} {c when_ : Nat} {rest : List (Nat × Nat)} (head : (s.adc (adcOf c)).queue = (c, when_) :: rest)
    {conv : List Int} (all : conv.length = s.pmuSamples c)
    (due : max (256 * when_) (s.adc (adcOf c)).free + 256 * 1600 * s.pmuSamples c ≤ s.elapsed)
    (free : s.adcHeld (adcOf c) (max (256 * when_) (s.adc (adcOf c)).free) = false) (clamped : Bool) :
    let t := reportPmu c (conv.sum.tdiv (s.pmuSamples c)) clamped s
    completePmu c conv clamped s = endPmu c false (modAdc (adcOf c) (fun a => { a with free := t.elapsed }) t) := by
  have served : ¬(c ≠ c ∨ conv.length ≠ s.pmuSamples c ∨
      s.elapsed < max (256 * when_) (s.adc (adcOf c)).free + 256 * 1600 * s.pmuSamples c ∨
      s.adcHeld (adcOf c) (max (256 * when_) (s.adc (adcOf c)).free) = true) := by
    simp [all, due, free]
  simp only [completePmu, head]
  rw [if_neg served]
  simp only [reportPmu]

theorem unsigned_lt (w : Nat) (v : Int) : unsigned w v < 2 ^ w := by
  have pos : (0 : Int) < (2 ^ w : Nat) := by exact_mod_cast Nat.two_pow_pos w
  have := Int.emod_nonneg v pos.ne'
  have := Int.emod_lt_of_pos v pos
  unfold unsigned
  omega

theorem keeps_reportPmu (c : Nat) (mean : Int) (clamped : Bool) (s : State) :
    Keeps (FCT_PMU_RESULT (c / 128) (c % 128) :: pmuRegs c) s (reportPmu c mean clamped s) := by
  have stat {f : Fld} (hf : f.addr = FCT_PMU_STAT (c / 128) (c % 128)) (v : Nat) (s : State) :
      Keeps (FCT_PMU_RESULT (c / 128) (c % 128) :: pmuRegs c) s (s.set f v) := keeps_set s v (by simp [hf, pmuRegs])
  exact (keeps_set s _ (f := FCT_PMU_RESULT_RESULT (c / 128) (c % 128)) List.mem_cons_self).trans
    ((stat rfl _ _).trans ((stat rfl _ _).trans ((stat rfl _ _).trans (stat rfl _ _))))

theorem reportPmu_shows (c : Nat) (mean : Int) (clamped : Bool) (s : State) :
    let t := reportPmu c mean clamped s
    t.get (FCT_PMU_RESULT_RESULT (c / 128) (c % 128)) = unsigned 32 mean ∧
      t.on (FCT_PMU_STAT_CLAMPED (c / 128) (c % 128)) = clamped ∧
      t.on (FCT_PMU_STAT_OVERRANGE (c / 128) (c % 128)) = s.pmuOver c mean ∧
      t.on (FCT_PMU_STAT_ABORTED (c / 128) (c % 128)) = false ∧ t.on (FCT_PMU_STAT_STALE (c / 128) (c % 128)) = false := by
  have result : FCT_PMU_RESULT (c / 128) (c % 128) ≠ FCT_PMU_STAT (c / 128) (c % 128) := by simp
  refine ⟨?result, ?bits⟩
  case result =>
    simp only [reportPmu]
    rw [State.get_set_ne _ _ _ _ result, State.get_set_ne _ _ _ _ result, State.get_set_ne _ _ _ _ result,
      State.get_set_ne _ _ _ _ result, State.get_set_self _ _ _ (by simp), Nat.mod_eq_of_lt (unsigned_lt 32 mean)]
  case bits =>
    simp (disch := simp) only [reportPmu, State.on_set_apart, State.on_set_bit01, State.on_set_zero, pmuOver_reported, and_self]

theorem pmuResult_not_mem_pmuRegs (c : Nat) : FCT_PMU_RESULT (c / 128) (c % 128) ∉ pmuRegs c := by
  simp only [pmuRegs, List.mem_cons, List.not_mem_nil, or_false, FCT_PMU_RESULT, FCT_PMU_STAT, FCT_PMU_CTRL, FCT_PMU_DONE, DMA_MSIX_PBA]
  omega

/-- A measurement that ends with its report: the end leaves what was reported and shows DONE. -/
theorem endPmu_reported (c : Nat) (mean : Int) (clamped : Bool) (g : AdcQueue → AdcQueue) (s : State) :
    let t := endPmu c false (modAdc (adcOf c) g (reportPmu c mean clamped s))
    t.get (FCT_PMU_RESULT_RESULT (c / 128) (c % 128)) = unsigned 32 mean ∧
      t.on (FCT_PMU_STAT_CLAMPED (c / 128) (c % 128)) = clamped ∧
      t.on (FCT_PMU_STAT_OVERRANGE (c / 128) (c % 128)) = s.pmuOver c mean ∧
      t.on (FCT_PMU_STAT_ABORTED (c / 128) (c % 128)) = false ∧ t.on (FCT_PMU_STAT_STALE (c / 128) (c % 128)) = false ∧
      t.on (FCT_PMU_STAT_BUSY (c / 128) (c % 128)) = false ∧ t.on (pmuDoneBit c) = true ∧ (t.chan c).stage = .idle ∧
      SameMemories s t := by
  intro t
  obtain ⟨result, clamp, range, aborted, stale⟩ := reportPmu_shows c mean clamped s
  obtain ⟨-, memories⟩ := ((keeps_reportPmu c mean clamped s).trans (keeps_modAdc _ (adcOf c) g _)).trans
    ((keeps_endPmu c false _).mono (List.subset_cons_self _ _))
  have bit {f : Fld} (hf : f.addr = FCT_PMU_STAT (c / 128) (c % 128)) (above : 1 ≤ f.lo) (fits : f.lo + f.w ≤ 64) :
      t.on f = (reportPmu c mean clamped s).on f :=
    (on_endPmu_stat c false _ hf above fits).trans (State.on_of_get (get_modAdc (adcOf c) g _ f))
  have word : t.get (FCT_PMU_RESULT_RESULT (c / 128) (c % 128)) =
      (reportPmu c mean clamped s).get (FCT_PMU_RESULT_RESULT (c / 128) (c % 128)) :=
    ((keeps_endPmu c false _).get (pmuResult_not_mem_pmuRegs c)).trans (get_modAdc (adcOf c) g _ _)
  exact ⟨word.trans result, (bit rfl (by simp) (by simp)).trans clamp,
    (bit rfl (by simp) (by simp)).trans range, (bit rfl (by simp) (by simp)).trans aborted, (bit rfl (by simp) (by simp)).trans stale,
    pmuBusy_endPmu c false _, on_endPmu_done c false _, stage_endPmu c false _, memories⟩

end Sys2Proof.Machine
end

section
/-!
SUPPORT. Overcurrent trips (R102 to R104) and the release of parked channels (R86): what they leave of the channel's bits, its state and its
measurement; and the bits of a PMU command's data.
-/

namespace Sys2Proof.Machine
open Sys2Proof.Reg

/-! ## Parking (R87) -/

/-- A park beside its abort marks decoders that need recovery, and no more. -/
theorem requireRecovery_eq (c : Nat) (s : State) : ∃ recover, requireRecovery c s = { s with recover := recover } := by
  unfold requireRecovery
  induction s.busChords generalizing s with
  | nil => exact ⟨s.recover, rfl⟩
  | cons k ks ih =>
    rw [List.foldl_cons]
    split
    · exact ih _
    · exact ih s

theorem keeps_requireRecovery (as : List Nat) (c : Nat) (s : State) : Keeps as s (requireRecovery c s) := by
  obtain ⟨recover, h⟩ := requireRecovery_eq c s
  rw [h]
  exact ⟨fun _ _ => rfl, rfl, rfl, rfl, rfl, rfl⟩

theorem fixtures_requireRecovery (c : Nat) (s : State) : (requireRecovery c s).fixtures = s.fixtures := by
  obtain ⟨recover, h⟩ := requireRecovery_eq c s
  rw [h]
  rfl

/-- Beyond aborting a measurement a park alters no register. -/
theorem keeps_parkChannel_abort (as : List Nat) (c : Nat) (s : State) : Keeps as (abortPmu c s) (parkChannel c s) := by
  unfold parkChannel
  exact ((keeps_requireRecovery as c _).ite (Keeps.refl as _)).trans (keeps_modChan as c _ _)

theorem keeps_parkChannel (c : Nat) (s : State) : Keeps (pmuRegs c) s (parkChannel c s) :=
  (keeps_abortPmu c s).trans (keeps_parkChannel_abort _ c s)

theorem fixtures_parkChannel (c : Nat) (s : State) : (parkChannel c s).fixtures = s.fixtures := by
  rw [parkChannel, fixtures_modChan, ← fixtures_abortPmu c s]
  split
  · exact fixtures_requireRecovery c _
  · rfl

theorem pmuBusy_parkChannel (c : Nat) (s : State) : (parkChannel c s).pmuBusy c = false := by
  have same : (parkChannel c s).pmuBusy c = (abortPmu c s).pmuBusy c :=
    State.on_of_get ((keeps_parkChannel_abort [] c s).get List.not_mem_nil)
  rw [same, pmuBusy_abortPmu]

/-! ## A trip (R102) -/

/-- Channel `c` with its overcurrent bit set and signalled, and no release standing. -/
def trippedChannel (c : Nat) (s : State) : State :=
  modFct (c / 128) (fun x => { x with awake := andNot x.awake (2 ^ (c % 128)) })
    (withLevel (16 * (c / 128) + 12) (fun s => s.raise (ocBit c)) s)

theorem tripChannel_eq (c : Nat) (s : State) :
    tripChannel c s = parkChannel c ((trippedChannel c s).countSat (FCT_OC_COUNT_COUNT (c / 128)) 1) := rfl

theorem keeps_trippedChannel (c : Nat) (s : State) :
    Keeps [FCT_OC_STAT (c / 128) (c % 128 / 32), DMA_MSIX_PBA 0] s (trippedChannel c s) :=
  (Keeps.withGroup (keeps_set s 1 (by simp [ocBit])) (by simp)).trans (keeps_modFct _ _ _ _)

theorem on_trippedChannel_oc (c : Nat) (s : State) : (trippedChannel c s).on (ocBit c) = true := by
  have signal : (ocBit c).addr ≠ DMA_MSIX_PBA 0 := by
    simp only [ocBit, FCT_OC_STAT, DMA_MSIX_PBA]
    omega
  have bit : c % 32 < 64 := by omega
  rw [trippedChannel, State.on_of_get (get_modFct _ _ _ _), State.on_of_get (get_withLevel _ _ _ signal)]
  exact s.on_raise rfl bit

theorem awake_trippedChannel (c : Nat) (s : State) : ((trippedChannel c s).fct (c / 128)).awake.testBit (c % 128) = false := by
  rw [trippedChannel, fct_modFct, testBit_andNot, Nat.testBit_two_pow_self, Bool.not_true, Bool.and_false]

theorem ocStat_not_mem_pmuRegs (c d : Nat) : FCT_OC_STAT (c / 128) (c % 128 / 32) ∉ pmuRegs d :=
  not_mem_pmuRegs_of_window (f := c / 128) (o := 0x63010 + c % 128 / 32 * 4) (by unfold FCT_OC_STAT; omega) (by omega) d

theorem ocCount_not_mem_pmuRegs (f c : Nat) : FCT_OC_COUNT f ∉ pmuRegs c :=
  not_mem_pmuRegs_of_window (f := f) (o := 0x63024) (by unfold FCT_OC_COUNT; omega) (by omega) c

theorem ocCount_not_mem_tripped (f c : Nat) : FCT_OC_COUNT f ∉ [FCT_OC_STAT (c / 128) (c % 128 / 32), DMA_MSIX_PBA 0] := by
  simp only [FCT_OC_COUNT, FCT_OC_STAT, DMA_MSIX_PBA, List.mem_cons, List.not_mem_nil, or_false]
  omega

theorem on_tripChannel_oc (c : Nat) (s : State) : (tripChannel c s).on (ocBit c) = true := by
  have count : (ocBit c).addr ≠ FCT_OC_COUNT (c / 128) := by
    simp only [ocBit, FCT_OC_STAT, FCT_OC_COUNT]
    omega
  rw [tripChannel_eq, State.on_of_get ((keeps_parkChannel c _).get (f := ocBit c) (ocStat_not_mem_pmuRegs c c)), State.countSat,
    State.on_of_get (State.get_set_ne _ _ _ _ count), on_trippedChannel_oc]

theorem get_tripChannel_count (c : Nat) (s : State) : (tripChannel c s).get (FCT_OC_COUNT_COUNT (c / 128)) =
    min (2 ^ 32 - 1) (s.get (FCT_OC_COUNT_COUNT (c / 128)) + 1) := by
  rw [tripChannel_eq, (keeps_parkChannel c _).get (ocCount_not_mem_pmuRegs _ c), State.get_countSat _ _ _ (by simp),
    (keeps_trippedChannel c s).get (ocCount_not_mem_tripped _ c)]

theorem fixtures_tripChannel (c : Nat) (s : State) : (tripChannel c s).fixtures = (trippedChannel c s).fixtures := by
  rw [tripChannel_eq, fixtures_parkChannel, State.countSat, fixtures_set]

theorem keeps_tripChannel (c : Nat) (s : State) :
    Keeps (FCT_OC_STAT (c / 128) (c % 128 / 32) :: FCT_OC_COUNT (c / 128) :: pmuRegs c) s (tripChannel c s) :=
  ((keeps_trippedChannel c s).mono (by simp [pmuRegs])).trans
    ((keeps_set (trippedChannel c s) _ (f := FCT_OC_COUNT_COUNT (c / 128)) (by simp)).trans
      ((keeps_parkChannel c _).mono (by simp)))

theorem contact_maint_tripChannel (c : Nat) (s : State) : (tripChannel c s).contact = s.contact ∧ (tripChannel c s).maint = s.maint := by
  have signalled : (withLevel (16 * (c / 128) + 12) (fun s => s.raise (ocBit c)) s).fixtures = s.fixtures := by
    rw [withLevel, (signals_withGroup _ _ _).fixtures, State.raise, fixtures_set]
  obtain ⟨-, contact, -, maint⟩ := fixtures_eq_iff.1 signalled
  obtain ⟨-, contact', -, maint'⟩ := fixtures_eq_iff.1 (fixtures_tripChannel c s)
  exact ⟨contact'.trans contact, maint'.trans maint⟩

theorem awake_tripChannel (c : Nat) (s : State) : ((tripChannel c s).fct (c / 128)).awake.testBit (c % 128) = false := by
  obtain ⟨-, -, facet, -⟩ := fixtures_eq_iff.1 (fixtures_tripChannel c s)
  rw [State.fct, facet]
  exact awake_trippedChannel c s

theorem pmuBusy_tripChannel (c : Nat) (s : State) : (tripChannel c s).pmuBusy c = false := pmuBusy_parkChannel c _

/-- Where no calibration runs, a trip skips no item of one (R359). -/
theorem calTrip_of_none {s : State} (h : s.maint.run = none) (c : Nat) : calTrip c s = s := by rw [calTrip, h]

theorem exec_overcurrentTrip (s : State) (dt c : Nat) :
    exec (.overcurrentTrip dt c) s = act dt (fun s => calTrip c (tripChannel c s)) s := rfl

/-- Where no calibration runs, the command is the trip alone. -/
theorem gives_overcurrentTrip {s : State} (idle : s.maint.run = none) (dt c : Nat) :
    Gives (.overcurrentTrip dt c) s (tripChannel c (s.tick dt)) := by
  obtain ⟨-, maint⟩ := contact_maint_tripChannel c (s.tick dt)
  exact gives_of_act (exec_overcurrentTrip s dt c) (calTrip_of_none ((congrArg MaintState.run maint).trans idle) c)

/-! ## Releases (R86, R104) -/

/-- The mask of the numbers below `n` that satisfy `p`. -/
def maskOf (p : Nat → Bool) (n : Nat) : Nat := (List.range n).foldl (fun m i => if p i then m + 2 ^ i else m) 0

theorem maskOf_succ (p : Nat → Bool) (n : Nat) : maskOf p (n + 1) = if p n then maskOf p n + 2 ^ n else maskOf p n := by
  rw [maskOf, List.range_succ, List.foldl_append]
  rfl

theorem maskOf_lt (p : Nat → Bool) (n : Nat) : maskOf p n < 2 ^ n := by
  induction n with
  | zero => exact Nat.one_pos
  | succ n ih =>
    rw [maskOf_succ]
    split <;> omega

theorem testBit_maskOf (p : Nat → Bool) {n i : Nat} (hi : i < n) : (maskOf p n).testBit i = p i := by
  induction n with
  | zero => omega
  | succ n ih =>
    rw [maskOf_succ]
    obtain rfl | less : i = n ∨ i < n := by omega
    · have clear : (maskOf p i).testBit i = false := Nat.testBit_lt_two_pow (maskOf_lt p i)
      cases h : p i
      · simpa using clear
      · simp [Nat.add_comm _ (2 ^ i), Nat.testBit_two_pow_add_eq, clear]
    · split
      · rw [Nat.add_comm, Nat.testBit_two_pow_add_gt less, ih less]
      · exact ih less

/-- At a granule boundary a facet's channels are awake as rows 1 to 5 of R86 release them. -/
theorem awake_unparkFacet {f i : Nat} (hi : i < 128) (s : State) :
    ((unparkFacet f s).fct f).awake.testBit i = s.released (128 * f + i) := by
  have bit := testBit_maskOf (fun i => s.released (128 * f + i)) hi
  rw [maskOf] at bit
  rw [unparkFacet, fct_modFct, bit]

theorem exec_channelUnpark (s : State) (dt f : Nat) :
    exec (.channelUnpark dt f) s = act dt (fun s => unparkFacet f (selfRelease f s)) s := rfl

/-! ## The data of a PMU command -/

/-- A command's data are the data given with the command's own bit set: fields below that bit are as given. -/
theorem bitsAt_command {k lo w : Nat} (h : lo + w ≤ k) (hk : k < 32) (d : Nat) :
    bitsAt ((d ||| 2 ^ k) % 2 ^ 32) lo w = bitsAt d lo w := by
  apply Nat.eq_of_testBit_eq
  intro i
  rw [bitsAt_testBit, bitsAt_testBit, Nat.testBit_mod_two_pow, Nat.testBit_or, Nat.testBit_two_pow]
  by_cases hi : i < w
  · have below : k ≠ lo + i := by omega
    have word : lo + i < 32 := by omega
    simp [below, word]
  · simp [hi]

theorem testBit_command {k i : Nat} (hi : i < 32) (d : Nat) :
    ((d ||| 2 ^ k) % 2 ^ 32).testBit i = (d.testBit i || decide (k = i)) := by
  rw [Nat.testBit_mod_two_pow, Nat.testBit_or, Nat.testBit_two_pow, decide_eq_true hi, Bool.true_and]

/-- A request leaves the states of the channels alone (R34, R86). -/
theorem channelState_request (s : State) (dt : Nat) (p : Path) (c : Nat) : (s.request dt p).channelState c = s.channelState c := by
  have fixtures : (s.request dt p).fixtures = s.fixtures := by
    rw [request_eq]
    rfl
  have window {a : Nat} (h : 0x1000000 ≤ a) : a ∉ [GLB_GUARD_STAT] := by
    simp only [List.mem_singleton, GLB_GUARD_STAT]
    omega
  have mode : (s.request dt p).get (FCT_PMU_CTRL_MODE (c / 128) (c % 128)) = s.get (FCT_PMU_CTRL_MODE (c / 128) (c % 128)) :=
    (keeps_request s dt p).get (window (by simp only [FCT_PMU_CTRL]; omega))
  refine channelState_congr fixtures (fun a ha => (keeps_request s dt p).reg ?_) mode
  simp only [stateRegs, List.mem_cons, List.not_mem_nil, or_false] at ha
  obtain rfl | rfl | rfl := ha
  · decide
  · decide
  · exact window (by unfold FCT_OC_STAT; omega)

@[simp] theorem actIf_true (g : State → State) (s : State) : actIf true g s = g s := rfl
@[simp] theorem actIf_false (g : State → State) (s : State) : actIf false g s = s := rfl

/-- A command of a PMU that leaves MODE and RANGE as they are, on a channel in the PMU state, acts by its START and ABORT bits
(R98 to R100). -/
theorem write32_pmuCtrl {s : State} {c k d : Nat} {p : Path} (hc : c < 2048)
    (takes : s.takes p (FCT_PMU_CTRL (c / 128) (c % 128)) = true) (state : s.channelState c = chPmu)
    (mode : bitsAt d 0 2 = s.get (FCT_PMU_CTRL_MODE (c / 128) (c % 128)))
    (range : bitsAt d 2 2 = s.get (FCT_PMU_CTRL_RANGE (c / 128) (c % 128))) (above : 4 ≤ k) (hk : k < 32) (dt : Nat) :
    write32 p (FCT_PMU_CTRL (c / 128) (c % 128)) (d ||| 2 ^ k) (s.tick dt) =
      actIf (((d ||| 2 ^ k) % 2 ^ 32).testBit 13) (abortPmu c) (actIf (((d ||| 2 ^ k) % 2 ^ 32).testBit 12) (startPmu c)
        (plainWrite p false (FCT_PMU_CTRL (c / 128) (c % 128)) ((d ||| 2 ^ k) % 2 ^ 32) (s.request dt p))) := by
  have facet : c / 128 < 16 := by omega
  have index : c % 128 < 128 := Nat.mod_lt c (by decide)
  have channel : 128 * (c / 128) + c % 128 = c := Nat.div_add_mod c 128
  have still : (s.request dt p).channelState (128 * (c / 128) + c % 128) ≠ chVector := by
    rw [channel, channelState_request, state]
    decide
  have apart : FCT_PMU_CTRL (c / 128) (c % 128) ≠ GLB_GUARD_STAT := by
    simp only [FCT_PMU_CTRL, GLB_GUARD_STAT]
    omega
  have modeKept := (bitsAt_command (lo := 0) (w := 2) (by omega) hk d).trans
    (mode.trans (get_request s dt p (f := FCT_PMU_CTRL_MODE (c / 128) (c % 128)) apart).symm)
  have rangeKept := (bitsAt_command (lo := 2) (w := 2) (by omega) hk d).trans
    (range.trans (get_request s dt p (f := FCT_PMU_CTRL_RANGE (c / 128) (c % 128)) apart).symm)
  rw [write32_takes s dt p _ _ takes, writeReg_pmuCtrl facet index, writePmuCtrl_same facet index modeKept rangeKept still, channel]

end Sys2Proof.Machine
end

section
/-!
PROOFS. The statements about overcurrent trips and PMU measurements (R86, R97 to R104).
-/

namespace Sys2Proof.Machine
open Sys2Proof.Reg

/-- Settles O20: the trip is `tripChannel`, whose lemmas say what it leaves; the clear is a plain write of a W1C field; the release is the
mask of `awake_unparkFacet`. -/
theorem overcurrentParksTheChannel : Obligations.OvercurrentParksTheChannel := by
  unfold Obligations.OvercurrentParksTheChannel
  refine ⟨?trips, ?clears, ?releases⟩
  case trips =>
    intro s dt c _ idle
    obtain ⟨contact, -⟩ := contact_maint_tripChannel c (s.tick dt)
    obtain ⟨-, memories⟩ := (keeps_tick _ s dt).trans (keeps_tripChannel c (s.tick dt))
    have count := get_tripChannel_count c (s.tick dt)
    rw [State.get_tick] at count
    exact ⟨tripChannel c (s.tick dt), gives_overcurrentTrip idle dt c, rfl, on_tripChannel_oc c _, count, awake_tripChannel c _,
      fun free => channelState_of_overcurrent (on_tripChannel_oc c _) (contact.trans free), pmuBusy_tripChannel c _, memories⟩
  case clears =>
    intro s dt f w d p takes hf hw
    have write := write32_takes s dt p (FCT_OC_STAT f w) d takes
    obtain ⟨regs, memories⟩ := ((keeps_request s dt p).mono (by simp)).trans
      ((keeps_writeReg_ocStat hf hw p (s.guardOpen p) (d % 2 ^ 32) (s.request dt p)).mono (bs := [FCT_OC_STAT f w, GLB_GUARD_STAT])
        (by simp))
    have apart : FCT_OC_STAT f w ≠ GLB_GUARD_STAT := by
      simp only [FCT_OC_STAT, GLB_GUARD_STAT]
      omega
    refine ⟨_, gives_of_act rfl write, ?bits, regs, memories⟩
    case bits =>
      show State.get _ (FCT_OC_STAT_OC f w) = _
      rw [get_writeReg_ocStat hf hw, get_request s dt p apart, Nat.mod_mod]
  case releases =>
    intro s dt f i hi u
    exact ⟨unparkFacet f u, gives_of_act (exec_channelUnpark s dt f) rfl, rfl, awake_unparkFacet hi u⟩

/-- Settles O21: START and ABORT act by `writePmuCtrl_same`, FORCE by `writeReg_pmuForce`; `startPmu_starts`, `startPmu_badClamp`, the
lemmas of `abortPmu` and `settlePmu_due` say what follows. -/
theorem pmuMeasurementRuns : Obligations.PmuMeasurementRuns := by
  unfold Obligations.PmuMeasurementRuns
  refine ⟨?commands, ?starts, ?refuses, ?aborts, ?forces, ?settles⟩
  case commands =>
    intro s dt c d p hc takes state mode range
    dsimp only
    refine ⟨fun noAbort => gives_of_act rfl ?start, fun noStart => gives_of_act rfl ?abort⟩
    case start =>
      have start : ((d ||| 2 ^ 12) % 2 ^ 32).testBit 12 = true := by rw [testBit_command (by decide)]; exact Bool.or_true _
      have abort : ((d ||| 2 ^ 12) % 2 ^ 32).testBit 13 = false := by rw [testBit_command (by decide), noAbort]; rfl
      rw [write32_pmuCtrl hc takes state mode range (by decide) (by decide), start, abort, actIf_true, actIf_false]
    case abort =>
      have start : ((d ||| 2 ^ 13) % 2 ^ 32).testBit 12 = false := by rw [testBit_command (by decide), noStart]; rfl
      have abort : ((d ||| 2 ^ 13) % 2 ^ 32).testBit 13 = true := by rw [testBit_command (by decide)]; exact Bool.or_true _
      rw [write32_pmuCtrl hc takes state mode range (by decide) (by decide), start, abort, actIf_true, actIf_false]
  case starts =>
    intro s c _ idle state free clamps
    rw [startPmu_starts idle state free clamps, chan_startedPmu]
    exact ⟨pmuBusy_startedPmu c s, rfl, rfl⟩
  case refuses =>
    intro s c _ idle clamps
    have busy := pmuBusy_startedPmu c s
    rw [startPmu_badClamp idle clamps]
    exact ⟨on_abortPmu_aborted busy, abortPmu_of_busy busy ▸ stage_endPmu c true _⟩
  case aborts =>
    intro s c _ busy t
    have ended : t = endPmu c true (s.raise (FCT_PMU_STAT_ABORTED (c / 128) (c % 128))) := abortPmu_of_busy busy
    refine ⟨pmuBusy_abortPmu c s, on_abortPmu_aborted busy, ?_⟩
    rw [ended]
    exact ⟨on_endPmu_done c true _, stage_endPmu c true _, queue_endPmu c true _⟩
  case forces =>
    intro s dt c d p hc takes
    have channel : 128 * (c / 128) + c % 128 = c := Nat.div_add_mod c 128
    have force := writeReg_pmuForce (show c / 128 < 16 by omega) (Nat.mod_lt c (by decide)) p (s.guardOpen p) (d % 2 ^ 32)
      (s.request dt p)
    rw [channel] at force
    exact gives_of_act rfl ((write32_takes s dt p _ d takes).trans force)
  case settles =>
    intro s dt c _ settling
    exact ⟨fun due => ⟨_, gives_of_act rfl rfl, settlePmu_due (s := s.tick dt) settling due⟩,
      fun early => gives_of_act rfl (settlePmu_early early)⟩

/-- Settles O22: `completePmu_due` reports and ends the measurement, and `endPmu_reported` says what that shows;
`completePmu_early` and `completePmu_behind` are the cases in which nothing happens. -/
theorem pmuMeasurementCompletes : Obligations.PmuMeasurementCompletes := by
  unfold Obligations.PmuMeasurementCompletes
  refine ⟨?completes, ?early, ?behind⟩
  case completes =>
    intro s dt c when_ rest conv clamped _ head all due free
    have complete := completePmu_due (s := s.tick dt) head all due free clamped
    exact ⟨_, gives_of_act rfl complete, endPmu_reported c (conv.sum.tdiv (s.pmuSamples c)) clamped _ (s.tick dt)⟩
  case early =>
    intro s dt c when_ rest conv clamped head early
    exact gives_of_act rfl (completePmu_early (s := s.tick dt) head early conv clamped)
  case behind =>
    intro s dt c d when_ rest conv clamped head other
    exact gives_of_act rfl (completePmu_behind (s := s.tick dt) head other conv clamped)

end Sys2Proof.Machine
end

section
/-!
SUPPORT. The period of a facet's grid (R117): what an entry that comes into use leaves in the facet and in PER_CLIP, and that a change of
rate alters neither beside it (R119, R120).
-/

namespace Sys2Proof.Machine
open Sys2Proof.Reg

/-! ## The limits -/

theorem limitPeriod_inside {p : Nat} (lo : 0x4000000 ≤ p) (hi : p ≤ 0x186A00000000) : limitPeriod p = p := by
  unfold limitPeriod periodMin periodMax
  omega

theorem limitPeriod_below {p : Nat} (h : p < 0x4000000) : limitPeriod p = 0x4000000 := by
  unfold limitPeriod periodMin periodMax
  omega

theorem limitPeriod_above {p : Nat} (h : 0x186A00000000 < p) : limitPeriod p = 0x186A00000000 := by
  unfold limitPeriod periodMin periodMax
  omega

/-! ## The rate of a facet -/

/-- What R117 speaks of: the period in use on facet `f`, and whether PER_CLIP stands. -/
def State.rate (s : State) (f : Nat) : Nat × Bool := ((s.fct f).period, s.on (FCT_TIMING_STAT_PER_CLIP f))

theorem fct_set (s : State) (x : Fld) (v f : Nat) : (s.set x v).fct f = s.fct f := by rw [State.fct, State.set_facet, State.fct]

theorem fct_pend (n : Nat) (s : State) (f : Nat) : (pend n s).fct f = s.fct f := by
  obtain ⟨_, _, facet, _⟩ := fixtures_eq_iff.1 (signals_pend n s).fixtures
  rw [State.fct, facet, State.fct]

/-- An event of a facet shows in the interrupt controller and the MSI-X table, not in the facet (R307, R309). -/
theorem rate_pend (f : Nat) (s : State) : (pend (16 * f + 11) s).rate f = s.rate f := by
  have apart : (FCT_TIMING_STAT_PER_CLIP f).addr ∉ [ICL_PEND ((16 * f + 11) / 16), DMA_MSIX_PBA 0] := by
    simp only [List.mem_cons, List.not_mem_nil, or_false, FCT_TIMING_STAT, ICL_PEND, DMA_MSIX_PBA]
    omega
  rw [State.rate, fct_pend, State.on_of_get ((keeps_pend _ s).get apart), State.rate]

/-- A change to a facet that leaves its period alone. -/
theorem rate_modFct {g : Facet → Facet} (h : ∀ x, (g x).period = x.period) (f : Nat) (s : State) :
    (modFct f g s).rate f = s.rate f := by
  rw [State.rate, fct_modFct, h]
  rfl

theorem rate_keepStarts (f : Nat) (old s : State) : (keepStarts f old s).rate f = s.rate f :=
  rate_modFct (fun _ => by rfl) f s

theorem rate_raise_perClip (f : Nat) (s : State) : (s.raise (FCT_TIMING_STAT_PER_CLIP f)).rate f = ((s.fct f).period, true) := by
  rw [State.rate, State.on_raise s rfl (Nat.zero_lt_succ 63), State.raise, fct_set]

/-- The limited period of entry `e` in use on facet `f`, and the entry's number shown, before PER_CLIP reports the limit. -/
def usePeriod (f e : Nat) (s : State) : State :=
  (modFct f (fun x => { x with period := limitPeriod (s.periodEntry f e) }) s).set (FCT_RATE_ACTIVE f) e

theorem takePeriod_eq (f e : Nat) (s : State) :
    takePeriod f e s =
      if s.periodEntry f e = limitPeriod (s.periodEntry f e) ∨ (usePeriod f e s).on (FCT_TIMING_STAT_PER_CLIP f) then usePeriod f e s
      else pend (16 * f + 11) ((usePeriod f e s).raise (FCT_TIMING_STAT_PER_CLIP f)) := rfl

theorem period_usePeriod (f e : Nat) (s : State) : ((usePeriod f e s).fct f).period = limitPeriod (s.periodEntry f e) := by
  rw [usePeriod, fct_set, fct_modFct]

theorem on_usePeriod_perClip (f e : Nat) (s : State) :
    (usePeriod f e s).on (FCT_TIMING_STAT_PER_CLIP f) = s.on (FCT_TIMING_STAT_PER_CLIP f) := by
  have apart : (FCT_TIMING_STAT_PER_CLIP f).addr ≠ (FCT_RATE_ACTIVE f).addr := by
    simp only [FCT_TIMING_STAT, FCT_RATE]
    omega
  rw [usePeriod, State.on_of_get (State.get_set_ne _ _ _ _ apart), State.on_of_get (get_modFct f _ s _)]

/-- A period that comes into use is limited, and PER_CLIP stands then if it stood or the limit is another value than the entry's (R117). -/
theorem rate_takePeriod (f e : Nat) (s : State) :
    (takePeriod f e s).rate f = (limitPeriod (s.periodEntry f e),
      s.on (FCT_TIMING_STAT_PER_CLIP f) || s.periodEntry f e != limitPeriod (s.periodEntry f e)) := by
  rw [takePeriod_eq]
  split
  next quiet =>
    rw [State.rate, period_usePeriod, on_usePeriod_perClip]
    rw [on_usePeriod_perClip] at quiet
    obtain inside | stood := quiet
    · rw [bne_eq_false_iff_eq.2 inside, Bool.or_false]
    · rw [stood, Bool.true_or]
  next clips =>
    obtain ⟨outside, -⟩ := not_or.1 clips
    rw [rate_pend, rate_raise_perClip, period_usePeriod, bne_iff_ne.2 outside, Bool.or_true]

/-! ## Changes of rate -/

/-- Outside a bus phase the grid restarts with the new period (R120). -/
theorem rate_changeRate (f e : Nat) (s : State) : (changeRate f e s).rate f = (takePeriod f e s).rate f :=
  (rate_keepStarts f s _).trans (rate_modFct (fun _ => by rfl) f _)

/-- At a granule boundary the grid goes on with the new period, and the rays' positions move with it (R119). -/
theorem rate_switchRate (f e n : Nat) (s : State) : (switchRate f e n s).rate f = (takePeriod f e s).rate f := by
  refine (foldl_same (·.rate f) (fun t r => ?_) _ _).trans (rate_modFct (fun _ => by rfl) f _)
  split <;> rfl

end Sys2Proof.Machine
end

section
/-!
PROOFS. The statement about the limits of a period (R117).
-/

namespace Sys2Proof.Machine
open Sys2Proof.Reg

/-- Settles O60: both changes of rate leave what `rate_takePeriod` says, and the three cases are those of `limitPeriod`. -/
theorem periodsAreLimited : Obligations.PeriodsAreLimited := by
  unfold Obligations.PeriodsAreLimited
  intro s t f e n change
  have taken : t.rate f = (takePeriod f e s).rate f := by
    obtain outside | atBoundary := change
    · rw [outside, rate_changeRate]
    · rw [atBoundary, rate_switchRate]
  obtain ⟨period, clip⟩ := Prod.ext_iff.1 (taken.trans (rate_takePeriod f e s))
  dsimp only [State.rate, State.periodEntry] at period clip ⊢
  rw [period, clip]
  refine ⟨fun lo hi => ?inside, fun low => ?below, fun high => ?above⟩
  case inside => simp [limitPeriod_inside lo hi]
  case below => simpa [limitPeriod_below low] using .inr (Nat.ne_of_lt low)
  case above => simpa [limitPeriod_above high] using .inr (Nat.ne_of_gt high)

end Sys2Proof.Machine
end

section
/-!
SUPPORT. The time block's epochs and their pulses (R112 to R114): what the detection leaves, the cases of an epoch that comes about, and
where the writes of AXS_SYNC_CFG and AXS_SYNC_FIRE go.
-/

namespace Sys2Proof.Machine
open Sys2Proof.Reg

/-! ## Registers of AXS (R128) -/

theorem blockOf_axs {a : Nat} (lo : 0x40000 ≤ a) (hi : a < 0x50000) : blockOf a = some .axs := by
  have page : a / 0x10000 = 4 := by omega
  rw [blockOf, if_pos (by omega), page]
  rfl

theorem writeReg_axs {a : Nat} (lo : 0x40000 ≤ a) (hi : a < 0x50000) (p : Path) (g : Bool) (data : Nat) (s : State) :
    writeReg p g a data s = writeAxs p g a data s := by
  rw [writeReg, blockOf_axs lo hi]

/-- The row of AXS_SYNC_CFG (R128). -/
def syncCfgRow : RegRow := ⟨"SYNC_CFG", 0x20, false, [], [⟨"OUT_MODE", 0, 2, .rw, 0⟩, ⟨"ARM", 4, 1, .hc, 0⟩]⟩

theorem rowAt_syncCfg : rowAt AXS_SYNC_CFG = some (syncCfgRow, false) := by decide

theorem writeReg_syncCfg (p : Path) (g : Bool) (data : Nat) (s : State) :
    writeReg p g AXS_SYNC_CFG data s = (plainWrite p g AXS_SYNC_CFG data s).raiseIf AXS_SYNC_CFG_ARM (data.testBit 4) := by
  rw [writeReg_axs (by decide) (by decide), writeAxs, if_neg (by decide), if_pos rfl]

theorem writeReg_syncFire (p : Path) (g : Bool) (data : Nat) (s : State) :
    writeReg p g AXS_SYNC_FIRE data s = actIf (data.testBit 0) syncFire s := by
  rw [writeReg_axs (by decide) (by decide), writeAxs, if_neg (by decide), if_neg (by decide), if_pos rfl]

theorem keeps_plainWrite_syncCfg (p : Path) (g : Bool) (data : Nat) (s : State) :
    Keeps [AXS_SYNC_CFG] s (plainWrite p g AXS_SYNC_CFG data s) := by
  rw [plainWrite_fields rowAt_syncCfg rfl rfl]
  exact keeps_writeFields g _ data _ s

/-- A write with ARM set arms, and stores OUT_MODE (R113). -/
theorem writeReg_syncCfg_arms {data : Nat} (arm : data.testBit 4 = true) (p : Path) (g : Bool) (s : State) :
    (writeReg p g AXS_SYNC_CFG data s).get AXS_SYNC_CFG_OUT_MODE = bitsAt data 0 2 ∧
      (writeReg p g AXS_SYNC_CFG data s).on AXS_SYNC_CFG_ARM = true ∧
      Keeps [AXS_SYNC_CFG] s (writeReg p g AXS_SYNC_CFG data s) := by
  rw [writeReg_syncCfg, State.raiseIf, if_pos arm]
  refine ⟨?stored, State.on_raise _ rfl (by decide), (keeps_plainWrite_syncCfg p g data s).trans (keeps_set _ 1 List.mem_cons_self)⟩
  rw [State.get_set_apart _ AXS_SYNC_CFG_ARM AXS_SYNC_CFG_OUT_MODE 1 (by decide) (by decide)]
  exact plainWrite_get p g data rowAt_syncCfg List.mem_cons_self s

/-! ## SYNC_OUT (R114) -/

theorem syncFire_fires {s : State} (h : s.get AXS_SYNC_CFG_OUT_MODE = 1) :
    syncFire s = s.send (.syncOut (ticksOf ((s.ticks / 16 + 1) * 16))) := if_pos h

theorem syncFire_idle {s : State} (h : s.get AXS_SYNC_CFG_OUT_MODE ≠ 1) : syncFire s = s := if_neg h

theorem gives_syncFire {s : State} {p : Path} (takes : s.takes p AXS_SYNC_FIRE = true) (dt : Nat) :
    Gives (.syncFire dt p) s (syncFire (s.request dt p)) := by
  refine gives_of_act rfl ((write32_takes s dt p _ _ takes).trans ?_)
  rw [writeReg_syncFire]
  rfl

/-- Time passes for a request as for any command; its guard is no part of the count. -/
theorem ticks_request (s : State) (dt : Nat) (p : Path) : (s.request dt p).ticks = (s.tick dt).ticks := by
  rw [request_eq]
  rfl

/-! ## Detection (R112) -/

/-- What a detected epoch sends at once: under REPEAT its pulse, 16 ticks ahead (R114). -/
def State.repeatPulse (s : State) : List Msg :=
  if s.get AXS_SYNC_CFG_OUT_MODE = 2 then [.syncOut (stampAdd s.now (ticksOf 16))] else []

theorem detectEpoch_eq (s : State) :
    detectEpoch s = { s.set AXS_SYNC_LAST_E_AT (stampAdd s.now (ticksOf 128)) with
      axs := { s.axs with epoch := some (stampAdd s.now (ticksOf 128)) }, sent := s.sent ++ s.repeatPulse } := by
  have outMode : (s.set AXS_SYNC_LAST_E_AT (stampAdd s.now (ticksOf 128))).get AXS_SYNC_CFG_OUT_MODE = s.get AXS_SYNC_CFG_OUT_MODE :=
    State.get_set_ne s _ _ _ (by decide)
  by_cases repeats : s.get AXS_SYNC_CFG_OUT_MODE = 2
  · rw [State.repeatPulse, if_pos repeats]
    exact if_pos (outMode.trans repeats)
  · rw [State.repeatPulse, if_neg repeats, List.append_nil]
    exact if_neg (outMode.trans_ne repeats)

/-! ## The epoch comes about (R113) -/

theorem now_pend (n : Nat) (s : State) : (pend n s).now = s.now := by
  obtain ⟨_, _, _, h⟩ := signals_pend n s
  rw [h]

theorem axs_pend (n : Nat) (s : State) : (pend n s).axs = s.axs := by
  obtain ⟨_, _, _, h⟩ := signals_pend n s
  rw [h]

theorem takeEpoch_early {s : State} {e : Nat} (epoch : s.axs.epoch = some e)
    (early : s.past (stampAdd e (s.get AXS_SYNC_DESKEW_D)) = false) : takeEpoch s = s := by
  simp [takeEpoch, epoch, early]

section

variable {s : State} {e : Nat} (epoch : s.axs.epoch = some e) (due : s.past (stampAdd e (s.get AXS_SYNC_DESKEW_D)) = true)
include epoch due

/-- An epoch that acts restarts the count, ends the armed units and forgets the edges placed; the part that does not doze has nothing to
wake from. -/
theorem takeEpoch_acts (acts : s.epochActs = true) (awake : (endAllUnits (forgetEdges (zeroEpoch e s))).mode ≠ modeDoze) :
    takeEpoch s = endAllUnits (forgetEdges (zeroEpoch e s)) := by
  simp [takeEpoch, epoch, due, acts, awake]

theorem takeEpoch_ignored (ignored : s.epochActs = false) (awake : (zeroEpoch e s).mode ≠ modeDoze) : takeEpoch s = zeroEpoch e s := by
  simp [takeEpoch, epoch, due, ignored, awake]

end

/-- The state in which no epoch is to come any more. -/
def State.noEpoch (s : State) : State := { s with axs := { s.axs with epoch := none } }

/-- The state with the Axis count at `now`. -/
def State.withNow (s : State) (now : Nat) : State := { s with now := now }

theorem get_noEpoch (s : State) (f : Fld) : s.noEpoch.get f = s.get f := rfl

theorem get_withNow (s : State) (now : Nat) (f : Fld) : (s.withNow now).get f = s.get f := rfl

theorem zeroEpoch_acts {s : State} (acts : s.epochActs = true) (e : Nat) :
    zeroEpoch e s = pend 501 (((s.noEpoch.withNow ((s.now + 2 ^ 64 - stampAdd e (s.get AXS_SYNC_DESKEW_D)) % 2 ^ 64)).set
      AXS_SYNC_CFG_ARM 0).count AXS_EPOCH_COUNT_COUNT 1) := if_pos acts

theorem zeroEpoch_ignored {s : State} (ignored : s.epochActs = false) (e : Nat) :
    zeroEpoch e s = pend 501 (s.noEpoch.count AXS_EPOCH_IGNORED_COUNT 1) := if_neg (by simp [ignored])

/-- A count that wraps, of a field that lies within its word (R26). -/
theorem State.get_count (s : State) (f : Fld) (i : Nat) (h : f.lo + f.w ≤ 64) : (s.count f i).get f = (s.get f + i) % 2 ^ f.w :=
  State.get_set_self s f _ h

/-- An armed epoch restarts the count at its distance from E + D, counts itself and is no longer armed. -/
theorem zeroEpoch_restarts {s : State} (acts : s.epochActs = true) (e : Nat) :
    (zeroEpoch e s).now = (s.now + 2 ^ 64 - stampAdd e (s.get AXS_SYNC_DESKEW_D)) % 2 ^ 64 ∧
      (zeroEpoch e s).get AXS_EPOCH_COUNT_COUNT = (s.get AXS_EPOCH_COUNT_COUNT + 1) % 2 ^ 32 ∧
      (zeroEpoch e s).on AXS_SYNC_CFG_ARM = false := by
  rw [zeroEpoch_acts acts]
  refine ⟨?restarts, ?counts, ?disarms⟩
  case restarts => rw [now_pend, State.count, State.set_now, State.set_now, State.withNow]
  case counts =>
    rw [(keeps_pend 501 _).get (by decide), State.get_count _ _ _ (by decide), State.get_set_ne _ _ _ _ (by decide), get_withNow,
      get_noEpoch]
  case disarms =>
    rw [State.on_of_get ((keeps_pend 501 _).get (by decide)), State.count, State.on_of_get (State.get_set_ne _ _ _ _ (by decide))]
    exact State.on_set_zero _ rfl (by decide)

/-- An epoch that may not act is counted as ignored, and alters nothing but that count and the report of its event. -/
theorem zeroEpoch_ignores {s : State} (ignored : s.epochActs = false) (e : Nat) :
    (zeroEpoch e s).now = s.now ∧ (zeroEpoch e s).axs.epoch = none ∧
      (zeroEpoch e s).get AXS_EPOCH_IGNORED_COUNT = (s.get AXS_EPOCH_IGNORED_COUNT + 1) % 2 ^ 32 ∧
      Keeps [AXS_EPOCH_IGNORED, ICL_PEND 31, DMA_MSIX_PBA 0] s (zeroEpoch e s) := by
  have noEpoch : Keeps [AXS_EPOCH_IGNORED, ICL_PEND 31, DMA_MSIX_PBA 0] s s.noEpoch := ⟨fun _ _ => rfl, rfl, rfl, rfl, rfl, rfl⟩
  have count : Keeps [AXS_EPOCH_IGNORED, ICL_PEND 31, DMA_MSIX_PBA 0] s.noEpoch (s.noEpoch.count AXS_EPOCH_IGNORED_COUNT 1) :=
    keeps_set _ _ List.mem_cons_self
  have event := (keeps_pend 501 (s.noEpoch.count AXS_EPOCH_IGNORED_COUNT 1)).mono (List.subset_cons_self AXS_EPOCH_IGNORED _)
  rw [zeroEpoch_ignored ignored]
  refine ⟨now_pend 501 _, congrArg AxisState.epoch (axs_pend 501 _), ?counts, noEpoch.trans (count.trans event)⟩
  rw [(keeps_pend 501 _).get (by decide), State.get_count _ _ _ (by decide), get_noEpoch]

theorem epochActs_idle {s : State} (armed : s.on AXS_SYNC_CFG_ARM = true) (idle : s.mode = modeIdle)
    (still : s.on GLB_UPDATE_STAT_ARMED = false) : s.epochActs = true := by
  simp [State.epochActs, armed, idle, still]

theorem epochActs_of_unarmed {s : State} (unarmed : s.on AXS_SYNC_CFG_ARM = false) : s.epochActs = false := by
  simp [State.epochActs, unarmed]

end Sys2Proof.Machine
end

section
/-!
PROOFS. The statement about epochs (R112 to R114).
-/

namespace Sys2Proof.Machine
open Sys2Proof.Reg

/-- Settles O24: detection is `detectEpoch_eq`; at E + D the lemmas of `takeEpoch` tell the three cases apart, and those of `zeroEpoch` what
each leaves; SYNC_ARM and SYNC_FIRE are writes of their registers. -/
theorem epochsRestartTheCount : Obligations.EpochsRestartTheCount := by
  unfold Obligations.EpochsRestartTheCount
  refine ⟨?detects, ?comes, ?arms, ?fires⟩
  case detects =>
    intro s dt
    obtain ⟨regs, memories⟩ := keeps_set (as := [AXS_SYNC_LAST]) (s.tick dt) (f := AXS_SYNC_LAST_E_AT)
      (stampAdd (s.tick dt).now (ticksOf 128)) List.mem_cons_self
    exact ⟨_, gives_of_act rfl (detectEpoch_eq (s.tick dt)), State.get_set_self (s.tick dt) AXS_SYNC_LAST_E_AT _, rfl, rfl, regs,
      memories⟩
  case comes =>
    intro s dt e epoch
    dsimp only
    refine ⟨fun early => gives_of_act rfl (takeEpoch_early (s := s.tick dt) epoch early), fun due armed idle still => ?acts,
      fun due unarmed awake => ?ignored⟩
    case acts =>
      have acts : (s.tick dt).epochActs = true := epochActs_idle (s := s.tick dt) armed idle still
      exact ⟨fun awake => gives_of_act rfl (takeEpoch_acts (s := s.tick dt) epoch due acts awake), zeroEpoch_restarts acts e⟩
    case ignored =>
      have ignored : (s.tick dt).epochActs = false := epochActs_of_unarmed (s := s.tick dt) unarmed
      obtain ⟨now, none, count, keeps⟩ := zeroEpoch_ignores ignored e
      have mode : (zeroEpoch e (s.tick dt)).mode = s.mode := keeps.get (f := GLB_MODE_MODE) (by decide)
      exact ⟨_, gives_of_act rfl (takeEpoch_ignored (s := s.tick dt) epoch due ignored (mode ▸ awake)), now, none, count, keeps⟩
  case arms =>
    intro s dt m p takes
    have arm : ((m % 4 + 16) % 2 ^ 32).testBit 4 = true := by
      have table : ∀ k < 4, ((k + 16) % 2 ^ 32).testBit 4 = true := by decide
      exact table (m % 4) (Nat.mod_lt m (by decide))
    have mode : bitsAt ((m % 4 + 16) % 2 ^ 32) 0 2 = m % 4 := by
      have table : ∀ k < 4, bitsAt ((k + 16) % 2 ^ 32) 0 2 = k := by decide
      exact table (m % 4) (Nat.mod_lt m (by decide))
    obtain ⟨stored, armed, keeps⟩ := writeReg_syncCfg_arms arm p (s.guardOpen p) (s.request dt p)
    exact ⟨_, gives_of_act rfl (write32_takes s dt p _ _ takes), stored.trans mode, armed,
      ((keeps_request s dt p).mono (by simp)).trans (keeps.mono (by simp))⟩
  case fires =>
    intro s dt p takes
    have outMode : (s.request dt p).get AXS_SYNC_CFG_OUT_MODE = s.get AXS_SYNC_CFG_OUT_MODE := get_request s dt p (by decide)
    have gives := gives_syncFire takes dt
    refine ⟨fun fire => ?_, fun other => ?_⟩
    · rwa [syncFire_fires (outMode.trans fire), ticks_request] at gives
    · rwa [syncFire_idle (outMode.trans_ne other)] at gives

end Sys2Proof.Machine
end

section
/-!
SUPPORT. Requests to a chord (R147, R148, R162): where the writes of ARC_JREQ and ARC_JREQ_AT go, that a path's guard stays armed between
them, and what a request leaves in the rays of its chord.
-/

namespace Sys2Proof.Machine
open Sys2Proof.Reg

/-! ## A field that stands as written -/

/-- An entry that stands keeps standing when another is inserted behind it. -/
theorem Store.insert_stands {α : Type} {m : Store α} {a b : Nat} {v : α} (stands : Store.insert a v m = m) (h : a < b) (w : α) :
    Store.insert a v (Store.insert b w m) = Store.insert b w m := by
  induction m with
  | nil => exact nomatch stands
  | cons e m ih =>
    obtain ⟨k, x⟩ := e
    rcases Nat.lt_trichotomy a k with before | rfl | behind
    · simp only [Store.insert, if_pos before, List.cons.injEq, Prod.mk.injEq] at stands
      omega
    · simp only [Store.insert, Nat.lt_irrefl, if_false, if_true, List.cons.injEq, Prod.mk.injEq, true_and, and_true] at stands
      simp [Store.insert, Nat.not_lt.2 h.le, h.ne', stands]
    · simp only [Store.insert, Nat.not_lt.2 behind.le, behind.ne', if_false, List.cons.injEq, true_and] at stands
      have farther : ¬ b < k ∧ b ≠ k := by omega
      simp [Store.insert, Nat.not_lt.2 behind.le, behind.ne', farther, ih stands]

theorem Store.insert_erase_stands {α : Type} {m : Store α} {a b : Nat} {v : α} (stands : Store.insert a v m = m) (h : a < b) :
    Store.insert a v (Store.erase b m) = Store.erase b m := by
  induction m with
  | nil => exact nomatch stands
  | cons e m ih =>
    obtain ⟨k, x⟩ := e
    rcases Nat.lt_trichotomy a k with before | rfl | behind
    · simp only [Store.insert, if_pos before, List.cons.injEq, Prod.mk.injEq] at stands
      omega
    · simp only [Store.insert, Nat.lt_irrefl, if_false, if_true, List.cons.injEq, Prod.mk.injEq, true_and, and_true] at stands
      simp [Store.erase, Store.insert, h.ne, stands]
    · simp only [Store.insert, Nat.not_lt.2 behind.le, behind.ne', if_false, List.cons.injEq, true_and] at stands
      have apart : k ≠ b := by omega
      have same : Store.erase b ((k, x) :: m) = (k, x) :: Store.erase b m := by simp [Store.erase, apart]
      rw [same]
      simp [Store.insert, Nat.not_lt.2 behind.le, behind.ne', ih stands]

/-- A value that stands at a key keeps standing when a higher key is written. -/
theorem Store.put_stands {α : Type} [DecidableEq α] (d : Nat → α) {m : Store α} {a b : Nat} {v : α} (stands : Store.put d m a v = m)
    (h : a < b) (w : α) : Store.put d (Store.put d m b w) a v = Store.put d m b w := by
  by_cases default : v = d a
  · simp only [Store.put, if_pos default] at stands ⊢
    have absent : ∀ e ∈ m, e.1 ≠ a := by simpa [Store.erase] using stands
    refine List.filter_eq_self.2 fun e he => bne_iff_ne.2 ?_
    split at he
    · exact absent e (List.mem_filter.1 he).1
    · obtain rfl | he := Store.mem_insert he
      · exact h.ne'
      · exact absent e he
  · simp only [Store.put, if_neg default] at stands ⊢
    split
    · exact Store.insert_erase_stands stands h
    · exact Store.insert_stands stands h w

theorem State.set_stands {s : State} {f g : Fld} {v : Nat} (stands : s.set f v = s) (h : f.addr < g.addr) (w : Nat) :
    (s.set g w).set f v = s.set g w := by
  have word : (s.set g w).reg f.addr = s.reg f.addr := State.reg_set_ne s g w h.ne
  have regs := Store.put_stands rstWord (congrArg State.regs stands) h (insertBits (s.reg g.addr) g.lo g.w w)
  rw [State.set, word]
  exact congrArg (fun r => ({ s with regs := r } : State)) regs

/-! ## A guard that stays armed (R34) -/

theorem setGuard_set {s : State} {p : Path} (armed : setGuard p false s = s) {g : Fld} (h : GLB_GUARD_STAT < g.addr) (w : Nat) :
    setGuard p false (s.set g w) = s.set g w := by
  cases p
  case smbus => rfl
  all_goals exact State.set_stands armed h w

theorem setGuard_request (s : State) (dt : Nat) (p : Path) : setGuard p false (s.request dt p) = s.request dt p :=
  setGuard_idem p false (s.tick dt)

/-- A whole write of a register behind another request of the same command. -/
theorem write32_armed {s : State} {p : Path} {a : Nat} {r : RegRow} {high : Bool} (armed : setGuard p false s = s)
    (h : s.Serves p a r high) (hq : r.quad = false) (d : Nat) :
    write32 p a d s = writeReg p (s.guardOpen p) a (d % 2 ^ 32) s := by
  rw [write32, busWrite, armed, h.alive]
  simp [writeItems, writeOne, admitWrite, h.opens, h.powered, h.present, h.row, hq]

/-! ## The registers of a request (R162) -/

/-- Whether a register of ARC is served rests on the path and the mode alone (R68, R73). -/
theorem serves_arc {s t : State} {p : Path} {a b : Nat} {r r' : RegRow} {high high' : Bool} (h : s.Serves p a r high)
    (mode : t.mode = s.mode) (arcA : 0x300000 ≤ a ∧ a < 0x400000) (arcB : 0x300000 ≤ b ∧ b < 0x400000)
    (row : rowAt b = some (r', high')) : t.Serves p b r' high' where
  alive := by rw [State.pathDead, mode]; exact h.alive
  opens := by
    have farA : ¬ a < 0x10000 ∧ ¬ a < 0x60000 := by omega
    have farB : ¬ b < 0x10000 ∧ ¬ b < 0x60000 := by omega
    have opens := h.opens
    simp only [State.hostShut, farA] at opens
    simpa [State.hostShut, farB, mode] using opens
  powered := by
    have below : ¬ 0x1000000 ≤ b := by omega
    simp [State.windowGated, below]
  present := by simp [State.implemented, blockOf_arc arcB.1 arcB.2, row]
  row := row

/-- The row of ARC_JREQ_AT (R162). -/
def jreqAtRow : RegRow := ⟨"JREQ_AT", 0xd0008, true, [(512, 0x10)], [⟨"AT", 0, 64, .rw, 0⟩]⟩

/-- No register of a row with these dimensions lies as far as this behind the first. -/
def dimsSpan (quad : Bool) : List (Nat × Nat) → Nat
  | [] => if quad then 8 else 4
  | (n, st) :: ds => (n - 1) * st + dimsSpan quad ds

theorem lt_dimsSpan {quad high : Bool} {ds : List (Nat × Nat)} {o : Nat} (h : dimsHit quad ds o = some high) : o < dimsSpan quad ds := by
  induction ds generalizing o with
  | nil =>
    rw [dimsHit] at h
    split at h
    next first => subst first; cases quad <;> decide
    · split at h
      next second => simp [dimsSpan, second]
      · exact nomatch h
  | cons d ds ih =>
    obtain ⟨n, st⟩ := d
    rw [dimsHit] at h
    split at h
    next inside =>
      have rest := ih h
      have rows : o / st * st ≤ (n - 1) * st := Nat.mul_le_mul_right st (Nat.le_sub_one_of_lt inside)
      have whole := Nat.div_add_mod' o st
      rw [dimsSpan]
      omega
    · exact nomatch h

/-- The row ends before offset `base`, or its registers, `st` bytes apart, lie between those of an array from `base` with that stride. -/
def RegRow.misses (r : RegRow) (base st : Nat) : Bool :=
  r.off + dimsSpan r.quad r.dims ≤ base ||
    match r.dims with
    | [(_, st')] => st' == st && r.off ≤ base && (base - r.off) % st != 0 && !(r.quad && (base - r.off) % st == 4)
    | _ => false

theorem RegRow.hit_of_misses {r : RegRow} {base st : Nat} (h : r.misses base st = true) (i : Nat) : r.hit (base + i * st) = none := by
  rw [RegRow.misses, Bool.or_eq_true, decide_eq_true_eq] at h
  obtain ends | between := h
  · rw [RegRow.hit]
    split
    · rfl
    · rw [Option.eq_none_iff_forall_ne_some]
      intro high hit
      have := lt_dimsSpan hit
      omega
  · split at between
    next n st' array =>
      simp only [Bool.and_eq_true, beq_iff_eq, decide_eq_true_eq, bne_iff_ne, Bool.not_eq_true', Bool.and_eq_false_iff,
        beq_eq_false_iff_ne] at between
      obtain ⟨⟨⟨rfl, below⟩, beside⟩, single⟩ := between
      have place : base + i * st' - r.off = base - r.off + i * st' := by omega
      have word : ¬ (r.quad = true ∧ (base - r.off) % st' = 4) := fun ⟨pair, four⟩ => by simp [pair, four] at single
      rw [RegRow.hit, if_neg (by omega), array, place, dimsHit, Nat.add_mul_mod_self_right]
      split
      · rw [dimsHit, if_neg beside, if_neg word]
      · rfl
    · exact nomatch between

theorem rowAt_arc {a o : Nat} (ho : o < 0x100000) (ha : a = 0x300000 + o) : rowAt a = findRow rowsArc o := by
  have offset : blockOffset .arc a = o := by
    show a - 0x300000 = o
    omega
  rw [rowAt, blockOf_arc (by omega) (by omega)]
  show findRow rowsArc (blockOffset .arc a) = _
  rw [offset]

theorem rowAt_jreqAt {k : Nat} (hk : k < 512) : rowAt (ARC_JREQ_AT k) = some (jreqAtRow, false) := by
  have missed : ∀ x ∈ rowsArc.take 24, x.misses 0xd0008 0x10 = true := by decide
  have place : ARC_JREQ_AT k = 0x300000 + (0xd0008 + k * 0x10) := by unfold ARC_JREQ_AT; omega
  rw [rowAt_arc (by omega) place]
  exact findRow_of_hit (pre := rowsArc.take 24) (post := rowsArc.drop 25) (fun x hx => RegRow.hit_of_misses (missed x hx) k)
    (RegRow.hit_elem (r := jreqAtRow) rfl (by decide) hk)

/-- Of the requests' registers ARC_JREQ alone has a behaviour of its own. -/
theorem writeReg_requests {a : Nat} (lo : ARC_JREQ 0 ≤ a) (hi : a < ARC_JREQ 512) (p : Path) (g : Bool) (data : Nat) (s : State) :
    writeReg p g a data s =
      firstOf (plainWrite p g a) [(indexIn (ARC_JREQ 0) 0x10 512 a).map fun k => fun data => writeJreq k data] data s := by
  unfold ARC_JREQ at lo hi
  have outside : inSiteTables a = false := by
    simp only [inSiteTables, Bool.or_eq_false_iff, Bool.and_eq_false_iff, decide_eq_false_iff_not]
    omega
  have held : indexIn (ARC_VHOLD 0) 4 128 a = none := indexIn_beyond (by decide) (by unfold ARC_VHOLD; omega)
  have inked : indexIn (ARC_INKED 0) 4 128 a = none := if_neg (by unfold ARC_INKED; omega)
  have chords : indexIn (ARC_CHORD_STAT 0) 0x20 512 a = none := indexIn_beyond (by decide) (by unfold ARC_CHORD_STAT; omega)
  rw [writeReg_arc (by omega) (by omega), writeArc, if_neg (by unfold ARC_CANCEL; omega), if_neg (by unfold ARC_REPLAY_GO; omega),
    if_neg (by unfold ARC_SITE_CTRL; omega), if_neg (by unfold ARC_WALLCLOCK; omega), outside, held, inked, chords]
  rfl

theorem writeReg_jreq {k : Nat} (hk : k < 512) (p : Path) (g : Bool) (data : Nat) (s : State) :
    writeReg p g (ARC_JREQ k) data s = writeJreq k data s := by
  have index : indexIn (ARC_JREQ 0) 0x10 512 (ARC_JREQ k) = some k := indexIn_elem (base := ARC_JREQ 0) (by decide) hk
  rw [writeReg_requests (by unfold ARC_JREQ; omega) (by unfold ARC_JREQ; omega), index]
  rfl

theorem writeReg_jreqAt {k : Nat} (hk : k < 512) (p : Path) (g : Bool) (data : Nat) (s : State) :
    writeReg p g (ARC_JREQ_AT k) data s = s.set (ARC_JREQ_AT_AT k) data := by
  have beside : indexIn (ARC_JREQ 0) 0x10 512 (ARC_JREQ_AT k) = none := if_neg (by unfold ARC_JREQ ARC_JREQ_AT; omega)
  rw [writeReg_requests (by unfold ARC_JREQ ARC_JREQ_AT; omega) (by unfold ARC_JREQ ARC_JREQ_AT; omega), beside]
  exact (plainWrite_fields (rowAt_jreqAt hk) rfl rfl p g data s).trans (State.set_mod s (ARC_JREQ_AT_AT k) data)

/-! ## The word of a request (R147) -/

theorem writeJreq_untimed {kind : Nat} (hkind : kind < 3) (k vec : Nat) (s : State) :
    writeJreq k ((vec % 16 + 256 * kind) % 2 ^ 32) s = makeRequest k ⟨kind, vec % 16, s.now, 2⟩ s := by
  have table : ∀ kind < 3, ∀ v < 16, bitsAt ((v + 256 * kind) % 2 ^ 32) 8 2 = kind ∧ bitsAt ((v + 256 * kind) % 2 ^ 32) 0 4 = v ∧
      ((v + 256 * kind) % 2 ^ 32).testBit 12 = false := by decide
  obtain ⟨kindBits, vecBits, timed⟩ := table kind hkind (vec % 16) (Nat.mod_lt vec (by decide))
  rw [writeJreq, kindBits, vecBits, timed]
  exact if_neg hkind.ne

/-- The stamp of a timed request: that of its stamp register `at_`, cut to whole ticks, unless it has passed at `now`. -/
def requestStamp (at_ now : Nat) : Nat := if 0 ≤ stampDiff (at_ / 256 * 256) now then at_ / 256 * 256 else now

theorem writeJreq_timed {kind : Nat} (hkind : kind < 3) (k vec : Nat) (s : State) :
    writeJreq k ((vec % 16 + 256 * kind + 2 ^ 12) % 2 ^ 32) s =
      makeRequest k ⟨kind, vec % 16, requestStamp (s.get (ARC_JREQ_AT_AT k)) s.now, 1⟩ s := by
  have table : ∀ kind < 3, ∀ v < 16, bitsAt ((v + 256 * kind + 2 ^ 12) % 2 ^ 32) 8 2 = kind ∧
      bitsAt ((v + 256 * kind + 2 ^ 12) % 2 ^ 32) 0 4 = v ∧ ((v + 256 * kind + 2 ^ 12) % 2 ^ 32).testBit 12 = true := by decide
  obtain ⟨kindBits, vecBits, timed⟩ := table kind hkind (vec % 16) (Nat.mod_lt vec (by decide))
  simp only [writeJreq, kindBits, vecBits, timed, Bool.true_and, decide_eq_true_eq, if_neg hkind.ne, if_true, requestStamp]

section

variable {s : State} {p : Path} {k kind : Nat} (hk : k < 512) (takes : s.takes p (ARC_JREQ k) = true) (hkind : kind < 3)
include hk takes hkind

theorem writeTimedRequest_none (dt vec : Nat) :
    writeTimedRequest p k kind vec none (s.tick dt) = makeRequest k ⟨kind, vec % 16, (s.tick dt).now, 2⟩ (s.request dt p) := by
  have now : (s.request dt p).now = (s.tick dt).now := by rw [request_eq]
  rw [writeTimedRequest, write32_takes s dt p _ _ takes, writeReg_jreq hk, writeJreq_untimed hkind, now]

/-- A timed request stores its stamp first, and then acts on what it stored. -/
theorem writeTimedRequest_some (dt vec : Nat) {at_ : Nat} (hat : at_ < 2 ^ 64) :
    writeTimedRequest p k kind vec (some at_) (s.tick dt) =
      makeRequest k ⟨kind, vec % 16, requestStamp at_ (s.request dt p).now, 1⟩ ((s.request dt p).set (ARC_JREQ_AT_AT k) at_) := by
  have jreq : 0x300000 ≤ ARC_JREQ k ∧ ARC_JREQ k < 0x400000 := by unfold ARC_JREQ; omega
  have jreqAt : 0x300000 ≤ ARC_JREQ_AT k ∧ ARC_JREQ_AT k < 0x400000 := by unfold ARC_JREQ_AT; omega
  have apart : GLB_GUARD_STAT < ARC_JREQ_AT k ∧ GLB_MODE ≠ ARC_JREQ_AT k := by unfold GLB_GUARD_STAT GLB_MODE ARC_JREQ_AT; omega
  obtain ⟨r, high, served, single⟩ := serves_of_takes takes
  have stores : write64 p (ARC_JREQ_AT k) at_ (s.tick dt) = (s.request dt p).set (ARC_JREQ_AT_AT k) at_ := by
    rw [write64_served (serves_arc served rfl jreq jreqAt (rowAt_jreqAt hk)) rfl, writeReg_jreqAt hk, Nat.mod_eq_of_lt hat]
  have mode : ((s.request dt p).set (ARC_JREQ_AT_AT k) at_).mode = s.mode :=
    (State.get_set_ne _ _ _ _ apart.2).trans (mode_request s dt p)
  have stamp : ((s.request dt p).set (ARC_JREQ_AT_AT k) at_).get (ARC_JREQ_AT_AT k) = at_ :=
    (State.get_set_self _ (ARC_JREQ_AT_AT k) at_ (Nat.le_refl 64)).trans (Nat.mod_eq_of_lt hat)
  rw [writeTimedRequest, stores, write32_armed (setGuard_set (setGuard_request s dt p) apart.1 at_)
    (serves_arc served mode jreq jreq served.row) single, writeReg_jreq hk, writeJreq_timed hkind, stamp, State.set_now]

end

/-! ## What a request leaves in the rays (R147, R148) -/

theorem ray_modRay (f r f' r' : Nat) (g : Ray → Ray) (s : State) :
    (modRay f r g s).ray f' r' = if 32 * f' + r' = 32 * f + r then g (s.ray f' r') else s.ray f' r' := by
  rw [State.ray, modRay, Store.find_put]
  split
  next same => rw [State.ray, State.ray, same]
  next other => rfl

theorem ray_raiseRay (flag : Fld) (src : Nat) (s : State) (f r : Nat) : (raiseRay flag src s).ray f r = s.ray f r := by
  unfold raiseRay
  split
  · rfl
  · obtain ⟨_, _, _, h⟩ := signals_pend src (s.raise flag)
    rw [h]
    rfl

/-- A request that is discarded leaves the ABORT that a ray holds. -/
theorem abort_discardRequest (f r f' r' : Nat) (s : State) : ((discardRequest f r s).ray f' r').abort = (s.ray f' r').abort := by
  have forgets (s : State) :
      ((modRay f r (fun y => { y with latched := none, due := false, late := false }) s).ray f' r').abort = (s.ray f' r').abort := by
    rw [ray_modRay]
    split <;> rfl
  unfold discardRequest
  split
  · rfl
  · dsimp only
    split
    · rw [ray_raiseRay]
      exact forgets s
    · exact forgets s

/-- What every action on a list that holds `x` keeps, and the action on `x` makes where `I` holds, stands after all of them. -/
theorem foldl_reaches {α : Type} {I P : State → Prop} {g : State → α → State} {x : α} {xs : List α} (hx : x ∈ xs)
    (keepsI : ∀ s y, I s → I (g s y)) (keepsP : ∀ s y, P s → P (g s y)) (makes : ∀ s, I s → P (g s x)) {s : State} (hs : I s) :
    P (xs.foldl g s) := by
  have stays (ys : List α) (t : State) (ht : P t) : P (ys.foldl g t) := by
    induction ys generalizing t with
    | nil => exact ht
    | cons y ys ih => exact ih (g t y) (keepsP t y ht)
  induction xs generalizing s with
  | nil => exact nomatch hx
  | cons y ys ih =>
    obtain rfl | later := List.mem_cons.1 hx
    · exact stays ys _ (makes s hs)
    · exact ih later (keepsI s y hs)

/-- The rays of chord `k` that are ARMED or in a later state. -/
def State.busyRays (s : State) (k : Nat) : List (Nat × Nat) := (s.chordRays k).filter fun x => s.rayState x.1 x.2 ≠ rayIdle

theorem mem_busyRays {s : State} {k f r : Nat} (h : (f, r) ∈ s.chordRays k) (busy : s.rayState f r ≠ rayIdle) :
    (f, r) ∈ s.busyRays k := List.mem_filter.2 ⟨h, by simpa using busy⟩

theorem makeRequest_idle {s : State} {k : Nat} (h : s.chordRunning k = false) (q : Request) :
    makeRequest k q s = s.raise (ARC_JREQ_STAT_IDLE_DROP k) := if_pos (by simp [h])

/-- An ABORT at one ray: its latched request is discarded, and the earlier of the new stamp and one already held stands (R147). -/
def holdAbort (q : Request) (s : State) (x : Nat × Nat) : State :=
  modRay x.1 x.2 (fun y => { y with abort := some (match y.abort with
    | some t => if stampDiff q.treq t < 0 then q.treq else t
    | none => q.treq) }) (discardRequest x.1 x.2 s)

theorem makeRequest_abort {s : State} {k : Nat} {q : Request} (running : s.chordRunning k = true) (h : q.kind = 2) :
    makeRequest k q s = (s.busyRays k).foldl (holdAbort q) s :=
  (if_neg (by simp [running])).trans (if_pos h)

/-- A JUMP or STOP latched at one ray. -/
def latchRequest (q : Request) (s : State) (x : Nat × Nat) : State :=
  modRay x.1 x.2 (fun y => { y with latched := some q, due := false, late := false }) s

/-- The first JUMP or STOP is latched by every ray that is not idle. -/
theorem makeRequest_first {s : State} {k f r : Nat} {q : Request} {rest : List (Nat × Nat)} (running : s.chordRunning k = true)
    (h : q.kind < 2) (rays : s.busyRays k = (f, r) :: rest) (free : (s.ray f r).latched = none) :
    makeRequest k q s = ((s.busyRays k).foldl (latchRequest q) s).raise (ARC_JREQ_STAT_LATCHED k) := by
  have busy : (s.chordRays k).filter (fun x => s.rayState x.1 x.2 ≠ rayIdle) = (f, r) :: rest := rays
  rw [rays]
  simp only [makeRequest, running, Bool.not_true, Bool.false_eq_true, if_false, if_neg h.ne, busy, free]
  rfl

theorem abort_holdAbort (q : Request) (s : State) (x : Nat × Nat) (f r : Nat) :
    ((holdAbort q s x).ray f r).abort = if 32 * f + r = 32 * x.1 + x.2 then
      some (match (s.ray f r).abort with
        | some t => if stampDiff q.treq t < 0 then q.treq else t
        | none => q.treq) else (s.ray f r).abort := by
  rw [holdAbort, ray_modRay]
  split <;> simp only [abort_discardRequest]

theorem latched_latchRequest (q : Request) (s : State) (x : Nat × Nat) (f r : Nat) :
    ((latchRequest q s x).ray f r).latched = if 32 * f + r = 32 * x.1 + x.2 then some q else (s.ray f r).latched := by
  rw [latchRequest, ray_modRay]
  split <;> rfl

theorem stampDiff_self (t : Nat) : stampDiff t t = 0 := by
  have whole : (t + 2 ^ 64 - t % 2 ^ 64) % 2 ^ 64 = 0 := by omega
  rw [stampDiff, signed, whole]
  rfl

/-- A ray without an ABORT holds the one that is made to it. -/
theorem abort_foldl {q : Request} {f r : Nat} {xs : List (Nat × Nat)} (hx : (f, r) ∈ xs) {s : State} (free : (s.ray f r).abort = none) :
    ((xs.foldl (holdAbort q) s).ray f r).abort = some q.treq := by
  refine foldl_reaches (I := fun t => (t.ray f r).abort = none ∨ (t.ray f r).abort = some q.treq)
    (P := fun t => (t.ray f r).abort = some q.treq) hx (fun t y ht => ?_) (fun t y ht => ?_) (fun t ht => ?_) (.inl free)
  · rw [abort_holdAbort]
    split
    · obtain ht | ht := ht <;> simp [ht]
    · exact ht
  · rw [abort_holdAbort, ht]
    simp
  · rw [abort_holdAbort, if_pos rfl]
    obtain ht | ht := ht <;> simp [ht]

theorem latched_foldl {q : Request} {f r : Nat} {xs : List (Nat × Nat)} (hx : (f, r) ∈ xs) (s : State) :
    ((xs.foldl (latchRequest q) s).ray f r).latched = some q := by
  refine foldl_reaches (I := fun _ => True) (P := fun t => (t.ray f r).latched = some q) hx (fun _ _ _ => trivial) (fun t y ht => ?_)
    (fun t _ => ?_) trivial
  · rw [latched_latchRequest, ht, ite_self]
  · rw [latched_latchRequest, if_pos rfl]

end Sys2Proof.Machine
end

section
/-!
PROOFS. The statement about requests to a chord (R147, R148, R162).
-/

namespace Sys2Proof.Machine
open Sys2Proof.Reg

/-- Settles O26: the commands make their request by `writeTimedRequest_none` and `writeTimedRequest_some`, a chord without a phase drops it
(`makeRequest_idle`), and in a chord with one every ray that is not idle holds an ABORT (`abort_foldl`) and latches a first JUMP or STOP
(`latched_foldl`). -/
theorem requestsReachTheRays : Obligations.RequestsReachTheRays := by
  unfold Obligations.RequestsReachTheRays
  refine ⟨?makes, fun s k q idle => makeRequest_idle idle q, ?reaches⟩
  case makes =>
    intro s dt k vec p hk takes
    refine ⟨gives_of_act rfl (writeTimedRequest_none hk takes (by decide) dt vec),
      gives_of_act rfl (writeTimedRequest_none hk takes (by decide) dt 0),
      gives_of_act rfl (writeTimedRequest_none hk takes (by decide) dt 0), fun at_ hat => ?_⟩
    exact ⟨gives_of_act rfl (writeTimedRequest_some hk takes (by decide) dt vec hat),
      gives_of_act rfl (writeTimedRequest_some hk takes (by decide) dt 0 hat),
      gives_of_act rfl (writeTimedRequest_some hk takes (by decide) dt 0 hat)⟩
  case reaches =>
    intro s k f r q running member busy _ _
    have reached : (f, r) ∈ s.busyRays k := mem_busyRays member busy
    refine ⟨fun abort unheld => ?aborts, fun jumpOrStop free => ?latches⟩
    case aborts =>
      rw [makeRequest_abort running abort]
      exact ⟨q.treq, abort_foldl reached unheld, (stampDiff_self q.treq).ge⟩
    case latches =>
      match rays : s.busyRays k with
      | [] => exact absurd (rays ▸ reached) List.not_mem_nil
      | first :: rest =>
        have among : first ∈ s.busyRays k := rays ▸ List.mem_cons_self
        rw [makeRequest_first running jumpOrStop rays (free first (List.mem_filter.1 among).1)]
        exact latched_foldl reached s

end Sys2Proof.Machine
end

section
/-!
SUPPORT. Words of the byte memories: little-endian numbers read as they were written, alone and in a row (R23).
-/

namespace Sys2Proof.Machine

/-! ## One number -/

theorem length_leBytes (n v : Nat) : (leBytes n v).length = n := by
  induction n generalizing v with
  | zero => rfl
  | succ n ih => rw [leBytes, List.length_cons, ih]

theorem leNat_leBytes (n v : Nat) : leNat (leBytes n v) = v % 256 ^ n := by
  induction n generalizing v with
  | zero => simp [leBytes, leNat, Nat.mod_one]
  | succ n ih =>
    rw [leBytes, leNat, ih, BitVec.toNat_ofNat, Nat.pow_succ' (m := 256)]
    exact Nat.mod_mul.symm

theorem Memory.bytes_putBytes (bs : List Byte) (m : Mem) (a : Nat) :
    Memory.bytes (Memory.putBytes m a bs) a bs.length = bs := by
  refine List.ext_getElem (by simp [Memory.bytes]) fun i _ inside => ?_
  simp [Memory.bytes, Memory.byte_putBytes_inside bs m a i inside]

/-- A number reads as it was written, modulo its width. -/
theorem Memory.word_putWord (m : Mem) (a n v : Nat) : Memory.word (Memory.putWord m a n v) a n = v % 256 ^ n := by
  have bytes := Memory.bytes_putBytes (leBytes n v) m a
  rw [length_leBytes] at bytes
  rw [Memory.word, Memory.putWord, bytes, leNat_leBytes]

theorem Memory.byte_putWord_outside (m : Mem) {a n b : Nat} (v : Nat) (h : b < a ∨ a + n ≤ b) :
    Memory.byte (Memory.putWord m a n v) b = Memory.byte m b :=
  Memory.byte_putBytes_outside _ m a b (by rwa [length_leBytes])

/-- A number is read from its own bytes alone. -/
theorem Memory.word_congr {m m' : Mem} {a n : Nat} (h : ∀ i < n, Memory.byte m' (a + i) = Memory.byte m (a + i)) :
    Memory.word m' a n = Memory.word m a n :=
  congrArg leNat (List.map_congr_left fun i hi => h i (List.mem_range.1 hi))

/-! ## Doublewords in a row -/

/-- `n` doublewords from `a` up. -/
def Memory.putDwords (m : Mem) (a n : Nat) (val : Nat → Nat) : Mem :=
  (List.range n).foldl (fun m i => Memory.putWord m (a + 4 * i) 4 (val i)) m

theorem Memory.putDwords_succ (m : Mem) (a n : Nat) (val : Nat → Nat) :
    Memory.putDwords m a (n + 1) val = Memory.putWord (Memory.putDwords m a n val) (a + 4 * n) 4 (val n) := by
  rw [Memory.putDwords, List.range_succ, List.foldl_append]
  rfl

theorem Memory.byte_putDwords_outside (m : Mem) {a n b : Nat} (val : Nat → Nat) (h : b < a ∨ a + 4 * n ≤ b) :
    Memory.byte (Memory.putDwords m a n val) b = Memory.byte m b := by
  induction n with
  | zero => rfl
  | succ n ih => rw [Memory.putDwords_succ, Memory.byte_putWord_outside _ _ (by omega), ih (by omega)]

theorem Memory.word_putDwords (m : Mem) (a : Nat) {n j : Nat} (val : Nat → Nat) (hj : j < n) :
    Memory.word (Memory.putDwords m a n val) (a + 4 * j) 4 = val j % 2 ^ 32 := by
  induction n with
  | zero => exact nomatch hj
  | succ n ih =>
    rw [Memory.putDwords_succ]
    obtain rfl | less : j = n ∨ j < n := by omega
    · exact Memory.word_putWord _ _ 4 _
    · rw [Memory.word_congr fun i hi => Memory.byte_putWord_outside _ _ (by omega), ih less]

end Sys2Proof.Machine
end

section
/-!
SUPPORT. Stream queues (R149, R161) and the microcode window (R158): where the writes of their registers go, and what a queue's configuration,
a word that arrives and a microcode doubleword leave.
-/

namespace Sys2Proof.Machine
open Sys2Proof.Reg

/-! ## The states of rays under a request -/

@[simp] theorem rayState_request (s : State) (dt : Nat) (p : Path) (f r : Nat) : (s.request dt p).rayState f r = s.rayState f r := by
  have apart : FCT_RAY_STAT f r ≠ GLB_GUARD_STAT := by unfold FCT_RAY_STAT GLB_GUARD_STAT; omega
  exact get_request s dt p apart

@[simp] theorem raysIdle_request (s : State) (dt : Nat) (p : Path) (f : Nat) : (s.request dt p).raysIdle f = s.raysIdle f := by
  simp only [State.raysIdle, rayState_request]

@[simp] theorem fct_request (s : State) (dt : Nat) (p : Path) (f : Nat) : (s.request dt p).fct f = s.fct f := by
  rw [request_eq]; rfl

/-! ## The registers of a queue (R161) -/

theorem writeReg_queue {f r o : Nat} (hf : f < 16) (hr : r < 32) (ho : o < 0x20) (p : Path) (g : Bool) (data : Nat) (s : State) :
    writeReg p g (FCT_SQ_CFG f r + o) data s = writeQueue p f r o (FCT_SQ_CFG f r + o) data s := by
  have place : FCT_SQ_CFG f r + o = 0x1000000 + f * 0x80000 + (0x6B000 + r * 0x20 + o) := by unfold FCT_SQ_CFG; omega
  have ray : (0x6B000 + r * 0x20 + o - 0x6B000) / 0x20 = r := by omega
  have offset : (0x6B000 + r * 0x20 + o) % 0x20 = o := by omega
  rw [writeReg_fct hf (by omega) place, writeFct]
  rw [if_neg (by omega), if_neg (by omega), if_neg (by omega), if_neg (by omega), if_neg (by omega), if_pos (by omega), ray, offset]

theorem writeReg_sqCfg {f r : Nat} (hf : f < 16) (hr : r < 32) (p : Path) (g : Bool) (data : Nat) (s : State) :
    writeReg p g (FCT_SQ_CFG f r) data s = writeQueueCfg f r data s :=
  (writeReg_queue hf hr (o := 0) (by decide) p g data s).trans (if_pos rfl)

/-- The row of FCT_SQ_PROD (R161). -/
def sqProdRow : RegRow := ⟨"SQ_PROD", 0x6b010, false, [(32, 0x20)], [⟨"PROD", 0, 32, .rw, 0⟩]⟩

theorem rowAt_sqProd {f r : Nat} (hf : f < 16) (hr : r < 32) : rowAt (FCT_SQ_PROD f r) = some (sqProdRow, false) := by
  have missed : ∀ x ∈ rowsFct.take 50, x.misses 0x6b010 0x20 = true := by decide
  have place : FCT_SQ_PROD f r = 0x1000000 + f * 0x80000 + (0x6b010 + r * 0x20) := by unfold FCT_SQ_PROD; omega
  rw [rowAt_fct hf (by omega) place]
  exact findRow_of_hit (pre := rowsFct.take 50) (post := rowsFct.drop 51) (fun x hx => RegRow.hit_of_misses (missed x hx) r)
    (RegRow.hit_elem (r := sqProdRow) rfl (by decide) hr)

theorem writeReg_sqProd {f r : Nat} (hf : f < 16) (hr : r < 32) (p : Path) (g : Bool) (data : Nat) (s : State) :
    writeReg p g (FCT_SQ_PROD f r) data s = fetchQueue f r (s.set (FCT_SQ_PROD_PROD f r) data) := by
  have place : FCT_SQ_PROD f r = FCT_SQ_CFG f r + 0x10 := by unfold FCT_SQ_PROD FCT_SQ_CFG; omega
  have stores : plainWrite p false (FCT_SQ_PROD f r) data s = s.set (FCT_SQ_PROD_PROD f r) data :=
    (plainWrite_fields (rowAt_sqProd hf hr) rfl rfl p false data s).trans (State.set_mod s (FCT_SQ_PROD_PROD f r) data)
  have queue := writeReg_queue hf hr (o := 0x10) (by decide) p g data s
  rw [← place] at queue
  rw [queue, writeQueue, if_neg (by decide), if_neg (by decide), if_pos rfl, stores]

/-! ## The configuration of a queue (R161) -/

theorem writeQueueCfg_busy {s : State} {f r : Nat} (busy : s.rayState f r ≠ rayIdle) (data : Nat) :
    writeQueueCfg f r data s = s.raise (FCT_LOC_STAT_UWRITE_DROP f) := if_pos busy

/-- The registers that a queue's configuration sets. -/
def queueRegs (f r : Nat) : List Nat := [FCT_SQ_CFG f r, FCT_SQ_PROD f r, FCT_SQ_FETCHED f r, FCT_SQ_CONS f r]

theorem writeQueueCfg_idle {s : State} {f r : Nat} (idle : s.rayState f r = rayIdle) (data : Nat) :
    writeQueueCfg f r data s = ((((s.set (FCT_SQ_CFG_BASE f r) data).set (FCT_SQ_CFG_SIZE f r) (data / 65536)).set
      (FCT_SQ_PROD_PROD f r) 0).set (FCT_SQ_FETCHED_FETCHED f r) 0).set (FCT_SQ_CONS_CONS f r) 0 := if_neg (by simp [idle])

/-- With the ray idle the queue is empty in the part of the buffer that the data names. -/
theorem writeQueueCfg_empties {s : State} {f r : Nat} (idle : s.rayState f r = rayIdle) (data : Nat) :
    let t := writeQueueCfg f r data s
    t.get (FCT_SQ_CFG_BASE f r) = data % 2 ^ 15 ∧ t.get (FCT_SQ_CFG_SIZE f r) = data / 65536 % 2 ^ 16 ∧
      t.get (FCT_SQ_PROD_PROD f r) = 0 ∧ t.get (FCT_SQ_FETCHED_FETCHED f r) = 0 ∧ t.get (FCT_SQ_CONS_CONS f r) = 0 ∧
      Keeps (queueRegs f r) s t := by
  have sets {x : Fld} (hx : x.addr ∈ queueRegs f r) (v : Nat) (u : State) : Keeps (queueRegs f r) u (u.set x v) := keeps_set u v hx
  rw [writeQueueCfg_idle idle]
  refine ⟨?base, ?size, ?prod, ?fetched, ?cons, ?keeps⟩
  case keeps =>
    exact (sets (by simp [queueRegs]) _ _).trans ((sets (by simp [queueRegs]) _ _).trans ((sets (by simp [queueRegs]) _ _).trans
      ((sets (by simp [queueRegs]) _ _).trans (sets (by simp [queueRegs]) _ _))))
  all_goals simp (disch := grind) only [State.get_set_ne, State.get_set_apart, State.get_set_self, Nat.zero_mod]

/-! ## Words that arrive (R149) -/

/-- The state with word `w` stored at the index FETCHED of a queue, which advances. -/
def storeWord (f r w : Nat) (s : State) : State :=
  { s with stream := Memory.putWord s.stream (s.queueAddr f r (s.get (FCT_SQ_FETCHED_FETCHED f r))) 32 w }.count
    (FCT_SQ_FETCHED_FETCHED f r) 1

theorem wordsArrive_one {s : State} {f r : Nat} (wants : 0 < s.queueWants f r) (w : Nat) :
    wordsArrive f r [w] s = storeWord f r w s := by
  rw [wordsArrive, List.take_of_length_le wants]
  rfl

/-- A word lands for a queue that fetches, from a page that is translated. -/
theorem queueWordsArrive_one {s u : State} {f r : Nat} (fetches : s.queueFetches f r = true) (wants : 0 < u.queueWants f r)
    (translated : translate (.stream f r) (s.queueNextAt f r) false s = (true, u)) (w : Nat) :
    queueWordsArrive f r [w] s = storeWord f r w u := by
  rw [queueWordsArrive, if_neg (by simp [fetches]), translated]
  exact wordsArrive_one wants w

theorem get_storeWord_fetched (f r w : Nat) (s : State) :
    (storeWord f r w s).get (FCT_SQ_FETCHED_FETCHED f r) = (s.get (FCT_SQ_FETCHED_FETCHED f r) + 1) % 2 ^ 32 :=
  State.get_count _ (FCT_SQ_FETCHED_FETCHED f r) 1 (by simp)

theorem word_storeWord (f r w : Nat) (s : State) :
    Memory.word (storeWord f r w s).stream (s.queueAddr f r (s.get (FCT_SQ_FETCHED_FETCHED f r))) 32 = w % 2 ^ 256 :=
  Memory.word_putWord s.stream _ 32 w

theorem ucode_storeWord (f r w : Nat) (s : State) : (storeWord f r w s).ucode = s.ucode := by
  rw [storeWord, State.count, State.set_ucode]

theorem pool_storeWord (f r w : Nat) (s : State) : (storeWord f r w s).pool = s.pool := by
  rw [storeWord, State.count, State.set_pool]

/-! ## The microcode window (R158) -/

theorem writeReg_microcode {f word i : Nat} (hf : f < 16) (hword : word < 8192) (hi : i < 8) (p : Path) (g : Bool) (data : Nat)
    (s : State) :
    writeReg p g (0x1000000 + 0x80000 * f + 32 * word + 4 * i) data s = writeMicrocode f (32 * word + 4 * i) data s := by
  have place : 0x1000000 + 0x80000 * f + 32 * word + 4 * i = 0x1000000 + f * 0x80000 + (32 * word + 4 * i) := by omega
  rw [writeReg_fct hf (by omega) place, writeFct, if_pos (by omega)]

theorem writeMicrocode_busy {s : State} {f : Nat} (busy : s.raysIdle f = false) (off data : Nat) :
    writeMicrocode f off data s = s.raise (FCT_LOC_STAT_UWRITE_DROP f) := if_pos (by simp [busy])

/-- The staging registers with `data` at index `i`. -/
def stagedAt (i data : Nat) (old : Nat → Nat) : List Nat := (List.range 7).map fun j => if j = i then data else old j

theorem getD_stagedAt {i : Nat} (hi : i < 7) (data : Nat) (old : Nat → Nat) : (stagedAt i data old).getD i 0 = data := by
  simp [stagedAt, hi]

theorem writeMicrocode_stages {s : State} {f i : Nat} (idle : s.raysIdle f = true) (hi : i < 7) (word data : Nat) :
    writeMicrocode f (32 * word + 4 * i) data s =
      modFct f (fun x => { x with staging := stagedAt i data fun j => (s.fct f).staging.getD j 0 }) s := by
  have dword : (32 * word + 4 * i) / 4 % 8 = i := by omega
  rw [writeMicrocode, if_neg (by simp [idle]), dword]
  exact if_pos hi

/-- The microcode memory with the staged doublewords and, last, `data` at the word at `a`. -/
def State.committed (s : State) (f a data : Nat) : Mem :=
  Memory.putDwords s.ucode a 8 fun j => if j = 7 then data else (s.fct f).staging.getD j 0

theorem writeMicrocode_commits {s : State} {f : Nat} (idle : s.raysIdle f = true) (word data : Nat) :
    writeMicrocode f (32 * word + 4 * 7) data s =
      { s with ucode := s.committed f (ucodeAddr f (8192 * s.get (FCT_UPAGE_PAGE f) + word)) data } := by
  have dword : (32 * word + 4 * 7) / 4 % 8 = 7 := by omega
  have index : (32 * word + 4 * 7) / 32 = word := by omega
  rw [writeMicrocode, if_neg (by simp [idle]), dword, index]
  exact if_neg (Nat.lt_irrefl 7)

end Sys2Proof.Machine
end

section
/-!
PROOFS. The statement about stream queues and microcode (R149, R158, R161).
-/

namespace Sys2Proof.Machine
open Sys2Proof.Reg

/-- Settles O29: the configuration by `writeQueueCfg_empties`, PROD by `writeReg_sqProd`, a word that arrives by `queueWordsArrive_one`, and
the microcode window by `writeMicrocode_stages` and `writeMicrocode_commits`. -/
theorem streamsAndMicrocode : Obligations.StreamsAndMicrocode := by
  unfold Obligations.StreamsAndMicrocode
  refine ⟨?configures, ?produces, ?arrives, ?microcode⟩
  case configures =>
    intro s dt f r d p hf hr takes
    have write : write32 p (FCT_SQ_CFG f r) d (s.tick dt) = writeQueueCfg f r (d % 2 ^ 32) (s.request dt p) := by
      rw [write32_takes s dt p _ _ takes, writeReg_sqCfg hf hr]
    refine ⟨fun idle => ?idle, fun busy => gives_of_act rfl (write.trans (writeQueueCfg_busy (by simpa using busy) _))⟩
    obtain ⟨base, size, prod, fetched, cons, keeps⟩ :=
      writeQueueCfg_empties (s := s.request dt p) (f := f) (r := r) (by simpa using idle) (d % 2 ^ 32)
    obtain ⟨regs, memories⟩ : Keeps [FCT_SQ_CFG f r, FCT_SQ_PROD f r, FCT_SQ_FETCHED f r, FCT_SQ_CONS f r, GLB_GUARD_STAT] s _ :=
      ((keeps_request s dt p).mono (by simp)).trans (keeps.mono (by simp [queueRegs]))
    exact ⟨_, gives_of_act rfl write, base.trans (by omega), size.trans (by omega), prod, fetched, cons, regs, memories⟩
  case produces =>
    intro s dt f r d p hf hr takes
    exact gives_of_act rfl ((write32_takes s dt p _ _ takes).trans (writeReg_sqProd hf hr _ _ _ _))
  case arrives =>
    intro s u dt f r w _ _ fetches wants translated
    exact ⟨_, gives_of_act rfl (queueWordsArrive_one fetches wants translated w), word_storeWord f r w u, get_storeWord_fetched f r w u,
      ucode_storeWord f r w u, pool_storeWord f r w u⟩
  case microcode =>
    intro s dt f word i d p hf hword hi takes
    have write : write32 p (0x1000000 + 0x80000 * f + 32 * word + 4 * i) d (s.tick dt) =
        writeMicrocode f (32 * word + 4 * i) (d % 2 ^ 32) (s.request dt p) := by
      rw [write32_takes s dt p _ _ takes, writeReg_microcode hf hword hi]
    refine ⟨fun busy => gives_of_act rfl (write.trans (writeMicrocode_busy (by simpa using busy) _ _)), fun idle early => ?stages,
      fun idle last => ?commits⟩
    case stages =>
      rw [writeMicrocode_stages (by simpa using idle) early] at write
      obtain ⟨regs, memories⟩ := (keeps_request s dt p).trans (keeps_modFct _ f _ _)
      refine ⟨_, gives_of_act rfl write, ?_, memories, regs⟩
      rw [fct_modFct]
      exact getD_stagedAt early (d % 2 ^ 32) fun j => ((s.request dt p).fct f).staging.getD j 0
    case commits =>
      subst last
      have page : (s.request dt p).get (FCT_UPAGE_PAGE f) = s.get (FCT_UPAGE_PAGE f) :=
        get_request s dt p (by simp only [FCT_UPAGE, GLB_GUARD_STAT]; omega)
      obtain ⟨regs, pool, ucode, stream, -⟩ := keeps_request s dt p
      rw [writeMicrocode_commits (by simpa using idle), page] at write
      refine ⟨_, gives_of_act rfl write, fun j hj => ?_, fun a outside => ?_, stream, pool, regs⟩
      · rw [State.committed, Memory.word_putDwords _ _ _ hj, fct_request]
        split
        · exact Nat.mod_mod ..
        · rfl
      · rw [State.committed, Memory.byte_putDwords_outside _ _ outside, ucode]

end Sys2Proof.Machine
end

section
/-!
SUPPORT. ARC_STAT.QUIET (R211): what it is read from, and that settling, which ends every command, brings it up to date.
-/

namespace Sys2Proof.Machine
open Sys2Proof.Reg

/-- Every command answers what settling leaves of its effect. -/
theorem exec_leaves (c : Instr) (s : State) : ∃ t, exec c s = .next (leave s t) := by
  cases c
  all_goals exact ⟨_, rfl⟩

/-! ## QUIET (R211) -/

/-- ARC_STAT.QUIET says what Arc holds. -/
abbrev State.QuietShown (s : State) : Prop := s.on ARC_STAT_QUIET = s.quiet

/-- A store is searched beyond the keys that a write may touch. -/
theorem Store.all_put {α : Type} [DecidableEq α] (d : Nat → α) (m : Store α) (a : Nat) (v : α) {p : Nat × α → Bool}
    (h : ∀ w, p (a, w) = true) : (Store.put d m a v).all p = m.all p := by
  have erased (m : Store α) : (Store.erase a m).all p = m.all p := by
    induction m with
    | nil => rfl
    | cons e m ih =>
      obtain ⟨k, w⟩ := e
      by_cases hk : k = a
      · subst hk
        simpa [Store.erase, h] using ih
      · have kept : Store.erase a ((k, w) :: m) = (k, w) :: Store.erase a m := by simp [Store.erase, hk]
        rw [kept, List.all_cons, List.all_cons, ih]
  have inserted (m : Store α) : (Store.insert a v m).all p = m.all p := by
    induction m with
    | nil => simp [Store.insert, h]
    | cons e m ih =>
      obtain ⟨k, w⟩ := e
      simp only [Store.insert]
      split
      · simp [h]
      · split
        next same => subst same; simp [h]
        · rw [List.all_cons, List.all_cons, ih]
  unfold Store.put
  split
  · exact erased m
  · exact inserted m


/-- An entry of the register store says nothing about QUIET unless it is a ring's. -/
def State.ringQuiet (s : State) (e : Nat × Word64) : Bool :=
  if 0x100000 ≤ e.1 ∧ e.1 < 0x200000 then
    let n := (e.1 - 0x100000) / 64
    n % 4 != 0 || !s.ringLive n || s.ringCount n = 0
  else true

theorem quiet_eq (s : State) : s.quiet = (decide (s.get ARC_STAT_INFLIGHT = 0) && s.regs.all s.ringQuiet) := rfl

/-- A register outside the ring block, other than ARC_STAT, says nothing about QUIET. -/
theorem quiet_setReg (s : State) {a : Nat} (v : Word64) (outside : ¬(0x100000 ≤ a ∧ a < 0x200000))
    (inflight : (s.setReg a v).get ARC_STAT_INFLIGHT = s.get ARC_STAT_INFLIGHT) : (s.setReg a v).quiet = s.quiet := by
  have get (f : Fld) (hf : 0x100000 ≤ f.addr ∧ f.addr < 0x200000) : (s.setReg a v).get f = s.get f := by
    have other : f.addr ≠ a := fun h => outside (h ▸ hf)
    exact State.get_of_reg (by rw [State.reg_setReg, if_neg other])
  have ring (e : Nat × Word64) : (s.setReg a v).ringQuiet e = s.ringQuiet e := by
    unfold State.ringQuiet
    split
    next range =>
      generalize hn : (e.1 - 0x100000) / 64 = n
      have low : n < 0x4000 := by omega
      have live : (s.setReg a v).ringLive n = s.ringLive n := by
        rw [State.ringLive, State.ringState, get _ (by simp only [RNG_STAT]; omega), State.ringLive, State.ringState]
      have count : (s.setReg a v).ringCount n = s.ringCount n := by
        rw [State.ringCount, get _ (by simp only [RNG_PROD]; omega), get _ (by simp only [RNG_CONS]; omega), State.ringCount]
      simp only [live, count]
    · rfl
  rw [quiet_eq, quiet_eq, inflight, funext ring]
  congr 1
  exact Store.all_put rstWord s.regs a v fun _ => if_neg outside

theorem quiet_set_quiet (s : State) (v : Nat) : (s.set ARC_STAT_QUIET v).quiet = s.quiet :=
  quiet_setReg s _ (by decide) (State.get_set_apart s _ _ _ (by decide) (by decide))

theorem quietShown_set {s : State} {f : Fld} (v : Nat) (outside : ¬(0x100000 ≤ f.addr ∧ f.addr < 0x200000)) (other : ARC_STAT ≠ f.addr)
    (h : s.QuietShown) : (s.set f v).QuietShown := by
  have shown : (s.set f v).on ARC_STAT_QUIET = s.on ARC_STAT_QUIET := State.on_of_get (State.get_set_ne s f _ v other)
  rw [State.QuietShown, shown, h]
  exact (quiet_setReg s _ outside (State.get_set_ne s f _ v other)).symm

/-- Signalling a target may set its pending bit or send a message, and neither concerns QUIET. -/
theorem quietShown_signalTarget {s : State} (t : Nat) (h : s.QuietShown) : (signalTarget t s).QuietShown := by
  unfold signalTarget
  split
  · exact h
  · split
    · exact quietShown_set (f := ⟨DMA_MSIX_PBA 0, 0 + t, 1⟩) _ (by simp) (show ARC_STAT ≠ DMA_MSIX_PBA 0 by decide) h
    · unfold sendMessage
      split <;> exact h

theorem quietShown_refreshQuiet (s : State) : (refreshQuiet s).QuietShown := by
  unfold refreshQuiet
  split
  next shown => exact shown
  · refine List.foldlRecOn (motive := State.QuietShown) _ _ ?_ fun u hu t _ => quietShown_signalTarget t hu
    show (s.set ARC_STAT_QUIET (bit01 s.quiet)).on ARC_STAT_QUIET = (s.set ARC_STAT_QUIET (bit01 s.quiet)).quiet
    rw [State.on_set_bit01 s rfl (by decide), quiet_set_quiet]

theorem quietShown_of_calm {s : State} (h : s.calm = true) : s.QuietShown := by
  simp only [State.calm, Bool.and_eq_true, beq_iff_eq] at h
  obtain ⟨⟨-, shown⟩, -⟩ := h
  exact shown

theorem quietShown_settleRounds (n : Nat) {s : State} (h : s.QuietShown) : (settleRounds n s).QuietShown := by
  induction n generalizing s with
  | zero => exact h
  | succ n ih =>
    rw [settleRounds]
    split
    · exact h
    · exact ih (quietShown_refreshQuiet _)

/-- Whatever a command does, settling leaves QUIET true of what Arc holds. -/
theorem quietShown_settle (s : State) : (settle s).QuietShown := by
  rw [settle, settleRounds]
  split
  next calm => exact quietShown_of_calm calm
  · exact quietShown_settleRounds 3 (quietShown_refreshQuiet _)

end Sys2Proof.Machine
end

section
/-!
PROOFS. The statements about ARC_STAT.QUIET (R211).
-/

namespace Sys2Proof.Machine
open Sys2Proof.Reg

/-- Settles O4: on an empty queue the block idles, and a command leaves a settled state. -/
theorem quietTellsTheTruth : Obligations.QuietTellsTheTruth := by
  intro s t before taken
  unfold step at taken
  split at taken
  · cases taken
    exact before
  next c q _ =>
    obtain ⟨u, left⟩ := exec_leaves c (s.withPending q)
    rw [left] at taken
    cases taken
    exact quietShown_settle u

/-- Settles O5: at reset no register is listed, so that no ring is live and nothing is in flight. -/
theorem quietAtReset : Obligations.QuietAtReset := by
  unfold Obligations.QuietAtReset
  decide

end Sys2Proof.Machine
end

section
/-!
SUPPORT. What Arc holds of operations, chords and vertices: reading after writing, and the descriptors that it takes, gathers and makes a gang
of (R192 to R195).
-/

namespace Sys2Proof.Machine
open Sys2Proof.Reg

/-! ## Arc's commands -/

/-- What Arc does by itself it does unless a reaction holds it (R325). -/
theorem byArc_free {s : State} (free : s.reactionOn 16 = false) (f : State → State) : byArc f s = f s := by
  simp [byArc, free]

theorem gives_byArc {c : Instr} {s t : State} {dt : Nat} {f : State → State} (free : s.reactionOn 16 = false)
    (h : exec c s = act dt (byArc f) s) (ht : f (s.tick dt) = t) : Gives c s t :=
  gives_of_act h ((byArc_free (s := s.tick dt) free f).trans ht)

/-! ## What Arc holds is no register -/

@[simp] theorem State.reg_modArc (g : ArcState → ArcState) (s : State) (a : Nat) : (modArc g s).reg a = s.reg a := rfl
@[simp] theorem State.get_modArc (g : ArcState → ArcState) (s : State) (f : Fld) : (modArc g s).get f = s.get f := rfl
@[simp] theorem State.get_modChord (k : Nat) (g : ArcChord → ArcChord) (s : State) (f : Fld) : (modChord k g s).get f = s.get f := rfl
@[simp] theorem State.get_setOp (v : Nat) (o : Option ArcOp) (s : State) (f : Fld) : (setOp v o s).get f = s.get f := rfl

theorem keeps_modArc (as : List Nat) (g : ArcState → ArcState) (s : State) : Keeps as s (modArc g s) :=
  ⟨fun _ _ => rfl, rfl, rfl, rfl, rfl, rfl⟩

theorem keeps_modChord (as : List Nat) (k : Nat) (g : ArcChord → ArcChord) (s : State) : Keeps as s (modChord k g s) :=
  keeps_modArc as _ s

theorem keeps_setOp (as : List Nat) (v : Nat) (o : Option ArcOp) (s : State) : Keeps as s (setOp v o s) := keeps_modArc as _ s

/-! ## Operations and chords -/

@[simp] theorem op_setOp (v : Nat) (o : Option ArcOp) (s : State) : (setOp v o s).op v = o := Store.find_put_self ..

theorem op_setOp_ne {v w : Nat} (h : w ≠ v) (o : Option ArcOp) (s : State) : (setOp v o s).op w = s.op w := Store.find_put_ne _ _ _ h

theorem modOp_some {s : State} {v : Nat} {o : ArcOp} (h : s.op v = some o) (g : ArcOp → ArcOp) : modOp v g s = setOp v (some (g o)) s := by
  rw [modOp, h]

theorem modOp_none {s : State} {v : Nat} (h : s.op v = none) (g : ArcOp → ArcOp) : modOp v g s = s := by rw [modOp, h]

@[simp] theorem op_modOp (v : Nat) (g : ArcOp → ArcOp) (s : State) : (modOp v g s).op v = (s.op v).map g := by
  cases h : s.op v with
  | none => rw [modOp_none h, h]; rfl
  | some o => rw [modOp_some h, op_setOp]; rfl

/-- A change of an operation changes nothing but the operations that Arc holds. -/
theorem modOp_eq (v : Nat) (g : ArcOp → ArcOp) (s : State) : ∃ ops, modOp v g s = modArc (fun a => { a with ops := ops }) s := by
  cases h : s.op v with
  | none => exact ⟨s.arc.ops, modOp_none h g⟩
  | some o => exact ⟨_, modOp_some h g⟩

@[simp] theorem chord_modChord (k : Nat) (g : ArcChord → ArcChord) (s : State) : (modChord k g s).chord k = g (s.chord k) :=
  Store.find_put_self ..

/-! ## Vertex states -/

theorem keeps_enterV (v st : Nat) (s : State) : Keeps [ARC_VSTAT v, ARC_SINCE v] s (enterV v st s) :=
  (keeps_set s st (by simp)).trans (keeps_set _ s.now (by simp))

@[simp] theorem arc_enterV (v st : Nat) (s : State) : (enterV v st s).arc = s.arc := rfl

@[simp] theorem op_enterV (v st w : Nat) (s : State) : (enterV v st s).op w = s.op w := rfl

theorem vstat_ne_since (v w : Nat) : ARC_VSTAT v ≠ ARC_SINCE w := by
  unfold ARC_VSTAT ARC_SINCE
  omega

theorem vstate_enterV {st : Nat} (h : st < 8) (v : Nat) (s : State) : (enterV v st s).vstate v = st := by
  rw [State.vstate, enterV, State.get_set_ne _ _ _ _ (vstat_ne_since v v), State.get_set_self _ _ _ (by simp)]
  exact Nat.mod_eq_of_lt h

/-- The other fields of a vertex's status stand as its state changes (R212). -/
theorem get_enterV_vstat (v st : Nat) (s : State) {f : Fld} (hf : f.addr = ARC_VSTAT v) (apart : 3 ≤ f.lo) (fits : f.lo + f.w ≤ 64) :
    (enterV v st s).get f = s.get f := by
  rw [enterV, State.get_set_ne _ _ _ _ (hf ▸ vstat_ne_since v v), State.get_set_apart s (ARC_VSTAT_STATE v) f st fits (.inr (by simpa using apart))]

/-- The registers of a vertex's state stand apart from those of the ring and DMA blocks, and from the bits that hold it or ink it. -/
theorem vertexRegs_apart {v a : Nat} (hv : v < 4096) (ha : a < 0x310000 ∨ 0x320000 ≤ a) : a ∉ [ARC_VSTAT v, ARC_SINCE v] := by
  simp only [List.mem_cons, List.not_mem_nil, or_false, ARC_VSTAT, ARC_SINCE]
  omega

/-! ## What holds a vertex in WAIT -/

theorem waits_of_op {s : State} {v : Nat} {o : ArcOp} (h : s.op v = some o) :
    s.waits v = (!s.notBeforeReached o.desc || s.vhold v || s.backPressure v) := by
  rw [State.waits, h]

theorem Keeps.vhold {s t : State} {v w : Nat} (h : Keeps [ARC_VSTAT v, ARC_SINCE v] s t) (hv : v < 4096) (hw : w < 4096) :
    t.vhold w = s.vhold w := by
  have apart : ARC_VHOLD (w / 32) ∉ [ARC_VSTAT v, ARC_SINCE v] := vertexRegs_apart hv (.inl (by unfold ARC_VHOLD; omega))
  rw [State.vhold, State.bitOf, h.get apart, State.vhold, State.bitOf]

theorem Keeps.inked {s t : State} {v w : Nat} (h : Keeps [ARC_VSTAT v, ARC_SINCE v] s t) (hv : v < 4096) : t.inked w = s.inked w := by
  have apart : ARC_INKED (w / 32) ∉ [ARC_VSTAT v, ARC_SINCE v] := vertexRegs_apart hv (.inr (by unfold ARC_INKED; omega))
  rw [State.inked, State.bitOf, h.get apart, State.inked, State.bitOf]

theorem Keeps.backPressure {s t : State} {v w : Nat} (h : Keeps [ARC_VSTAT v, ARC_SINCE v] s t) (hv : v < 4096) (hw : w < 4096)
    (dma : t.dma = s.dma) : t.backPressure w = s.backPressure w := by
  have ring (i : Nat) (hi : i < 4) : t.ringState (4 * w + i) = s.ringState (4 * w + i) :=
    h.get (vertexRegs_apart hv (.inl (by simp only [RNG_STAT]; omega)))
  have low : t.get DMA_POOL_STAT_LOW = s.get DMA_POOL_STAT_LOW := h.get (vertexRegs_apart hv (.inl (by decide)))
  have held : t.reserveHeld w = s.reserveHeld w := by rw [State.reserveHeld, State.ring, dma, State.reserveHeld, State.ring]
  simp only [State.backPressure, List.any_cons, List.any_nil, ring 0 (by decide), ring 1 (by decide), ring 2 (by decide),
    ring 3 (by decide), State.on_of_get low, held]

/-! ## Gathering (R195) -/

/-- Nothing differs but Arc's book of chords, polls and numbers: its operations stand. -/
structure Booked (s t : State) : Prop where
  rest : t = { s with arc := t.arc }
  ops : t.arc.ops = s.arc.ops

namespace Booked

variable {s t u : State}

theorem refl (s : State) : Booked s s := ⟨rfl, rfl⟩

theorem trans (h : Booked s t) (k : Booked t u) : Booked s u := by
  refine ⟨k.rest.trans ?_, k.ops.trans h.ops⟩
  rw [h.rest]

theorem ite {c : Prop} [Decidable c] (h : Booked s t) (k : Booked s u) : Booked s (if c then t else u) := by
  split
  · exact h
  · exact k

theorem regs (h : Booked s t) : t.regs = s.regs := by rw [h.rest]

theorem reg (h : Booked s t) (a : Nat) : t.reg a = s.reg a := by rw [State.reg, h.regs, State.reg]

theorem get (h : Booked s t) (f : Fld) : t.get f = s.get f := State.get_of_reg (h.reg f.addr)

theorem op (h : Booked s t) (v : Nat) : t.op v = s.op v := by rw [State.op, h.ops, State.op]

theorem keeps (h : Booked s t) (as : List Nat) : Keeps as s t := by
  rw [h.rest]
  exact ⟨fun _ _ => rfl, rfl, rfl, rfl, rfl, rfl⟩

theorem modChord (k : Nat) (g : ArcChord → ArcChord) (s : State) : Booked s (modChord k g s) := ⟨rfl, rfl⟩

theorem modArc {g : ArcState → ArcState} (s : State) (h : (g s.arc).ops = s.arc.ops) : Booked s (modArc g s) := ⟨rfl, h⟩

theorem addGang (k : Nat) (members : List Nat) (s : State) : Booked s (addGang k members s) := by
  unfold Machine.addGang
  exact (modArc s rfl).trans (modChord k _ _)

end Booked

/-- What `enterGather` notes in the book before the vertex enters GATHER: the time that its window is counted from is taken. -/
def takePollDone (v : Nat) (s : State) : State := modArc (fun a => { a with pollDone := Store.put (fun _ => none) a.pollDone v none }) s

/-- A vertex that enters GATHER keeps its operation; what else changes is Arc's own book. -/
theorem booked_enterGather {s : State} {v : Nat} {o : ArcOp} (h : s.op v = some o) :
    Booked (enterV v vsGather (takePollDone v s)) (enterGather v s) := by
  unfold enterGather
  rw [h]
  exact (Booked.refl _).ite ((Booked.addGang _ _ _).ite ((Booked.modChord _ _ _).ite (Booked.modChord _ _ _)))

theorem keeps_enterGather {s : State} {v : Nat} {o : ArcOp} (h : s.op v = some o) :
    Keeps [ARC_VSTAT v, ARC_SINCE v] s (enterGather v s) :=
  ((keeps_modArc _ _ s).trans (keeps_enterV v vsGather _)).trans ((booked_enterGather h).keeps _)

theorem vstate_enterGather {s : State} {v : Nat} {o : ArcOp} (h : s.op v = some o) : (enterGather v s).vstate v = vsGather :=
  ((booked_enterGather h).get _).trans (vstate_enterV (by decide) v _)

theorem op_enterGather {s : State} {v : Nat} {o : ArcOp} (h : s.op v = some o) : (enterGather v s).op v = some o :=
  ((booked_enterGather h).op v).trans h

theorem get_enterGather_vstat {s : State} {v : Nat} {o : ArcOp} (h : s.op v = some o) {f : Fld} (hf : f.addr = ARC_VSTAT v)
    (apart : 3 ≤ f.lo) (fits : f.lo + f.w ≤ 64) : (enterGather v s).get f = s.get f :=
  ((booked_enterGather h).get f).trans (get_enterV_vstat v vsGather _ hf apart fits)

/-! ## Taking a descriptor (R192) -/

/-- What Arc holds of a descriptor that it has just taken (R192, R212). -/
def holdDescriptor (v : Nat) (d : List Byte) (flags : Nat) (s : State) : State :=
  (((setOp v (some { ArcOp.init d with flags := flags }) s).set (ARC_VSTAT_OPTYPE v) (opType d)).set (ARC_VSTAT_TAG v) (descTag d)).set
    (ARC_VSTAT_ATTEMPTS v) 0

theorem keeps_holdDescriptor (v : Nat) (d : List Byte) (flags : Nat) (s : State) :
    Keeps [ARC_VSTAT v, ARC_SINCE v] s (holdDescriptor v d flags s) :=
  (((keeps_setOp _ v _ s).trans (keeps_set _ _ (by simp))).trans (keeps_set _ _ (by simp))).trans (keeps_set _ _ (by simp))

theorem op_holdDescriptor (v : Nat) (d : List Byte) (flags : Nat) (s : State) :
    (holdDescriptor v d flags s).op v = some { ArcOp.init d with flags := flags } := op_setOp v _ s

theorem get_holdDescriptor_optype (v : Nat) (d : List Byte) (flags : Nat) (s : State) :
    (holdDescriptor v d flags s).get (ARC_VSTAT_OPTYPE v) = opType d % 16 := by
  rw [holdDescriptor, State.get_set_apart _ _ _ _ (by simp) (by simp), State.get_set_apart _ _ _ _ (by simp) (by simp),
    State.get_set_self _ _ _ (by simp)]
  rfl

theorem get_holdDescriptor_tag (v : Nat) (d : List Byte) (flags : Nat) (s : State) :
    (holdDescriptor v d flags s).get (ARC_VSTAT_TAG v) = descTag d % 2 ^ 16 := by
  rw [holdDescriptor, State.get_set_apart _ _ _ _ (by simp) (by simp), State.get_set_self _ _ _ (by simp)]

theorem waits_holdDescriptor {v : Nat} (hv : v < 4096) (d : List Byte) (flags : Nat) (s : State) :
    (holdDescriptor v d flags s).waits v = (!s.notBeforeReached d || s.vhold v || s.backPressure v) := by
  have keeps := keeps_holdDescriptor v d flags s
  rw [waits_of_op (op_holdDescriptor v d flags s), keeps.vhold hv hv, keeps.backPressure hv hv rfl]
  rfl

theorem leNat_lt (bs : List Byte) : leNat bs < 256 ^ bs.length := by
  induction bs with
  | nil => decide
  | cons b bs ih =>
    have := b.isLt
    rw [leNat, List.length_cons, Nat.pow_succ]
    omega

theorem descField_lt (d : List Byte) (i n : Nat) : descField d i n < 256 ^ n :=
  (leNat_lt _).trans_le (Nat.pow_le_pow_right (by decide) (List.length_take_le n _))

theorem descTag_lt (d : List Byte) : descTag d < 2 ^ 16 := descField_lt d 0 2

/-- A good descriptor names one of the ten types (R189, R190). -/
theorem opType_lt_of_badDesc {s : State} {v : Nat} {d : List Byte} (h : s.badDesc v d = 0) : opType d < 16 := by
  by_contra big
  rw [State.badDesc, if_pos (.inr (by omega))] at h
  exact absurd h (by decide)

/-- Back-pressure is weaker than what forbids a completion (R299). -/
theorem completionHeld_of_backPressure {s : State} {v : Nat} (h : s.backPressure v = false) : s.completionHeld v = false := by
  by_contra held
  simp only [State.completionHeld, Bool.not_eq_false, Bool.and_eq_true, decide_eq_true_eq] at held
  obtain ⟨parked, reserve⟩ := held
  simp [State.backPressure, parked, reserve] at h

theorem marked_of_nil {s : State} (h : s.arc.marks = []) (v tag i : Nat) : s.marked v tag i = false := by simp [State.marked, h]

/-- The fault line that a double-bit error of vertex `v`'s descriptor pulses (R14, R319). -/
def noteEcc (v : Nat) (ecc : Ecc) (s : State) : State :=
  if ecc = .double then pulseLine (if s.on (RNG_CTRL_PLACE (4 * v)) then 64 else 66) s else s

/-- What becomes of a descriptor that is held (R190, R192). -/
def placeDescriptor (v : Nat) (d : List Byte) (ecc : Ecc) (s : State) : State :=
  if s.onBus v && s.inked v then completeAtOnce v opInked 0 s
  else if (if ecc = .double then 2 else s.badDesc v d) ≠ 0 then
    completeAtOnce v opBadDesc (if ecc = .double then 2 else s.badDesc v d) s
  else if s.waits v then enterV v vsWait s
  else enterGather v s

/-- Where Arc runs and no cancel was made before, the descriptor is held and then placed. -/
theorem takeDescriptor_eq {s : State} {v : Nat} (running : s.running = true) (drain : s.arc.drain = 0) (marks : s.arc.marks = [])
    (relaxed : s.backPressure v = false) (d : List Byte) (ecc : Ecc) :
    takeDescriptor v d ecc s = placeDescriptor v d ecc (holdDescriptor v d (bit01 (ecc == .double)) (noteEcc v ecc s)) := by
  have unmarked := marked_of_nil marks v (descTag d) (s.get (RNG_CONS_CONS (4 * v)))
  unfold takeDescriptor
  rw [unmarked, completionHeld_of_backPressure relaxed, running, drain]
  rfl

/-- A descriptor with no error is held, unless something is wrong with it or its vertex: it waits, or it is gathered. -/
theorem takeDescriptor_good {s : State} {v : Nat} {d : List Byte} (hv : v < 4096) (running : s.running = true) (drain : s.arc.drain = 0)
    (marks : s.arc.marks = []) (clean : s.inked v = false) (relaxed : s.backPressure v = false) (good : s.badDesc v d = 0) :
    takeDescriptor v d .good s =
      if !s.notBeforeReached d || s.vhold v then enterV v vsWait (holdDescriptor v d 0 s) else enterGather v (holdDescriptor v d 0 s) := by
  have waits := waits_holdDescriptor hv d 0 s
  have uninked : (holdDescriptor v d 0 s).inked v = false := ((keeps_holdDescriptor v d 0 s).inked hv).trans clean
  have fine : (holdDescriptor v d 0 s).badDesc v d = 0 := good
  rw [relaxed, Bool.or_false] at waits
  rw [takeDescriptor_eq running drain marks relaxed]
  show placeDescriptor v d .good (holdDescriptor v d 0 s) = _
  simp [placeDescriptor, uninked, fine, waits]

/-- A double-bit error pulses the pool's fault line, and the descriptor is bad (R14, R190). -/
theorem takeDescriptor_double {s : State} {v : Nat} {d : List Byte} (hv : v < 4096) (running : s.running = true) (drain : s.arc.drain = 0)
    (marks : s.arc.marks = []) (clean : s.inked v = false) (relaxed : s.backPressure v = false)
    (place : s.on (RNG_CTRL_PLACE (4 * v)) = true) :
    takeDescriptor v d .double s = completeAtOnce v opBadDesc 2 (holdDescriptor v d 1 (pulseLine 64 s)) := by
  have noted : noteEcc v .double s = pulseLine 64 s := by simp [noteEcc, place]
  have apart : ARC_INKED (v / 32) ∉ [FCL_ACTIVE (64 / 32)] := by
    simp only [List.mem_singleton, ARC_INKED, FCL_ACTIVE]
    omega
  have pulsed : (pulseLine 64 s).inked v = s.inked v := by
    rw [State.inked, State.bitOf, (keeps_pulseLine 64 s).get apart, State.inked, State.bitOf]
  have uninked : (holdDescriptor v d 1 (pulseLine 64 s)).inked v = false :=
    ((keeps_holdDescriptor v d 1 _).inked hv).trans (pulsed.trans clean)
  rw [takeDescriptor_eq running drain marks relaxed, noted]
  show placeDescriptor v d .double (holdDescriptor v d 1 (pulseLine 64 s)) = _
  simp [placeDescriptor, uninked]

/-- The descriptor at the head of a LOCAL ring in RUN is taken for a vertex that is IDLE (R192). -/
theorem fetchDescriptor_local {s : State} {v : Nat} (hv : v < s.vertices) (running : s.running = true) (idle : s.vstate v = vsIdle)
    (run : s.ringState (4 * v) = ringRun) (some_ : s.ringCount (4 * v) ≠ 0) (place : s.on (RNG_CTRL_PLACE (4 * v)) = true)
    (data : List Byte) (ecc : Ecc) : fetchDescriptor v data ecc s = takeDescriptor v (s.headEntry v data) ecc s := by
  have mode : s.mode = modeHost ∨ s.mode = modeAuto := by simpa [State.running] using running
  have awake : ¬(s.vertices ≤ v ∨ s.mode ≤ modeBoot ∨ s.mode = modeDoze) := by
    obtain mode | mode := mode <;> simp [mode, hv, modeHost, modeAuto, modeBoot, modeDoze]
  unfold fetchDescriptor
  simp [run, awake, idle, some_, place, ringRun, ringParked, vsIdle, vsWait]

/-- A vertex in WAIT is gathered once nothing holds it (R193). -/
theorem reconsider_free {s : State} {v : Nat} (waiting : s.vstate v = vsWait) (free : s.waits v = false) : reconsider v s = enterGather v s := by
  simp [reconsider, waiting, free]

theorem reconsider_held {s : State} {v : Nat} (held : s.waits v = true) : reconsider v s = s := by simp [reconsider, held]

/-! ## The gather closes (R195) -/

/-- A gather of chord `k` gives way to a gang of its vertices, numbered by the order of closes (R195, R197). -/
def gangUp (k : Nat) (g : Gather) (s : State) : State :=
  addGang k ((s.chordVertices k).filter fun u => u ∈ g.members) (modChord k (fun c => { c with gathers := c.gathers.filter fun x => x != g }) s)

theorem booked_gangUp (k : Nat) (g : Gather) (s : State) : Booked s (gangUp k g s) :=
  (Booked.modChord k _ s).trans (Booked.addGang k _ _)

theorem chord_addGang (k : Nat) (members : List Nat) (s : State) :
    (addGang k members s).chord k = { s.chord k with gangs := (s.chord k).gangs ++ [⟨members, s.arc.order, none, 0, none⟩] } := by
  rw [addGang, chord_modChord]
  rfl

theorem chord_gangUp (k : Nat) (g : Gather) (s : State) :
    (gangUp k g s).chord k = { s.chord k with
      gathers := (s.chord k).gathers.filter fun x => x != g
      gangs := (s.chord k).gangs ++ [⟨(s.chordVertices k).filter (fun u => u ∈ g.members), s.arc.order, none, 0, none⟩] } := by
  rw [gangUp, chord_addGang, chord_modChord]
  rfl

/-- A gather whose window has passed, with no poll round of that window running, becomes a gang. -/
theorem closeGather_due {s : State} {v : Nat} {g : Gather} (found : (s.chord (s.chordOf v)).gathers.find? (fun g => v ∈ g.members) = some g)
    (quiet : s.pollRuns (s.chordOf v) (stampAdd g.opened s.regang) = false) (due : s.past (stampAdd g.opened s.regang) = true)
    (joined : Bool) : closeGather v joined s = gangUp (s.chordOf v) g s := by
  rw [closeGather, found]
  simp [quiet, due, gangUp]

theorem closeGather_early {s : State} {v : Nat} {g : Gather} (found : (s.chord (s.chordOf v)).gathers.find? (fun g => v ∈ g.members) = some g)
    (early : s.past (stampAdd g.opened s.regang) = false) : closeGather v false s = s := by
  rw [closeGather, found]
  simp [early]

/-! ## The pool's fault line (R14, R319) -/

/-- A short event of a line that stands is an event of its source (R318). -/
theorem raised_pulseLine {s : State} {n : Nat} (up : s.mode ≠ modeReset) (present : s.faultPresent n = true)
    (low : s.on (faultActive n) = false) (free : s.on (faultRail n) = false) : ⟨n, false, false⟩ ∈ (pulseLine n s).fcl.raised := by
  have asserted : assertLine n s = { s.raise (faultActive n) with fcl := { s.fcl with raised := s.fcl.raised ++ [⟨n, false, false⟩] } } := by
    simp [assertLine, up, present, low, free]
  rw [pulseLine, asserted, deassertLine]
  split <;> simp [holdLine]

end Sys2Proof.Machine
end

section
/-!
PROOFS. The statement about descriptors (R188, R192 to R195).
-/

namespace Sys2Proof.Machine
open Sys2Proof.Reg

/-- Settles O32: a good descriptor is held by `takeDescriptor_good` and gathered by `enterGather`, one with a double-bit error goes by
`takeDescriptor_double`; a gather closes by `closeGather_due`. -/
theorem descriptorsAreTaken : Obligations.DescriptorsAreTaken := by
  unfold Obligations.DescriptorsAreTaken
  refine ⟨?fetch, ?wait, ?close⟩
  case fetch =>
    intro s dt v data free present hv running idle run filled place drain marks onBus clean relaxed d
    have fetched (ecc : Ecc) : fetchDescriptor v data ecc (s.tick dt) = takeDescriptor v d ecc (s.tick dt) :=
      fetchDescriptor_local (s := s.tick dt) present running idle run filled place data ecc
    refine ⟨fun good => ?good, ?double⟩
    case good =>
      have taken := takeDescriptor_good (s := s.tick dt) hv running drain marks clean relaxed good
      have gives : Gives (.descriptorFetch dt v data .good) s (takeDescriptor v d .good (s.tick dt)) :=
        gives_byArc free rfl (fetched .good)
      have held := keeps_holdDescriptor v d 0 (s.tick dt)
      have op := op_holdDescriptor v d 0 (s.tick dt)
      have optype : (holdDescriptor v d 0 (s.tick dt)).get (ARC_VSTAT_OPTYPE v) = opType d :=
        (get_holdDescriptor_optype v d 0 _).trans (Nat.mod_eq_of_lt (opType_lt_of_badDesc good))
      have tag : (holdDescriptor v d 0 (s.tick dt)).get (ARC_VSTAT_TAG v) = descTag d :=
        (get_holdDescriptor_tag v d 0 _).trans (Nat.mod_eq_of_lt (descTag_lt d))
      have vhold : (s.tick dt).vhold v = s.vhold v := rfl
      rw [taken, vhold] at gives
      by_cases ready : (s.tick dt).notBeforeReached d = true ∧ s.vhold v = false
      · obtain ⟨reached, unheld⟩ := ready
        obtain ⟨regs, memories⟩ := held.trans (keeps_enterGather op)
        rw [if_neg (by simp [reached, unheld])] at gives
        refine ⟨_, gives, ?_, ?_, ?_, ?_, regs, memories⟩
        · exact (get_enterGather_vstat (f := ARC_VSTAT_OPTYPE v) op rfl (by simp) (by simp)).trans optype
        · exact (get_enterGather_vstat (f := ARC_VSTAT_TAG v) op rfl (by simp) (by simp)).trans tag
        · rw [op_enterGather op]
          rfl
        · rw [vstate_enterGather op, if_pos ⟨reached, unheld⟩]
      · obtain ⟨regs, memories⟩ := held.trans (keeps_enterV v vsWait _)
        have waits : (!(s.tick dt).notBeforeReached d || s.vhold v) = true := by
          by_contra none
          simp only [Bool.not_eq_true, Bool.or_eq_false_iff, Bool.not_eq_false'] at none
          exact ready none
        rw [if_pos waits] at gives
        refine ⟨_, gives, ?_, ?_, ?_, ?_, regs, memories⟩
        · exact (get_enterV_vstat (f := ARC_VSTAT_OPTYPE v) v vsWait _ rfl (by simp) (by simp)).trans optype
        · exact (get_enterV_vstat (f := ARC_VSTAT_TAG v) v vsWait _ rfl (by simp) (by simp)).trans tag
        · rw [op_enterV, op]
          rfl
        · rw [vstate_enterV (by decide), if_neg ready]
    case double =>
      have op := op_holdDescriptor v d 1 (pulseLine 64 (s.tick dt))
      have mode : s.mode = modeHost ∨ s.mode = modeAuto := by simpa [State.running] using running
      have up : (s.tick dt).mode ≠ modeReset := by
        intro reset
        have same : s.mode = modeReset := reset
        obtain mode | mode := mode <;> exact absurd (mode.symm.trans same) (by decide)
      refine ⟨_, gives_byArc free rfl ((fetched .double).trans
        (takeDescriptor_double (s := s.tick dt) hv running drain marks clean relaxed place)), ?_, ?_, fun low rail => ?_⟩
      · rw [op]
        rfl
      · rw [op]
        rfl
      · exact raised_pulseLine up rfl low rail
  case wait =>
    intro s dt v o free hv op waiting
    have waits : (s.tick dt).waits v = (!(s.tick dt).notBeforeReached o.desc || s.vhold v || s.backPressure v) :=
      waits_of_op (s := s.tick dt) op
    refine ⟨fun unheld relaxed reached => ?_, fun early => ?_⟩
    · have ungathered : (s.tick dt).waits v = false := by simp [waits, unheld, relaxed, reached]
      obtain ⟨regs, memories⟩ := keeps_enterGather (s := s.tick dt) op
      exact ⟨_, gives_byArc free rfl (reconsider_free (s := s.tick dt) waiting ungathered), vstate_enterGather (s := s.tick dt) op, regs, memories⟩
    · exact gives_byArc free rfl (reconsider_held (by simp [waits, early]))
  case close =>
    intro s dt v joined g free found e
    refine ⟨fun quiet due => ?_, fun early alone => ?_⟩
    · obtain ⟨regs, memories⟩ := (booked_gangUp (s.chordOf v) g (s.tick dt)).keeps []
      have chord := chord_gangUp (s.chordOf v) g (s.tick dt)
      refine ⟨gangUp (s.chordOf v) g (s.tick dt), gives_byArc free rfl (closeGather_due (s := s.tick dt) found quiet due joined),
        (booked_gangUp (s.chordOf v) g (s.tick dt)).regs, memories, congrArg ArcChord.gangs chord, ?_⟩
      rw [chord]
      simp
    · subst alone
      exact gives_byArc free rfl (closeGather_early (s := s.tick dt) found early)

end Sys2Proof.Machine
end

section
/-!
SUPPORT. Arc's operations as they end (R193, R203): what decides the end, what it leaves, and the phases, busy intervals and averages that
bring it about (R191, R198, R201, R263).
-/

namespace Sys2Proof.Machine
open Sys2Proof.Reg

/-! ## An operation as it changes -/

/-- What of an operation decides how it ends: its descriptor, its admission and its status so far. -/
def State.opCore (s : State) (v : Nat) : Option (List Byte × Option Nat × Option (Nat × Nat)) :=
  (s.op v).map fun o => (o.desc, o.admitted, o.status)

theorem opCore_of_op {s : State} {v : Nat} {o : ArcOp} (h : s.op v = some o) : s.opCore v = some (o.desc, o.admitted, o.status) := by
  rw [State.opCore, h]
  rfl

theorem op_of_opCore {s : State} {v : Nat} {d : List Byte} {a : Option Nat} {st : Option (Nat × Nat)} (h : s.opCore v = some (d, a, st)) :
    ∃ o, s.op v = some o ∧ o.desc = d ∧ o.admitted = a ∧ o.status = st := by
  obtain ⟨o, op, core⟩ := Option.map_eq_some_iff.1 h
  simp only [Prod.mk.injEq] at core
  exact ⟨o, op, core⟩

theorem op_modOp_ne {v w : Nat} (h : w ≠ v) (g : ArcOp → ArcOp) (s : State) : (modOp v g s).op w = s.op w := by
  cases op : s.op v with
  | none => rw [modOp_none op]
  | some o => rw [modOp_some op, op_setOp_ne h]

theorem opCore_modOp {g : ArcOp → ArcOp} (h : ∀ o, (g o).desc = o.desc ∧ (g o).admitted = o.admitted ∧ (g o).status = o.status) (v w : Nat)
    (s : State) : (modOp v g s).opCore w = s.opCore w := by
  by_cases same : w = v
  · subst same
    rw [State.opCore, op_modOp, State.opCore, Option.map_map]
    congr 1
    funext o
    obtain ⟨desc, admitted, status⟩ := h o
    simp [desc, admitted, status]
  · rw [State.opCore, op_modOp_ne same, State.opCore]

theorem keeps_modOp (as : List Nat) (v : Nat) (g : ArcOp → ArcOp) (s : State) : Keeps as s (modOp v g s) := by
  obtain ⟨ops, changed⟩ := modOp_eq v g s
  rw [changed]
  exact keeps_modArc as _ s

@[simp] theorem chord_modOp (v : Nat) (g : ArcOp → ArcOp) (s : State) (k : Nat) : (modOp v g s).chord k = s.chord k := by
  obtain ⟨ops, changed⟩ := modOp_eq v g s
  rw [changed]
  rfl

@[simp] theorem opCore_flagOp (v bit w : Nat) (s : State) : (flagOp v bit s).opCore w = s.opCore w :=
  opCore_modOp (g := fun o => { o with flags := o.flags ||| 2 ^ bit }) (fun _ => ⟨rfl, rfl, rfl⟩) v w s

theorem keeps_flagOp (as : List Nat) (v bit : Nat) (s : State) : Keeps as s (flagOp v bit s) := keeps_modOp as v _ s

@[simp] theorem chord_flagOp (v bit : Nat) (s : State) (k : Nat) : (flagOp v bit s).chord k = s.chord k := chord_modOp v _ s k

theorem keeps_suspectOp (as : List Nat) (v island : Nat) (s : State) : Keeps as s (suspectOp v island s) :=
  (keeps_flagOp as v 1 s).ite (Keeps.refl as s)

@[simp] theorem chord_suspectOp (v island : Nat) (s : State) (k : Nat) : (suspectOp v island s).chord k = s.chord k := by
  unfold suspectOp
  split <;> simp

/-- A change of one chord that leaves its phase leaves every chord's phase. -/
theorem phase_modChord {g : ArcChord → ArcChord} (h : ∀ c, (g c).phase = c.phase) (j k : Nat) (s : State) :
    ((modChord j g s).chord k).phase = (s.chord k).phase := by
  by_cases same : k = j
  · rw [same, chord_modChord, h]
  · exact congrArg ArcChord.phase (Store.find_put_ne _ _ _ same)

/-! ## An operation is over (R193) -/

theorem opLive_of_op {s : State} {v : Nat} {o : ArcOp} (op : s.op v = some o) (admitted : o.admitted.isSome = true)
    (before : s.vstate v ≠ vsClose) : s.opLive v = true := by
  rw [State.opLive, op]
  simp [admitted, before]

theorem Signals.ite {c : Prop} [Decidable c] {s t u : State} (ht : Signals s t) (hu : Signals s u) : Signals s (if c then t else u) := by
  split
  · exact ht
  · exact hu

theorem signals_pendStatus (st : Nat) (s : State) : Signals s (pendStatus st s) := by
  unfold pendStatus
  exact (signals_pend 257 s).ite ((signals_pend 258 s).ite ((signals_pend 260 s).ite ((signals_pend 262 s).ite (Signals.refl s))))

theorem keeps_pendStatus (st : Nat) (s : State) : Keeps [ICL_PEND 16, DMA_MSIX_PBA 0] s (pendStatus st s) := by
  unfold pendStatus
  exact (keeps_pend 257 s).ite ((keeps_pend 258 s).ite ((keeps_pend 260 s).ite ((keeps_pend 262 s).ite (Keeps.refl _ s))))

/-- Vertex `v`'s supply gate switches off in a thermal drain (R347). -/
def dropGate (v : Nat) (s : State) : State := if s.arc.drain = 2 then setGate v false s else s

/-- Vertex `v` is taken off its chord's waiting replays. -/
def dropReplay (v : Nat) (s : State) : State := modChord (s.chordOf v) (fun c => { c with replays := withoutVertex v c.replays }) s

/-- The operation of vertex `v` has its status and stamp (R193, R208). -/
def noteStatus (v st reason t : Nat) (s : State) : State :=
  modOp v (fun o => { o with status := some (st, reason), doneAt := t, further := 0 }) s

/-- What Arc notes of an operation whose status is determined, before it tells of it (R193, R347). -/
def settleOp (v st reason t : Nat) (s : State) : State := suspectOp v 16 (dropReplay v (dropGate v (noteStatus v st reason t s)))

theorem dropGate_eq (v : Nat) (s : State) : ∃ gates, dropGate v s = { s with gates := gates } := by
  unfold dropGate
  split
  · exact ⟨_, rfl⟩
  · exact ⟨s.gates, rfl⟩

theorem sendClose_eq (v st : Nat) (s : State) : ∃ lat, sendClose v st s = { s with lat := lat } := by
  unfold sendClose modSlot
  split
  · exact ⟨_, rfl⟩
  · exact ⟨s.lat, rfl⟩

theorem keeps_sendClose (as : List Nat) (v st : Nat) (s : State) : Keeps as s (sendClose v st s) := by
  obtain ⟨lat, sent⟩ := sendClose_eq v st s
  rw [sent]
  exact ⟨fun _ _ => rfl, rfl, rfl, rfl, rfl, rfl⟩

theorem arc_sendClose (v st : Nat) (s : State) : (sendClose v st s).arc = s.arc := by
  obtain ⟨lat, sent⟩ := sendClose_eq v st s
  rw [sent]

theorem finishOp_live {s : State} {v : Nat} (live : s.opLive v = true) (st reason t : Nat) :
    finishOp v st reason t s = sendClose v st (enterV v vsClose (pendStatus st (settleOp v st reason t s))) := by
  simp only [finishOp, live, Bool.not_true, Bool.false_eq_true, if_false]
  rfl

theorem finishOp_dead {s : State} {v : Nat} (dead : s.opLive v = false) (st reason t : Nat) : finishOp v st reason t s = s := by
  simp [finishOp, dead]

theorem keeps_settleOp (as : List Nat) (v st reason t : Nat) (s : State) : Keeps as s (settleOp v st reason t s) := by
  have gated (s : State) : Keeps as s (dropGate v s) := by
    obtain ⟨gates, dropped⟩ := dropGate_eq v s
    rw [dropped]
    exact ⟨fun _ _ => rfl, rfl, rfl, rfl, rfl, rfl⟩
  exact (((keeps_modOp as v _ s).trans (gated _)).trans (keeps_modChord as _ _ _)).trans (keeps_suspectOp as v 16 _)

theorem arc_dropGate (v : Nat) (s : State) : (dropGate v s).arc = s.arc := by
  obtain ⟨gates, dropped⟩ := dropGate_eq v s
  rw [dropped]

theorem phase_settleOp (v st reason t k : Nat) (s : State) : ((settleOp v st reason t s).chord k).phase = (s.chord k).phase := by
  have freed (s : State) : ((dropReplay v s).chord k).phase = (s.chord k).phase :=
    phase_modChord (g := fun c => { c with replays := withoutVertex v c.replays }) (fun _ => rfl) _ k s
  have gated (s : State) : (dropGate v s).chord k = s.chord k := by rw [State.chord, arc_dropGate, State.chord]
  rw [settleOp, chord_suspectOp, freed, gated, noteStatus, chord_modOp]

/-- The operation with its status, as `settleOp` leaves it. -/
theorem op_settleOp {s : State} {v : Nat} {o : ArcOp} (op : s.op v = some o) (st reason t : Nat) :
    ∃ p, (settleOp v st reason t s).op v = some p ∧ p.status = some (st, reason) ∧ p.doneAt = t := by
  have noted : (noteStatus v st reason t s).op v = some { o with status := some (st, reason), doneAt := t, further := 0 } := by
    rw [noteStatus, op_modOp, op]
    rfl
  have dropped : (dropReplay v (dropGate v (noteStatus v st reason t s))).op v =
      some { o with status := some (st, reason), doneAt := t, further := 0 } := by
    rw [← noted]
    show (dropGate v (noteStatus v st reason t s)).op v = _
    rw [State.op, arc_dropGate, State.op]
  rw [settleOp, suspectOp]
  split
  · exact ⟨_, by rw [flagOp, op_modOp, dropped]; rfl, rfl, rfl⟩
  · exact ⟨_, dropped, rfl, rfl⟩

/-- The registers that the end of an operation of vertex `v` may write. -/
def closeRegs (v : Nat) : List Nat := [ARC_VSTAT v, ARC_SINCE v, ICL_PEND 16, DMA_MSIX_PBA 0]

theorem keeps_finishOp (v st reason t : Nat) (s : State) : Keeps (closeRegs v) s (finishOp v st reason t s) := by
  cases live : s.opLive v with
  | false => rw [finishOp_dead live]; exact Keeps.refl _ s
  | true =>
    rw [finishOp_live live]
    have told := (keeps_settleOp (closeRegs v) v st reason t s).trans ((keeps_pendStatus st _).mono (by simp [closeRegs]))
    exact (told.trans ((keeps_enterV v vsClose _).mono (by simp [closeRegs]))).trans (keeps_sendClose _ v st _)

theorem phase_finishOp (v st reason t k : Nat) (s : State) : ((finishOp v st reason t s).chord k).phase = (s.chord k).phase := by
  cases live : s.opLive v with
  | false => rw [finishOp_dead live]
  | true =>
    rw [finishOp_live live, State.chord, arc_sendClose, arc_enterV, (signals_pendStatus st _).arc_eq]
    exact phase_settleOp v st reason t k s

/-- An operation that is in flight closes with the status and stamp that are given. -/
theorem closes_finishOp {s : State} {v : Nat} (live : s.opLive v = true) (st reason t : Nat) :
    (finishOp v st reason t s).closes v st reason t := by
  have held : ∃ o, s.op v = some o := by
    cases op : s.op v with
    | none => simp [State.opLive, op] at live
    | some o => exact ⟨o, rfl⟩
  obtain ⟨o, op⟩ := held
  obtain ⟨p, settled, status, doneAt⟩ := op_settleOp op st reason t
  rw [finishOp_live live]
  refine ⟨?_, p, ?_, status, doneAt⟩
  · rw [State.vstate, (keeps_sendClose [] v st _).get (by simp)]
    exact vstate_enterV (by decide) v _
  · rw [State.op, arc_sendClose, arc_enterV, (signals_pendStatus st _).arc_eq]
    exact settled

/-! ## A vertex is ready, or its time has run out (R198 to R203) -/

theorem opLive_of_opCore {s : State} {v : Nat} {d : List Byte} {a : Option Nat} {st : Option (Nat × Nat)} (core : s.opCore v = some (d, a, st))
    (admitted : a.isSome = true) (before : s.vstate v ≠ vsClose) : s.opLive v = true := by
  obtain ⟨o, op, -, rfl, -⟩ := op_of_opCore core
  exact opLive_of_op op admitted before

/-- An operation without a status ends as PASS once its vertex is ready. -/
theorem finishReady_pass {s : State} {v : Nat} {d : List Byte} {a : Option Nat} (core : s.opCore v = some (d, a, none)) (t : Nat) :
    finishReady v t s = finishOp v opPass 0 t s := by
  obtain ⟨o, op, -, -, status⟩ := op_of_opCore core
  rw [finishReady, op]
  simp only [status, Option.getD_none]

/-- After the last main phase of an operation with no busy interval and no out phase it ends as PASS. -/
theorem afterMain_pass {s : State} {v : Nat} {d : List Byte} {a : Option Nat} (core : s.opCore v = some (d, a, none))
    (idle : descBusy d = false) (notRead : opType d ≠ opRead) (t level : Nat) : afterMain v t level s = finishOp v opPass 0 t s := by
  obtain ⟨o, op, rfl, -, -⟩ := op_of_opCore core
  rw [afterMain, op]
  simp only [idle, Bool.false_eq_true, if_false]
  rw [afterReady, op]
  simp only [notRead, false_and, if_false]
  exact finishReady_pass core t

theorem busyWindowExpiry_eq {s : State} {v c : Nat} {o : ArcOp} (op : s.op v = some o) (busy : s.vstate v = vsBusy)
    (bus : opType o.desc ≠ opPower) (channel : s.busyChannel v = some c) (level : o.level ≠ 0) (fall : o.fall = none) :
    busyWindowExpiry v s =
      if s.past (stampAdd o.tEnd (ticksOf (s.get ARC_BUSY_WB_TICKS))) then
        becomeReady v (stampAdd o.tEnd (ticksOf (s.get ARC_BUSY_WB_TICKS))) 0 (flagOp v 11 s)
      else s := by
  rw [busyWindowExpiry, op]
  simp only [busy, bus, channel, level, fall, ne_eq, not_true_eq_false, Option.isNone_some, Option.isSome_none, Bool.false_eq_true, false_or]
  split <;> simp_all

theorem busyTimeout_eq {s : State} {v c : Nat} {o : ArcOp} (op : s.op v = some o) (busy : s.vstate v = vsBusy)
    (bus : opType o.desc ≠ opPower) (channel : s.busyChannel v = some c) :
    busyTimeout v s = if s.past o.deadline then timeOut v o.deadline s else s := by
  rw [busyTimeout, op]
  simp only [busy, bus, channel, ne_eq, not_true_eq_false, Option.isNone_some, Bool.false_eq_true, false_or]
  split <;> simp_all

theorem powerSettleEnd_eq {s : State} {v : Nat} {o : ArcOp} (op : s.op v = some o) (busy : s.vstate v = vsBusy)
    (power : opType o.desc = opPower) :
    powerSettleEnd v s =
      if s.past (stampAdd o.tEnd (ticksOf (descParam o.desc 1))) then finishReady v (stampAdd o.tEnd (ticksOf (descParam o.desc 1))) s
      else s := by
  rw [powerSettleEnd, op]
  simp only [busy, power, ne_eq, not_true_eq_false, false_or]
  split <;> simp_all

/-- A bit of a field is a field of its own. -/
theorem bitOf_eq_get (s : State) {f : Fld} {i : Nat} (hi : i < f.w) : s.bitOf f i = (s.get ⟨f.addr, f.lo + i, 1⟩).testBit 0 := by
  rw [State.bitOf, State.get, bitsAt_testBit, State.get, bitsAt_testBit]
  simp [hi]

theorem bitOf_setBit (s : State) {f : Fld} {i : Nat} (hi : i < f.w) (fits : f.lo + i + 1 ≤ 64) (b : Bool) : (s.setBit f i b).bitOf f i = b := by
  rw [bitOf_eq_get _ hi, State.setBit, State.get_set_self s ⟨f.addr, f.lo + i, 1⟩ _ fits]
  cases b <;> simp [bit01]

theorem vhold_setVhold (v : Nat) (s : State) (b : Bool) : (setVhold v b s).vhold v = b := by
  have apart : ARC_VHOLD (v / 32) ≠ DMA_MSIX_PBA 0 := by
    simp only [ARC_VHOLD, DMA_MSIX_PBA]
    omega
  have low : v % 32 < 32 := Nat.mod_lt _ (by decide)
  rw [State.vhold, State.bitOf, setVhold, get_withLevel 256 _ s apart]
  exact bitOf_setBit s (f := ARC_VHOLD_HOLD (v / 32)) low (by simp only; omega) b

theorem keeps_setVhold (v : Nat) (b : Bool) (s : State) : Keeps [ARC_VHOLD (v / 32), DMA_MSIX_PBA 0] s (setVhold v b s) :=
  Keeps.withGroup (keeps_set s _ (by simp)) (by simp)

theorem arc_setVhold (v : Nat) (b : Bool) (s : State) : (setVhold v b s).arc = s.arc :=
  (signals_withGroup _ (fun s => s.setBit (ARC_VHOLD_HOLD (v / 32)) (v % 32) b) s).arc_eq

/-! ## The end of a phase (R203) -/

/-- The registers of the power governor's account, and of its event (R344, R345). -/
def powerRegs : List Nat := [THM_P_COMMIT, THM_CREDIT, THM_P_EST, THM_STAT, ICL_PEND 26, DMA_MSIX_PBA 0]

theorem chordStat_apart {k : Nat} (hk : k < 512) : ARC_CHORD_STAT k ∉ powerRegs := by
  simp only [powerRegs, List.mem_cons, List.not_mem_nil, or_false, ARC_CHORD_STAT, THM_P_COMMIT, THM_CREDIT, THM_P_EST, THM_STAT,
    ICL_PEND, DMA_MSIX_PBA]
  omega

theorem keeps_refreshPower (s : State) : Keeps powerRegs s (refreshPower s) := by
  have shown : Keeps powerRegs s (((s.set THM_P_COMMIT_P_COMMIT (s.therm.standing + s.heldCost)).set THM_CREDIT_CREDIT
      (unsigned 32 (s.set THM_P_COMMIT_P_COMMIT (s.therm.standing + s.heldCost)).credit)).set THM_P_EST_P_EST
      (s.set THM_P_COMMIT_P_COMMIT (s.therm.standing + s.heldCost)).estimate) :=
    ((keeps_set s _ (by decide)).trans (keeps_set _ _ (by decide))).trans (keeps_set _ _ (by decide))
  exact shown.trans (((keeps_set _ _ (by decide)).trans ((keeps_pend 421 _).mono (by decide))).ite (Keeps.refl _ _))

theorem signals_refreshPower (s : State) : Signals s (refreshPower s) := by
  have shown : Signals s (((s.set THM_P_COMMIT_P_COMMIT (s.therm.standing + s.heldCost)).set THM_CREDIT_CREDIT
      (unsigned 32 (s.set THM_P_COMMIT_P_COMMIT (s.therm.standing + s.heldCost)).credit)).set THM_P_EST_P_EST
      (s.set THM_P_COMMIT_P_COMMIT (s.therm.standing + s.heldCost)).estimate) :=
    ((signals_set s _ _).trans (signals_set _ _ _)).trans (signals_set _ _ _)
  exact shown.trans (((signals_set _ _ _).trans (signals_pend 421 _)).ite (Signals.refl _))

theorem keeps_freeBus (k : Nat) (s : State) : Keeps (ARC_CHORD_STAT k :: ARC_STAT :: powerRegs) s (freeBus k s) :=
  (((keeps_modChord _ k _ s).trans (keeps_set _ _ (by simp))).trans (keeps_set _ _ (by simp))).trans
    ((keeps_refreshPower _).mono (by intro a ha; simp [ha]))

theorem arc_freeBus (k : Nat) (s : State) : (freeBus k s).arc = (modChord k (fun c => { c with phase := none }) s).arc :=
  (signals_refreshPower _).arc_eq

theorem phase_freeBus (k : Nat) (s : State) : ((freeBus k s).chord k).phase = none := by
  rw [State.chord, arc_freeBus]
  show ((modChord k (fun c => { c with phase := none }) s).chord k).phase = none
  rw [chord_modChord]

theorem opCore_freeBus (k v : Nat) (s : State) : (freeBus k s).opCore v = s.opCore v := by
  rw [State.opCore, State.op, arc_freeBus]
  rfl

theorem bus_freeBus {k : Nat} (hk : k < 512) (s : State) : (freeBus k s).on (ARC_CHORD_STAT_BUS k) = false := by
  have other : ARC_CHORD_STAT k ≠ ARC_STAT := by simp only [ARC_CHORD_STAT, ARC_STAT]; omega
  unfold freeBus
  refine (State.on_of_get ((keeps_refreshPower _).get (f := ARC_CHORD_STAT_BUS k) (chordStat_apart hk))).trans ?_
  refine (State.on_of_get (State.get_set_ne _ _ _ _ other)).trans ?_
  exact State.on_set_zero _ rfl (by simp)

theorem dropInkedGates_eq (k : Nat) (s : State) : ∃ gates, dropInkedGates k s = { s with gates := gates } := by
  unfold dropInkedGates
  generalize s.chordVertices k = vs
  induction vs generalizing s with
  | nil => exact ⟨s.gates, rfl⟩
  | cons v vs ih =>
    obtain ⟨gates, dropped⟩ := ih (if s.inked v then setGate v false s else s)
    refine ⟨gates, dropped.trans ?_⟩
    split <;> rfl

/-- A flag that is set if `c` holds (R210). -/
def flagIf (c : Bool) (v bit : Nat) (s : State) : State := if c then flagOp v bit s else s

theorem keeps_flagIf (as : List Nat) (c : Bool) (v bit : Nat) (s : State) : Keeps as s (flagIf c v bit s) :=
  (keeps_flagOp as v bit s).ite (Keeps.refl as s)

theorem opCore_flagIf (c : Bool) (v bit w : Nat) (s : State) : (flagIf c v bit s).opCore w = s.opCore w := by
  unfold flagIf
  split <;> simp

theorem chord_flagIf (c : Bool) (v bit k : Nat) (s : State) : (flagIf c v bit s).chord k = s.chord k := by
  unfold flagIf
  split <;> simp

/-- The bus is free, and the operation of vertex `v` flagged, as the end of its phase on ray `r` of facet `f` has it (R203, R210). -/
def endedPhase (k v f r : Nat) (s : State) : State :=
  let s := freeBus k s
  let s := flagIf (s.ray f r).gapSeen v 3 s
  flagIf (s.ray f r).jumped v 10 s

theorem keeps_endedPhase (k v f r : Nat) (s : State) : Keeps (ARC_CHORD_STAT k :: ARC_STAT :: powerRegs) s (endedPhase k v f r s) :=
  ((keeps_freeBus k s).trans (keeps_flagIf _ _ v 3 _)).trans (keeps_flagIf _ _ v 10 _)

theorem opCore_endedPhase (k v f r w : Nat) (s : State) : (endedPhase k v f r s).opCore w = s.opCore w := by
  rw [endedPhase, opCore_flagIf, opCore_flagIf, opCore_freeBus]

theorem phase_endedPhase (k v f r : Nat) (s : State) : ((endedPhase k v f r s).chord k).phase = none := by
  rw [endedPhase, chord_flagIf, chord_flagIf, phase_freeBus]

theorem bus_endedPhase {k : Nat} (hk : k < 512) (v f r : Nat) (s : State) : (endedPhase k v f r s).on (ARC_CHORD_STAT_BUS k) = false := by
  refine (State.on_of_get ?_).trans (bus_freeBus hk s)
  exact ((keeps_flagIf [] _ v 3 _).trans (keeps_flagIf [] _ v 10 _)).get (by simp)

/-- A main phase of one vertex on a chord of one ray that ends by END frees the bus and is over for the vertex. -/
theorem phaseEnd_main {s : State} {k f r v : Nat} {p : BusPhase} (phase : (s.chord k).phase = some p) (rays : s.chordRays k = [(f, r)])
    (main : p.kind = pkMain) (members : p.members = [v]) (ended : s.phaseOver k p = true) (cause : s.get (FCT_RAY_STAT_END_CAUSE f r) = endEnd) :
    ∃ err, phaseEnd k s = dropInkedGates k (endForGang k p endEnd (s.ray f r).endAt err (endedPhase k v f r s)) := by
  have governing : s.governing k = endEnd := by simp [State.governing, rays, cause]
  refine ⟨(((s.chordRays k).map fun x => if s.get (FCT_RAY_STAT_END_CAUSE x.1 x.2) = endEnd then s.get (FCT_RAY_STAT_ERR x.1 x.2)
    else 0).foldl max 0), ?_⟩
  have quiet : decide (endAbort ≤ endEnd) = false := by decide
  have kinds : decide (pkMain = pkMeasure) = false ∧ pkMain ≠ pkRecovery ∧ pkMain ≠ pkPoll ∧ pkMain ≠ pkCheck := by decide
  obtain ⟨measure, recovery, poll, check⟩ := kinds
  rw [phaseEnd, phase]
  simp only [governing, main, ended, rays, members, quiet, measure, recovery, poll, check, List.any_cons, List.any_nil, Bool.or_false,
    Bool.and_false, Bool.not_true, Bool.false_eq_true, if_false, List.foldl_cons, List.foldl_nil, List.map_cons, List.map_nil,
    List.headD_cons]
  rfl

/-- The status byte that a READ_STATUS of vertex `v` reads is its result (R200, R208). -/
def noteByte (v b : Nat) (s : State) : State :=
  match s.op v with
  | some o => if opType o.desc = opReadStatus then modOp v (fun o => { o with dutStatus := b, data := b }) s else s
  | none => s

theorem noteByte_cases (v b : Nat) (s : State) :
    noteByte v b s = s ∨ noteByte v b s = modOp v (fun o => { o with dutStatus := b, data := b }) s := by
  unfold noteByte
  split
  · split
    · exact .inr rfl
    · exact .inl rfl
  · exact .inl rfl

theorem keeps_noteByte (as : List Nat) (v b : Nat) (s : State) : Keeps as s (noteByte v b s) := by
  obtain same | noted := noteByte_cases v b s
  · rw [same]; exact Keeps.refl as s
  · rw [noted]; exact keeps_modOp as v _ s

theorem opCore_noteByte (v b w : Nat) (s : State) : (noteByte v b s).opCore w = s.opCore w := by
  obtain same | noted := noteByte_cases v b s
  · rw [same]
  · rw [noted, opCore_modOp (g := fun o => { o with dutStatus := b, data := b }) fun _ => ⟨rfl, rfl, rfl⟩]

theorem chord_noteByte (v b k : Nat) (s : State) : (noteByte v b s).chord k = s.chord k := by
  obtain same | noted := noteByte_cases v b s
  · rw [same]
  · rw [noted, chord_modOp]

/-- The only vertex of a gang, its main phase ended by END, is over where it has no busy interval and no out phase. -/
theorem endForGang_main {s : State} {k v : Nat} {p : BusPhase} {d : List Byte} {a : Option Nat} (main : p.kind = pkMain)
    (members : p.members = [v]) (core : s.opCore v = some (d, a, none)) (admitted : a.isSome = true) (phase : s.vstate v = vsPhase)
    (clean : s.inked v = false) (idle : descBusy d = false) (notRead : opType d ≠ opRead) (t err : Nat) :
    ∃ b, endForGang k p endEnd t err s = finishOp v opPass 0 t (noteByte v b s) := by
  have live : s.opLive v = true := opLive_of_opCore core admitted (by rw [phase]; decide)
  have kinds : endEnd ≠ endUnderflow ∧ pkMain ≠ pkOut := by decide
  obtain ⟨cause, kind⟩ := kinds
  refine ⟨s.statusByte k 0, ?_⟩
  have ready (u : State) (same : u.opCore v = some (d, a, none)) : afterMain v t 1 u = finishOp v opPass 0 t u :=
    afterMain_pass same idle notRead t 1
  rw [← ready _ ((opCore_noteByte v _ v s).trans core)]
  unfold endForGang
  simp only [members, main, cause, kind, live, phase, clean, List.filter_cons, List.filter_nil, Bool.true_and, decide_true, if_true, if_false,
    Bool.not_false, Bool.false_eq_true, List.foldl_cons, List.foldl_nil, List.idxOf?_cons, List.idxOf?_nil, beq_self_eq_true, Option.getD_some]
  rfl

theorem keeps_dropInkedGates (as : List Nat) (k : Nat) (s : State) : Keeps as s (dropInkedGates k s) := by
  obtain ⟨gates, dropped⟩ := dropInkedGates_eq k s
  rw [dropped]
  exact ⟨fun _ _ => rfl, rfl, rfl, rfl, rfl, rfl⟩

theorem arc_dropInkedGates (k : Nat) (s : State) : (dropInkedGates k s).arc = s.arc := by
  obtain ⟨gates, dropped⟩ := dropInkedGates_eq k s
  rw [dropped]

/-- An operation stays closed while its vertex's state and Arc's operations stand. -/
theorem State.closes.congr {s t : State} {v st reason at_ : Nat} (h : s.closes v st reason at_) (state : t.vstate v = s.vstate v)
    (arc : t.arc = s.arc) : t.closes v st reason at_ := by
  obtain ⟨closed, o, op, status, doneAt⟩ := h
  exact ⟨state.trans closed, o, by rw [State.op, arc]; exact op, status, doneAt⟩

/-- A main phase of one vertex, with no busy interval and no out phase, that ends by END leaves the bus free and the operation closed. -/
theorem closes_phaseEnd {s : State} {k f r v : Nat} {p : BusPhase} {o : ArcOp} (hk : k < 512) (hv : v < 4096)
    (phase : (s.chord k).phase = some p) (rays : s.chordRays k = [(f, r)]) (main : p.kind = pkMain) (members : p.members = [v])
    (ended : s.phaseOver k p = true) (cause : s.get (FCT_RAY_STAT_END_CAUSE f r) = endEnd) (op : s.op v = some o)
    (inPhase : s.vstate v = vsPhase) (clean : s.inked v = false) (admitted : o.admitted.isSome = true) (status : o.status = none)
    (idle : descBusy o.desc = false) (notRead : opType o.desc ≠ opRead) :
    (phaseEnd k s).closes v opPass 0 (s.ray f r).endAt ∧ ((phaseEnd k s).chord k).phase = none ∧
      (phaseEnd k s).on (ARC_CHORD_STAT_BUS k) = false := by
  have apart {a : Nat} (ha : 0x310000 ≤ a ∧ a < 0x320000 ∨ 0x3f0000 ≤ a) : a ∉ ARC_CHORD_STAT k :: ARC_STAT :: powerRegs := by
    simp only [powerRegs, List.mem_cons, List.not_mem_nil, or_false, ARC_CHORD_STAT, ARC_STAT, THM_P_COMMIT, THM_CREDIT, THM_P_EST,
      THM_STAT, ICL_PEND, DMA_MSIX_PBA]
    omega
  have keeps := keeps_endedPhase k v f r s
  have core : (endedPhase k v f r s).opCore v = some (o.desc, o.admitted, none) := by
    rw [opCore_endedPhase, opCore_of_op op, status]
  have inPhase' : (endedPhase k v f r s).vstate v = vsPhase :=
    (keeps.get (apart (.inl (by simp only [ARC_VSTAT]; omega)))).trans inPhase
  have clean' : (endedPhase k v f r s).inked v = false := by
    rw [State.inked, State.bitOf, keeps.get (apart (.inr (by simp only [ARC_INKED]; omega)))]
    exact clean
  obtain ⟨err, freed⟩ := phaseEnd_main phase rays main members ended cause
  obtain ⟨b, gang⟩ := endForGang_main (k := k) main members core admitted inPhase' clean' idle notRead (s.ray f r).endAt err
  have live : (noteByte v b (endedPhase k v f r s)).opLive v = true := by
    refine opLive_of_opCore ((opCore_noteByte v b v _).trans core) admitted ?_
    rw [State.vstate, (keeps_noteByte [] v b _).get (by simp), ← State.vstate, inPhase']
    decide
  have bus : ARC_CHORD_STAT k ∉ closeRegs v := by
    simp only [closeRegs, List.mem_cons, List.not_mem_nil, or_false, ARC_CHORD_STAT, ARC_VSTAT, ARC_SINCE, ICL_PEND, DMA_MSIX_PBA]
    omega
  rw [freed, gang]
  refine ⟨(closes_finishOp live opPass 0 _).congr ?_ (arc_dropInkedGates k _), ?_, ?_⟩
  · exact (keeps_dropInkedGates [] k _).get (by simp)
  · rw [State.chord, arc_dropInkedGates, ← State.chord, phase_finishOp, chord_noteByte, phase_endedPhase]
  · rw [State.on_of_get ((keeps_dropInkedGates [] k _).get (by simp)),
      State.on_of_get ((keeps_finishOp v opPass 0 _ _).get (f := ARC_CHORD_STAT_BUS k) bus),
      State.on_of_get ((keeps_noteByte [] v b _).get (by simp)), bus_endedPhase hk]

/-- An operation with its busy time (R208). -/
def ArcOp.withBusy (ticks : Nat) (o : ArcOp) : ArcOp := { o with busyTicks := ticks }

theorem core_withBusy (ticks : Nat) (o : ArcOp) :
    (o.withBusy ticks).desc = o.desc ∧ (o.withBusy ticks).admitted = o.admitted ∧ (o.withBusy ticks).status = o.status := ⟨rfl, rfl, rfl⟩

/-- The busy time of an operation that has timed out at `t` (R208). -/
def noteTimeout (v t : Nat) (s : State) : State := modOp v (fun o => o.withBusy ((stampDiff t o.tEnd).toNat / 256)) s

theorem keeps_noteTimeout (as : List Nat) (v t : Nat) (s : State) : Keeps as s (noteTimeout v t s) := keeps_modOp as v _ s

theorem opCore_noteTimeout (v t w : Nat) (s : State) : (noteTimeout v t s).opCore w = s.opCore w := 
  opCore_modOp (fun o => core_withBusy _ o) v w s

theorem timeOut_hold {s : State} {v t : Nat} {o : ArcOp} (op : s.op v = some o) (status : o.status = none)
    (action : (finishOp v opTimeout 0 t (noteTimeout v t s)).get ARC_CFG_TO_ACTION = 0) :
    timeOut v t s = setVhold v true (finishOp v opTimeout 0 t (noteTimeout v t s)) := by
  unfold timeOut
  rw [op]
  dsimp only
  rw [if_neg (by simp [status])]
  change (match (finishOp v opTimeout 0 t (noteTimeout v t s)).get ARC_CFG_TO_ACTION with
    | 1 => inkVertex v (finishOp v opTimeout 0 t (noteTimeout v t s))
    | 2 => finishOp v opTimeout 0 t (noteTimeout v t s)
    | _ => setVhold v true (finishOp v opTimeout 0 t (noteTimeout v t s))) = _
  split
  · next ink => rw [action] at ink; cases ink
  · next leave => rw [action] at leave; cases leave
  · rfl

/-- A timeout under TO_ACTION 0 closes the operation and holds its vertex (R201). -/
theorem closes_timeOut {s : State} {v : Nat} {o : ArcOp} (hv : v < 4096) (op : s.op v = some o) (admitted : o.admitted.isSome = true)
    (status : o.status = none) (before : s.vstate v ≠ vsClose) (action : s.get ARC_CFG_TO_ACTION = 0) (t : Nat) :
    (timeOut v t s).closes v opTimeout 0 t ∧ (timeOut v t s).vhold v = true := by
  have state : (noteTimeout v t s).vstate v = s.vstate v := (keeps_noteTimeout [] v t s).get (by simp)
  have live : (noteTimeout v t s).opLive v = true :=
    opLive_of_opCore ((opCore_noteTimeout v t v s).trans (opCore_of_op op)) admitted (by rw [state]; exact before)
  have config : ARC_CFG_TO_ACTION.addr ∉ closeRegs v := by
    simp only [closeRegs, List.mem_cons, List.not_mem_nil, or_false, ARC_CFG, ARC_VSTAT, ARC_SINCE, ICL_PEND, DMA_MSIX_PBA]
    omega
  have apart : ARC_VSTAT v ∉ [ARC_VHOLD (v / 32), DMA_MSIX_PBA 0] := by
    simp only [List.mem_cons, List.not_mem_nil, or_false, ARC_VHOLD, ARC_VSTAT, DMA_MSIX_PBA]
    omega
  rw [timeOut_hold op status (by rw [(keeps_finishOp v opTimeout 0 t _).get config, (keeps_noteTimeout [] v t s).get (by simp), action])]
  exact ⟨(closes_finishOp live opTimeout 0 t).congr ((keeps_setVhold v true _).get apart) (arc_setVhold v true _), vhold_setVhold v _ true⟩

/-- An operation of a vertex in BUSY that has no status yet closes PASS once it is ready. -/
theorem closes_finishReady {s : State} {v : Nat} {o : ArcOp} (op : s.op v = some o) (admitted : o.admitted.isSome = true)
    (status : o.status = none) (before : s.vstate v ≠ vsClose) (t : Nat) : (finishReady v t s).closes v opPass 0 t := by
  have core : s.opCore v = some (o.desc, o.admitted, none) := by rw [opCore_of_op op, status]
  rw [finishReady_pass core]
  exact closes_finishOp (opLive_of_op op admitted before) opPass 0 t

theorem endMean_none {s : State} {v : Nat} (none_ : s.arc.means.find? (fun m => m.vertex = v) = none) : endMean v s = s := by
  rw [endMean, none_]

theorem endMean_due {s : State} {v : Nat} {m : PmiMean} (found : s.arc.means.find? (fun m => m.vertex = v) = some m) (some_ : m.count ≠ 0)
    (due : s.past m.until_ = true) :
    endMean v s = dropMeasurement (s.chordOf v) (m.pmi, v, true) (measured v false ((m.sum * 1250000).tdiv (m.count * 2 ^ 23)) false m.ovr
      m.stale (modArc (fun a => { a with means := a.means.filter fun x => x != m }) s)) := by
  rw [endMean, found]
  simp only [some_, due, Bool.not_true, Bool.false_eq_true, or_self, if_false]
  rfl

theorem phaseEnd_none {s : State} {k : Nat} (none_ : (s.chord k).phase = none) : phaseEnd k s = s := by rw [phaseEnd, none_]

theorem phaseEnd_running {s : State} {k : Nat} {p : BusPhase} (phase : (s.chord k).phase = some p) (runs : s.phaseOver k p = false) :
    phaseEnd k s = s := by
  rw [phaseEnd, phase]
  simp [runs]

theorem phaseOver_of_ray {s : State} {k f r : Nat} (rays : s.chordRays k = [(f, r)]) (p : BusPhase) :
    s.phaseOver k p = (decide (s.rayState f r = rayIdle) && (s.ray f r).serial == p.serial && !(s.ray f r).refused &&
      s.past (s.ray f r).endAt) := by
  simp [State.phaseOver, rays, State.past]

end Sys2Proof.Machine
end

section
/-!
SUPPORT. What the engines outside Arc leave of Arc's book, of the vertices' states and of the comparators' classes: the rings and the slots
of Lattice that an admission advances (R192, R218), and the units of measurement that a comparator edge drives (R246 to R254).
-/

namespace Sys2Proof.Machine
open Sys2Proof.Reg

/-! ## The scene -/

/-- What Arc, the site map, the supply gates, the comparators and the clock hold, and the registers `as`. -/
def State.scene (as : List Nat) (s : State) : ArcState × Store Bool × Store Word64 × Store Nat × Nat × List Word64 :=
  (s.arc, s.gates, s.map, s.classes, s.now, as.map s.reg)

section
variable {as : List Nat} {s t u : State}

theorem scene_eq_iff : t.scene as = s.scene as ↔
    t.arc = s.arc ∧ t.gates = s.gates ∧ t.map = s.map ∧ t.classes = s.classes ∧ t.now = s.now ∧ ∀ a ∈ as, t.reg a = s.reg a := by
  simp [State.scene, Prod.ext_iff]

theorem arc_of_scene (h : t.scene as = s.scene as) : t.arc = s.arc := (scene_eq_iff.1 h).1

theorem map_of_scene (h : t.scene as = s.scene as) : t.map = s.map := by
  obtain ⟨-, -, map, -⟩ := scene_eq_iff.1 h
  exact map

theorem classes_of_scene (h : t.scene as = s.scene as) : t.classes = s.classes := by
  obtain ⟨-, -, -, classes, -⟩ := scene_eq_iff.1 h
  exact classes

theorem now_of_scene (h : t.scene as = s.scene as) : t.now = s.now := by
  obtain ⟨-, -, -, -, now, -⟩ := scene_eq_iff.1 h
  exact now

theorem get_of_scene (h : t.scene as = s.scene as) {f : Fld} (hf : f.addr ∈ as) : t.get f = s.get f := by
  obtain ⟨-, -, -, -, -, regs⟩ := scene_eq_iff.1 h
  exact State.get_of_reg (regs _ hf)

theorem scene_ite {c : Prop} [Decidable c] (ht : t.scene as = s.scene as) (hu : u.scene as = s.scene as) :
    (if c then t else u).scene as = s.scene as := by
  split
  · exact ht
  · exact hu

theorem scene_foldl {α : Type} {g : State → α → State} (h : ∀ s x, (g s x).scene as = s.scene as) (xs : List α) (s : State) :
    (xs.foldl g s).scene as = s.scene as := foldl_same (State.scene as) h xs s

theorem scene_set {f : Fld} {v : Nat} (h : f.addr ∉ as) : (s.set f v).scene as = s.scene as :=
  scene_eq_iff.2 ⟨rfl, rfl, rfl, rfl, rfl, fun _ ha => State.reg_set_ne s f v fun he => h (he ▸ ha)⟩

end

/-- Registers of the block of vertex states, or none. -/
def VertexRegs (as : List Nat) : Prop := ∀ a ∈ as, 0x310000 ≤ a ∧ a < 0x320000

section
variable {as : List Nat} (apart : VertexRegs as)
include apart

theorem scene_set_out {f : Fld} {v : Nat} {s : State} (h : f.addr < 0x310000 ∨ 0x320000 ≤ f.addr := by decide) :
    (s.set f v).scene as = s.scene as := by
  refine scene_set fun mem => ?_
  obtain ⟨low, high⟩ := apart _ mem
  omega

omit apart in
theorem scene_signals {s t : State} (h : Signals s t) (regs : ∀ a ∈ as, t.reg a = s.reg a) : t.scene as = s.scene as := by
  obtain ⟨_, _, _, rfl⟩ := h
  exact scene_eq_iff.2 ⟨rfl, rfl, rfl, rfl, rfl, regs⟩

theorem scene_signalSet (m : Nat) (s : State) : (signalSet m s).scene as = s.scene as := by
  refine scene_signals (signals_signalSet m s) fun a ha => (keeps_signalSet m s).reg ?_
  obtain ⟨low, -⟩ := apart a ha
  simp only [List.mem_singleton, DMA_MSIX_PBA]
  omega

theorem scene_withGroup (g : Nat) (f : State → State) (s : State) : (withGroup g f s).scene as = (f s).scene as := scene_signalSet apart _ _

theorem scene_pend (n : Nat) (s : State) : (pend n s).scene as = s.scene as := by
  unfold pend
  split
  case isTrue events =>
    have source : n < 512 := edgeSource_lt (by simp_all)
    rw [scene_withGroup apart]
    exact scene_set_out apart (.inl (by simp only [ICL_PEND]; omega))
  case isFalse => rfl

/-! ## Pages and translations -/

theorem scene_setFree (n : Nat) (s : State) : (setFree n s).scene as = s.scene as := by
  unfold setFree
  rw [scene_withGroup apart]
  dsimp only
  rw [scene_set_out apart]
  split
  · rw [scene_set_out apart, scene_set_out apart]
  · split
    · rw [scene_set_out apart, scene_set_out apart]
    · rw [scene_set_out apart]

theorem scene_freePages (p k : Nat) (s : State) : (freePages p k s).scene as = s.scene as := scene_setFree apart _ _

theorem scene_countSpillPages (s : State) : (countSpillPages s).scene as = s.scene as := scene_set_out apart

omit apart in
theorem scene_cacheLookup (page : Nat) (write : Bool) (s : State) : (cacheLookup page write s).2.scene as = s.scene as := by
  unfold cacheLookup
  split <;> rfl

omit apart in
theorem scene_sendTranslations (s : State) : (sendTranslations s).scene as = s.scene as := by
  unfold sendTranslations
  split
  · rfl
  · refine scene_foldl (fun s w => ?_) _ _
    split <;> rfl

omit apart in
theorem scene_translate (who : Requester) (addr : Nat) (write : Bool) (s : State) :
    (translate who addr write s).2.scene as = s.scene as := by
  have looked := scene_cacheLookup (as := as) (pageOf addr) write s
  unfold translate
  split
  · rfl
  · generalize cacheLookup (pageOf addr) write s = found at looked
    obtain ⟨hit, t⟩ := found
    cases hit
    · dsimp only
      split
      · exact looked
      · exact (scene_sendTranslations _).trans looked
    · exact looked

theorem scene_takePages {k p : Nat} {s t : State} (h : takePages k s = some (p, t)) : t.scene as = s.scene as := by
  simp only [takePages, Option.ite_none_left_eq_some, Option.some.injEq, Prod.mk.injEq] at h
  obtain ⟨-, -, rfl⟩ := h
  exact scene_setFree apart _ _

/-! ## Rings -/

theorem scene_sendPageRequests (s : State) : (sendPageRequests s).scene as = s.scene as := by
  unfold sendPageRequests
  rw [scene_set_out apart]
  refine scene_foldl (fun s p => ?_) _ _
  split <;> rfl

omit apart in
theorem scene_writeBack (n : Nat) (s : State) : (writeBack n s).scene as = s.scene as := by
  have asked := scene_translate (as := as) (.writeBack n) (s.get (RNG_WB_ADDR_ADDR n)) true s
  unfold writeBack
  split
  · rfl
  · split
    · rfl
    · generalize translate (.writeBack n) (s.get (RNG_WB_ADDR_ADDR n)) true s = answer at asked
      obtain ⟨go, t⟩ := answer
      cases go <;> exact asked

/-- A ring's registers stand below the vertices' states, where any of these are asked for. -/
theorem scene_setLow {n : Nat} (hn : as = [] ∨ n < 16384) {f : Fld} {v : Nat} {s : State} (h : n < 16384 → f.addr < 0x310000) :
    (s.set f v).scene as = s.scene as := by
  obtain rfl | near := hn
  · exact scene_set List.not_mem_nil
  · exact scene_set_out apart (.inl (h near))

theorem scene_setRing {n : Nat} (hn : as = [] ∨ n < 16384) {f : Fld} {v : Nat} {s : State}
    (h : f.addr ∈ [RNG_STAT n, RNG_SPILLED n, RNG_PARK_INDEX n, RNG_PARK_AT n, RNG_PARKS n, RNG_LOST n]) : (s.set f v).scene as = s.scene as := by
  refine scene_setLow apart hn fun near => ?_
  simp only [RNG_STAT, RNG_SPILLED, RNG_PARK_INDEX, RNG_PARK_AT, RNG_PARKS, RNG_LOST, List.mem_cons, List.not_mem_nil, or_false] at h
  omega

theorem scene_ringEvent {n : Nat} (hn : as = [] ∨ n < 16384) (s : State) : (ringEvent n s).scene as = s.scene as := by
  unfold ringEvent
  refine scene_ite ?_ rfl
  rw [scene_pend apart]
  exact scene_setLow apart hn fun near => by simp only [DMA_RNG_PEND]; omega

omit apart in
/-- The index of a ring stands in the block of rings. -/
theorem ringIndexField_lt {n : Nat} (hn : n < 16384) : (ringIndexField n).addr < 0x310000 := by
  unfold ringIndexField
  split
  · simp only [RNG_CONS]; omega
  · simp only [RNG_PROD]; omega

theorem scene_indexAdvanced {n : Nat} (hn : as = [] ∨ n < 16384) (s : State) : (indexAdvanced n s).scene as = s.scene as := by
  have counted : (s.count (ringIndexField n) 1).scene as = s.scene as := scene_setLow apart hn ringIndexField_lt
  have base : (ringEvent n (s.count (ringIndexField n) 1)).scene as = s.scene as := (scene_ringEvent apart hn _).trans counted
  unfold indexAdvanced
  exact scene_ite ((scene_writeBack n _).trans base) base

/-! ## Records -/

omit apart in
theorem scene_send (s : State) (m : Msg) : (s.send m).scene as = s.scene as := rfl

omit apart in
theorem scene_with_dma (s : State) (d : DmaState) : ({ s with dma := d } : State).scene as = s.scene as := rfl

omit apart in
theorem scene_modSpillPage (p : Nat) (v : SpillPage) (s : State) : (modSpillPage p v s).scene as = s.scene as := rfl

omit apart in
theorem scene_modRing (n : Nat) (g : RingState → RingState) (s : State) : (modRing n g s).scene as = s.scene as := rfl


theorem scene_autoSeal (l : Lot) (s : State) : (autoSeal l s).scene as = s.scene as := by
  unfold autoSeal startSeal
  dsimp only [State.countSat]
  refine scene_ite (scene_set_out apart) ?_
  rw [scene_set_out apart]
  rfl

theorem scene_chainRecord (data : List Byte) (s : State) : (chainRecord data s).scene as = s.scene as := by
  have counted (l : Lot) : (({ s with apex := { s.apex with lot := some l } } : State).count APX_LOT_COUNT_COUNT 1).scene as = s.scene as := by
    rw [State.count, scene_set_out apart]
    rfl
  unfold chainRecord
  split
  · rfl
  · dsimp only
    split
    · rw [scene_autoSeal apart, counted]
    · rw [counted]

theorem scene_loseRecord {n : Nat} (hn : as = [] ∨ n < 16384) (s : State) : (loseRecord n s).scene as = s.scene as := by
  have counted : (((s.countSat (RNG_LOST_COUNT n) 1).countSat DMA_LOST_RECS_COUNT 1).raise (RNG_STAT_LOSS n)).scene as = s.scene as := by
    simp only [State.countSat, State.raise]
    rw [scene_setRing apart hn (by simp), scene_set_out apart,
      scene_setRing apart hn (by simp)]
  unfold loseRecord
  dsimp only
  split
  · rw [scene_modRing, counted]
  · exact counted

theorem scene_discardRecord {n : Nat} (hn : as = [] ∨ n < 16384) (s : State) : (discardRecord n s).scene as = s.scene as := by
  simp only [discardRecord, State.countSat, State.raise]
  rw [scene_setRing apart hn (by simp), scene_set_out apart,
    scene_setRing apart hn (by simp)]

theorem scene_spillRoom {len p : Nat} {s t : State} (h : spillRoom len s = some (p, t)) : t.scene as = s.scene as := by
  unfold spillRoom at h
  have fresh : ∀ {q u v}, takePages 1 s = some (q, u) →
      some (q, countSpillPages (modSpillPage q ⟨len, 1⟩ { u with dma := { u.dma with spillPage := some q } })) = some (p, v) →
      v.scene as = s.scene as := by
    intro q u v taken same
    cases same
    rw [scene_countSpillPages apart, scene_modSpillPage, scene_with_dma, scene_takePages apart taken]
  cases taken : takePages 1 s with
  | none =>
    simp only [taken] at h
    split at h
    · split at h
      · cases h; rfl
      · cases h
    · cases h
  | some page =>
    simp only [taken] at h
    split at h
    · split at h
      · cases h; rfl
      · exact fresh taken h
    · exact fresh taken h

theorem scene_spillRecord {n : Nat} (hn : as = [] ∨ n < 16384) (x : Rec) (s : State) : (spillRecord n x s).2.scene as = s.scene as := by
  unfold spillRecord
  dsimp only
  split
  case h_1 p t room =>
    rw [scene_setRing apart hn (by simp), scene_modRing, scene_spillRoom apart room]
  case h_2 =>
    split
    · dsimp only [State.count]
      rw [scene_set_out apart, scene_setRing apart hn (by simp), scene_modRing]
    · exact scene_loseRecord apart hn s

omit apart in
theorem scene_loseWaiting (v : Nat) (x : Rec) (s : State) : (loseWaiting v x s).scene as = s.scene as := by
  unfold loseWaiting
  exact scene_ite rfl (scene_ite rfl rfl)

theorem scene_spillQueue {n : Nat} (hn : as = [] ∨ n < 16384) (s : State) : (spillQueue n s).scene as = s.scene as := by
  unfold spillQueue
  rw [scene_foldl, scene_modRing]
  intro s x
  have spilled := scene_spillRecord apart hn x s
  generalize spillRecord n x s = answer at spilled
  obtain ⟨kept, t⟩ := answer
  cases kept
  · dsimp only
    exact scene_ite ((scene_loseWaiting _ _ _).trans spilled) spilled
  · exact spilled

theorem scene_parkRing {n : Nat} (hn : as = [] ∨ n < 16384) (cause : Nat) (s : State) : (parkRing n cause s).scene as = s.scene as := by
  unfold parkRing
  dsimp only [State.countSat]
  split
  · rw [scene_modRing, scene_setRing apart hn (by simp), scene_setRing apart hn (by simp)]
  rw [scene_writeBack, scene_spillQueue apart hn, scene_pend apart]
  iterate 5 rw [scene_setRing apart hn (by simp)]

theorem scene_unparkRing {n : Nat} (hn : as = [] ∨ n < 16384) (s : State) : (unparkRing n s).scene as = s.scene as := by
  unfold unparkRing
  dsimp only
  rw [scene_writeBack, scene_pend apart]
  iterate 3 rw [scene_setRing apart hn (by simp)]

theorem scene_startTransfer {n : Nat} (hn : as = [] ∨ n < 16384) (s : State) : (startTransfer n s).scene as = s.scene as := by
  unfold startTransfer
  refine scene_ite rfl (scene_ite rfl ?_)
  split
  · exact scene_ite (scene_unparkRing apart hn s) rfl
  · refine scene_ite (scene_parkRing apart hn _ s) ?_
    dsimp only
    refine scene_ite rfl (scene_ite rfl ?_)
    have asked := scene_translate (as := as) (.ring n) (s.entryAddr n (s.get (RNG_PROD_PROD n))) true s
    generalize translate (.ring n) (s.entryAddr n (s.get (RNG_PROD_PROD n))) true s = answer at asked
    obtain ⟨go, t⟩ := answer
    cases go <;> exact asked

theorem scene_handover {n : Nat} (hn : as = [] ∨ n < 16384) (data : List Byte) (s : State) : (handover n data s).2.scene as = s.scene as := by
  have chained : (if n % 4 = 1 ∨ n % 4 = 2 then chainRecord data s else s).scene as = s.scene as :=
    scene_ite (scene_chainRecord apart data s) rfl
  unfold handover
  dsimp only
  generalize (if n % 4 = 1 ∨ n % 4 = 2 then chainRecord data s else s) = u at chained
  rw [← chained]
  split
  · exact (scene_pend apart 360 _).trans (scene_discardRecord apart hn u)
  · split
    · have spilled := scene_spillRecord apart hn ⟨data, none, u.get (ARC_RSEQ_RSEQ (n / 4))⟩ u
      generalize spillRecord n ⟨data, none, u.get (ARC_RSEQ_RSEQ (n / 4))⟩ u = answer at spilled
      obtain ⟨kept, t⟩ := answer
      exact (scene_startTransfer apart hn t).trans spilled
    · exact scene_startTransfer apart hn _

omit apart in
theorem scene_modLat (g : LatState → LatState) (s : State) : (modLat g s).scene as = s.scene as := rfl

theorem scene_failRecord {v : Nat} (hv : as = [] ∨ v < 4096) (tag kind info flags at_ : Nat) (body : List Byte) (s : State) :
    (failRecord v tag kind info flags at_ body s).scene as = s.scene as := by
  have counted : (s.count (LAT_FSEQ_FSEQ v) 1).scene as = s.scene as := by
    obtain rfl | near := hv
    · exact scene_set List.not_mem_nil
    · exact scene_set_out apart (.inr (by simp only [LAT_FSEQ]; omega))
  have handed (d : List Byte) {answer : Bool × State} (h : handover (4 * v + 2) d (s.count (LAT_FSEQ_FSEQ v) 1) = answer) :
      answer.2.scene as = s.scene as := by
    rw [← h, scene_handover apart (hv.imp_right fun near => by omega), counted]
  unfold failRecord
  dsimp only
  split
  next answer => exact handed _ answer
  next answer =>
    split
    · exact handed _ answer
    · rw [scene_modLat]
      exact handed _ answer

/-- Lattice's slot of vertex `v` opens; a CONFIG record is handed over where its word is invalid (R218). -/
theorem scene_openSlot {v : Nat} (hv : as = [] ∨ v < 4096) (tag die word page block : Nat) (readPage : Bool) (s : State) :
    (openSlot v tag die word page block readPage s).scene as = s.scene as := by
  unfold openSlot
  dsimp only
  split
  · rw [setSlot, scene_modLat, scene_modLat]
  · rw [scene_pend apart, slotRecord, scene_failRecord apart hv, setSlot, scene_modLat, scene_modLat]

end

/-! ## Acquisition, as an offered shot drives it (R266 to R273) -/

theorem vertexRegs_nil : VertexRegs [] := fun _ h => absurd h List.not_mem_nil

/-- Which comparators stand above which level, beside what the scene holds: no register is asked for. -/
abbrev State.stage (s : State) : ArcState × Store Bool × Store Word64 × Store Nat × Nat × List Word64 := s.scene []

section
variable {s t u : State}

@[simp] theorem stage_set (s : State) (f : Fld) (v : Nat) : (s.set f v).stage = s.stage := scene_set List.not_mem_nil

@[simp] theorem stage_pend (n : Nat) (s : State) : (pend n s).stage = s.stage := scene_pend vertexRegs_nil n s

@[simp] theorem stage_withGroup (g : Nat) (f : State → State) (s : State) : (withGroup g f s).stage = (f s).stage :=
  scene_withGroup vertexRegs_nil g f s

@[simp] theorem stage_freePages (p k : Nat) (s : State) : (freePages p k s).stage = s.stage := scene_freePages vertexRegs_nil p k s

@[simp] theorem stage_modAcq (w : Nat) (g : AcqUnit → AcqUnit) (s : State) : (modAcq w g s).stage = s.stage := rfl

@[simp] theorem stage_modAdc (a : Nat) (g : AdcQueue → AdcQueue) (s : State) : (modAdc a g s).stage = s.stage := rfl

theorem stage_foldl {α : Type} {g : State → α → State} (h : ∀ s x, (g s x).stage = s.stage) (xs : List α) (s : State) :
    (xs.foldl g s).stage = s.stage := scene_foldl h xs s

theorem stage_ite {c : Prop} [Decidable c] (ht : t.stage = s.stage) (hu : u.stage = s.stage) : (if c then t else u).stage = s.stage :=
  scene_ite ht hu

@[simp] theorem stage_setAq (w st : Nat) (s : State) : (setAq w st s).stage = s.stage := stage_set s _ _

@[simp] theorem stage_raiseAq (w : Nat) (f : Fld) (s : State) : (raiseAq w f s).stage = s.stage :=
  stage_ite rfl ((stage_pend _ _).trans (stage_set s f 1))

@[simp] theorem stage_releaseUnit (w : Nat) (s : State) : (releaseUnit w s).stage = s.stage := by
  unfold releaseUnit
  dsimp only
  rw [stage_setAq, stage_set]
  split
  · rw [stage_modAdc, stage_modAcq, stage_foldl fun s p => stage_freePages p 1 s]
  · rw [stage_modAcq, stage_foldl fun s p => stage_freePages p 1 s]

@[simp] theorem stage_deliverDone (w : Nat) (s : State) : (deliverDone w s).stage = s.stage := stage_ite (stage_releaseUnit w s) rfl

@[simp] theorem stage_spillBlocks (w : Nat) (s : State) : (spillBlocks w s).stage = s.stage := by
  unfold spillBlocks
  refine stage_foldl (fun s i => ?_) _ s
  dsimp only
  split
  · split
    · rfl
    · split
      case h_1 => rfl
      case h_2 taken => rw [stage_modAcq, State.stage, scene_countSpillPages vertexRegs_nil, scene_modSpillPage,
          scene_takePages vertexRegs_nil taken]
  · rfl

@[simp] theorem stage_startBlock (w : Nat) (s : State) : (startBlock w s).stage = s.stage := by
  unfold startBlock
  dsimp only
  split
  · rfl
  · split
    · exact stage_spillBlocks w s
    · split
      · rfl
      · split
        · rfl
        · split
          · rfl
          · have asked := scene_translate (as := []) (.acq w) (s.destSlot w) true s
            generalize translate (.acq w) (s.destSlot w) true s = answer at asked
            obtain ⟨go, t⟩ := answer
            cases go <;> exact asked

@[simp] theorem stage_queueBlock (w : Nat) (b : AcqBlock) (s : State) : (queueBlock w b s).stage = s.stage := by
  rw [queueBlock, stage_startBlock, stage_modAcq]

@[simp] theorem stage_queueCapture (w : Nat) (items : List AcqItem) (trig : Option Nat) (ended : Bool) (s : State) :
    (queueCapture w items trig ended s).stage = s.stage :=
  stage_foldl (fun s b => stage_queueBlock w b s) _ s

@[simp] theorem stage_closeStreamBlock (w : Nat) (last ended : Bool) (s : State) : (closeStreamBlock w last ended s).stage = s.stage := by
  unfold closeStreamBlock
  dsimp only
  split
  · rfl
  · rw [stage_queueBlock, stage_modAcq]

@[simp] theorem stage_endCapture (w : Nat) (ended : Bool) (s : State) : (endCapture w ended s).stage = s.stage := by
  unfold endCapture
  dsimp only
  rw [stage_deliverDone, stage_queueCapture, stage_setAq, stage_modAcq]
  exact stage_ite (stage_raiseAq _ _ s) rfl

@[simp] theorem stage_storeItem (w : Nat) (i : AcqItem) (s : State) : (storeItem w i s).stage = s.stage := by
  unfold storeItem
  dsimp only
  split
  case isTrue =>
    refine (stage_ite (stage_closeStreamBlock w false false _) rfl).trans ?_
    rw [stage_modAcq]
    exact stage_ite (stage_closeStreamBlock w false false s) rfl
  case isFalse =>
    refine stage_ite ?_ rfl
    refine (stage_ite (stage_setAq w aqReady _) ?_).trans (stage_ite (stage_set _ _ _) rfl)
    split
    · exact stage_ite (stage_endCapture w false _) rfl
    · rfl

@[simp] theorem stage_storeSample (w : Nat) (e : AcqEntry) (s : State) : (storeSample w e s).stage = s.stage := by
  unfold storeSample
  dsimp only
  split
  · rw [State.countSat, stage_set, stage_modAcq]
  · refine stage_ite (stage_ite ?_ ?_) ?_
    · rw [stage_storeItem, stage_modAcq]
      exact stage_ite (by simp [aqAlarm]) rfl
    · rw [stage_modAcq]
      exact stage_ite (by simp [aqAlarm]) rfl
    · rw [stage_storeItem]
      exact stage_ite (by simp [aqAlarm]) rfl

@[simp] theorem stage_ignoreTrigger (w : Nat) (fill : Bool) (s : State) : (ignoreTrigger w fill s).stage = s.stage := by
  unfold ignoreTrigger
  exact stage_ite (stage_set _ _ _) (stage_set _ _ _)

@[simp] theorem stage_triggerUnit (w t : Nat) (s : State) : (triggerUnit w t s).2.stage = s.stage := by
  unfold triggerUnit
  dsimp only
  split
  · rfl
  · split
    · exact stage_ignoreTrigger w true s
    · split
      · split
        · rfl
        · exact stage_ignoreTrigger w false s
      · split
        · exact stage_ignoreTrigger w true s
        · split
          · dsimp only [State.count]
            refine stage_ite ?_ ?_
            · rw [stage_endCapture, stage_set, stage_setAq, stage_set, stage_modAcq]
            · rw [stage_set, stage_setAq, stage_set, stage_modAcq]
          · simp [State.count]

@[simp] theorem stage_triggerChain (n w t : Nat) (s : State) : (triggerChain n w t s).stage = s.stage := by
  induction n generalizing w s with
  | zero => rfl
  | succ n ih =>
    have triggered := stage_triggerUnit w t s
    unfold triggerChain
    generalize triggerUnit w t s = answer at triggered
    obtain ⟨accepted, u⟩ := answer
    cases accepted
    · exact triggered
    · exact (stage_foldl (fun s w => ih w s) _ _).trans triggered

@[simp] theorem stage_inputSample (w : Nat) (e : AcqEntry) (s : State) : (inputSample w e s).stage = s.stage := by
  unfold inputSample
  dsimp only
  refine stage_ite rfl ?_
  rw [stage_storeSample]
  have triggered : (if decide (s.aqState w ≠ aqStream) && s.crosses w e then trigger w e.at_ s else s).stage = s.stage :=
    stage_ite (stage_triggerChain 16 w e.at_ s) rfl
  exact (stage_ite (stage_modAcq _ _ _) rfl).trans triggered

@[simp] theorem stage_offerShot (f w t x : Nat) (suspect stale : Bool) (s : State) : (offerShot f w t x suspect stale s).stage = s.stage :=
  stage_foldl (fun s w => stage_inputSample w _ s) _ s

end

/-! ## A comparator edge at the fine TDC units and the regression counter (R246 to R254) -/

section

@[simp] theorem stage_setTdc (f u : Nat) (r : Option TdcRun) (s : State) : (setTdc f u r s).stage = s.stage := rfl

@[simp] theorem stage_setRc (f : Nat) (r : Option RcRun) (s : State) : (setRc f r s).stage = s.stage := rfl

@[simp] theorem stage_raiseTmu (f : Nat) (flag : Fld) (s : State) : (raiseTmu f flag s).stage = s.stage :=
  stage_ite rfl ((stage_pend _ _).trans (stage_set s flag 1))

@[simp] theorem stage_raiseIf (flag : Fld) (c : Bool) (s : State) : (s.raiseIf flag c).stage = s.stage := stage_ite (stage_set s flag 1) rfl

@[simp] theorem stage_endTdc (f u code : Nat) (s : State) : (endTdc f u code s).stage = s.stage := by
  unfold endTdc
  split
  · rfl
  · simp [withLevel, State.setBit]

@[simp] theorem stage_awaitStart (f u : Nat) (r : TdcRun) (s : State) : (awaitStart f u r s).stage = s.stage := by
  unfold awaitStart
  exact stage_ite ((stage_raiseTmu _ _ _).trans (stage_setTdc _ _ _ s)) (stage_setTdc _ _ _ s)

@[simp] theorem stage_discardShot (f u : Nat) (r : TdcRun) (ovf : Bool) (s : State) : (discardShot f u r ovf s).stage = s.stage := by
  unfold discardShot
  rw [stage_awaitStart]
  exact stage_ite (stage_raiseTmu _ _ s) ((stage_pend _ _).trans (stage_set s _ _))

theorem stage_shotExpired {f u t : Nat} {r : TdcRun} {s v : State} (h : shotExpired f u r t s = some v) : v.stage = s.stage := by
  unfold shotExpired at h
  split at h
  · cases h
  · simp only at h
    split at h
    · cases h; exact stage_discardShot f u r false s
    · split at h
      · cases h; exact stage_discardShot f u r true s
      · cases h

@[simp] theorem stage_countShot (f u : Nat) (r : TdcRun) (b x : Nat) (s : State) : (countShot f u r b x s).stage = s.stage := by
  unfold countShot
  dsimp only [State.count]
  refine stage_ite ?_ ?_
  · rw [stage_endTdc, stage_offerShot, stage_setTdc, stage_set, stage_set, stage_set]
  · rw [stage_awaitStart, stage_offerShot, stage_setTdc, stage_set, stage_set, stage_set]

/-- A start of a unit's shot, or a stop of it. -/
def takeEvent (f u : Nat) (stop edge : Bool) (t : Nat) (r : TdcRun) (s : State) : State :=
  let mark (s : State) : State := s.raiseIf (FCT_TDC_STAT_TIME_SUSPECT f u) (s.suspect f)
  match stop, r.start with
  | false, none => mark (setTdc f u (some { r with start := some t, edgeA := if edge then some t else r.edgeA }) s)
  | true, some b =>
    match shotExpired f u r t s with
    | some s => s
    | none =>
      let same : Bool := s.tdcKind f u false = 0 && s.tdcKind f u true = 0 &&
        s.get (FCT_TDC_START_SEL_CH f u) == s.get (FCT_TDC_STOP_SEL_CH f u)
      let x := stampDiff t b
      if x < 0 || (same && decide (x < 4 * 256)) then s
      else countShot f u { r with edgeB := if edge then some t else r.edgeB } b x.toNat (mark s)
  | _, _ => s

theorem stage_takeEvent (f u : Nat) (stop edge : Bool) (t : Nat) (r : TdcRun) (s : State) : (takeEvent f u stop edge t r s).stage = s.stage := by
  unfold takeEvent
  dsimp only
  split
  · rw [stage_raiseIf, stage_setTdc]
  · split
    next expired => exact stage_shotExpired expired
    next => exact stage_ite rfl ((stage_countShot _ _ _ _ _ _).trans (stage_raiseIf _ _ s))
  · rfl

@[simp] theorem stage_tdcEvent (f u : Nat) (stop edge : Bool) (t : Nat) (s : State) : (tdcEvent f u stop edge t s).stage = s.stage := by
  unfold tdcEvent
  split
  · rfl
  · next r run =>
    have rated (c : Bool × Bool) : (if c.2 then raiseTmu f (FCT_TDC_STAT_RATE f u) s else s).stage = s.stage :=
      stage_ite (stage_raiseTmu _ _ s) rfl
    exact stage_ite (rated _) ((stage_takeEvent f u stop edge t r _).trans (rated _))

@[simp] theorem stage_tdcEdge (c e t : Nat) (s : State) : (tdcEdge c e t s).stage = s.stage := by
  unfold tdcEdge tdcEvents
  refine stage_foldl (fun s u => ?_) _ s
  split
  · rfl
  · dsimp only
    split
    · exact (stage_ite (stage_tdcEvent _ _ _ _ _ _) rfl).trans (stage_ite (stage_tdcEvent _ _ _ _ _ s) rfl)
    · exact (stage_ite (stage_tdcEvent _ _ _ _ _ _) rfl).trans (stage_ite (stage_tdcEvent _ _ _ _ _ s) rfl)

@[simp] theorem stage_endRc (f code : Nat) (s : State) : (endRc f code s).stage = s.stage := by
  unfold endRc
  split
  · rfl
  · rw [stage_pend, State.raise]
    iterate 4 rw [stage_set]
    unfold writeRc
    dsimp only
    exact stage_ite (by simp) (by simp)

@[simp] theorem stage_openGate (f : Nat) (s : State) : (openGate f s).stage = s.stage := by
  unfold openGate
  split
  · exact stage_ite rfl rfl
  · rfl

@[simp] theorem stage_rcEdge (c e t : Nat) (s : State) : (rcEdge c e t s).stage = s.stage := by
  have opened := stage_openGate (c / 128) s
  unfold rcEdge
  dsimp only
  split
  · exact opened
  · split
    · exact opened
    · refine stage_ite ?_ (stage_ite ?_ ?_)
      · exact (stage_ite (stage_raiseTmu _ _ _) rfl).trans opened
      · rw [stage_endRc, stage_setRc, stage_set, stage_raiseIf]
        exact (stage_ite (stage_raiseTmu _ _ _) rfl).trans opened
      · rw [stage_setRc, stage_set, stage_raiseIf]
        exact (stage_ite (stage_raiseTmu _ _ _) rfl).trans opened

end

/-! ## A comparator edge at Arc (R198), and the class of its channel (R246) -/

theorem Signals.classes {s t : State} (h : Signals s t) : t.classes = s.classes := by
  obtain ⟨_, _, _, rfl⟩ := h
  rfl

theorem classes_enterV (v st : Nat) (s : State) : (enterV v st s).classes = s.classes := rfl

theorem classes_modOp (v : Nat) (g : ArcOp → ArcOp) (s : State) : (modOp v g s).classes = s.classes := by
  obtain ⟨ops, changed⟩ := modOp_eq v g s
  rw [changed]
  rfl

theorem classes_flagOp (v bit : Nat) (s : State) : (flagOp v bit s).classes = s.classes := classes_modOp v _ s

theorem classes_suspectOp (v island : Nat) (s : State) : (suspectOp v island s).classes = s.classes := by
  unfold suspectOp
  split
  · exact classes_flagOp v 1 s
  · rfl

theorem classes_finishOp (v st reason t : Nat) (s : State) : (finishOp v st reason t s).classes = s.classes := by
  cases live : s.opLive v with
  | false => rw [finishOp_dead live]
  | true =>
    have told (s : State) : (sendClose v st s).classes = s.classes := by
      obtain ⟨lat, sent⟩ := sendClose_eq v st s
      rw [sent]
    have gated (s : State) : (dropGate v s).classes = s.classes := by
      obtain ⟨gates, dropped⟩ := dropGate_eq v s
      rw [dropped]
    have freed (s : State) : (dropReplay v s).classes = s.classes := rfl
    rw [finishOp_live live, told, classes_enterV, (signals_pendStatus st _).classes, settleOp, classes_suspectOp, freed, gated, noteStatus,
      classes_modOp]

theorem classes_enterNext (v kind t : Nat) (s : State) : (enterNext v kind t s).classes = s.classes := by
  unfold enterNext interruptFurther
  dsimp only
  split
  · rw [classes_finishOp, classes_modOp]
  · rw [classes_enterV, classes_modOp]

theorem classes_afterReady (v t : Nat) (s : State) : (afterReady v t s).classes = s.classes := by
  unfold afterReady
  split
  · rfl
  · split
    · exact classes_enterNext v 1 t s
    · unfold finishReady
      split
      · rfl
      · exact classes_finishOp v _ _ t s

theorem classes_becomeReady (v t ticks : Nat) (s : State) : (becomeReady v t ticks s).classes = s.classes := by
  unfold becomeReady
  split
  · rfl
  · dsimp only
    split
    · rw [classes_enterNext, classes_modOp]
    · rw [classes_afterReady, classes_modOp]

theorem classes_busyEdgeOf (v t island : Nat) (rise : Bool) (s : State) : (busyEdgeOf v t island rise s).classes = s.classes := by
  unfold busyEdgeOf
  split
  · rfl
  · split
    · exact classes_modOp v _ s
    · split
      · rfl
      · split
        · dsimp only
          split
          · rw [classes_suspectOp, classes_modOp]
          · rfl
        · split
          · rfl
          · split
            · rw [classes_becomeReady, classes_suspectOp]
            · rw [classes_becomeReady, classes_suspectOp]
            · rfl

theorem classes_busyEdge (c e t : Nat) (s : State) : (busyEdge c e t s).classes = s.classes := by
  unfold busyEdge
  split
  · exact foldl_same State.classes (fun s v => classes_busyEdgeOf v t _ _ s) _ s
  · rfl

/-- An edge at a channel that is down, or that the part lacks, has no effect. -/
theorem comparatorEdge_absent {s : State} {c : Nat} (absent : s.islandDown (c / 128) = true ∨ s.channels ≤ c) (e : Nat) :
    comparatorEdge c e s = s := by
  unfold comparatorEdge
  rw [if_pos (by simpa using absent)]

/-- The class of a channel after an edge (R246): HIGH after RISE, LOW after FALL, MID otherwise. -/
def edgeClass (e : Nat) : Nat := if e = 0 then 2 else if e = 1 then 0 else 1

/-- The channel's class has changed. -/
def withClass (c class_ : Nat) (s : State) : State := { s with classes := Store.put (fun _ => 1) s.classes c class_ }

theorem comparatorEdge_present {s : State} {c : Nat} (up : s.islandDown (c / 128) = false) (within : c < s.channels) (e : Nat) :
    comparatorEdge c e s = rcEdge c e (withClass c (edgeClass e) s).now
      (tdcEdge c e (withClass c (edgeClass e) s).now (busyEdge c e (withClass c (edgeClass e) s).now (withClass c (edgeClass e) s))) := by
  unfold comparatorEdge
  rw [if_neg (by simp [up, within])]
  obtain _ | _ | e := e
  · rw [show edgeClass 0 = 2 from rfl]
    rfl
  · rw [show edgeClass (0 + 1) = 0 from rfl]
    rfl
  · rw [show edgeClass (e + 1 + 1) = 1 from by simp [edgeClass]]
    rfl

theorem classes_tdcEdge (c e t : Nat) (s : State) : (tdcEdge c e t s).classes = s.classes := classes_of_scene (as := []) (stage_tdcEdge c e t s)

theorem classes_rcEdge (c e t : Nat) (s : State) : (rcEdge c e t s).classes = s.classes := classes_of_scene (as := []) (stage_rcEdge c e t s)

theorem class_comparatorEdge {s : State} {c : Nat} (up : s.islandDown (c / 128) = false) (within : c < s.channels) (e : Nat) :
    Store.find (fun _ => 1) (comparatorEdge c e s).classes c = edgeClass e := by
  rw [comparatorEdge_present up within, classes_rcEdge, classes_tdcEdge, classes_busyEdge]
  exact Store.find_put_self ..

end Sys2Proof.Machine
end

section
/-!
PROOFS. The statement about the ends of phases and of busy intervals, and about comparator edges (R191, R198, R201, R203, R246, R263).
-/

namespace Sys2Proof.Machine
open Sys2Proof.Reg

/-- What takes effect on the advanced clock is the given state where a condition holds, and nothing where it does not. -/
theorem gives_ite {c : Instr} {s t : State} {dt : Nat} {f : State → State} {p : Bool} (free : s.reactionOn 16 = false)
    (h : exec c s = act dt (byArc f) s) (ht : f (s.tick dt) = if p then t else s.tick dt) :
    (p = true → Gives c s t) ∧ (p = false → Gives c s (s.tick dt)) := by
  constructor
  · rintro rfl
    exact gives_byArc free h (by simpa using ht)
  · rintro rfl
    exact gives_byArc free h (by simpa using ht)

/-- Settles O35, command by command: the effect of each is what it leaves of the advanced clock, and of that only what its statement speaks
of is followed: the operation that closes, the bus, the vertex's hold, and the class of the channel. -/
theorem phasesAndBusyIntervalsEnd : Obligations.PhasesAndBusyIntervalsEnd := by
  unfold Obligations.PhasesAndBusyIntervalsEnd
  refine ⟨fun s dt k free none_ => gives_byArc free rfl (phaseEnd_none (s := s.tick dt) none_), ?ray, ?busy, ?mean, ?edge⟩
  case ray =>
    intro s dt k f r p free phase rays
    have ended : (s.tick dt).phaseOver k p = (decide (s.rayState f r = rayIdle) && (s.ray f r).serial == p.serial &&
        !(s.ray f r).refused && (s.tick dt).past (s.ray f r).endAt) := phaseOver_of_ray (s := s.tick dt) rays p
    refine ⟨fun runs => ?_, fun v o hk hv main members idle serial taken past cause op inPhase clean admitted status busy notRead => ?_⟩
    · exact gives_byArc free rfl (phaseEnd_running (s := s.tick dt) phase (by simp [ended, runs]))
    · exact ⟨_, gives_byArc free rfl rfl, closes_phaseEnd (s := s.tick dt) hk hv phase rays main members
        (by simp [ended, idle, serial, taken, past]) cause op inPhase clean admitted status busy notRead⟩
  case busy =>
    intro s dt v c o free hv op busy admitted
    have before : (s.tick dt).vstate v ≠ vsClose := by
      rw [show (s.tick dt).vstate v = vsBusy from busy]
      decide
    refine ⟨fun bus channel level fall => ?_, fun bus channel => ?_, fun power => ?_⟩
    · exact gives_ite free rfl (busyWindowExpiry_eq (s := s.tick dt) op busy bus channel level fall)
    · obtain ⟨due, early⟩ := gives_ite (c := .busyTimeout dt v) free rfl (busyTimeout_eq (s := s.tick dt) op busy bus channel)
      exact ⟨fun past status action => ⟨_, due past, closes_timeOut (s := s.tick dt) hv op admitted status before action o.deadline⟩, early⟩
    · obtain ⟨due, early⟩ := gives_ite (c := .powerSettleEnd dt v) free rfl (powerSettleEnd_eq (s := s.tick dt) op busy power)
      exact ⟨fun past status => ⟨_, due past, closes_finishReady (s := s.tick dt) op admitted status before _⟩, early⟩
  case mean =>
    exact fun s dt v free => ⟨fun none_ => gives_byArc free rfl (endMean_none (s := s.tick dt) none_),
      fun m found some_ due => gives_byArc free rfl (endMean_due (s := s.tick dt) found some_ due)⟩
  case edge =>
    refine fun s dt c e => ⟨fun absent => gives_of_act rfl (comparatorEdge_absent (s := s.tick dt) absent e), fun up within => ?_⟩
    exact ⟨_, gives_of_act rfl rfl, class_comparatorEdge (s := s.tick dt) up within e⟩

end Sys2Proof.Machine
end

section
/-!
SUPPORT. Admission, urgency and the issue of phases (R194 to R199): who is admitted, what a grant leaves, and the boundary at which a phase
that is issued starts.
-/

namespace Sys2Proof.Machine
open Sys2Proof.Reg

/-! ## Admission (R192, R194) -/

/-- An operation with the place of its admission, and its gang. -/
def ArcOp.admitAt (order size : Nat) (gang : List Nat) (o : ArcOp) : ArcOp := { o with admitted := some order, gang := gang, gangSize := size }

theorem core_admitAt (order size : Nat) (gang : List Nat) (o : ArcOp) :
    (o.admitAt order size gang).desc = o.desc ∧ (o.admitAt order size gang).admitted = some order ∧
      (o.admitAt order size gang).status = o.status := ⟨rfl, rfl, rfl⟩

/-- Admission changes an operation of Arc's, and else nothing of the scene: the ring and Lattice's slot are not in it. -/
theorem scene_admitVertex {as : List Nat} (apart : VertexRegs as) {s : State} {v : Nat} {o : ArcOp} (hv : as = [] ∨ v < 4096)
    (op : s.op v = some o) (size : Nat) (gang : List Nat) :
    (admitVertex v size gang s).scene as = (modOp v (ArcOp.admitAt s.arc.order size gang) s).scene as := by
  have counted (s : State) : (s.count ARC_STAT_INFLIGHT 1).scene as = s.scene as := scene_set_out apart
  unfold admitVertex
  rw [op]
  dsimp only
  rw [scene_openSlot apart hv, scene_indexAdvanced apart (hv.imp_right fun near => by omega), counted]
  rfl

theorem admitVertex_none {s : State} {v : Nat} (op : s.op v = none) (size : Nat) (gang : List Nat) : admitVertex v size gang s = s := by
  rw [admitVertex, op]

theorem arc_admitVertex {s : State} {v : Nat} {o : ArcOp} (op : s.op v = some o) (size : Nat) (gang : List Nat) :
    (admitVertex v size gang s).arc = (modOp v (ArcOp.admitAt s.arc.order size gang) s).arc :=
  arc_of_scene (scene_admitVertex vertexRegs_nil (.inl rfl) op size gang)

/-- The place of vertex `v`'s operation in the order of admissions. -/
def State.admittedOf (s : State) (v : Nat) : Option (Option Nat) := (s.op v).map ArcOp.admitted

theorem admittedOf_of_arc {s t : State} (h : t.arc = s.arc) (v : Nat) : t.admittedOf v = s.admittedOf v := by
  rw [State.admittedOf, State.op, h, State.admittedOf, State.op]

theorem admittedOf_admitVertex (v size : Nat) (gang : List Nat) (s : State) (w : Nat) :
    (admitVertex v size gang s).admittedOf w = if w = v then (s.admittedOf w).map fun _ => some s.arc.order else s.admittedOf w := by
  cases op : s.op v with
  | none =>
    rw [admitVertex_none op]
    split
    next same => rw [same, State.admittedOf, op]; rfl
    next => rfl
  | some o =>
    rw [admittedOf_of_arc (arc_admitVertex op size gang)]
    split
    next same => rw [same, State.admittedOf, op_modOp, State.admittedOf, op]; rfl
    next other => rw [State.admittedOf, op_modOp_ne other, State.admittedOf]

/-- Arc's book, its operations aside. -/
def State.book (s : State) : Store ArcChord × Nat := (s.arc.chords, s.arc.order)

theorem book_modOp (v : Nat) (g : ArcOp → ArcOp) (s : State) : (modOp v g s).book = s.book := by
  obtain ⟨ops, changed⟩ := modOp_eq v g s
  rw [changed]
  rfl

theorem book_admitVertex (v size : Nat) (gang : List Nat) (s : State) : (admitVertex v size gang s).book = s.book := by
  cases op : s.op v with
  | none => rw [admitVertex_none op]
  | some o => rw [State.book, arc_admitVertex op, ← State.book, book_modOp]

theorem admittedOf_flagOp (v bit : Nat) (s : State) (w : Nat) : (flagOp v bit s).admittedOf w = s.admittedOf w := by
  have core := opCore_flagOp v bit w s
  have from_ (s : State) : s.admittedOf w = (s.opCore w).map fun c => c.2.1 := by
    rw [State.admittedOf, State.opCore, Option.map_map]
    rfl
  rw [from_, core, ← from_]

/-- A vertex of a gang is admitted, and flagged where the gang has waited long (R194, R210). -/
def admitMember (late : Bool) (members : List Nat) (s : State) (v : Nat) : State :=
  if late then flagOp v 9 (admitVertex v members.length members s) else admitVertex v members.length members s

theorem book_admitMember (late : Bool) (members : List Nat) (s : State) (v : Nat) : (admitMember late members s v).book = s.book := by
  unfold admitMember
  split
  · rw [flagOp, book_modOp, book_admitVertex]
  · rw [book_admitVertex]

theorem admittedOf_admitMember (late : Bool) (members : List Nat) (s : State) (v w : Nat) :
    (admitMember late members s v).admittedOf w = if w = v then (s.admittedOf w).map fun _ => some s.arc.order else s.admittedOf w := by
  unfold admitMember
  split
  · rw [admittedOf_flagOp, admittedOf_admitVertex]
  · rw [admittedOf_admitVertex]

/-- All vertices of a gang are admitted at one place of the order. -/
theorem admittedOf_admitMembers (late : Bool) (members vs : List Nat) (s : State) (w : Nat) :
    (vs.foldl (admitMember late members) s).admittedOf w =
      if w ∈ vs then (s.admittedOf w).map fun _ => some s.arc.order else s.admittedOf w := by
  induction vs generalizing s with
  | nil => simp
  | cons v vs ih =>
    have order : (admitMember late members s v).arc.order = s.arc.order := congrArg Prod.snd (book_admitMember late members s v)
    rw [List.foldl_cons, ih, order, admittedOf_admitMember]
    by_cases here : w = v <;> by_cases later : w ∈ vs <;> simp [here, later, Option.map_map, Function.comp_def]

theorem book_admitMembers (late : Bool) (members vs : List Nat) (s : State) : (vs.foldl (admitMember late members) s).book = s.book :=
  foldl_same State.book (book_admitMember late members) vs s

/-! ## A gang's first phase is granted, or waits (R194, R197) -/

/-- A gang waits for its grant from now on, unless it waits already. -/
def noteWait (k : Nat) (g : Gang) (s : State) : State :=
  modChord k (fun c => { c with gangs := c.gangs.map fun x => if x == g then { x with waits := some (x.waits.getD s.now) } else x }) s

/-- A gang leaves the chord's list and is granted. -/
def noteGrant (k : Nat) (g : Gang) (s : State) : State :=
  modChord k (fun c => { c with gangs := c.gangs.filter fun x => x != g, granted := some g }) s

/-- Has a gang waited for its grant beyond the regang window (R210)? -/
def State.grantLate (s : State) (g : Gang) : Bool :=
  match g.waits with
  | some w => decide ((s.regang : Int) < stampDiff s.now w)
  | none => false

theorem grantGang_waits {s : State} (later : s.laterWaits = true) (k : Nat) (g : Gang) : grantGang k g s = noteWait k g s := by
  unfold grantGang
  rw [later]
  rfl

theorem grantGang_granted {s : State} {k : Nat} {g : Gang} (later : s.laterWaits = false)
    (credit : (s.gangCost k (s.gangDesc g.members) g.members : Int) ≤ s.credit) :
    grantGang k g s = refreshPower (passOthers (modArc (fun a => { a with order := a.order + 1 })
      (g.members.foldl (admitMember (s.grantLate g) g.members) (noteGrant k g s)))) := by
  unfold grantGang
  rw [later, grantCost, if_pos credit]
  rfl

/-- A change of chords that leaves what is granted. -/
theorem granted_modChord {g : ArcChord → ArcChord} (h : ∀ c, (g c).granted = c.granted) (j k : Nat) (s : State) :
    ((modChord j g s).chord k).granted = (s.chord k).granted := by
  by_cases same : k = j
  · rw [same, chord_modChord, h]
  · exact congrArg ArcChord.granted (Store.find_put_ne _ _ _ same)

theorem granted_passOthers (k : Nat) (s : State) : ((passOthers s).chord k).granted = (s.chord k).granted := by
  unfold passOthers
  refine foldl_same (fun s => (s.chord k).granted) (fun s e => ?_) s.arc.chords s
  exact granted_modChord (g := fun c => { c with gangs := c.gangs.map fun g => if s.eligible e.1 g then { g with passes := g.passes + 1 } else g })
    (fun _ => rfl) e.1 k s

theorem admittedOf_passOthers (s : State) (w : Nat) : (passOthers s).admittedOf w = s.admittedOf w := by
  unfold passOthers
  refine foldl_same (fun s => s.admittedOf w) (fun s e => ?_) s.arc.chords s
  rfl

theorem chord_of_book {s t : State} (h : t.book = s.book) (k : Nat) : t.chord k = s.chord k := by
  rw [State.chord, show t.arc.chords = s.arc.chords from congrArg Prod.fst h, State.chord]

/-- The gang is granted, and every operation of its vertices is admitted at this place of the order. -/
theorem grants_grantGang {s : State} {k : Nat} {g : Gang} (later : s.laterWaits = false)
    (credit : (s.gangCost k (s.gangDesc g.members) g.members : Int) ≤ s.credit) :
    ((grantGang k g s).chord k).granted = some g ∧
      ∀ u ∈ g.members, ∀ x, s.op u = some x → (grantGang k g s).admittedOf u = some (some s.arc.order) := by
  have book := book_admitMembers (s.grantLate g) g.members g.members (noteGrant k g s)
  have shown := (signals_refreshPower (passOthers (modArc (fun a => { a with order := a.order + 1 })
    (g.members.foldl (admitMember (s.grantLate g) g.members) (noteGrant k g s))))).arc_eq
  rw [grantGang_granted later credit]
  constructor
  · rw [State.chord, shown, ← State.chord, granted_passOthers]
    show ((g.members.foldl (admitMember (s.grantLate g) g.members) (noteGrant k g s)).chord k).granted = some g
    rw [chord_of_book book, noteGrant, chord_modChord]
  · intro u mem x op
    rw [admittedOf_of_arc shown, admittedOf_passOthers]
    show (g.members.foldl (admitMember (s.grantLate g) g.members) (noteGrant k g s)).admittedOf u = some (some s.arc.order)
    rw [admittedOf_admitMembers, if_pos mem]
    show ((s.op u).map ArcOp.admitted).map (fun _ => some s.arc.order) = some (some s.arc.order)
    rw [op]
    rfl

/-! ## The admission of a POWER (R191) -/

theorem admission_stopped {s : State} (stopped : s.running = false) (v : Nat) : admission v s = s := by
  unfold admission
  dsimp only
  split
  · rfl
  · rw [if_pos (by simp [stopped])]

/-- Arc admits a descriptor that is gathered where nothing holds it (R194). -/
theorem admission_alone {s : State} {v : Nat} {o : ArcOp} (op : s.op v = some o) (gather : s.vstate v = vsGather) (running : s.running = true)
    (valid : s.on ARC_SITE_STAT_VALID = true) (drain : s.arc.drain = 0) (fresh : o.admitted = none) (free : s.waits v = false)
    (alone : opType o.desc ∈ [opWaitReady, opPower]) : admission v s = admitNoBus v s := by
  unfold admission
  rw [op]
  dsimp only
  rw [if_neg (by simp [gather, running, valid, drain, fresh, free]), if_pos alone]

/-- The gang of a descriptor that needs the bus goes to the governor where its chord has nothing else to issue, and no hold (R194, R197). -/
theorem admission_gang {s : State} {v : Nat} {o : ArcOp} {g : Gang} (op : s.op v = some o) (gather : s.vstate v = vsGather)
    (running : s.running = true) (valid : s.on ARC_SITE_STAT_VALID = true) (drain : s.arc.drain = 0) (fresh : o.admitted = none)
    (free : s.waits v = false) (bus : opType o.desc ∉ [opWaitReady, opPower])
    (found : (s.chord (s.chordOf v)).gangs.find? (fun g => v ∈ g.members) = some g)
    (sound : s.on (ARC_CHORD_STAT_RECOVERY_FAIL (s.chordOf v)) = false) (idle : s.busy (s.chordOf v) = false)
    (unheld : s.phaseHeld (s.chordOf v) (opType o.desc = opMeasure) = false) (chosen : s.chosen (s.chordOf v) g = true) :
    admission v s = grantGang (s.chordOf v) g s := by
  unfold admission
  rw [op]
  dsimp only
  rw [if_neg (by simp [gather, running, valid, drain, fresh, free]), if_neg bus, found]
  dsimp only
  rw [if_neg (by simp [sound]), if_neg (by simp [idle]), if_neg (by simp [unheld]), if_pos chosen]

/-- The state in which a POWER or a WAIT_READY is admitted: the next admission has the next place. -/
def admittedAlone (v : Nat) (s : State) : State := modArc (fun a => { a with order := a.order + 1 }) (admitVertex v 0 [] s)

theorem admitNoBus_power {s : State} {v : Nat} {o : ArcOp} (op : s.op v = some o) (power : opType o.desc = opPower) :
    admitNoBus v s = if ((admittedAlone v s).gateChannel v).isNone then finishOp v opNoGate 0 (admittedAlone v s).now (admittedAlone v s) else
      modOp v (fun o => { o with tEnd := (admittedAlone v s).now }) (enterV v vsBusy (setGate v (descParam o.desc 0 % 2 = 1) (admittedAlone v s))) := by
  unfold admitNoBus
  rw [op]
  dsimp only
  rw [if_pos power]
  rfl

theorem opCore_admittedAlone {s : State} {v : Nat} {o : ArcOp} (op : s.op v = some o) :
    (admittedAlone v s).opCore v = some (o.desc, some s.arc.order, o.status) := by
  show (admitVertex v 0 [] s).opCore v = _
  rw [State.opCore, State.op, arc_admitVertex op, ← State.op, op_modOp, op]
  rfl

/-- What the admission of an operation alone leaves of the vertex's state, the map and the clock. -/
theorem scene_admittedAlone {s : State} {v : Nat} {o : ArcOp} (hv : v < 4096) (op : s.op v = some o) :
    (admittedAlone v s).vstate v = s.vstate v ∧ (admittedAlone v s).map = s.map ∧ (admittedAlone v s).now = s.now := by
  have near : VertexRegs [ARC_VSTAT v] := by
    intro a ha
    simp only [List.mem_singleton, ARC_VSTAT] at ha
    omega
  have scene := scene_admitVertex near (.inr hv) op 0 []
  have kept (s : State) : (modOp v (ArcOp.admitAt s.arc.order 0 []) s).map = s.map ∧ (modOp v (ArcOp.admitAt s.arc.order 0 []) s).now = s.now := by
    obtain ⟨ops, changed⟩ := modOp_eq v (ArcOp.admitAt s.arc.order 0 []) s
    rw [changed]
    exact ⟨rfl, rfl⟩
  obtain ⟨map, now⟩ := kept s
  refine ⟨?_, (map_of_scene scene).trans map, (now_of_scene scene).trans now⟩
  exact (get_of_scene scene (f := ARC_VSTAT_STATE v) (by simp)).trans ((keeps_modOp [] v _ s).get (by simp))

theorem gateChannel_of_map {s t : State} (h : t.map = s.map) (v : Nat) : t.gateChannel v = s.gateChannel v := by
  have get (f : Fld) : t.mapGet f = s.mapGet f := by rw [State.mapGet, h, State.mapGet]
  rw [State.gateChannel, get, get, State.gateChannel]

theorem closes_admitNoBus {s : State} {v : Nat} {o : ArcOp} (hv : v < 4096) (op : s.op v = some o) (gather : s.vstate v = vsGather)
    (power : opType o.desc = opPower) (gateless : s.gateChannel v = none) : (admitNoBus v s).closes v opNoGate 0 s.now := by
  obtain ⟨state, map, now⟩ := scene_admittedAlone hv op
  have channel : (admittedAlone v s).gateChannel v = none := (gateChannel_of_map map v).trans gateless
  have live : (admittedAlone v s).opLive v = true :=
    opLive_of_opCore (opCore_admittedAlone op) rfl (by rw [state, gather]; decide)
  rw [admitNoBus_power op power, if_pos (by simp [channel]), now]
  exact closes_finishOp live opNoGate 0 s.now

theorem switches_admitNoBus {s : State} {v : Nat} {o : ArcOp} (hv : v < 4096) (op : s.op v = some o) (power : opType o.desc = opPower)
    (gated : s.gateChannel v ≠ none) :
    (admitNoBus v s).vstate v = vsBusy ∧ Store.find (fun _ => false) (admitNoBus v s).gates v = decide (descParam o.desc 0 % 2 = 1) ∧
      (admitNoBus v s).admittedOf v = some (some s.arc.order) := by
  obtain ⟨-, map, -⟩ := scene_admittedAlone hv op
  have channel := gateChannel_of_map map v
  obtain ⟨p, admitted, -, place, -⟩ := op_of_opCore (opCore_admittedAlone op)
  have gates (g : ArcOp → ArcOp) (s : State) : (modOp v g s).gates = s.gates := by
    obtain ⟨ops, changed⟩ := modOp_eq v g s
    rw [changed]
    rfl
  rw [admitNoBus_power op power, if_neg (by simp [channel, gated])]
  refine ⟨?_, ?_, ?_⟩
  · exact ((keeps_modOp [] v _ _).get (by simp)).trans (vstate_enterV (by decide) v _)
  · rw [gates]
    exact Store.find_put_self ..
  · rw [State.admittedOf, op_modOp, op_enterV]
    show (((admittedAlone v s).op v).map fun o => { o with tEnd := (admittedAlone v s).now }).map ArcOp.admitted = some (some s.arc.order)
    rw [admitted, Option.map_some, Option.map_some, ← place]

/-! ## When a phase starts (R118, R196) -/

/-- Two states in which every chord has the same boundaries and the same lead time. -/
structure SameGrid (s t : State) : Prop where
  facet : t.facet = s.facet
  facets : t.facets = s.facets
  now : t.now = s.now
  lead : t.startLead = s.startLead
  rays : ∀ f k, t.rayOf f k = s.rayOf f k

namespace SameGrid

variable {s t u : State}

theorem refl (s : State) : SameGrid s s := ⟨rfl, rfl, rfl, rfl, fun _ _ => rfl⟩

theorem trans (h : SameGrid s t) (k : SameGrid t u) : SameGrid s u :=
  ⟨k.facet.trans h.facet, k.facets.trans h.facets, k.now.trans h.now, k.lead.trans h.lead, fun f j => (k.rays f j).trans (h.rays f j)⟩

theorem ite {c : Prop} [Decidable c] (h : SameGrid s t) (k : SameGrid s u) : SameGrid s (if c then t else u) := by
  split
  · exact h
  · exact k

theorem foldl {α : Type} {g : State → α → State} (h : ∀ s x, SameGrid s (g s x)) (xs : List α) (s : State) : SameGrid s (xs.foldl g s) := by
  induction xs generalizing s with
  | nil => exact refl s
  | cons x xs ih => exact (h s x).trans (ih _)

theorem chordRays (h : SameGrid s t) (k : Nat) : t.chordRays k = s.chordRays k := by
  rw [State.chordRays, h.facets, State.chordRays]
  simp only [h.rays]

theorem chordBoundary (h : SameGrid s t) (k x : Nat) : t.chordBoundary k x = s.chordBoundary k x := by
  have fct (f : Nat) : t.fct f = s.fct f := by rw [State.fct, h.facet, State.fct]
  have index (f x : Nat) : t.indexAt f x = s.indexAt f x := by rw [State.indexAt, fct, State.indexAt]
  have gap (f n : Nat) : t.toBoundary f n = s.toBoundary f n := by rw [State.toBoundary, fct, State.toBoundary]
  have boundary (f x : Nat) : t.boundaryAt f x = s.boundaryAt f x := by rw [State.boundaryAt, fct, index, gap, State.boundaryAt]
  have time (f n : Nat) : t.vectorTime f n = s.vectorTime f n := by rw [State.vectorTime, fct, State.vectorTime]
  rw [State.chordBoundary, h.chordRays, State.chordBoundary]
  simp only [boundary, time]

theorem leadTime (h : SameGrid s t) : t.leadTime = s.leadTime := by rw [State.leadTime, h.now, h.lead, State.leadTime]

/-- Beside registers, the facets' grids and the clock are all that matters. -/
theorem of_reads (facet : t.facet = s.facet) (now : t.now = s.now) (member : t.get GLB_IDENT_MEMBER = s.get GLB_IDENT_MEMBER)
    (lead : t.get ARC_START_LEAD_TICKS = s.get ARC_START_LEAD_TICKS)
    (assigned : ∀ f r, t.get (FCT_RAY_STAT_ASSIGNED f r) = s.get (FCT_RAY_STAT_ASSIGNED f r))
    (chord : ∀ f r, t.get (FCT_RAY_STAT_CHORD f r) = s.get (FCT_RAY_STAT_CHORD f r)) : SameGrid s t := by
  have facets : t.facets = s.facets := by rw [State.facets, State.member, member, State.facets, State.member]
  refine ⟨facet, facets, now, by rw [State.startLead, lead, State.startLead], fun f k => ?_⟩
  simp only [State.rayOf, State.on, assigned, chord]

/-- No register between the head of Arc's block and the facets' blocks is read. -/
theorem set_between (s : State) {f : Fld} (v : Nat) (low : 0x310000 ≤ f.addr) (high : f.addr < 0x1000000) : SameGrid s (s.set f v) := by
  refine of_reads rfl rfl (State.get_set_ne _ _ _ _ ?_) (State.get_set_ne _ _ _ _ ?_) (fun f' r => State.get_set_ne _ _ _ _ ?_)
    (fun f' r => State.get_set_ne _ _ _ _ ?_)
  all_goals
    simp only [GLB_IDENT, ARC_START_LEAD, FCT_RAY_STAT]
    omega

/-- Neither is a vertex's state, however far its registers reach. -/
theorem enterV (v st : Nat) (s : State) : SameGrid s (enterV v st s) := by
  have head (f : Fld) (hf : f.addr < 0x310000) : (Machine.enterV v st s).get f = s.get f :=
    (keeps_enterV v st s).get (by simp only [List.mem_cons, List.not_mem_nil, or_false, ARC_VSTAT, ARC_SINCE]; omega)
  have ray (f : Fld) (apart : f.addr % 16 = 0) (lo : 3 ≤ f.lo) (fits : f.lo + f.w ≤ 64) : (Machine.enterV v st s).get f = s.get f := by
    rw [Machine.enterV, State.get_set_ne _ _ _ _ (by simp only [ARC_SINCE]; omega),
      State.get_set_apart s (ARC_VSTAT_STATE v) f st fits (.inr (by simpa using lo))]
  refine of_reads rfl rfl (head _ (by decide)) (head _ (by decide)) (fun f r => ray _ ?_ (by simp) (by simp))
    (fun f r => ray _ ?_ (by simp) (by simp))
  all_goals
    simp only [FCT_RAY_STAT]
    omega

theorem modArc (g : ArcState → ArcState) (s : State) : SameGrid s (modArc g s) := ⟨rfl, rfl, rfl, rfl, fun _ _ => rfl⟩

theorem modOp (v : Nat) (g : ArcOp → ArcOp) (s : State) : SameGrid s (modOp v g s) := by
  obtain ⟨ops, changed⟩ := modOp_eq v g s
  rw [changed]
  exact modArc _ s

end SameGrid

/-! ## The issue of a phase (R196) -/

/-- The phase that is issued: its number is the next, its gang stands in order, and it starts at a boundary at or after `t`. -/
def State.nextPhase (s : State) (k kind routine : Nat) (members params : List Nat) (t due cost : Nat) : BusPhase :=
  { kind := kind, members := s.gangOrder k members, routine := routine, params := params, serial := s.arc.serial
    start := s.chordBoundary k t, cost := cost, due := due, left := [] }

/-- What the facets and Lattice are told of a phase. -/
def tellPhase (k : Nat) (p : BusPhase) (s : State) : State :=
  sendStarts k p (p.members.foldl (fun u v => expectMarkers v p.serial ((s.chordRays k).map Prod.fst) u) s)

/-- The next number has been given. -/
def countSerial (s : State) : State := modArc (fun a => { a with serial := a.serial + 1 }) s

theorem expectMarkers_eq (v serial : Nat) (facets : List Nat) (s : State) : ∃ lat, expectMarkers v serial facets s = { s with lat := lat } := by
  unfold expectMarkers modSlot
  split
  · exact ⟨_, rfl⟩
  · exact ⟨s.lat, rfl⟩

/-- A gang's order rests on the map alone (R143). -/
theorem gangOrder_of_map {s t : State} (h : t.map = s.map) (k : Nat) (vs : List Nat) : t.gangOrder k vs = s.gangOrder k vs := by
  have get (f : Fld) : t.mapGet f = s.mapGet f := by rw [State.mapGet, h, State.mapGet]
  have code (v : Nat) : t.selectCode v = s.selectCode v := by rw [State.selectCode, get, State.selectCode]
  have insert (coded : Bool) (v : Nat) (us : List Nat) : insertMember t coded v us = insertMember s coded v us := by
    induction us with
    | nil => rfl
    | cons u us ih => rw [insertMember, ih, code v, code u, insertMember]
  have coded : t.codedChord k = s.codedChord k := by rw [State.codedChord, get, State.codedChord]
  induction vs with
  | nil => rfl
  | cons v vs ih =>
    have step (x : State) : x.gangOrder k (v :: vs) = insertMember x (x.codedChord k) v (x.gangOrder k vs) := rfl
    rw [step, ih, insert, coded, step]

theorem issuePhase_eq (k kind routine : Nat) (members params : List Nat) (t due cost : Nat) (s : State) :
    issuePhase k kind routine members params t due cost s =
      refreshPower (tellPhase k (s.nextPhase k kind routine members params t due cost)
        (takeBus k (s.nextPhase k kind routine members params t due cost) (countSerial s))) := by
  have order : (countSerial s).gangOrder k members = s.gangOrder k members := gangOrder_of_map (s := s) (t := countSerial s) rfl k members
  have start : (countSerial s).chordBoundary k t = s.chordBoundary k t := (SameGrid.modArc _ s).chordBoundary k t
  unfold issuePhase nextSerial State.nextPhase
  rw [← start, ← order]
  rfl

theorem foldl_modFct_eq (g : State → Nat × Nat → Facet → Facet) (xs : List (Nat × Nat)) (s : State) :
    ∃ facet, xs.foldl (fun s x => modFct x.1 (g s x) s) s = { s with facet := facet } := by
  induction xs generalizing s with
  | nil => exact ⟨s.facet, rfl⟩
  | cons x xs ih =>
    obtain ⟨facet, rest⟩ := ih (modFct x.1 (g s x) s)
    exact ⟨facet, by rw [List.foldl_cons, rest]; rfl⟩

theorem foldl_expectMarkers_eq (serial : Nat) (fs vs : List Nat) (s : State) :
    ∃ lat, vs.foldl (fun u v => expectMarkers v serial fs u) s = { s with lat := lat } := by
  induction vs generalizing s with
  | nil => exact ⟨s.lat, rfl⟩
  | cons v vs ih =>
    obtain ⟨lat, marked⟩ := expectMarkers_eq v serial fs s
    obtain ⟨lat', rest⟩ := ih { s with lat := lat }
    exact ⟨lat', by rw [List.foldl_cons, marked, rest]⟩

/-- Telling the facets and Lattice changes nothing of Arc, and no register. -/
theorem tellPhase_eq (k : Nat) (p : BusPhase) (s : State) : ∃ lat facet, tellPhase k p s = { s with lat := lat, facet := facet } := by
  obtain ⟨lat, marked⟩ := foldl_expectMarkers_eq p.serial ((s.chordRays k).map Prod.fst) p.members s
  rw [tellPhase, marked, sendStarts]
  obtain ⟨facet, sent⟩ := foldl_modFct_eq _ (({ s with lat := lat } : State).chordRays k) { s with lat := lat }
  exact ⟨lat, facet, sent⟩

theorem keeps_tellPhase (as : List Nat) (k : Nat) (p : BusPhase) (s : State) : Keeps as s (tellPhase k p s) := by
  obtain ⟨lat, facet, told⟩ := tellPhase_eq k p s
  rw [told]
  exact ⟨fun _ _ => rfl, rfl, rfl, rfl, rfl, rfl⟩

theorem arc_tellPhase (k : Nat) (p : BusPhase) (s : State) : (tellPhase k p s).arc = s.arc := by
  obtain ⟨lat, facet, told⟩ := tellPhase_eq k p s
  rw [told]

theorem arc_takeBus (k : Nat) (p : BusPhase) (s : State) : (takeBus k p s).arc = (modChord k (fun c => { c with phase := some p }) s).arc := rfl

theorem keeps_takeBus (k : Nat) (p : BusPhase) (s : State) : Keeps [ARC_CHORD_STAT k, ARC_STAT, ARC_ISSUE_COUNT] s (takeBus k p s) :=
  (((keeps_modChord _ k _ s).trans (keeps_set _ _ (by simp))).trans (keeps_set _ _ (by simp))).trans (keeps_set _ _ (by simp))

theorem bus_takeBus (k : Nat) (p : BusPhase) (s : State) : (takeBus k p s).on (ARC_CHORD_STAT_BUS k) = true := by
  have apart (a : Nat) (ha : a < 0x320000) : ARC_CHORD_STAT k ≠ a := by simp only [ARC_CHORD_STAT]; omega
  unfold takeBus
  dsimp only [State.count, State.countSat]
  rw [State.on_of_get (State.get_set_ne _ _ _ _ (apart ARC_ISSUE_COUNT (by decide))),
    State.on_of_get (State.get_set_ne _ _ _ _ (apart ARC_STAT (by decide)))]
  exact State.on_raise _ rfl (by simp)

/-- The registers that the issue of a phase on chord `k` writes, the governor's among them. -/
def issueRegs (k : Nat) : List Nat := ARC_CHORD_STAT k :: ARC_STAT :: ARC_ISSUE_COUNT :: powerRegs

section
variable (k kind routine : Nat) (members params : List Nat) (t due cost : Nat) (s : State)

theorem keeps_issuePhase : Keeps (issueRegs k) s (issuePhase k kind routine members params t due cost s) := by
  rw [issuePhase_eq]
  exact (((keeps_modArc _ _ s).trans ((keeps_takeBus k _ _).mono (by intro a ha; simp only [issueRegs, List.mem_cons] at *; tauto))).trans
    (keeps_tellPhase _ k _ _)).trans ((keeps_refreshPower _).mono (by intro a ha; simp [issueRegs, ha]))

/-- The chord's phase is the one that was issued, and what is granted stands. -/
theorem chord_issuePhase : (issuePhase k kind routine members params t due cost s).chord k =
    { s.chord k with phase := some (s.nextPhase k kind routine members params t due cost) } := by
  rw [issuePhase_eq, State.chord, (signals_refreshPower _).arc_eq, arc_tellPhase, arc_takeBus, ← State.chord, chord_modChord]
  rfl

theorem bus_issuePhase {k : Nat} (hk : k < 512) :
    (issuePhase k kind routine members params t due cost s).on (ARC_CHORD_STAT_BUS k) = true := by
  rw [issuePhase_eq, State.on_of_get ((keeps_refreshPower _).get (f := ARC_CHORD_STAT_BUS k) (chordStat_apart hk)),
    State.on_of_get ((keeps_tellPhase [] k _ _).get (by simp)), bus_takeBus]

end

/-! ## The issue of a granted first phase (R196) -/

theorem phaseIssue_stopped {s : State} {k : Nat} (stopped : s.running = false ∨ s.busFree k = false) : phaseIssue k s = s := by
  unfold phaseIssue
  rw [if_pos (by obtain h | h := stopped <;> simp [h])]

/-- The bus is the granted gang's: its vertices are in PHASE. -/
def beginFirst (k : Nat) (g : Gang) (s : State) : State :=
  g.members.foldl (fun s v => enterV v vsPhase s) (refreshUrgent k (modChord k (fun c => { c with granted := none }) s))

theorem phaseIssue_granted {s : State} {k : Nat} {g : Gang} (running : s.running = true) (free : s.busFree k = true)
    (granted : (s.chord k).granted = some g) (bus : opType (s.gangDesc g.members) ≠ opMeasure) :
    phaseIssue k s = issuePhase k pkMain (descRoutine (s.gangDesc g.members)) g.members (descParams (s.gangDesc g.members))
      (beginFirst k g s).leadTime 0 ((beginFirst k g s).phaseCost k) (beginFirst k g s) := by
  unfold phaseIssue
  rw [if_neg (by simp [running, free]), granted]
  dsimp only
  unfold issueFirst
  dsimp only
  rw [if_neg bus]
  rfl

theorem arc_foldl_enterV (st : Nat) (vs : List Nat) (s : State) : (vs.foldl (fun s v => enterV v st s) s).arc = s.arc :=
  foldl_same State.arc (fun s v => arc_enterV v st s) vs s

theorem map_foldl_enterV (st : Nat) (vs : List Nat) (s : State) : (vs.foldl (fun s v => enterV v st s) s).map = s.map :=
  foldl_same State.map (g := fun s v => enterV v st s) (fun _ _ => rfl) vs s

/-- Every vertex of the list enters the state. -/
theorem vstate_foldl_enterV {st : Nat} (hst : st < 8) {vs : List Nat} {v : Nat} (mem : v ∈ vs) (s : State) :
    (vs.foldl (fun s v => enterV v st s) s).vstate v = st := by
  have step (u : Nat) (s : State) (h : s.vstate v = st) : (enterV u st s).vstate v = st := by
    by_cases same : u = v
    · rw [same, vstate_enterV hst]
    · have apart : ARC_VSTAT v ∉ [ARC_VSTAT u, ARC_SINCE u] := by
        simp only [List.mem_cons, List.not_mem_nil, or_false, ARC_VSTAT, ARC_SINCE]
        omega
      exact ((keeps_enterV u st s).get apart).trans h
  have stays (vs : List Nat) (s : State) (h : s.vstate v = st) : (vs.foldl (fun s v => enterV v st s) s).vstate v = st := by
    induction vs generalizing s with
    | nil => exact h
    | cons u us ih => exact ih _ (step u s h)
  induction vs generalizing s with
  | nil => cases mem
  | cons u us ih =>
    obtain rfl | later := List.mem_cons.1 mem
    · exact stays us _ (vstate_enterV hst v s)
    · exact ih later _

theorem chord_beginFirst (k : Nat) (g : Gang) (s : State) : (beginFirst k g s).chord k = { s.chord k with granted := none } := by
  rw [State.chord, beginFirst, arc_foldl_enterV]
  show (modChord k (fun c => { c with granted := none }) s).chord k = _
  rw [chord_modChord]

theorem sameGrid_beginFirst {k : Nat} (hk : k < 512) (g : Gang) (s : State) : SameGrid s (beginFirst k g s) := by
  refine ((SameGrid.modArc _ s).trans (SameGrid.set_between _ _ ?_ ?_)).trans (SameGrid.foldl (fun s v => SameGrid.enterV v vsPhase s) _ _)
  all_goals
    simp only [ARC_CHORD_STAT]
    omega

/-- The granted first phase takes the bus, and starts at the first boundary at or after the lead time (R196). -/
theorem issues_phaseIssue {s : State} {k : Nat} {g : Gang} (hk : k < 512) (running : s.running = true) (free : s.busFree k = true)
    (granted : (s.chord k).granted = some g) (bus : opType (s.gangDesc g.members) ≠ opMeasure) :
    ∃ q : BusPhase, ((phaseIssue k s).chord k).phase = some q ∧ ((phaseIssue k s).chord k).granted = none ∧ q.kind = pkMain ∧
      q.members = s.gangOrder k g.members ∧ q.routine = descRoutine (s.gangDesc g.members) ∧ q.start = s.chordBoundary k s.leadTime ∧
      (phaseIssue k s).on (ARC_CHORD_STAT_BUS k) = true ∧ ∀ v ∈ g.members, v < 4096 → (phaseIssue k s).vstate v = vsPhase := by
  have grid := sameGrid_beginFirst hk g s
  have map : (beginFirst k g s).map = s.map := map_foldl_enterV _ _ _
  rw [phaseIssue_granted running free granted bus, chord_issuePhase, chord_beginFirst]
  refine ⟨_, rfl, rfl, rfl, gangOrder_of_map map k g.members, rfl, ?_, bus_issuePhase _ _ _ _ _ _ _ _ hk, fun v mem hv => ?_⟩
  · show (beginFirst k g s).chordBoundary k (beginFirst k g s).leadTime = s.chordBoundary k s.leadTime
    rw [grid.leadTime, grid.chordBoundary]
  · have apart : ARC_VSTAT v ∉ issueRegs k := by
      simp only [issueRegs, powerRegs, List.mem_cons, List.not_mem_nil, or_false, ARC_VSTAT, ARC_CHORD_STAT, ARC_STAT, ARC_ISSUE_COUNT,
        THM_P_COMMIT, THM_CREDIT, THM_P_EST, THM_STAT, ICL_PEND, DMA_MSIX_PBA]
      omega
    refine ((keeps_issuePhase k pkMain _ _ _ _ _ _ _).get (f := ARC_VSTAT_STATE v) apart).trans ?_
    exact vstate_foldl_enterV (by decide) mem _

/-! ## The issue of a poll round (R199) -/

theorem pollRoundIssue_none {s : State} {k : Nat} (none_ : s.pollDue k = none) : pollRoundIssue k s = s := by rw [pollRoundIssue, none_]

theorem pollRoundIssue_early {s : State} {k due : Nat} (due_ : s.pollDue k = some due) (early : s.pollReady k = false) :
    pollRoundIssue k s = s := by
  rw [pollRoundIssue, due_]
  dsimp only
  rw [if_pos (by simp [early])]

/-- The earliest start of a poll round that was due at `due`. -/
def State.pollStart (s : State) (due : Nat) : Nat := if stampDiff due s.leadTime < 0 then s.leadTime else due

/-- The vertices of a poll round that starts at `start`. -/
def State.pollMembers (s : State) (k start : Nat) : List Nat := ((s.pollList k).filter fun x => stampDiff x.2 start ≤ 0).map Prod.fst

/-- A late poll round is counted, and flagged in its operations (R199, R210). -/
def noteLatePoll (k due : Nat) (s : State) : State :=
  let start := s.chordBoundary k (s.pollStart due)
  if decide ((s.pollInt k : Int) < stampDiff start due) then
    (s.pollMembers k start).foldl (fun s v => flagOp v 12 s) (s.countSat (ARC_POLL_LATE_COUNT k) 1)
  else s

theorem pollRoundIssue_due {s : State} {k due : Nat} (due_ : s.pollDue k = some due) (running : s.running = true) (free : s.busFree k = true)
    (ungranted : (s.chord k).granted = none) (ready : s.pollReady k = true) (sound : s.on (ARC_CHORD_STAT_RECOVERY_FAIL k) = false)
    (recovered : s.needsRecovery k = false) (unheld : s.phaseHeld k false = false) (drain : s.arc.drain = 0)
    (credit : (s.phaseCost k : Int) ≤ s.credit) :
    ∃ params u, u = (freeParams 8 ((noteLatePoll k due s).count (ARC_POLL_ROUNDS_COUNT k) 1)).2 ∧
      pollRoundIssue k s = issuePhase k pkPoll (u.get (ARC_CHORD_CFG_POLL_ROUTINE k))
        (s.pollMembers k (s.chordBoundary k (s.pollStart due))) params (s.pollStart due) due (u.phaseCost k) u := by
  refine ⟨(freeParams 8 ((noteLatePoll k due s).count (ARC_POLL_ROUNDS_COUNT k) 1)).1, _, rfl, ?_⟩
  rw [pollRoundIssue, due_]
  dsimp only
  rw [if_neg (by simp [running, free, ungranted, ready]), if_neg (by simp [sound]), if_neg (by simp [recovered]), if_neg (by simp [unheld]),
    if_neg (by simp [drain]), grantCost, if_pos credit]
  rfl

theorem freeParams_eq (n : Nat) (s : State) : ∃ free, (freeParams n s).2 = { s with free := free } := by
  induction n generalizing s with
  | zero => exact ⟨s.free, rfl⟩
  | succ n ih =>
    obtain ⟨free, drawn⟩ := ih { s with free := s.free + 1 }
    exact ⟨free, drawn⟩

theorem keeps_freeParams (as : List Nat) (n : Nat) (s : State) : Keeps as s (freeParams n s).2 := by
  obtain ⟨free, drawn⟩ := freeParams_eq n s
  rw [drawn]
  exact ⟨fun _ _ => rfl, rfl, rfl, rfl, rfl, rfl⟩

theorem sameGrid_freeParams (n : Nat) (s : State) : SameGrid s (freeParams n s).2 := by
  obtain ⟨free, drawn⟩ := freeParams_eq n s
  rw [drawn]
  exact ⟨rfl, rfl, rfl, rfl, fun _ _ => rfl⟩

theorem keeps_noteLatePoll (k due : Nat) (s : State) : Keeps [ARC_POLL_LATE k] s (noteLatePoll k due s) :=
  ((keeps_set s _ (by simp)).trans (keeps_foldl (fun s v => keeps_flagOp _ v 12 s) _ _)).ite (Keeps.refl _ s)

theorem sameGrid_noteLatePoll {k : Nat} (hk : k < 512) (due : Nat) (s : State) : SameGrid s (noteLatePoll k due s) := by
  refine ((SameGrid.set_between s _ ?_ ?_).trans (SameGrid.foldl (fun s v => SameGrid.modOp v _ s) _ _)).ite (SameGrid.refl s)
  all_goals
    simp only [ARC_POLL_LATE]
    omega

/-- A poll round that has come takes the bus, at a boundary at or after its due time and the lead time, and is counted (R199). -/
theorem issues_pollRoundIssue {s : State} {k due : Nat} (hk : k < 512) (due_ : s.pollDue k = some due) (running : s.running = true)
    (free : s.busFree k = true) (ungranted : (s.chord k).granted = none) (ready : s.pollReady k = true)
    (sound : s.on (ARC_CHORD_STAT_RECOVERY_FAIL k) = false) (recovered : s.needsRecovery k = false) (unheld : s.phaseHeld k false = false)
    (drain : s.arc.drain = 0) (credit : (s.phaseCost k : Int) ≤ s.credit) :
    ∃ q : BusPhase, ((pollRoundIssue k s).chord k).phase = some q ∧ q.kind = pkPoll ∧ q.due = due ∧
      q.start = s.chordBoundary k (s.pollStart due) ∧ (pollRoundIssue k s).on (ARC_CHORD_STAT_BUS k) = true ∧
      (pollRoundIssue k s).get (ARC_POLL_ROUNDS_COUNT k) = (s.get (ARC_POLL_ROUNDS_COUNT k) + 1) % 2 ^ 32 := by
  obtain ⟨params, u, drawn, issued⟩ := pollRoundIssue_due due_ running free ungranted ready sound recovered unheld drain credit
  have rounds : u.get (ARC_POLL_ROUNDS_COUNT k) = (s.get (ARC_POLL_ROUNDS_COUNT k) + 1) % 2 ^ 32 := by
    have apart : ARC_POLL_ROUNDS k ∉ [ARC_POLL_LATE k] := by
      simp only [List.mem_singleton, ARC_POLL_ROUNDS, ARC_POLL_LATE]
      omega
    rw [drawn, (keeps_freeParams [] 8 _).get (by simp), State.count, State.get_set_self _ _ _ (by simp), (keeps_noteLatePoll k due s).get (f := ARC_POLL_ROUNDS_COUNT k) apart]
  have grid : SameGrid s u := by
    rw [drawn]
    refine (sameGrid_noteLatePoll hk due s).trans ((SameGrid.set_between _ _ ?_ ?_).trans (sameGrid_freeParams 8 _))
    all_goals
      simp only [ARC_POLL_ROUNDS]
      omega
  have apart : ARC_POLL_ROUNDS k ∉ issueRegs k := by
    simp only [issueRegs, powerRegs, List.mem_cons, List.not_mem_nil, or_false, ARC_POLL_ROUNDS, ARC_CHORD_STAT, ARC_STAT, ARC_ISSUE_COUNT,
      THM_P_COMMIT, THM_CREDIT, THM_P_EST, THM_STAT, ICL_PEND, DMA_MSIX_PBA]
    omega
  rw [issued, chord_issuePhase]
  refine ⟨_, rfl, rfl, rfl, grid.chordBoundary k _, bus_issuePhase _ _ _ _ _ _ _ _ hk, ?_⟩
  rw [(keeps_issuePhase k pkPoll _ _ _ _ _ _ _).get (f := ARC_POLL_ROUNDS_COUNT k) apart, rounds]

/-! ## Urgency (R197) -/

/-- The gang is urgent, behind those that became so before it. -/
def noteUrgent (k : Nat) (g : Gang) (s : State) : State :=
  modArc (fun a => { a with order := a.order + 1 }) (modChord k (fun c => { c with
    gangs := c.gangs.map fun x => if x == g then { x with urgent := some s.arc.order } else x }) s)

theorem becomeUrgent_early {s : State} {v : Nat} {g : Gang} (found : (s.chord (s.chordOf v)).gangs.find? (fun g => v ∈ g.members) = some g)
    (early : g.passes < 64) : becomeUrgent v s = s := by
  rw [becomeUrgent, found]
  dsimp only
  rw [if_pos (.inl early)]

theorem becomeUrgent_passed {s : State} {v : Nat} {g : Gang} (found : (s.chord (s.chordOf v)).gangs.find? (fun g => v ∈ g.members) = some g)
    (passed : 64 ≤ g.passes) (calm : g.urgent = none) :
    becomeUrgent v s = pend 261 (((noteUrgent (s.chordOf v) g s).countSat ARC_STARVE_COUNT_COUNT 1).raise (ARC_CHORD_STAT_URGENT (s.chordOf v))) := by
  have waits : ¬(g.passes < 64 ∨ g.urgent.isSome = true) := by
    rw [calm]
    simp only [Option.isSome_none, Bool.false_eq_true, or_false]
    omega
  rw [becomeUrgent, found]
  dsimp only
  rw [if_neg waits]
  rfl

theorem gangs_noteUrgent {k : Nat} {g : Gang} {s : State} (mem : g ∈ (s.chord k).gangs) :
    { g with urgent := some s.arc.order } ∈ ((noteUrgent k g s).chord k).gangs := by
  show _ ∈ ((modChord k (fun c => { c with
    gangs := c.gangs.map fun x => if x == g then { x with urgent := some s.arc.order } else x }) s).chord k).gangs
  rw [chord_modChord]
  exact List.mem_map.2 ⟨g, mem, by simp⟩

/-- A gang with 64 passes becomes urgent, is counted, and its chord shows it (R197). -/
theorem urgent_becomeUrgent {s : State} {v : Nat} {g : Gang} (hk : s.chordOf v < 512)
    (found : (s.chord (s.chordOf v)).gangs.find? (fun g => v ∈ g.members) = some g) (passed : 64 ≤ g.passes) (calm : g.urgent = none) :
    (becomeUrgent v s).on (ARC_CHORD_STAT_URGENT (s.chordOf v)) = true ∧
      (becomeUrgent v s).get ARC_STARVE_COUNT_COUNT = min (2 ^ 32 - 1) (s.get ARC_STARVE_COUNT_COUNT + 1) ∧
      { g with urgent := some s.arc.order } ∈ ((becomeUrgent v s).chord (s.chordOf v)).gangs ∧
      Keeps [ARC_CHORD_STAT (s.chordOf v), ARC_STARVE_COUNT, ICL_PEND 16, DMA_MSIX_PBA 0] s (becomeUrgent v s) := by
  have apart : ARC_CHORD_STAT (s.chordOf v) ∉ [ICL_PEND (261 / 16), DMA_MSIX_PBA 0] := by
    simp only [List.mem_cons, List.not_mem_nil, or_false, ARC_CHORD_STAT, ICL_PEND, DMA_MSIX_PBA]
    omega
  have counts : ARC_STARVE_COUNT ≠ ARC_CHORD_STAT (s.chordOf v) := by simp only [ARC_STARVE_COUNT, ARC_CHORD_STAT]; omega
  have signals := keeps_pend 261 (((noteUrgent (s.chordOf v) g s).countSat ARC_STARVE_COUNT_COUNT 1).raise (ARC_CHORD_STAT_URGENT (s.chordOf v)))
  have noted (as : List Nat) : Keeps as s (noteUrgent (s.chordOf v) g s) := (keeps_modChord as _ _ s).trans (keeps_modArc as _ _)
  rw [becomeUrgent_passed found passed calm]
  refine ⟨?_, ?_, ?_, ?_⟩
  · rw [State.on_of_get (signals.get (f := ARC_CHORD_STAT_URGENT (s.chordOf v)) apart), State.on_raise _ rfl (by simp)]
  · rw [signals.get (by decide), State.raise, State.get_set_ne _ _ _ _ counts, State.countSat, State.get_set_self _ _ _ (by decide),
      (noted []).get (by simp)]
    exact Nat.mod_eq_of_lt (by simp only; omega)
  · rw [State.chord, (signals_pend 261 _).arc_eq]
    exact gangs_noteUrgent (List.mem_of_find?_eq_some found)
  · exact (((noted _).trans (keeps_set _ _ (by simp))).trans (keeps_set _ _ (by simp))).trans (signals.mono (by simp))

end Sys2Proof.Machine
end

section
/-!
PROOFS. The statement about admission, urgency and the issue of phases (R191, R192, R194, R196, R197).
-/

namespace Sys2Proof.Machine
open Sys2Proof.Reg

/-- In a stopped part ADMISSION has no effect, and so none where a reaction holds Arc either. -/
theorem byArc_same {f : State → State} {s : State} (h : f s = s) : byArc f s = s := by
  rw [byArc, h, ite_self]

/-- Settles O33: an admission, an issue and a gang's urgency each come down to one effect where the conditions that are given hold, and that
effect is followed for what is claimed of it; an admission's is followed through the ring and Lattice's slot, which leave Arc's book alone. -/
theorem admissionAndIssue : Obligations.AdmissionAndIssue := by
  unfold Obligations.AdmissionAndIssue
  refine ⟨?admission, fun s dt v stopped => gives_of_act rfl (byArc_same (admission_stopped (s := s.tick dt) stopped v)), ?urgent, ?phase, ?poll⟩
  case admission =>
    intro s dt v o free op hv gather running valid drain fresh unheld
    have alone (power : opType o.desc = opPower) : admission v (s.tick dt) = admitNoBus v (s.tick dt) :=
      admission_alone (s := s.tick dt) op gather running valid drain fresh unheld (by simp [power])
    refine ⟨fun power gateless => ?_, fun power gated => ?_, fun notPower notWait k g hk found sound idle open_ chosen => ?_⟩
    · exact ⟨_, gives_byArc free rfl (alone power), closes_admitNoBus (s := s.tick dt) hv op gather power gateless⟩
    · exact ⟨_, gives_byArc free rfl (alone power), switches_admitNoBus (s := s.tick dt) hv op power gated⟩
    · subst hk
      have gang : admission v (s.tick dt) = grantGang (s.chordOf v) g (s.tick dt) :=
        admission_gang (s := s.tick dt) op gather running valid drain fresh unheld (by simp [notPower, notWait]) found sound idle open_ chosen
      have ungranted : ((s.tick dt).chord (s.chordOf v)).granted = none := by
        simp only [State.busy, Bool.or_eq_false_iff, Option.isSome_eq_false_iff, Option.isNone_iff_eq_none] at idle
        tauto
      refine ⟨fun later => ⟨noteWait (s.chordOf v) g (s.tick dt), ?_, ?_, rfl, rfl⟩, fun clear credit => ⟨_, gives_byArc free rfl gang, ?_⟩⟩
      · exact gives_byArc free rfl (gang.trans (grantGang_waits later _ g))
      · rw [noteWait, chord_modChord]
        exact ungranted
      · exact grants_grantGang (s := s.tick dt) clear credit
  case urgent =>
    intro s dt v g free hk found
    refine ⟨fun passed calm => ⟨_, gives_byArc free rfl rfl, ?_⟩, fun early => ?_⟩
    · obtain ⟨shown, counted, urgent, regs, memories⟩ := urgent_becomeUrgent (s := s.tick dt) hk found passed calm
      exact ⟨shown, counted, urgent, regs, memories⟩
    · exact gives_byArc free rfl (becomeUrgent_early (s := s.tick dt) found early)
  case phase =>
    intro s dt k free hk
    refine ⟨fun stopped => gives_byArc free rfl (phaseIssue_stopped (s := s.tick dt) stopped), fun g running clear granted bus => ?_⟩
    obtain ⟨q, phase, taken, kind, members, issued⟩ := issues_phaseIssue (s := s.tick dt) hk running clear granted bus
    have order := gangOrder_of_map (s := s) (t := s.tick dt) rfl k g.members
    exact ⟨_, q, gives_byArc free rfl rfl, phase, taken, kind, members.trans order, issued⟩
  case poll =>
    intro s dt k due free hk
    refine ⟨fun none_ => gives_byArc free rfl (pollRoundIssue_none (s := s.tick dt) none_),
      fun due_ early => gives_byArc free rfl (pollRoundIssue_early (s := s.tick dt) due_ early),
      fun due_ running clear ungranted ready sound recovered open_ drain credit => ?_⟩
    obtain ⟨q, issued⟩ := issues_pollRoundIssue (s := s.tick dt) hk due_ running clear ungranted ready sound recovered open_ drain credit
    exact ⟨_, q, gives_byArc free rfl rfl, issued⟩

end Sys2Proof.Machine
end

section
/-!
SUPPORT. Registers in the order in which they are listed: a write of a register puts it in its order, and no other write takes it out of it.
-/

namespace Sys2Proof.Machine
open Sys2Proof.Reg

/-! ## A start that is withdrawn while a new ANCHOR waits

Facet 0 of chord 0 is ARMED with a new ANCHOR waiting for the end of its phase, facet 1 is late. The withdrawal ends the phase of facet 0, so
that the ANCHOR comes into use, and the start is anew on the grid that it gives: not on the grid of before. -/

/-- The phase of chord 0 that is withdrawn. -/
def lateStart : BusPhase :=
  { kind := pkMain, members := [], routine := 0, params := [], serial := 7, start := 0, cost := 0, due := 0, left := [] }

/-- The registers that the withdrawal leaves alone and that much of what follows of itself writes. -/
def lateMarks : List Nat :=
  [GLB_MODE, APX_SAFE_CAUSE, APX_LOG_SEQ, APX_LOG_LOST, ARC_STAT, THM_CREDIT, DMA_POOL_FREE, DMA_PRI_OUT, DMA_FAULT_SRC,
    DMA_XFER_STAT, DMA_LOST_RECS, DMA_SPILL_PAGES, CAL_STAT, APX_BOOT_STAT]

/-- The registers of a part of four facets in HOST with QUIET set, both rays of chord 0 assigned and the first ARMED, and a new ANCHOR
deferred. The first address is above every register's: a write of a register that stands after it moves that register ahead, which tells
afterwards that it was written. -/
def lateRegs : Store Word64 :=
  [(2 ^ 40, 1), (GLB_IDENT, 2), (GLB_MODE, 3), (APX_SAFE_CAUSE, 0), (APX_LOG_SEQ, 0), (APX_LOG_LOST, 0), (ARC_STAT, 2 ^ 31),
    (THM_CREDIT, 0), (DMA_POOL_FREE, 0), (DMA_PRI_OUT, 0), (DMA_FAULT_SRC, 0), (DMA_XFER_STAT, 0), (DMA_LOST_RECS, 0),
    (DMA_SPILL_PAGES, 0), (CAL_STAT, 0), (APX_BOOT_STAT, 0), (FCT_RAY_STAT 0 0, 2 ^ 21 + 1), (FCT_RAY_STAT 1 0, 2 ^ 21),
    (FCT_ANCHOR 0, 100), (FCT_TIMING_STAT 0, 4)]

/-- The state in which the start is withdrawn. -/
def lateState : State :=
  { State.reset with
    regs := lateRegs, arc := { ArcState.init with chords := [(0, { ArcChord.init with phase := some lateStart })] } }

/-! ## The order in which registers are listed -/

/-- Is address `a` listed after smaller addresses only, or not at all? -/
def inOrder (a : Nat) : Store Word64 → Bool
  | [] => true
  | (k, _) :: m => if k = a then true else if k < a then inOrder a m else m.all fun e => e.1 != a

theorem inOrder_of_absent {a : Nat} : ∀ {m : Store Word64}, (∀ e ∈ m, e.1 ≠ a) → inOrder a m = true
  | [], _ => rfl
  | (k, w) :: m, h => by
    have tail : ∀ e ∈ m, e.1 ≠ a := fun e he => h e (List.mem_cons_of_mem _ he)
    rw [inOrder, if_neg (h (k, w) List.mem_cons_self)]
    split_ifs
    · exact inOrder_of_absent tail
    · simpa using fun x y hx => tail (x, y) hx

theorem inOrder_insert_self (a : Nat) (v : Word64) : ∀ m : Store Word64, inOrder a (Store.insert a v m) = true
  | [] => by simp [Store.insert, inOrder]
  | (k, w) :: m => by
    rw [Store.insert]
    split_ifs with below same
    · simp [inOrder]
    · simp [inOrder]
    · rw [inOrder, if_neg (Ne.symm same), if_pos (by omega), inOrder_insert_self a v m]

theorem mem_insert {b : Nat} {v : Word64} {e : Nat × Word64} : ∀ {m : Store Word64}, e ∈ Store.insert b v m → e = (b, v) ∨ e ∈ m
  | [], h => by simpa [Store.insert] using h
  | (k, w) :: m, h => by
    rw [Store.insert] at h
    split_ifs at h
    · simpa using h
    · rcases List.mem_cons.1 h with rfl | h
      · exact .inl rfl
      · exact .inr (List.mem_cons_of_mem _ h)
    · rcases List.mem_cons.1 h with rfl | h
      · exact .inr List.mem_cons_self
      · exact (mem_insert h).imp_right (List.mem_cons_of_mem _)

theorem inOrder_insert {a b : Nat} (ne : b ≠ a) (v : Word64) : ∀ {m : Store Word64}, inOrder a m = true → inOrder a (Store.insert b v m) = true
  | [], _ => inOrder_of_absent (by simpa [Store.insert] using ne)
  | (k, w) :: m, h => by
    rw [Store.insert]
    split_ifs with below same
    · rw [inOrder, if_neg ne]
      split_ifs with less
      · exact h
      · have above : ¬ k < a := by omega
        have other : k ≠ a := by omega
        rw [inOrder, if_neg other, if_neg above] at h
        simpa using ⟨other, by simpa using h⟩
    · subst same
      simpa [inOrder] using h
    · rw [inOrder] at h ⊢
      split_ifs with here less
      · rfl
      · exact inOrder_insert ne v (by simpa [here, less] using h)
      · have absent : ∀ e ∈ m, e.1 ≠ a := by simpa [here, less] using h
        simp only [List.all_eq_true, bne_iff_ne]
        intro e he
        rcases mem_insert he with rfl | he
        · exact ne
        · exact absent e he

/-- Entries are dropped, or rewritten under their address: what is kept of `a` stays in its order. -/
theorem inOrder_filterMap {a : Nat} {g : Nat × Word64 → Option (Nat × Word64)} (key : ∀ e e', g e = some e' → e'.1 = e.1)
    (kept : ∀ e, e.1 = a → (g e).isSome) : ∀ {m : Store Word64}, inOrder a m = true → inOrder a (m.filterMap g) = true
  | [], _ => rfl
  | (k, w) :: m, h => by
    rw [inOrder] at h
    split_ifs at h with here less
    · obtain ⟨⟨k', w'⟩, he⟩ := Option.isSome_iff_exists.1 (kept (k, w) here)
      have : k' = a := (key _ _ he).trans here
      rw [List.filterMap_cons_some he, inOrder, if_pos this]
    · cases he : g (k, w) with
      | none => rw [List.filterMap_cons_none he]; exact inOrder_filterMap key kept h
      | some e' =>
        obtain ⟨k', w'⟩ := e'
        obtain rfl : k' = k := key _ _ he
        rw [List.filterMap_cons_some he, inOrder, if_neg here, if_pos less]
        exact inOrder_filterMap key kept h
    · have absent : ∀ e ∈ m, e.1 ≠ a := by simpa using h
      refine inOrder_of_absent fun e he => ?_
      obtain ⟨d, hd, hg⟩ := List.mem_filterMap.1 he
      rw [key _ _ hg]
      rcases List.mem_cons.1 hd with rfl | hd
      · exact here
      · exact absent d hd

theorem find_filterMap {a : Nat} {g : Nat × Word64 → Option (Nat × Word64)} (key : ∀ e e', g e = some e' → e'.1 = e.1)
    (kept : ∀ e, e.1 = a → g e = some e) (d : Nat → Word64) : ∀ m : Store Word64, Store.find d (m.filterMap g) a = Store.find d m a
  | [] => rfl
  | (k, w) :: m => by
    cases he : g (k, w) with
    | none =>
      have other : k ≠ a := fun here => by simp [kept (k, w) here] at he
      rw [List.filterMap_cons_none he, Store.find, if_neg other, find_filterMap key kept d m]
    | some e' =>
      rw [List.filterMap_cons_some he]
      by_cases here : k = a
      · obtain rfl : (k, w) = e' := Option.some.inj ((kept (k, w) here).symm.trans he)
        simp [Store.find, here]
      · obtain ⟨k', w'⟩ := e'
        obtain rfl : k' = k := key _ _ he
        rw [Store.find, Store.find, if_neg here, if_neg here, find_filterMap key kept d m]

theorem inOrder_put_self (a : Nat) (v : Word64) (m : Store Word64) : inOrder a (Store.put rstWord m a v) = true := by
  rw [Store.put]
  split_ifs
  · exact inOrder_of_absent fun e he => by simpa [Store.erase] using (List.mem_filter.1 he).2
  · exact inOrder_insert_self a v m

theorem inOrder_put {a b : Nat} (ne : b ≠ a) (v : Word64) {m : Store Word64} (h : inOrder a m = true) :
    inOrder a (Store.put rstWord m b v) = true := by
  rw [Store.put]
  split_ifs
  · rw [Store.erase, ← List.filterMap_eq_filter]
    refine inOrder_filterMap (fun e e' he => ?_) (fun e he => ?_) h
    · obtain ⟨_, rfl⟩ := by simpa [Option.guard] using he
      rfl
    · simp [Option.guard, he, Ne.symm ne]
  · exact inOrder_insert ne v h

/-- A register of `lateMarks` has been written: it stands in its order, or it reads otherwise. -/
def Stirred (m : Store Word64) : Prop :=
  ∃ a ∈ lateMarks, inOrder a m = true ∨ Store.find rstWord m a ≠ Store.find rstWord lateRegs a

theorem stirred_put_mark {a : Nat} (mark : a ∈ lateMarks) (v : Word64) (m : Store Word64) : Stirred (Store.put rstWord m a v) :=
  ⟨a, mark, .inl (inOrder_put_self a v m)⟩

theorem stirred_put {m : Store Word64} (h : Stirred m) (b : Nat) (v : Word64) : Stirred (Store.put rstWord m b v) := by
  obtain ⟨a, mark, h⟩ := h
  by_cases same : b = a
  · exact same ▸ stirred_put_mark (same ▸ mark) v m
  · exact ⟨a, mark, h.imp (inOrder_put same v) fun other => by rwa [Store.find_put_ne _ _ _ (Ne.symm same)]⟩

end Sys2Proof.Machine
end

section
/-!
SUPPORT. What follows of itself after a command (R60, R80, R207, R305, R324) gives no phase of Arc a new start.
-/

namespace Sys2Proof.Machine
open Sys2Proof.Reg

/-! ## What follows of itself gives no phase a new start

`Spent` says of a state that it cannot become the one in which the phase of chord 0 starts at 65636 and no register of `lateMarks` has been
written. Each operation that follows of itself keeps it: it lets a phase's start be, or takes the phase away. -/

/-- What is left of an entry of the register book when the fields of some access types are cleared. -/
def clearedEntry (accs : List Acc) (p : Nat → Bool) (e : Nat × Word64) : Option (Nat × Word64) :=
  if !p e.1 then some e
  else
    match rowAt e.1 with
    | some (r, false) =>
      let m := BitVec.ofNat 64 (fieldMask accs r.fields)
      let w := (e.2 &&& ~~~m) ||| (rstWord e.1 &&& m)
      if w = rstWord e.1 then none else some (e.1, w)
    | _ => some e

theorem clearFields_regs (s : State) (accs : List Acc) (p : Nat → Bool) :
    (s.clearFields accs p).regs = s.regs.filterMap (clearedEntry accs p) := rfl

theorem clearedEntry_kept {accs : List Acc} {p : Nat → Bool} {e : Nat × Word64} (other : p e.1 = false) : clearedEntry accs p e = some e := by
  simp [clearedEntry, other]

theorem clearedEntry_key {accs : List Acc} {p : Nat → Bool} (e e' : Nat × Word64) (h : clearedEntry accs p e = some e') : e'.1 = e.1 := by
  rw [clearedEntry] at h
  split at h
  · rw [Option.some.inj h]
  · split at h
    · dsimp only at h
      split_ifs at h
      rw [← Option.some.inj h]
    · rw [Option.some.inj h]

section
variable {s : State}

/-- A register of `lateMarks` has been written, or chord 0 has no phase that starts at 65636. -/
def Spent (s : State) : Prop := Stirred s.regs ∨ ∀ q, (s.chord 0).phase = some q → q.start ≠ 65636

theorem spent_of_same {t : State} (h : Spent s) (regs : t.regs = s.regs) (chords : t.arc.chords = s.arc.chords) : Spent t := by
  rwa [Spent, State.chord, regs, chords]

theorem spent_ite {c : Prop} [Decidable c] {t u : State} (ht : Spent t) (hu : Spent u) : Spent (if c then t else u) := by
  split_ifs
  · exact ht
  · exact hu

theorem spent_foldl {α : Type} {g : State → α → State} (h : Spent s) (hg : ∀ {t} x, Spent t → Spent (g t x)) (xs : List α) :
    Spent (xs.foldl g s) := by
  induction xs generalizing s with
  | nil => exact h
  | cons x xs ih => exact ih (hg x h)

theorem spent_with_apex (h : Spent s) {x : ApexState} : Spent { s with apex := x } := h

theorem spent_with_fcl (h : Spent s) {x : FclState} : Spent { s with fcl := x } := h

theorem spent_with_dma (h : Spent s) {x : DmaState} : Spent { s with dma := x } := h

theorem spent_with_pmuEnds (h : Spent s) {es : List (Nat × Bool)} : Spent { s with pmuEnds := es } := h

/-! ### Registers -/

theorem spent_setReg (h : Spent s) {a : Nat} {v : Word64} : Spent (s.setReg a v) := h.imp_left fun stirred => stirred_put stirred a v

theorem spent_setReg_mark {a : Nat} {v : Word64} (mark : a ∈ lateMarks) : Spent (s.setReg a v) := .inl (stirred_put_mark mark v s.regs)

theorem spent_set (h : Spent s) {f : Fld} {v : Nat} : Spent (s.set f v) := spent_setReg h

theorem spent_set_mark {f : Fld} {v : Nat} (mark : f.addr ∈ lateMarks) : Spent (s.set f v) := spent_setReg_mark mark

theorem spent_raise (h : Spent s) {f : Fld} : Spent (s.raise f) := spent_set h

theorem spent_raiseIf (h : Spent s) {f : Fld} {c : Bool} : Spent (s.raiseIf f c) := spent_ite (spent_set h) h

theorem spent_count (h : Spent s) {f : Fld} {i : Nat} : Spent (s.count f i) := spent_set h

theorem spent_countSat (h : Spent s) {f : Fld} {i : Nat} : Spent (s.countSat f i) := spent_set h

theorem spent_setBit (h : Spent s) {f : Fld} {i : Nat} {b : Bool} : Spent (s.setBit f i b) := spent_set h

theorem spent_send (h : Spent s) {m : Msg} : Spent (s.send m) := h

theorem spent_clearFields (h : Spent s) {accs : List Acc} {p : Nat → Bool} (other : ∀ a ∈ lateMarks, p a = false) :
    Spent (s.clearFields accs p) := by
  refine h.imp_left fun ⟨a, mark, stirred⟩ => ⟨a, mark, stirred.imp (fun order => ?_) fun moved => ?_⟩
  · exact inOrder_filterMap clearedEntry_key (fun e here => by rw [clearedEntry_kept (here ▸ other a mark)]; rfl) order
  · rw [clearFields_regs, find_filterMap clearedEntry_key fun e here => clearedEntry_kept (here ▸ other a mark)]
    exact moved

/-! ### Signals -/

theorem spent_sendMessage (h : Spent s) {t : Nat} : Spent (sendMessage t s) := spent_ite (spent_send h) h

theorem spent_signalTarget (h : Spent s) {t : Nat} : Spent (signalTarget t s) :=
  spent_ite h (spent_ite (spent_setBit h) (spent_sendMessage h))

theorem spent_withGroup {g : Nat} {f : State → State} (h : Spent (f s)) : Spent (withGroup g f s) :=
  spent_foldl h (fun _ h => spent_signalTarget h) _

theorem spent_withLevel {n : Nat} {f : State → State} (h : Spent (f s)) : Spent (withLevel n f s) := spent_withGroup h

theorem spent_pend (h : Spent s) {n : Nat} : Spent (pend n s) := spent_ite (spent_withGroup (spent_setBit h)) h

theorem spent_pendIf (h : Spent s) {c : Bool} {n : Nat} : Spent (pendIf c n s) := spent_ite (spent_pend h) h

theorem spent_holdLine (h : Spent s) {n : Nat} {b : Bool} : Spent (holdLine n b s) := h

theorem spent_assertLine (h : Spent s) {n : Nat} : Spent (assertLine n s) :=
  spent_ite h (spent_ite (spent_holdLine h) (spent_ite h (spent_with_fcl (spent_raise h))))

theorem spent_deassertLine (h : Spent s) {n : Nat} : Spent (deassertLine n s) := spent_ite (spent_holdLine h) (spent_set h)

theorem spent_pulseLine (h : Spent s) {n : Nat} : Spent (pulseLine n s) := spent_deassertLine (spent_assertLine h)

/-! ### The log and the responses -/

theorem spent_exportEntry (h : Spent s) {bs : List Byte} : Spent (exportEntry bs s) := spent_ite (spent_count (spent_send h)) h

theorem spent_bufferEntry {e : LogEntry} : Spent (bufferEntry e s) := by
  refine spent_withLevel (spent_set ?_)
  exact spent_set_mark (by decide)

/-- An event is logged, or the registers say why it is not. -/
theorem spent_logEvent {type arg : Nat} {data : List Byte} : Spent (logEvent type arg data s) := by
  unfold logEvent
  split
  case isTrue silent =>
    left
    rcases Bool.or_eq_true_iff.1 silent with cause | mode
    · exact ⟨APX_SAFE_CAUSE, by decide, .inr fun same => by
        revert cause; simp only [State.on, State.get, State.reg, same]; decide⟩
    · exact ⟨GLB_MODE, by decide, .inr fun same => by
        revert mode; simp only [State.mode, State.get, State.reg, same]; decide⟩
  case isFalse =>
    exact spent_ite (spent_pend (spent_with_apex (spent_set_mark (by decide))))
      (spent_ite (spent_ite (spent_pend (spent_with_apex (spent_set_mark (by decide)))) spent_bufferEntry) spent_bufferEntry)

theorem spent_enterMode {m : Nat} : Spent (enterMode m s) := spent_logEvent

theorem spent_respond {c : Cmd} {first abandoned : Bool} {status d0 d1 : Nat} : Spent (respond c first status abandoned d0 d1 s) :=
  spent_logEvent

theorem spent_answerJob (h : Spent s) {c : Cmd} {status d0 d1 : Nat} {abandoned : Bool} : Spent (answerJob c status abandoned d0 d1 s) :=
  spent_ite spent_respond h

theorem spent_finishJob (h : Spent s) {c : Cmd} {status d0 : Nat} : Spent (finishJob c status d0 s) := spent_answerJob h
end

section
variable {s : State}

/-! ### The engines of host memory -/

theorem spent_modRing (h : Spent s) {n : Nat} {g : RingState → RingState} : Spent (modRing n g s) := h
theorem spent_modSpillPage (h : Spent s) {p : Nat} {v : SpillPage} : Spent (modSpillPage p v s) := h
theorem spent_modAcq (h : Spent s) {u : Nat} {g : AcqUnit → AcqUnit} : Spent (modAcq u g s) := h
theorem spent_modDma (h : Spent s) {g : DmaState → DmaState} : Spent (modDma g s) := h
theorem spent_cacheInsert (h : Spent s) {e : CacheEntry} : Spent (cacheInsert e s) := h
theorem spent_cacheDrop (h : Spent s) {p : Nat} : Spent (cacheDrop p s) := h

theorem spent_chainRecord (h : Spent s) {data : List Byte} : Spent (chainRecord data s) := by
  unfold chainRecord
  split
  · exact h
  · refine spent_ite (spent_ite (spent_countSat ?_) (spent_set (spent_with_apex ?_))) ?_ <;> exact spent_count (spent_with_apex h)

theorem spent_setFree {n : Nat} : Spent (setFree n s) := by
  refine spent_withGroup (spent_set (spent_ite (spent_set ?_) (spent_ite (spent_set ?_) ?_))) <;> exact spent_set_mark (by decide)

theorem spent_freePages {p k : Nat} : Spent (freePages p k s) := spent_setFree

theorem spent_countSpillPages : Spent (countSpillPages s) := spent_set_mark (by decide)

theorem spent_spillRoom (h : Spent s) {len p : Nat} {t : State} (room : spillRoom len s = some (p, t)) : Spent t := by
  unfold spillRoom at room
  dsimp only at room
  split at room
  · split_ifs at room
    · cases room
      exact spent_modSpillPage h
    · split at room <;> cases room
      exact spent_countSpillPages
  · split at room <;> cases room
    exact spent_countSpillPages

theorem spent_loseRecord {n : Nat} : Spent (loseRecord n s) := by
  refine spent_ite (spent_modRing (spent_raise ?_)) (spent_raise ?_) <;> exact spent_set_mark (by decide)

theorem spent_discardRecord (h : Spent s) {n : Nat} : Spent (discardRecord n s) := spent_raise (spent_countSat (spent_countSat h))

theorem spent_sendTranslations (h : Spent s) : Spent (sendTranslations s) :=
  spent_ite h (spent_foldl h (fun _ h => spent_ite h (spent_send (spent_with_dma h))) _)

theorem spent_cacheLookup (h : Spent s) {page : Nat} {write b : Bool} {t : State} (e : cacheLookup page write s = (b, t)) : Spent t := by
  rw [cacheLookup] at e
  split at e <;> cases e <;> exact h

theorem spent_translate (h : Spent s) {who : Requester} {addr : Nat} {write b : Bool} {t : State} (e : translate who addr write s = (b, t)) :
    Spent t := by
  rw [translate] at e
  split_ifs at e
  · cases e
    exact h
  · split at e
    next found =>
      cases e
      exact spent_cacheLookup h found
    next missing =>
      have kept := spent_cacheLookup h missing
      dsimp only at e
      split_ifs at e <;> cases e
      · exact kept
      · exact spent_sendTranslations (spent_with_dma kept)

theorem spent_sendPageRequests : Spent (sendPageRequests s) := spent_set_mark (by decide)

theorem spent_askPage (h : Spent s) {p : Nat} : Spent (askPage p s) := spent_ite h spent_sendPageRequests

theorem spent_writeBack (h : Spent s) {n : Nat} : Spent (writeBack n s) := by
  refine spent_ite h (spent_ite (spent_modRing h) ?_)
  split
  next e => exact spent_modRing (spent_send (spent_translate h e))
  next e => exact spent_modRing (spent_translate h e)

theorem spent_ringEvent (h : Spent s) {n : Nat} : Spent (ringEvent n s) := spent_ite (spent_pend (spent_setBit h)) h

theorem spent_spillRecord (h : Spent s) {n : Nat} {x : Rec} {b : Bool} {t : State} (e : spillRecord n x s = (b, t)) : Spent t := by
  unfold spillRecord at e
  dsimp only at e
  split at e
  next room =>
    cases e
    exact spent_set (spent_modRing (spent_spillRoom h room))
  next =>
    split_ifs at e <;> cases e
    · exact spent_count (spent_set (spent_modRing h))
    · exact spent_loseRecord

theorem spent_loseWaiting (h : Spent s) {v : Nat} {x : Rec} : Spent (loseWaiting v x s) :=
  spent_ite h (spent_ite h h)

theorem spent_spillQueue (h : Spent s) {n : Nat} : Spent (spillQueue n s) := by
  refine spent_foldl (spent_modRing h) (fun {t} x h => ?_) _
  split
  next e => exact spent_spillRecord h e
  next e => exact spent_ite (spent_loseWaiting (spent_spillRecord h e)) (spent_spillRecord h e)

theorem spent_parkRing (h : Spent s) {n cause : Nat} : Spent (parkRing n cause s) :=
  spent_ite (spent_modRing (spent_set (spent_set h)))
    (spent_writeBack (spent_spillQueue (spent_pend (spent_countSat (spent_set (spent_set (spent_set (spent_set h))))))))

theorem spent_recordFault {kind index addr : Nat} : Spent (recordFault kind index addr s) :=
  spent_countSat (spent_set (spent_set (spent_set_mark (by decide))))

theorem spent_faultCause (h : Spent s) {p : Nat} : Spent (faultCause p s).2 := by
  rw [faultCause]
  split_ifs
  · exact spent_askPage h
  · exact h

theorem spent_faultRing {n addr : Nat} : Spent (faultRing n addr s) := by
  refine spent_ite (spent_pend ?_) ?_ <;> exact spent_parkRing (spent_faultCause spent_recordFault)

theorem spent_unparkRing (h : Spent s) {n : Nat} : Spent (unparkRing n s) := spent_writeBack (spent_pend (spent_set (spent_set (spent_set h))))

theorem spent_startTransfer (h : Spent s) {n : Nat} : Spent (startTransfer n s) := by
  refine spent_ite h (spent_ite h ?_)
  split
  · exact spent_ite (spent_unparkRing h) h
  · refine spent_ite (spent_parkRing h) (spent_ite (spent_modRing h) (spent_ite h ?_))
    split
    next e => exact spent_modRing (spent_send (spent_translate h e))
    next e => exact spent_modRing (spent_translate h e)

theorem spent_beginDrain (h : Spent s) {n : Nat} : Spent (beginDrain n s) := by
  have back : Spent (if (s.ring n).wbHeld then writeBack n s else s) := spent_ite (spent_writeBack h) h
  exact spent_ite (spent_startTransfer (spent_unparkRing back)) (spent_startTransfer (spent_set back))

theorem spent_grantRing (h : Spent s) {n : Nat} : Spent (grantRing n s) :=
  spent_ite (spent_beginDrain h) (spent_startTransfer (spent_modRing h))

theorem spent_retryRing (h : Spent s) {n : Nat} : Spent (retryRing n s) := by
  refine spent_ite h (spent_ite (spent_ite (spent_beginDrain h) h) (spent_ite (spent_modRing h) ?_))
  dsimp only
  split
  next e => exact spent_beginDrain (spent_translate h e)
  next e => exact spent_translate h e

theorem spent_refuseRing {n : Nat} : Spent (refuseRing n s) := spent_faultRing

theorem spent_handover (h : Spent s) {n : Nat} {data : List Byte} {b : Bool} {t : State} (e : handover n data s = (b, t)) : Spent t := by
  have chained : Spent (if n % 4 = 1 ∨ n % 4 = 2 then chainRecord data s else s) := spent_ite (spent_chainRecord h) h
  unfold handover at e
  dsimp only at e
  generalize (if n % 4 = 1 ∨ n % 4 = 2 then chainRecord data s else s) = u at e chained
  split_ifs at e
  · cases e
    exact spent_pend (spent_discardRecord chained)
  · generalize spilt : spillRecord n _ u = r at e
    cases e
    exact spent_startTransfer (spent_spillRecord chained spilt)
  · cases e
    exact spent_startTransfer (spent_modRing chained)

theorem spent_indexAdvanced (h : Spent s) {n : Nat} : Spent (indexAdvanced n s) := by
  refine spent_ite (spent_writeBack ?_) ?_ <;> exact spent_of_same (spent_ringEvent (spent_count h)) rfl rfl

end

section
variable {s : State}

/-! ### Acquisition -/

theorem spent_modAdc (h : Spent s) {a : Nat} {g : AdcQueue → AdcQueue} : Spent (modAdc a g s) := h
theorem spent_setAq (h : Spent s) {u st : Nat} : Spent (setAq u st s) := spent_set h
theorem spent_raiseAq (h : Spent s) {u : Nat} {f : Fld} : Spent (raiseAq u f s) := spent_ite h (spent_pend (spent_raise h))

theorem spent_releaseUnit (h : Spent s) {u : Nat} : Spent (releaseUnit u s) := by
  have freed : Spent ((s.acqUnit u).pages.foldl (fun s p => freePages p 1 s) s) := spent_foldl h (fun _ _ => spent_freePages) _
  exact spent_setAq (spent_set (spent_ite (spent_modAdc (spent_modAcq freed)) (spent_modAcq freed)))

theorem spent_deliverDone (h : Spent s) {u : Nat} : Spent (deliverDone u s) := spent_ite (spent_releaseUnit h) h

theorem spent_spillBlocks (h : Spent s) {u : Nat} : Spent (spillBlocks u s) := by
  refine spent_foldl h (fun {t} i h => ?_) _
  dsimp only
  split
  · refine spent_ite h ?_
    split
    · exact spent_modAcq h
    · exact spent_modAcq spent_countSpillPages
  · exact h

theorem spent_startBlock (h : Spent s) {u : Nat} : Spent (startBlock u s) := by
  refine spent_ite h (spent_ite (spent_spillBlocks h) (spent_ite h (spent_ite (spent_modAcq h) (spent_ite h ?_))))
  split
  next e => exact spent_modAcq (spent_translate h e)
  next e => exact spent_modAcq (spent_translate h e)

theorem spent_grantDest (h : Spent s) {u : Nat} : Spent (grantDest u s) :=
  spent_startBlock (spent_modAcq (spent_ite (spent_with_dma (spent_setBit h)) h))

theorem spent_refuseDest {u : Nat} : Spent (refuseDest u s) := by
  have fault : ∀ {p : Nat}, Spent (faultCause p (recordFault 2 u (s.destSlot u) s)).2 := spent_faultCause spent_recordFault
  exact spent_ite (spent_with_dma fault) (spent_spillBlocks (spent_pend (spent_modAcq (spent_setBit (spent_with_dma fault)))))

theorem spent_queueBlock (h : Spent s) {u : Nat} {b : AcqBlock} : Spent (queueBlock u b s) := spent_startBlock (spent_modAcq h)

theorem spent_queueCapture (h : Spent s) {u : Nat} {items : List AcqItem} {trig : Option Nat} {ended : Bool} :
    Spent (queueCapture u items trig ended s) := spent_foldl h (fun _ h => spent_queueBlock h) _

theorem spent_closeStreamBlock (h : Spent s) {u : Nat} {last ended : Bool} : Spent (closeStreamBlock u last ended s) :=
  spent_ite h (spent_queueBlock (spent_modAcq h))

theorem spent_endCapture (h : Spent s) {u : Nat} {ended : Bool} : Spent (endCapture u ended s) :=
  spent_deliverDone (spent_queueCapture (spent_setAq (spent_modAcq (spent_ite (spent_raiseAq h) h))))

theorem spent_storeItem (h : Spent s) {u : Nat} {i : AcqItem} : Spent (storeItem u i s) := by
  have closed : ∀ {t : State} (c : Prop) [Decidable c], Spent t → Spent (if c then closeStreamBlock u false false t else t) :=
    fun c _ h => spent_ite (spent_closeStreamBlock h) h
  have stored : ∀ {c : Prop} [Decidable c] {g : AcqUnit → AcqUnit} {f : Fld} {v : Nat},
      Spent (if c then (modAcq u g s).set f v else modAcq u g s) := spent_ite (spent_set (spent_modAcq h)) (spent_modAcq h)
  refine spent_ite (closed _ (spent_modAcq (closed _ h))) (spent_ite (spent_ite (spent_setAq stored) ?_) h)
  split
  · exact spent_ite (spent_endCapture stored) stored
  · exact stored

theorem spent_storeSample (h : Spent s) {u : Nat} {e : AcqEntry} : Spent (storeSample u e s) := by
  have begun : ∀ c : Bool, Spent (if c then raiseAq u (ACQ_U_STAT_GAP u) (aqAlarm u s) else s) := fun _ =>
    spent_ite (spent_raiseAq (spent_pend h)) h
  exact spent_ite (spent_countSat (spent_modAcq h))
    (spent_ite (spent_ite (spent_storeItem (spent_modAcq (begun _))) (spent_modAcq (begun _))) (spent_storeItem (begun _)))

theorem spent_ignoreTrigger (h : Spent s) {u : Nat} {fill : Bool} : Spent (ignoreTrigger u fill s) := by
  refine spent_ite (spent_countSat ?_) (spent_countSat ?_) <;> exact spent_modAcq h

theorem spent_triggerUnit (h : Spent s) {u t : Nat} {b : Bool} {r : State} (e : triggerUnit u t s = (b, r)) : Spent r := by
  unfold triggerUnit at e
  dsimp only at e
  split_ifs at e
  · cases e; exact h
  · cases e; exact spent_ignoreTrigger h
  · cases e; exact h
  · cases e; exact spent_ignoreTrigger h
  · cases e; exact spent_ignoreTrigger h
  · have posted : ∀ {j : Option Nat},
        Spent (setAq u aqPost ((modAcq u (fun x => { x with trig := some t, at_ := j }) s).count (ACQ_U_CAPTURES_COUNT u) 1)) :=
      spent_setAq (spent_count (spent_modAcq h))
    split at e
    · cases e
      exact spent_ite (spent_endCapture (spent_set posted)) (spent_set posted)
    · cases e
      exact posted

theorem spent_triggerChain (n : Nat) (h : Spent s) {u t : Nat} : Spent (triggerChain n u t s) := by
  induction n generalizing s u with
  | zero => exact h
  | succ n ih =>
    rw [triggerChain]
    split
    next e => exact spent_triggerUnit h e
    next e => exact spent_foldl (spent_triggerUnit h e) (fun _ h => ih h) _

theorem spent_inputSample (h : Spent s) {u : Nat} {e : AcqEntry} : Spent (inputSample u e s) := by
  refine spent_ite h (spent_storeSample (spent_ite (spent_modAcq ?_) ?_)) <;> exact spent_ite (spent_triggerChain 16 h) h

theorem spent_offerShot (h : Spent s) {f unit t x : Nat} {suspect stale : Bool} : Spent (offerShot f unit t x suspect stale s) :=
  spent_foldl h (fun _ h => spent_inputSample h) _

theorem spent_stopUnit (h : Spent s) {u : Nat} : Spent (stopUnit u s) := by
  have flushed : ∀ {t : State}, Spent t → Spent (match (t.acqUnit u).part with
      | some (_, i) => storeItem u i (modAcq u (fun x => { x with part := none }) t)
      | none => t) := by
    intro t h
    split
    · exact spent_storeItem (spent_modAcq h)
    · exact h
  have ended : ∀ {t : State}, Spent t → Spent (setAq u aqDeliver (raiseAq u (ACQ_U_STAT_ENDED u) t)) := fun h =>
    spent_setAq (spent_raiseAq h)
  unfold stopUnit
  refine spent_ite (spent_deliverDone (spent_setAq (spent_modAcq h))) (spent_ite (spent_ite (spent_endCapture (flushed h)) (flushed h))
    (spent_ite (spent_ite ?_ (spent_closeStreamBlock (ended (flushed h)))) h))
  split
  · exact spent_modAcq (ended (flushed h))
  · exact spent_deliverDone (spent_pend (ended (flushed h)))

theorem spent_acqModeChange (h : Spent s) : Spent (acqModeChange s) :=
  spent_foldl h (fun _ h => spent_ite h (spent_stopUnit h)) _

theorem spent_endAllUnits (h : Spent s) : Spent (endAllUnits s) :=
  spent_foldl h (fun _ h => spent_ite h (spent_stopUnit (spent_raiseAq h))) _
end

section
variable {s : State}

/-! ### Measurement and playback -/

theorem spent_setTdc (h : Spent s) {f u : Nat} {r : Option TdcRun} : Spent (setTdc f u r s) := h
theorem spent_modFct (h : Spent s) {f : Nat} {g : Facet → Facet} : Spent (modFct f g s) := h
theorem spent_modRay (h : Spent s) {f r : Nat} {g : Ray → Ray} : Spent (modRay f r g s) := h
theorem spent_modChan (h : Spent s) {c : Nat} {g : Chan → Chan} : Spent (modChan c g s) := h
theorem spent_modWave (h : Spent s) {f g : Nat} {k : Wave → Wave} : Spent (modWave f g k s) := h

theorem spent_raiseTmu (h : Spent s) {f : Nat} {flag : Fld} : Spent (raiseTmu f flag s) := spent_ite h (spent_pend (spent_raise h))

theorem spent_endTdc (h : Spent s) {f u code : Nat} : Spent (endTdc f u code s) := by
  unfold endTdc
  split
  · exact h
  · exact spent_withLevel (spent_setBit (spent_set (spent_set (spent_set (spent_set (spent_set (spent_set (spent_set (spent_setTdc h)))))))))

theorem spent_awaitStart (h : Spent s) {f u : Nat} {r : TdcRun} : Spent (awaitStart f u r s) :=
  spent_ite (spent_raiseTmu (spent_setTdc h)) (spent_setTdc h)

theorem spent_discardShot (h : Spent s) {f u : Nat} {r : TdcRun} {ovf : Bool} : Spent (discardShot f u r ovf s) :=
  spent_awaitStart (spent_ite (spent_raiseTmu h) (spent_pend (spent_countSat h)))

theorem spent_shotExpired (h : Spent s) {f u t : Nat} {r : TdcRun} {v : State} (e : shotExpired f u r t s = some v) : Spent v := by
  unfold shotExpired at e
  split at e
  · cases e
  · dsimp only at e
    split_ifs at e <;> cases e <;> exact spent_discardShot h

theorem spent_countShot (h : Spent s) {f u b x : Nat} {r : TdcRun} : Spent (countShot f u r b x s) := by
  have offered : ∀ {suspect stale : Bool} {q : TdcRun}, Spent (offerShot f u b x suspect stale (setTdc f u (some q)
      (((s.count (FCT_TDC_COUNT_COUNT f u) 1).set (FCT_TDC_LAST_LAST f u) x).set (FCT_TDC_LAST_AT_AT f u) b))) :=
    spent_offerShot (spent_setTdc (spent_set (spent_set (spent_count h))))
  exact spent_ite (spent_endTdc offered) (spent_awaitStart offered)

theorem spent_tdcEvent (h : Spent s) {f u t : Nat} {stop edge : Bool} : Spent (tdcEvent f u stop edge t s) := by
  unfold tdcEvent
  split
  · exact h
  · have rated : ∀ c : Bool, Spent (if c then raiseTmu f (FCT_TDC_STAT_RATE f u) s else s) := fun _ => spent_ite (spent_raiseTmu h) h
    refine spent_ite (rated _) ?_
    dsimp only
    split
    · exact spent_raiseIf (spent_setTdc (rated _))
    · split
      next e => exact spent_shotExpired (rated _) e
      next => exact spent_ite (rated _) (spent_countShot (spent_raiseIf (rated _)))
    · exact rated _

theorem spent_tdcEvents (h : Spent s) {f : Nat} {edge : Bool} {hits : Nat → Bool → Bool} {stamp : Nat → Bool → Nat} :
    Spent (tdcEvents f edge hits stamp s) := by
  refine spent_foldl h (fun {t} u h => ?_) _
  have one : ∀ {c : Prop} [Decidable c] {stop : Bool} {v : State}, Spent v → Spent (if c then tdcEvent f u stop edge (stamp u stop) v else v) :=
    fun h => spent_ite (spent_tdcEvent h) h
  split
  · exact h
  · exact spent_ite (one (one h)) (one (one h))

theorem spent_tdcVector (h : Spent s) {f r vev v t : Nat} : Spent (tdcVector f r vev v t s) := spent_ite h (spent_tdcEvents h)

theorem spent_writeRc (h : Spent s) {f : Nat} {r : RcRun} : Spent (writeRc f r s) :=
  spent_ite (spent_set (spent_set (spent_set (spent_set (spent_set (spent_set h))))))
    (spent_set (spent_set (spent_set (spent_set (spent_set (spent_set h))))))

theorem spent_setRc (h : Spent s) {f : Nat} {r : Option RcRun} : Spent (setRc f r s) := h

theorem spent_endRc (h : Spent s) {f code : Nat} : Spent (endRc f code s) := by
  unfold endRc
  split
  · exact h
  · exact spent_pend (spent_raise (spent_set (spent_set (spent_set (spent_writeRc (spent_setRc h))))))

theorem spent_abortMeasurements (h : Spent s) {f : Nat} : Spent (abortMeasurements f s) :=
  spent_endRc (spent_foldl h (fun _ h => spent_endTdc h) _)

theorem spent_holdWg (h : Spent s) {f g : Nat} : Spent (holdWg f g s) := spent_ite h (spent_pend (spent_set h))

theorem spent_haltPlaying (h : Spent s) {f : Nat} : Spent (haltPlaying f s) :=
  spent_foldl h (fun _ h => spent_ite (spent_holdWg (spent_modWave h)) h) _

theorem spent_raiseRay (h : Spent s) {flag : Fld} {src : Nat} : Spent (raiseRay flag src s) := spent_ite h (spent_pend (spent_raise h))

theorem spent_discardRequest (h : Spent s) {f r : Nat} : Spent (discardRequest f r s) := by
  unfold discardRequest
  split
  · exact h
  · exact spent_ite (spent_raiseRay (spent_set (spent_modRay h))) (spent_set (spent_modRay h))

theorem spent_takePeriod (h : Spent s) {f e : Nat} : Spent (takePeriod f e s) :=
  spent_ite (spent_set (spent_modFct h)) (spent_pend (spent_raise (spent_set (spent_modFct h))))

theorem spent_changeRate (h : Spent s) {f e : Nat} : Spent (changeRate f e s) := by
  unfold changeRate keepStarts
  exact spent_modFct (spent_modFct (spent_takePeriod h))

theorem spent_changeAnchor (h : Spent s) {f : Nat} : Spent (changeAnchor f s) := by
  unfold changeAnchor keepStarts
  exact spent_modFct (spent_set (spent_modFct h))

theorem spent_applyMove (h : Spent s) {f : Nat} : Spent (applyMove f s) := spent_ite h (spent_set (spent_of_same h rfl rfl))

theorem spent_gridQuiet (h : Spent s) {f : Nat} : Spent (gridQuiet f s) := by
  unfold gridQuiet
  dsimp only
  refine spent_ite h (spent_applyMove ?_)
  split
  · exact spent_ite (spent_changeAnchor (spent_changeRate h)) (spent_changeRate h)
  · exact spent_ite (spent_changeAnchor h) h

theorem spent_endPhase (h : Spent s) {f r cause err : Nat} : Spent (endPhase f r cause err s) := by
  have played : Spent (if rayBusy (s.rayState f r) then
      tdcVector f r 2 0 (if cause = endCut then s.now else s.vectorTime f (s.ray f r).index) s else s) := spent_ite (spent_tdcVector h) h
  have failed : ∀ {t : State}, Spent t → Spent (if cause = endError then pend (16 * f + 8) t else t) := fun h => spent_ite (spent_pend h) h
  have starved : ∀ {t : State}, Spent t →
      Spent (if cause = endUnderflow then raiseRay (FCT_RAY_FLAGS_UNDERFLOW f r) (16 * f + 9) t else t) := fun h =>
    spent_ite (spent_raiseRay h) h
  have shown : ∀ {t : State}, Spent t → Spent ((t.set (FCT_RAY_STAT_STATE f r) rayIdle).set (FCT_RAY_STAT_END_CAUSE f r) cause) := fun h =>
    spent_set (spent_set h)
  unfold endPhase
  dsimp only
  refine spent_ite h (spent_gridQuiet (spent_modFct (spent_modRay (spent_ite (spent_set (spent_set ?_)) ?_))))
  · exact starved (failed (spent_set (shown (spent_discardRequest played))))
  · split
    · exact spent_set (starved (failed (spent_set (shown (spent_discardRequest played)))))
    · exact starved (failed (spent_set (shown (spent_discardRequest played))))

theorem spent_cutFacet (h : Spent s) {f : Nat} : Spent (cutFacet f s) :=
  spent_foldl h (fun _ h => spent_foldl h (fun _ h => spent_endPhase h) _) _

/-! ### Channels -/

theorem spent_endPmu (h : Spent s) {c : Nat} {aborted : Bool} : Spent (endPmu c aborted s) := by
  have shown : ∀ {t : State}, Spent t → Spent (withLevel (16 * (c / 128) + 13) (fun s => s.raise (pmuDoneBit c)) t) := fun h =>
    spent_withLevel (spent_raise h)
  unfold endPmu
  refine spent_ite (spent_with_pmuEnds (spent_modAdc (spent_modChan (shown ?_)))) (spent_modAdc (spent_modChan (shown ?_))) <;>
    exact spent_set (spent_set h)

theorem spent_abortPmu (h : Spent s) {c : Nat} : Spent (abortPmu c s) := spent_ite (spent_endPmu (spent_raise h)) h

theorem spent_parkChannel (h : Spent s) {c : Nat} : Spent (parkChannel c s) := by
  refine spent_modChan (spent_ite (spent_foldl (spent_abortPmu h) (fun _ h => spent_ite ?_ h) _) (spent_abortPmu h))
  exact spent_of_same h rfl rfl

theorem spent_parkFacetChannels (h : Spent s) {f : Nat} : Spent (parkFacetChannels f s) :=
  spent_foldl (spent_modFct h) (fun _ h => spent_parkChannel h) _

theorem spent_cutOffFacet (h : Spent s) {f : Nat} : Spent (cutOffFacet f s) :=
  spent_foldl (spent_haltPlaying (spent_abortMeasurements (spent_cutFacet h))) (fun _ h => spent_abortPmu h) _
end

section
variable {s : State}

/-! ### Calibration and the NVM -/

theorem spent_modMaint (h : Spent s) {g : MaintState → MaintState} : Spent (modMaint g s) := h
theorem spent_modRun (h : Spent s) {g : CalRun → CalRun} : Spent (modRun g s) := h
theorem spent_setCalq {q : List CalJob} : Spent (setCalq q s) := spent_withLevel (spent_set_mark (by decide))
theorem spent_setNvmq {q : List NvmJob} : Spent (setNvmq q s) := spent_withLevel (spent_set_mark (by decide))

theorem spent_leaveCal : Spent (leaveCal s) := by
  refine spent_ite (spent_acqModeChange spent_enterMode) (spent_set ?_)
  exact spent_set_mark (by decide)

theorem spent_answerRun (h : Spent s) {c : Cmd} {abandoned : Bool} {d0 d1 : Nat} : Spent (answerRun c abandoned d0 d1 s) := spent_answerJob h

theorem spent_endRun (h : Spent s) {result : Nat} {abandoned stay : Bool} : Spent (endRun result abandoned stay s) := by
  unfold endRun
  split
  · exact h
  · exact spent_answerRun (spent_ite (spent_set (spent_set_mark (by decide))) spent_leaveCal)

theorem spent_skipItem (h : Spent s) {i reason : Nat} : Spent (skipItem i reason s) := by
  unfold skipItem
  split
  · exact h
  · refine spent_ite h (spent_pend (spent_modRun (spent_ite (spent_set (spent_set h)) (spent_ite ?_ ?_)))) <;> exact spent_set (spent_set h)

theorem spent_afterFacets (h : Spent s) : Spent (afterFacets s) := by
  unfold afterFacets
  split
  · exact h
  · exact spent_ite (spent_endRun h) (spent_ite (spent_modRun h) (spent_ite (spent_modRun h) spent_setNvmq))

theorem spent_openFacet (n : Nat) (h : Spent s) : Spent (openFacet n s) := by
  induction n generalizing s with
  | zero => exact h
  | succ n ih =>
    rw [openFacet]
    split
    · exact h
    · split
      · exact spent_afterFacets h
      · exact spent_ite (ih (spent_modRun (spent_foldl h (fun _ h => spent_skipItem h) _)))
          (spent_foldl (spent_modRun (spent_set h)) (fun _ h => spent_ite (spent_skipItem h) h) _)

theorem spent_abandonFacet (h : Spent s) {f : Nat} : Spent (abandonFacet f s) := by
  unfold abandonFacet
  split
  · exact h
  · have skipped := spent_foldl h (fun {t} c h => spent_skipItem (s := t) h (i := c) (reason := 4)) (facetChannels f)
    exact spent_ite h (spent_ite (spent_openFacet 17 (spent_modRun skipped)) skipped)

theorem spent_startCal (h : Spent s) : Spent (startCal s) := by
  unfold startCal
  split
  · exact h
  · refine spent_ite h (spent_ite spent_setNvmq (spent_openFacet 17 (spent_modMaint ?_)))
    have entered : ∀ {t : State}, Spent t → Spent (if t.mode = modeCal then t else acqModeChange (enterMode modeCal t)) := fun h =>
      spent_ite h (spent_acqModeChange spent_enterMode)
    have stale : ∀ {t : State} (f : Nat), Spent t → Spent (staleFacet f t) := fun f h =>
      spent_set (spent_foldl (spent_foldl h (fun _ h => spent_set h) _) (fun _ h => spent_set h) _)
    exact spent_ite (spent_foldl (entered (spent_set h)) stale _) (entered (spent_set h))

theorem spent_queueCal {kind : Nat} {c : Cmd} : Spent (queueCal kind c s) := spent_startCal spent_setCalq

/-! ### Arc's book -/

/-- A chord is changed, but not the start of its phase. -/
theorem spent_modChord (h : Spent s) {k : Nat} {g : ArcChord → ArcChord}
    (start : ∀ c q, (g c).phase = some q → ∃ p, c.phase = some p ∧ p.start = q.start) : Spent (modChord k g s) := by
  refine h.imp_right fun other q hq => ?_
  by_cases here : k = 0
  · subst here
    rw [chord_modChord] at hq
    obtain ⟨p, hp, same⟩ := start _ _ hq
    exact same ▸ other p hp
  · rw [State.chord, modChord, modArc, Store.find_put_ne _ _ _ (Ne.symm here)] at hq
    exact other q hq

theorem spent_modChord_same (h : Spent s) {k : Nat} {g : ArcChord → ArcChord} (phase : ∀ c, (g c).phase = c.phase) : Spent (modChord k g s) :=
  spent_modChord h fun c q hq => ⟨q, (phase c).symm.trans hq, rfl⟩

theorem spent_modArc (h : Spent s) {g : ArcState → ArcState} (chords : (g s.arc).chords = s.arc.chords) : Spent (modArc g s) :=
  spent_of_same h rfl chords

theorem spent_setOp (h : Spent s) {v : Nat} {o : Option ArcOp} : Spent (setOp v o s) := h

theorem spent_modOp (h : Spent s) {v : Nat} {g : ArcOp → ArcOp} : Spent (modOp v g s) := by
  unfold modOp
  split
  · exact spent_setOp h
  · exact h

theorem spent_flagOp (h : Spent s) {v bit : Nat} : Spent (flagOp v bit s) := spent_modOp h
theorem spent_suspectOp (h : Spent s) {v island : Nat} : Spent (suspectOp v island s) := spent_ite (spent_flagOp h) h
theorem spent_enterV (h : Spent s) {v st : Nat} : Spent (enterV v st s) := spent_set (spent_set h)
theorem spent_setGate (h : Spent s) {v : Nat} {b : Bool} : Spent (setGate v b s) := h
theorem spent_pendStatus (h : Spent s) {st : Nat} : Spent (pendStatus st s) :=
  spent_ite (spent_pend h) (spent_ite (spent_pend h) (spent_ite (spent_pend h) (spent_ite (spent_pend h) h)))

theorem spent_sendClose (h : Spent s) {v status : Nat} : Spent (sendClose v status s) := by
  unfold sendClose modSlot
  split <;> exact h

theorem spent_refreshPower : Spent (refreshPower s) := by
  have shown : Spent (((s.set THM_P_COMMIT_P_COMMIT (s.therm.standing + s.heldCost)).set THM_CREDIT_CREDIT
      (unsigned 32 (s.set THM_P_COMMIT_P_COMMIT (s.therm.standing + s.heldCost)).credit))) := spent_set_mark (by decide)
  unfold refreshPower
  dsimp only
  split_ifs
  · exact spent_pend (spent_raise (spent_set shown))
  · exact spent_set shown

theorem spent_finishOp (h : Spent s) {v st reason t : Nat} : Spent (finishOp v st reason t s) := by
  have ended : ∀ {g : ArcOp → ArcOp} {c : Prop} [Decidable c], Spent (if c then setGate v false (modOp v g s) else modOp v g s) :=
    spent_ite (spent_setGate (spent_modOp h)) (spent_modOp h)
  refine spent_ite h (spent_sendClose (spent_enterV (spent_pendStatus (spent_suspectOp ?_))))
  exact spent_modChord_same ended fun _ => rfl

theorem spent_leaveGather (h : Spent s) {v : Nat} : Spent (leaveGather v s) := spent_modChord_same h fun _ => rfl

theorem spent_letGo (h : Spent s) {v : Nat} : Spent (letGo v s) := spent_enterV (spent_setOp (spent_leaveGather h))

theorem spent_writeResult (h : Spent s) {v verdict : Nat} : Spent (writeResult v verdict s) := by
  unfold writeResult
  split
  · exact h
  next o _ =>
    have handed := spent_handover (spent_count h (f := ARC_RSEQ_RSEQ v) (i := 1)) (n := 4 * v + 1) (data := s.resultRecord v verdict o) rfl
    refine spent_enterV (spent_of_same (s := if o.admitted.isSome then _ else _) ?_ rfl rfl)
    exact spent_ite (spent_set (spent_setOp handed)) (spent_setOp handed)

theorem spent_completeAtOnce (h : Spent s) {v st reason : Nat} : Spent (completeAtOnce v st reason s) :=
  spent_ite (spent_letGo h) (spent_writeResult (spent_indexAdvanced (spent_pendStatus (spent_suspectOp (spent_modOp (spent_leaveGather h))))))

theorem spent_interruptAll {t : Nat} : Spent (interruptAll t s) := spent_refreshPower

theorem spent_letAllGo (h : Spent s) : Spent (letAllGo s) := by
  refine spent_foldl (spent_foldl h (fun {t} e h => ?_) _) (fun {t} k h => ?_) _
  · split
    · exact spent_ite (spent_letGo h) h
    · exact h
  · exact spent_modChord_same h fun _ => rfl
end

section
variable {s : State}

/-! ### Faults and reactions -/

theorem spent_modFcl (h : Spent s) {g : FclState → FclState} : Spent (modFcl g s) := h

theorem spent_parkFacet (h : Spent s) {f : Nat} : Spent (parkFacet f s) := by
  unfold parkFacet
  refine spent_abandonFacet (spent_parkFacetChannels (spent_cutOffFacet ?_))
  exact spent_withLevel (spent_setBit h)

theorem rayStat_not_mark (f : Nat) : ∀ a ∈ lateMarks, (FCT_RAY_STAT f 0 ≤ a && decide (a < FCT_RAY_STAT f 32)) = false := by
  intro a mark
  have below : a < FCT_RAY_STAT 0 0 := by revert a; decide
  have above : FCT_RAY_STAT 0 0 ≤ FCT_RAY_STAT f 0 := by simp only [FCT_RAY_STAT]; omega
  simp [show ¬ FCT_RAY_STAT f 0 ≤ a by omega]

theorem spent_resetFacet (h : Spent s) {f : Nat} : Spent (resetFacet f s) :=
  spent_foldl (spent_clearFields (spent_cutOffFacet h) (rayStat_not_mark f)) (fun _ h => spent_setReg h) _

theorem spent_resetArc : Spent (resetArc s) := spent_letAllGo spent_interruptAll

theorem spent_modSlot (h : Spent s) {v : Nat} {g : Slot → Slot} : Spent (modSlot v g s) := by
  unfold modSlot
  split <;> exact h

theorem spent_endClear (h : Spent s) : Spent (endClear s) := spent_ite (spent_pend (spent_set h)) h

theorem spent_resetLattice (h : Spent s) : Spent (resetLattice s) := by
  have lost : Spent (s.lat.slots.foldl (fun s e => modSlot e.1 (fun x => { x with loss := true }) s) s) :=
    spent_foldl h (fun _ h => spent_modSlot h) _
  refine spent_endClear (spent_ite (spent_pend (spent_set (spent_set ?_))) ?_) <;> exact spent_of_same lost rfl rfl

theorem spent_resetDma (h : Spent s) : Spent (resetDma s) :=
  spent_foldl (spent_foldl (spent_with_dma h) (fun _ h => spent_ite h (spent_startTransfer (spent_modRing h))) _)
    (fun _ h => spent_startBlock (spent_modAcq h)) _

theorem spent_startReaction (h : Spent s) {source code : Nat} : Spent (startReaction source code s) := by
  have cast : ∀ {g : FclState → FclState} (t : Nat), Spent (castShadow t (modFcl g s)) := fun t => spent_modFcl (spent_setBit (spent_modFcl h))
  unfold startReaction
  split
  · exact h
  · refine spent_ite ?_ ?_
    · split
      · exact spent_abandonFacet (spent_resetFacet (cast _))
      · exact spent_parkFacet (spent_modFcl (cast _))
      · exact spent_parkFacet (spent_modFcl (spent_modFcl (cast _)))
    · split
      · exact spent_resetArc
      · exact spent_resetLattice (cast _)
      · exact spent_resetDma (cast _)
      · exact spent_endAllUnits (cast _)
      · exact cast _

theorem spent_captureEvent {e : FaultEvent} {sev : Nat} {cons counted : Bool} : Spent (captureEvent e sev cons counted s) := by
  refine spent_ite (spent_ite (spent_raise ?_) (spent_raise ?_)) (spent_pendIf (spent_modFcl (spent_count (spent_set (spent_setReg ?_))))) <;>
    exact spent_logEvent

theorem spent_goSafe {cause : Fld} : Spent (goSafe cause s) :=
  spent_ite spent_sendPageRequests (spent_acqModeChange spent_enterMode)

theorem spent_escalate (h : Spent s) {kind source : Nat} {injected : Bool} : Spent (escalate kind source injected s) := by
  refine spent_ite (spent_countSat h) (spent_ite (spent_foldl ?_ (fun _ h => spent_exportEntry h) _)
    (spent_ite (spent_set_mark (by decide)) spent_goSafe))
  exact spent_pend (spent_raise (spent_set (spent_set (spent_set (spent_set (spent_raise h))))))

theorem spent_errorActs (h : Spent s) {e : FaultEvent} : Spent (errorActs e s) :=
  spent_ite (spent_count h) (spent_withLevel (spent_set (spent_modFcl (spent_count h))))

theorem spent_takeFault {e : FaultEvent} : Spent (takeFault e s) := by
  have captured : ∀ {sev : Nat} {cons counted : Bool}, Spent (captureEvent e sev cons counted (classify e (s.shadowed e.source) s).2.2) :=
    spent_captureEvent
  have told : ∀ {a b c d : Bool} {t : State}, Spent t → Spent (pendIf d 439 (pendIf a 432 (pendIf b 433 (pendIf c 435 t)))) := fun h =>
    spent_pendIf (spent_pendIf (spent_pendIf (spent_pendIf h)))
  refine spent_ite captured (spent_ite (told captured) (spent_ite (spent_escalate (told captured)) (spent_ite ?_ (told captured))))
  exact spent_ite (spent_errorActs (told captured)) (spent_startReaction (spent_errorActs (told captured)))

theorem spent_settleFaults (n : Nat) (h : Spent s) : Spent (settleFaults n s) := by
  induction n generalizing s with
  | zero => exact h
  | succ n ih =>
    rw [settleFaults]
    split
    · exact h
    · exact ih spent_takeFault

/-! ### Measurements that Arc takes, and holds -/

theorem spent_freeBus {k : Nat} : Spent (freeBus k s) := spent_refreshPower

theorem spent_endMeasure (h : Spent s) {k : Nat} : Spent (endMeasure k s) := by
  unfold endMeasure
  split
  · exact h
  · refine spent_ite h (spent_foldl (spent_foldl spent_freeBus (fun {t} v h => ?_) _) (fun _ h => spent_ite (spent_setGate h) h) _)
    split
    · exact h
    · exact spent_ite h (spent_ite (spent_finishOp h) (spent_finishOp h))

theorem spent_dropMeasurement (h : Spent s) {k : Nat} {e : Nat × Nat × Bool} : Spent (dropMeasurement k e s) := by
  refine spent_endMeasure (spent_modChord h fun c q hq => ?_)
  obtain ⟨p, hp, rfl⟩ := Option.map_eq_some_iff.1 hq
  exact ⟨p, hp, rfl⟩

theorem spent_measured (h : Spent s) {v : Nat} {aborted clamped overrange stale : Bool} {value : Int} :
    Spent (measured v aborted value clamped overrange stale s) := spent_modOp (spent_ite (spent_flagOp h) h)

theorem spent_takePmuEnd (h : Spent s) {c : Nat} {aborted : Bool} : Spent (takePmuEnd c aborted s) := by
  refine spent_foldl (spent_set h) (fun {t} e h => ?_) _
  dsimp only
  split
  · exact h
  · split
    · exact h
    · exact spent_dropMeasurement (spent_foldl h (fun _ h => spent_measured h) _)

theorem spent_takePmuEnds (h : Spent s) : Spent (takePmuEnds s) :=
  spent_foldl (spent_with_pmuEnds h) (fun _ h => spent_takePmuEnd h) s.pmuEnds

theorem spent_judgeHolds (h : Spent s) : Spent (judgeHolds s) := by
  refine spent_foldl h (fun {t} e h => spent_ite ?_ h) _
  exact spent_modChord_same (spent_set (spent_set h)) fun _ => rfl

/-! ### Answers and cancels that DOZE kept -/

theorem spent_setQueuePark (h : Spent s) {f r : Nat} {p : Option AuxPark} : Spent (setQueuePark f r p s) := h

theorem spent_grantQueue (h : Spent s) {f r : Nat} : Spent (grantQueue f r s) := by
  refine spent_ite (spent_setQueuePark h) ?_
  split
  next e => exact spent_send (spent_translate (spent_setQueuePark h) e)
  next e => exact spent_translate (spent_setQueuePark h) e

theorem spent_retryQueue (h : Spent s) {f r : Nat} : Spent (retryQueue f r s) := by
  unfold retryQueue
  split
  · exact h
  · split
    next e => exact spent_grantQueue (spent_translate h e)
    next e => exact spent_translate h e

theorem spent_retryDest (h : Spent s) {u : Nat} : Spent (retryDest u s) := by
  unfold retryDest
  split
  · exact h
  · split
    next e => exact spent_grantDest (spent_translate h e)
    next e => exact spent_translate h e

theorem spent_retryCopy (h : Spent s) : Spent (retryCopy s) := by
  unfold retryCopy
  split
  · exact h
  · split
    next e => exact spent_modDma (spent_translate h e)
    next e => exact spent_translate h e

theorem spent_endCopy {code : Nat} : Spent (endCopy code s) :=
  spent_pend (spent_modDma (spent_set (spent_set (spent_set_mark (by decide)))))

theorem spent_refuseCopy (h : Spent s) : Spent (refuseCopy s) :=
  spent_ite h (spent_ite (spent_askPage (spent_modDma (spent_ite (spent_pend spent_recordFault) spent_recordFault))) spent_endCopy)

theorem spent_grant (h : Spent s) {w : Requester} : Spent (grant w s) := by
  have asked : Spent (endPriRetry w s) := h
  cases w
  · exact spent_grantRing asked
  · exact spent_ite (spent_beginDrain asked) (spent_writeBack asked)
  · exact spent_grantQueue asked
  · exact spent_grantDest asked
  · exact asked

theorem spent_refuseFinally {w : Requester} : Spent (refuseFinally w s) := by
  cases w
  · exact spent_set spent_recordFault
  · exact spent_set spent_recordFault
  · exact spent_setQueuePark spent_recordFault
  · exact spent_modDma spent_recordFault
  · exact spent_endCopy

theorem spent_refuse (h : Spent s) {w : Requester} : Spent (refuse w s) := by
  refine spent_ite spent_refuseFinally ?_
  cases w
  · exact spent_refuseRing
  · exact spent_faultRing
  · exact spent_setQueuePark (spent_faultCause (spent_pendIf spent_recordFault))
  · exact spent_refuseDest
  · exact spent_refuseCopy h

theorem spent_translationCompletes (h : Spent s) {page pages : Nat} {read write : Bool} :
    Spent (translationCompletes page pages read write s) := by
  refine spent_ite h (spent_sendTranslations (spent_foldl (spent_ite (spent_cacheInsert (spent_modDma h)) (spent_modDma h))
    (fun {t} w h => ?_) _))
  exact spent_ite (spent_grant h) (spent_refuse h)

theorem spent_finalFaults (h : Spent s) {page : Option Nat} : Spent (finalFaults page s) := by
  unfold finalFaults
  dsimp only
  have final := spent_foldl h (fun {t} n h => spent_set (s := t) h (f := RNG_STAT_CAUSE n) (v := parkFinal))
  split
  · exact spent_ite spent_endCopy (spent_modDma (final _))
  · exact spent_modDma (final _)

theorem spent_retryPage (h : Spent s) {page : Nat} : Spent (retryPage page s) := by
  have retried : ∀ {g : DmaState → DmaState} {rs ks us : List Nat}, Spent (us.foldl (fun s u => retryDest u s)
      (ks.foldl (fun s k => retryQueue (k / 32) (k % 32) s) (rs.foldl (fun s n => retryRing n s) (modDma g s)))) :=
    spent_foldl (spent_foldl (spent_foldl (spent_modDma h) (fun _ h => spent_retryRing h) _) (fun _ h => spent_retryQueue h) _)
      (fun _ h => spent_retryDest h) _
  unfold retryPage
  dsimp only
  split
  · exact spent_ite (spent_retryCopy retried) retried
  · exact retried

theorem spent_pageResponds (h : Spent s) {page code : Nat} : Spent (pageResponds page code s) := by
  refine spent_ite h ?_
  dsimp only
  split
  · exact spent_retryPage (spent_cacheDrop spent_sendPageRequests)
  · exact spent_finalFaults spent_sendPageRequests
  · exact spent_finalFaults (spent_withLevel (spent_set (spent_pulseLine (spent_modDma spent_sendPageRequests))))

theorem spent_hostAnswers (h : Spent s) {a : HostAnswer} : Spent (hostAnswers a s) := by
  refine spent_ite (spent_modDma h) ?_
  cases a
  · exact spent_translationCompletes h
  · exact spent_pageResponds h

theorem spent_takeKept (h : Spent s) : Spent (takeKept s) :=
  spent_ite h (spent_foldl (spent_modDma h) (fun _ h => spent_hostAnswers h) _)

theorem spent_cancelTag (h : Spent s) {tag : Nat} : Spent (cancelTag tag s) := by
  refine spent_ite h (spent_ite (spent_modArc h ?_) (spent_foldl (spent_modArc h ?_) (fun {t} e h => ?_) _))
  · rfl
  · rfl
  · split
    · exact spent_ite (spent_completeAtOnce h) h
    · exact h

theorem spent_takeCancels (h : Spent s) : Spent (takeCancels s) := by
  refine spent_ite h (spent_foldl (spent_modArc h ?_) (fun _ h => spent_cancelTag h) _)
  rfl
end

section
variable {s : State}

/-! ### The REBOOT and the mailbox -/

theorem spent_startFirmware : Spent (startFirmware s) := by
  unfold startFirmware
  dsimp only
  split
  · exact spent_set_mark (by decide)
  · exact spent_with_apex (spent_set (spent_set (spent_set_mark (by decide))))

theorem spent_enterReset {k : ResetKind} : Spent (enterReset k s) := by
  unfold enterReset
  refine spent_ite (spent_pend ?_) ?_ <;> exact spent_set_mark (by decide)

theorem spent_release (h : Spent s) : Spent (release s) := spent_ite h spent_startFirmware

theorem spent_reboot : Spent (reboot s) := spent_release spent_enterReset

theorem spent_settleReboot (h : Spent s) : Spent (settleReboot s) := spent_ite spent_reboot h

theorem spent_askReboot (h : Spent s) : Spent (askReboot s) := spent_ite (spent_with_apex h) spent_reboot

theorem spent_answer {c : Cmd} {status d0 d1 : Nat} : Spent (answer c status d0 d1 s) := spent_respond

theorem spent_answerQueued {c : Cmd} : Spent (answerQueued c s) := spent_respond

theorem spent_drainComplete (h : Spent s) : Spent (drainComplete s) :=
  spent_ite h (spent_foldl (spent_acqModeChange spent_enterMode) (fun _ h => spent_finishJob h) _)

theorem spent_doGoIdle {c : Cmd} : Spent (doGoIdle c s) := by
  refine spent_ite spent_answer (spent_drainComplete ?_)
  have gone : Spent (letAllGo (modArc (fun a => { a with drain := 1 }) (answerQueued c s))) :=
    spent_letAllGo (spent_modArc spent_answerQueued rfl)
  exact spent_ite (spent_with_apex (spent_set gone)) gone

theorem spent_claimGroup (h : Spent s) {t : Nat} {g : Option Nat} {u : State} (e : claimGroup t s = (g, u)) : Spent u := by
  unfold claimGroup at e
  dsimp only at e
  split at e <;> cases e
  · exact spent_countSat h
  · exact spent_of_same h rfl rfl

theorem spent_readWhole (h : Spent s) {a v : Nat} {r : Option RegRow} {u : State} (e : readWhole a r s = (v, u)) : Spent u := by
  unfold readWhole at e
  dsimp only at e
  split_ifs at e <;> cases e <;> exact h

theorem spent_clearRc (h : Spent s) {a : Nat} {r : RegRow} : Spent (clearRc a r s) :=
  spent_foldl h (fun _ h => spent_ite (spent_set h) h) _

theorem spent_setLatch (h : Spent s) {p : Path} {x : Option (Nat × Nat)} : Spent (setLatch p x s) := h

theorem spent_readDword (h : Spent s) {p : Path} {a be v : Nat} {u : State} (e : readDword p a be s = (v, u)) : Spent u := by
  have told : ∀ {t : State}, Spent t → Spent (match indexIn (FCL_HIST 0) 16 16 a with
      | some i => historyRead i t
      | none => t) := by
    intro t h
    split
    · exact spent_modFcl h
    · exact h
  unfold readDword at e
  split at e
  · split at e
    · dsimp only at e
      split_ifs at e <;> cases e
      · exact spent_setLatch h
      · exact spent_readWhole h rfl
    · cases e
      exact spent_readWhole h rfl
  · split at e
    · dsimp only at e
      split_ifs at e <;> cases e
      · exact spent_claimGroup h rfl
      · exact h
    · dsimp only at e
      split_ifs at e <;> cases e
      · exact spent_readWhole h rfl
      · exact told (spent_setLatch (spent_readWhole h rfl))
      · exact told (spent_readWhole h rfl)
      · exact told (spent_clearRc (spent_readWhole h rfl))
  · exact spent_readWhole h e

theorem spent_checkRegs (es : List (Nat × Nat)) (h : Spent s) : Spent (checkRegs es s).2 := by
  fun_induction checkRegs es s with
  | case1 => exact h
  | case2 => exact h
  | case3 _ _ _ _ _ _ e => exact spent_readDword h e
  | case4 => exact h
  | case5 _ _ _ _ _ _ _ _ _ e => exact spent_readDword h e
  | case6 _ _ _ _ _ _ _ _ _ e _ _ _ _ e' _ ih => exact ih (spent_readDword (spent_readDword h e) e')
  | case7 _ _ _ _ _ _ _ _ _ e _ _ _ _ e' => exact spent_readDword (spent_readDword h e) e'
  | case8 _ _ _ _ _ _ _ _ _ e => exact spent_readDword h e
  | case9 _ _ _ _ _ _ _ _ _ e _ _ _ ih => exact ih (spent_readDword h e)

theorem spent_verifyProfile (h : Spent s) {n : Nat} : Spent (verifyProfile n s).2.2.2 := by
  unfold verifyProfile
  split
  · exact h
  · dsimp only
    split_ifs
    · exact h
    · exact h
    · split
      · exact h
      · split_ifs
        · exact h
        · exact spent_checkRegs _ h
        · exact spent_checkRegs _ h

theorem spent_selectProfile (h : Spent s) {n : Nat} : Spent (selectProfile n s).2 := by
  have verified := spent_verifyProfile h (n := n)
  unfold selectProfile
  generalize verifyProfile n s = r at verified
  obtain ⟨result, c, ss, u⟩ := r
  dsimp only at verified ⊢
  split_ifs
  · exact verified
  · exact verified
  · exact verified
  · exact spent_set_mark (by decide)
  · exact spent_set_mark (by decide)

theorem spent_doSelectProfile {c : Cmd} : Spent (doSelectProfile c s) := by
  unfold doSelectProfile
  dsimp only
  exact spent_finishJob (spent_selectProfile spent_answerQueued)

theorem spent_startSeal (h : Spent s) {l : Lot} {reason : Nat} {c : Option Cmd} : Spent (startSeal l reason c s) := spent_set (spent_with_apex h)

theorem spent_doSeal {c : Cmd} : Spent (doSeal c s) := by
  refine spent_ite (spent_finishJob (spent_set (spent_set (spent_set (spent_with_apex spent_answerQueued))))) ?_
  split
  · exact spent_finishJob spent_answerQueued
  · refine spent_ite (spent_startSeal spent_answerQueued) (spent_set (spent_with_apex (spent_startSeal spent_answerQueued)))

theorem spent_putRegBytes (n : Nat) (h : Spent s) {a : Nat} {bs : List Byte} : Spent (putRegBytes a n bs s) := by
  induction n generalizing s a bs with
  | zero => exact h
  | succ n ih =>
    cases bs with
    | nil => exact h
    | cons b bs => exact ih (spent_setReg h)

theorem spent_doAttest {c : Cmd} : Spent (doAttest c s) := by
  unfold doAttest
  dsimp only
  refine spent_pend (spent_finishJob (spent_putRegBytes _ ?_))
  exact spent_of_same spent_answerQueued rfl rfl

theorem spent_perform (h : Spent s) {c : Cmd} : Spent (perform c s) := by
  unfold perform
  refine spent_ite spent_answer ?_
  split
  · exact spent_answer
  · exact spent_doGoIdle
  · exact spent_answer
  · exact spent_answer
  · exact spent_answer
  · exact spent_answer
  · exact spent_answer
  · exact spent_ite spent_answer (spent_ite spent_answer spent_answer)
  · exact spent_doSelectProfile
  · exact spent_askReboot h
  · exact spent_queueCal
  · exact spent_queueCal
  · exact spent_setNvmq
  · exact spent_setNvmq
  · exact spent_queueCal
  · exact spent_doSeal
  · exact spent_doAttest

theorem spent_serve (h : Spent s) {c : Cmd} : Spent (serve c s) := by
  unfold serve
  split
  · exact spent_answer
  · exact spent_perform h

theorem spent_serveAll (cs : List Cmd) (h : Spent s) : Spent (serveAll cs s) := by
  induction cs generalizing s with
  | nil => exact h
  | cons c cs ih => exact spent_ite h (ih (spent_serve h))

theorem spent_serveMailbox (h : Spent s) : Spent (serveMailbox s) := spent_ite h (spent_serveAll _ (spent_with_apex h))

/-! ### The rounds -/

theorem spent_settleAlert (h : Spent s) : Spent (settleAlert s) := h

theorem spent_refreshQuiet (h : Spent s) : Spent (refreshQuiet s) := spent_ite h (spent_withLevel (spent_set_mark (by decide)))

theorem spent_settleOnce (h : Spent s) : Spent (settleOnce s) :=
  spent_refreshQuiet (spent_serveMailbox (spent_settleReboot (spent_settleAlert (spent_takeCancels (spent_takeKept (spent_judgeHolds
    (spent_settleFaults 256 (spent_takePmuEnds h))))))))

theorem spent_settleRounds (n : Nat) (h : Spent s) : Spent (settleRounds n s) := by
  induction n generalizing s with
  | zero => exact h
  | succ n ih => exact spent_ite h (ih (spent_settleOnce h))

theorem spent_leave (h : Spent s) {t : State} : Spent (leave t s) := spent_settleRounds 4 h
end

end Sys2Proof.Machine
end

section
/-!
PROOFS. The statement about late starts and holds (R196).
-/

namespace Sys2Proof.Machine
open Sys2Proof.Reg

/-- The state that the withdrawal gives. -/
def reissued : State := leave lateState (byArc (startWithdraw 0) (lateState.tick 0))

theorem lateState_boundary : (lateState.tick 0).chordBoundary 0 (lateState.tick 0).leadTime = 65536 := by decide

set_option maxRecDepth 8000 in
/-- The start is on the grid of the new ANCHOR, and no register of `lateMarks` has been written. -/
theorem reissued_moved : (reissued.chord 0).phase.map BusPhase.start = some 65636 ∧
    ∀ a ∈ lateMarks, inOrder a reissued.regs = false ∧ Store.find rstWord reissued.regs a = Store.find rstWord lateRegs a := by
  decide

theorem reissued_not_spent : ¬ Spent reissued := by
  obtain ⟨moved, still⟩ := reissued_moved
  rintro (⟨a, mark, stirred⟩ | other)
  · obtain ⟨order, same⟩ := still a mark
    exact stirred.elim (fun h => by simp [order] at h) fun h => h same
  · obtain ⟨q, hq, start⟩ := Option.map_eq_some_iff.1 moved
    exact other q hq start

/-- Refutes O34: where the withdrawal of an ARMED ray ends its facet's phase, an ANCHOR that waited comes into use, and the start that is
reissued is on the grid of that ANCHOR. What follows of itself moves no start, so no state with the start that is claimed leads there. -/
theorem not_lateStartsAndHolds : ¬ Obligations.LateStartsAndHolds := by
  unfold Obligations.LateStartsAndHolds
  rintro ⟨withdraw, -⟩
  obtain ⟨-, late⟩ := withdraw lateState 0 0 (by decide) (by decide)
  obtain ⟨-, anew⟩ := late lateStart (by decide)
  obtain ⟨t, ⟨gives, -⟩, start, -⟩ := anew (by decide) (by decide) (by decide)
  have spent : Spent t := .inr fun q hq => by
    obtain rfl := Option.some.inj (start.symm.trans hq)
    rw [lateState_boundary]
    decide
  have left : reissued = leave lateState t := Host.Outcome.next.inj gives
  exact reissued_not_spent (left ▸ spent_leave spent)

end Sys2Proof.Machine
end

section
/-!
SUPPORT. Records that are handed over to the rings (R286 to R300, R424): what a handover may alter of the state, and that it leaves the slots of
Lattice, Arc's book and the registers of ARC and LAT but the record numbers.
-/

namespace Sys2Proof.Machine
open Sys2Proof.Reg

/-- `t` is `s` but for registers below those of ARC and from LAT_FSEQ up, what the interrupt controller, the DMA engine and Apex hold, what
has been sent, and the vertices of whose operations a fail record was lost: all that records that are handed over may alter. -/
structure Delivers (s t : State) : Prop where
  rest : t = { s with regs := t.regs, icl := t.icl, dma := t.dma, apex := t.apex, sent := t.sent, free := t.free
                      lat := { s.lat with lossy := t.lat.lossy } }
  regs : ∀ a, 0x300000 ≤ a → a < 0x450000 → t.reg a = s.reg a

namespace Delivers

variable {r s t : State}

theorem refl (s : State) : Delivers s s := ⟨rfl, fun _ _ _ => rfl⟩

theorem trans (h : Delivers r s) (k : Delivers s t) : Delivers r t := by
  refine ⟨k.rest.trans ?_, fun a lo hi => (k.regs a lo hi).trans (h.regs a lo hi)⟩
  rw [h.rest]

theorem get (h : Delivers s t) {f : Fld} (lo : 0x300000 ≤ f.addr) (hi : f.addr < 0x450000) : t.get f = s.get f :=
  State.get_of_reg (h.regs _ lo hi)

theorem arc (h : Delivers s t) : t.arc = s.arc := by rw [h.rest]

theorem slots (h : Delivers s t) : t.lat.slots = s.lat.slots := by rw [h.rest]

theorem slot (h : Delivers s t) (v : Nat) : t.slot v = s.slot v := by rw [State.slot, h.slots, State.slot]

theorem op (h : Delivers s t) (v : Nat) : t.op v = s.op v := by rw [State.op, h.arc, State.op]

end Delivers

section
variable {r s t : State}

theorem delivers_ite {c : Prop} [Decidable c] (hs : Delivers r s) (ht : Delivers r t) : Delivers r (if c then s else t) := by
  split_ifs
  · exact hs
  · exact ht

theorem delivers_foldl {α : Type} {g : State → α → State} (h : Delivers r s) (hg : ∀ {t} x, Delivers r t → Delivers r (g t x))
    (xs : List α) : Delivers r (xs.foldl g s) := by
  induction xs generalizing s with
  | nil => exact h
  | cons x xs ih => exact ih (hg x h)

theorem delivers_with_dma (h : Delivers r s) {d : DmaState} : Delivers r { s with dma := d } := h.trans ⟨rfl, fun _ _ _ => rfl⟩

theorem delivers_with_free (h : Delivers r s) {n : Nat} : Delivers r { s with free := n } := h.trans ⟨rfl, fun _ _ _ => rfl⟩

theorem delivers_with_apex (h : Delivers r s) {a : ApexState} : Delivers r { s with apex := a } := h.trans ⟨rfl, fun _ _ _ => rfl⟩

theorem delivers_lossy (h : Delivers r s) {m : Store Bool} : Delivers r { s with lat := { s.lat with lossy := m } } :=
  h.trans ⟨rfl, fun _ _ _ => rfl⟩

theorem delivers_send (h : Delivers r s) {m : Msg} : Delivers r (s.send m) := h.trans ⟨rfl, fun _ _ _ => rfl⟩

/-! ## Registers and signals -/

theorem delivers_set (h : Delivers r s) {f : Fld} {v : Nat} (outside : f.addr < 0x300000 ∨ 0x450000 ≤ f.addr := by decide) :
    Delivers r (s.set f v) :=
  h.trans ⟨rfl, fun a lo hi => State.reg_set_ne s f v (by omega)⟩

theorem delivers_signalSet (h : Delivers r s) {m : Nat} : Delivers r (signalSet m s) := by
  have pba : DMA_MSIX_PBA 0 < 0x300000 := by decide
  obtain ⟨_, _, _, changed⟩ := signals_signalSet m s
  refine h.trans ⟨by rw [changed], fun a lo _ => (keeps_signalSet m s).reg ?_⟩
  rw [List.mem_singleton]
  omega

theorem delivers_withGroup {g : Nat} {f : State → State} (h : Delivers r (f s)) : Delivers r (withGroup g f s) := delivers_signalSet h

theorem delivers_pend (h : Delivers r s) {n : Nat} (source : n < 512 := by decide) : Delivers r (pend n s) :=
  delivers_ite (delivers_withGroup (delivers_set h (.inl (by simp only [ICL_PEND]; omega)))) h

/-! ## Pages and translations -/

theorem delivers_setFree (h : Delivers r s) {n : Nat} : Delivers r (setFree n s) :=
  delivers_withGroup (delivers_set (delivers_ite (delivers_set (delivers_set h)) (delivers_ite (delivers_set (delivers_set h)) (delivers_set h))))

theorem delivers_takePages (h : Delivers r s) {k p : Nat} (taken : takePages k s = some (p, t)) : Delivers r t := by
  simp only [takePages, Option.ite_none_left_eq_some, Option.some.injEq, Prod.mk.injEq] at taken
  obtain ⟨-, -, rfl⟩ := taken
  exact delivers_setFree (delivers_with_dma (delivers_with_free h))

theorem delivers_modSpillPage (h : Delivers r s) {p : Nat} {v : SpillPage} : Delivers r (modSpillPage p v s) := delivers_with_dma h

theorem delivers_countSpillPages (h : Delivers r s) : Delivers r (countSpillPages s) := delivers_set h

theorem delivers_spillRoom (h : Delivers r s) {len p : Nat} (room : spillRoom len s = some (p, t)) : Delivers r t := by
  have fresh {q : Nat} {u : State} (taken : takePages 1 s = some (q, u)) :
      Delivers r (countSpillPages (modSpillPage q ⟨len, 1⟩ { u with dma := { u.dma with spillPage := some q } })) :=
    delivers_countSpillPages (delivers_modSpillPage (delivers_with_dma (delivers_takePages h taken)))
  unfold spillRoom at room
  dsimp only at room
  split at room
  · split_ifs at room
    · cases room
      exact delivers_modSpillPage h
    · split at room
      · cases room
      next taken =>
        cases room
        exact fresh taken
  · split at room
    · cases room
    next taken =>
      cases room
      exact fresh taken

theorem delivers_sendTranslations (h : Delivers r s) : Delivers r (sendTranslations s) :=
  delivers_ite h (delivers_foldl h (fun _ h => delivers_ite h (delivers_send (delivers_with_dma h))) _)

theorem delivers_cacheLookup (h : Delivers r s) {page : Nat} {write b : Bool} (e : cacheLookup page write s = (b, t)) : Delivers r t := by
  rw [cacheLookup] at e
  split at e
  · cases e
    exact h
  · cases e
    exact delivers_with_dma h

theorem delivers_translate (h : Delivers r s) {who : Requester} {addr : Nat} {write b : Bool} (e : translate who addr write s = (b, t)) :
    Delivers r t := by
  rw [translate] at e
  split_ifs at e
  · cases e
    exact h
  · split at e
    next found =>
      cases e
      exact delivers_cacheLookup h found
    next missing =>
      have kept := delivers_cacheLookup h missing
      dsimp only at e
      split_ifs at e
      · cases e
        exact kept
      · cases e
        exact delivers_sendTranslations (delivers_with_dma kept)

/-! ## Rings -/

theorem delivers_modRing (h : Delivers r s) {n : Nat} {g : RingState → RingState} : Delivers r (modRing n g s) := delivers_with_dma h

theorem delivers_writeBack (h : Delivers r s) {n : Nat} : Delivers r (writeBack n s) := by
  refine delivers_ite h (delivers_ite (delivers_modRing h) ?_)
  split
  next e => exact delivers_modRing (delivers_send (delivers_translate h e))
  next e => exact delivers_modRing (delivers_translate h e)

/-! ## Records -/

theorem delivers_chainRecord (h : Delivers r s) {data : List Byte} : Delivers r (chainRecord data s) := by
  unfold chainRecord
  split
  · exact h
  · have counted {l : Lot} : Delivers r (({ s with apex := { s.apex with lot := some l } } : State).count APX_LOT_COUNT_COUNT 1) :=
      delivers_set (delivers_with_apex h)
    exact delivers_ite (delivers_ite (delivers_set counted) (delivers_set (delivers_with_apex counted))) counted

theorem delivers_loseWaiting (h : Delivers r s) {v : Nat} {x : Rec} : Delivers r (loseWaiting v x s) :=
  delivers_ite h (delivers_ite (delivers_lossy h) (delivers_modRing (delivers_modRing h)))

section
variable {n : Nat} (hn : n < 16384)
include hn

/-- The registers that a ring's state shows in stand below those of ARC. -/
theorem delivers_setRing (h : Delivers r s) {f : Fld} {v : Nat}
    (ring : f.addr ∈ [RNG_STAT n, RNG_SPILLED n, RNG_PARK_INDEX n, RNG_PARK_AT n, RNG_PARKS n, RNG_LOST n] := by simp) :
    Delivers r (s.set f v) := by
  refine delivers_set h (.inl ?_)
  simp only [RNG_STAT, RNG_SPILLED, RNG_PARK_INDEX, RNG_PARK_AT, RNG_PARKS, RNG_LOST, List.mem_cons, List.not_mem_nil, or_false] at ring
  omega

theorem delivers_loseRecord (h : Delivers r s) : Delivers r (loseRecord n s) := by
  have counted : Delivers r (((s.countSat (RNG_LOST_COUNT n) 1).countSat DMA_LOST_RECS_COUNT 1).raise (RNG_STAT_LOSS n)) :=
    delivers_setRing hn (delivers_set (delivers_setRing hn h))
  exact delivers_ite (delivers_modRing counted) counted

theorem delivers_discardRecord (h : Delivers r s) : Delivers r (discardRecord n s) :=
  delivers_setRing hn (delivers_set (delivers_setRing hn h))

theorem delivers_spillRecord (h : Delivers r s) {x : Rec} {b : Bool} (e : spillRecord n x s = (b, t)) : Delivers r t := by
  unfold spillRecord at e
  dsimp only at e
  split at e
  next room =>
    cases e
    exact delivers_setRing hn (delivers_modRing (delivers_spillRoom h room))
  next =>
    split_ifs at e
    · cases e
      exact delivers_set (delivers_setRing hn (delivers_modRing h))
    · cases e
      exact delivers_loseRecord hn h

theorem delivers_spillQueue (h : Delivers r s) : Delivers r (spillQueue n s) := by
  refine delivers_foldl (delivers_modRing h) (fun {t} x h => ?_) _
  split
  next e => exact delivers_spillRecord hn h e
  next e =>
    have spilled := delivers_spillRecord hn h e
    exact delivers_ite (delivers_loseWaiting spilled) spilled

theorem delivers_parkRing (h : Delivers r s) {cause : Nat} : Delivers r (parkRing n cause s) := by
  refine delivers_ite (delivers_modRing (delivers_setRing hn (delivers_setRing hn h))) ?_
  refine delivers_writeBack (delivers_spillQueue hn (delivers_pend ?_))
  exact delivers_setRing hn (delivers_setRing hn (delivers_setRing hn (delivers_setRing hn (delivers_setRing hn h))))

theorem delivers_unparkRing (h : Delivers r s) : Delivers r (unparkRing n s) :=
  delivers_writeBack (delivers_pend (delivers_setRing hn (delivers_setRing hn (delivers_setRing hn h))))

theorem delivers_startTransfer (h : Delivers r s) : Delivers r (startTransfer n s) := by
  refine delivers_ite h (delivers_ite h ?_)
  split
  · exact delivers_ite (delivers_unparkRing hn h) h
  · refine delivers_ite (delivers_parkRing hn h) (delivers_ite (delivers_modRing h) (delivers_ite h ?_))
    split
    next e => exact delivers_modRing (delivers_send (delivers_translate h e))
    next e => exact delivers_modRing (delivers_translate h e)

theorem delivers_handover (h : Delivers r s) {data : List Byte} {b : Bool} (e : handover n data s = (b, t)) : Delivers r t := by
  have chained : Delivers r (if n % 4 = 1 ∨ n % 4 = 2 then chainRecord data s else s) := delivers_ite (delivers_chainRecord h) h
  unfold handover at e
  dsimp only at e
  generalize (if n % 4 = 1 ∨ n % 4 = 2 then chainRecord data s else s) = u at e chained
  split_ifs at e
  · cases e
    exact delivers_pend (delivers_discardRecord hn chained)
  · generalize spilt : spillRecord n _ u = answer at e
    cases e
    exact delivers_startTransfer hn (delivers_spillRecord hn chained spilt)
  · cases e
    exact delivers_startTransfer hn (delivers_modRing chained)

end

theorem delivers_failRecord (h : Delivers r s) {v : Nat} (hv : v < 4096) {tag kind info flags at_ : Nat} {body : List Byte} :
    Delivers r (failRecord v tag kind info flags at_ body s) := by
  have ring : 4 * v + 2 < 16384 := by omega
  have numbered : Delivers r (s.count (LAT_FSEQ_FSEQ v) 1) := delivers_set h (.inr (by simp only [LAT_FSEQ]; omega))
  unfold failRecord
  dsimp only
  split
  next answer => exact delivers_handover ring numbered answer
  next answer =>
    have handed := delivers_handover ring numbered answer
    exact delivers_ite handed (delivers_lossy handed)

end

end Sys2Proof.Machine
end

section
/-!
SUPPORT. Lattice's accounting (R216 to R228): reading after writing of its slots, what it does where it stands still, the merger, and what
an event leaves in the slot that it is accounted to.
-/

namespace Sys2Proof.Machine
open Sys2Proof.Reg

/-! ## What Lattice holds is no register -/

theorem keeps_modLat (as : List Nat) (g : LatState → LatState) (s : State) : Keeps as s (modLat g s) :=
  ⟨fun _ _ => rfl, rfl, rfl, rfl, rfl, rfl⟩

theorem keeps_setSlot (as : List Nat) (v : Nat) (x : Option Slot) (s : State) : Keeps as s (setSlot v x s) := keeps_modLat as _ s

@[simp] theorem slot_setSlot (v : Nat) (x : Option Slot) (s : State) : (setSlot v x s).slot v = x := Store.find_put_self ..

@[simp] theorem fct_setSlot (v : Nat) (x : Option Slot) (s : State) (f : Nat) : (setSlot v x s).fct f = s.fct f := rfl

theorem slot_modLat {g : LatState → LatState} {s : State} (h : (g s.lat).slots = s.lat.slots) (v : Nat) : (modLat g s).slot v = s.slot v := by
  rw [State.slot, modLat_lat, h, State.slot]

theorem modSlot_some {s : State} {v : Nat} {x : Slot} (h : s.slot v = some x) (g : Slot → Slot) :
    modSlot v g s = setSlot v (some (g x)) s := by
  rw [modSlot, h]

theorem slot_pend (n : Nat) (s : State) (v : Nat) : (pend n s).slot v = s.slot v := by
  obtain ⟨_, _, _, changed⟩ := signals_pend n s
  rw [changed]
  rfl

/-! ## The merger (R216) -/

/-- Where no window has ended, the merger stays as it is. -/
theorem endWindows_open {s : State} {all : Option Nat} (h : ∀ x ∈ s.lat.merging, s.elapsed ≤ x.2 + 64 * 256 ∧ all ≠ some x.1.vertex)
    (ecc : LatEcc) : endWindows all ecc s = s := by
  have ended : s.lat.merging.filter (fun x => x.2 + 64 * 256 < s.elapsed || all = some x.1.vertex) = [] :=
    List.filter_eq_nil_iff.2 fun x hx => by
      obtain ⟨early, other⟩ := h x hx
      simp [Nat.not_lt.2 early, other]
  have stays : s.lat.merging.filter (fun x => !(x.2 + 64 * 256 < s.elapsed || all = some x.1.vertex)) = s.lat.merging :=
    List.filter_eq_self.2 fun x hx => by simpa using List.filter_eq_nil_iff.1 ended x hx
  simp only [endWindows, ended, stays, modLat, List.map_nil, List.append_nil, List.foldl_nil]

theorem endWindows_none {s : State} (h : s.lat.merging = []) (all : Option Nat) (ecc : LatEcc) : endWindows all ecc s = s :=
  endWindows_open (by simp [h]) ecc

/-- The event whose window has ended leaves the merger and is accounted. -/
theorem endWindows_ended {s : State} {e : FailEvent} {at_ : Nat} (h : s.lat.merging = [(e, at_)]) (ended : at_ + 64 * 256 < s.elapsed)
    (ecc : LatEcc) : endWindows none ecc s =
      accountEvent e ecc (modLat (fun l => { l with merging := [], taken := l.taken ++ [e.key] }) s) := by
  simp [endWindows, h, ended, modLat]

/-- An event of a chord within one facet is accounted as it comes. -/
theorem ingest_alone {s : State} {e : FailEvent} (h : (s.chordRays (s.chordOf e.vertex)).length ≤ 1) (ecc : LatEcc) :
    ingest e ecc s = accountEvent e ecc s := if_pos h

/-- The first event of its key opens a merge window. -/
theorem ingest_first {s : State} {e : FailEvent} (h : 1 < (s.chordRays (s.chordOf e.vertex)).length) (none : s.lat.merging = [])
    (first : e.key ∉ s.lat.taken) (ecc : LatEcc) : ingest e ecc s = modLat (fun l => { l with merging := [(e, s.elapsed)] }) s := by
  rw [ingest, if_neg (by omega), endWindows_none none]
  simp only [none, List.any_nil, first, if_false, Bool.false_eq_true, modLat, List.nil_append]

/-! ## The facets' queues (R217, R218) -/

section
variable {s : State} {f : Nat}

theorem failArrives_stopped (h : s.latticeStopped = true) (ecc : LatEcc) : failArrives f ecc s = s := if_pos h

theorem markerArrives_stopped (h : s.latticeStopped = true) : markerArrives f s = s := if_pos h

/-- The oldest item of facet `f`'s queue is taken. -/
def takeItem (f : Nat) (q : List HubItem) (s : State) : State := modFct f (fun x => { x with queue := q }) s

theorem failArrives_event {e : FailEvent} {q : List HubItem} (runs : s.latticeStopped = false) (h : (s.fct f).queue = .event e :: q)
    (ecc : LatEcc) : failArrives f ecc s = ingest e ecc (takeItem f q s) := by
  simp only [failArrives, runs, h, Bool.false_eq_true, if_false]
  rfl

theorem failArrives_marker {g serial : Nat} {lost : List (Nat × Nat)} {q : List HubItem} (h : (s.fct f).queue = .marker g serial lost :: q)
    (ecc : LatEcc) : failArrives f ecc s = s := by
  simp only [failArrives, h, ite_self]

theorem markerArrives_event {e : FailEvent} {q : List HubItem} (h : (s.fct f).queue = .event e :: q) : markerArrives f s = s := by
  simp only [markerArrives, h, ite_self]

/-- Facet `f` is no longer awaited by a slot whose last phase has the number `serial`. -/
def Slot.heard (f serial : Nat) (x : Slot) : Slot := if x.serial = serial then { x with waiting := x.waiting.filter fun g => g ≠ f } else x

/-- A marker that names one vertex. -/
theorem markerArrives_one {g serial v n : Nat} {q : List HubItem} (runs : s.latticeStopped = false)
    (h : (s.fct f).queue = .marker g serial [(v, n)] :: q) :
    markerArrives f s = modSlot v (Slot.heard f serial) (countLost v n serial (takeItem f q s)) := by
  simp only [markerArrives, runs, h, Bool.false_eq_true, if_false, List.foldl_cons, List.foldl_nil]
  rfl

end

theorem countLost_zero (v serial : Nat) (s : State) : countLost v 0 serial s = s := if_pos rfl

/-- Events lost of a vertex count, and mark its open slot unless it is of a later attempt. -/
theorem countLost_some {s : State} {v n serial : Nat} {x : Slot} (h : s.slot v = some x) (some : n ≠ 0) (now : x.from_ ≤ serial) :
    countLost v n serial s = setSlot v (.some { x with loss := true, lost := min (2 ^ 32 - 1) (x.lost + n) })
      (pend 289 (s.countSat LAT_LOST_COUNT n)) := by
  have slot : (pend 289 (s.countSat LAT_LOST_COUNT n)).slot v = .some x := (slot_pend 289 _ v).trans h
  rw [countLost, if_neg some]
  dsimp only
  rw [modSlot_some slot, if_neg (by omega)]

theorem keeps_pendLost (n : Nat) (s : State) : Keeps [LAT_LOST, ICL_PEND 18, DMA_MSIX_PBA 0] s (pend 289 (s.countSat LAT_LOST_COUNT n)) :=
  (keeps_set s _ (by simp)).trans ((keeps_pend 289 _).mono (by simp))

theorem get_pendLost (n : Nat) (s : State) :
    (pend 289 (s.countSat LAT_LOST_COUNT n)).get LAT_LOST_COUNT = min (2 ^ 32 - 1) (s.get LAT_LOST_COUNT + n) := by
  rw [(keeps_pend 289 _).get (by decide), State.get_countSat _ _ _ (by decide)]

theorem fct_pendLost (n f : Nat) (s : State) : (pend 289 (s.countSat LAT_LOST_COUNT n)).fct f = s.fct f := by
  rw [fct_pend, State.countSat, fct_set]

/-! ## Accounting (R218, R222 to R228) -/

theorem accountEvent_ignored {s : State} {e : FailEvent} (h : s.slot e.vertex = none) (ecc : LatEcc) :
    accountEvent e ecc s = s.countSat LAT_IGNORED_COUNT 1 := by
  rw [accountEvent, h]

/-- An event of the present attempt of a slot that is not OFF. -/
theorem accountEvent_open {s : State} {e : FailEvent} {x : Slot} (h : s.slot e.vertex = some x) (kind : e.kind < 2) (on : x.mode ≠ 0)
    (now : x.from_ ≤ e.serial) (ecc : LatEcc) :
    accountEvent e ecc s = setSlot e.vertex (some (accountTo e.vertex e ecc x s).1) (accountTo e.vertex e ecc x s).2 := by
  rw [accountEvent, h]
  dsimp only
  rw [if_neg (by omega), if_neg (by omega)]

/-- The slot as every event that is accounted to it leaves it, whatever its MODE (R218). -/
def Slot.noted (x : Slot) (e : FailEvent) : Slot :=
  { x with events := min (2 ^ 32 - 1) (x.events + 1)
           bits := min (2 ^ 32 - 1) (x.bits + (setBits 22 e.mask).length)
           first := x.first.orElse fun _ => some e.vcount }

/-- What follows once an event has been taken by its slot's MODE: CTRL, and a LOG record while there are some left (R228). -/
def logTaken (v : Nat) (e : FailEvent) (r : Taken × State) : Slot × State :=
  let x := { r.1.slot with ctrl := r.1.slot.ctrl || r.1.ctrl }
  if x.logged < bitsAt x.word 5 5 then
    let x := { x with logged := x.logged + 1 }
    (x, logFail v e { r.1 with slot := x } r.2)
  else (x, r.2)

theorem logTaken_full {r : Taken × State} (full : bitsAt r.1.slot.word 5 5 ≤ r.1.slot.logged) (v : Nat) (e : FailEvent) :
    logTaken v e r = ({ r.1.slot with ctrl := r.1.slot.ctrl || r.1.ctrl }, r.2) := if_neg (Nat.not_lt.2 full)

/-- In MODE LOG, with no record left to write, an event counts and no more. -/
theorem accountTo_log {x : Slot} (log : x.mode = 3) (full : bitsAt x.word 5 5 ≤ x.logged) (v : Nat) (e : FailEvent) (s : State) :
    accountTo v e .good x s = (x.noted e, s.countSat LAT_EVENTS_COUNT 1) := by
  have taken : accountTo v e .good x s = logTaken v e (⟨x.noted e, false, none, 0⟩, s.countSat LAT_EVENTS_COUNT 1) := by
    unfold accountTo
    simp only [reduceCtorEq, if_false, log, Nat.reduceEqDiff]
    rfl
  rw [taken, logTaken_full full, Bool.or_false]

/-- Counting fail bits changes the counts and FOLD alone. -/
theorem countBits_eq (ps : List Place) (x : Slot) : ∃ counts fold, countBits ps x = { x with counts := counts, fold := fold } := by
  unfold countBits
  induction ps generalizing x with
  | nil => exact ⟨x.counts, x.fold, rfl⟩
  | cons p ps ih =>
    obtain ⟨counts, fold, counted⟩ := ih { x with
      counts := x.counts.set (min p.cw 63) (min 65535 (x.counts.getD (min p.cw 63) 0 + 1)), fold := x.fold || decide (63 < p.cw) }
    exact ⟨counts, fold, counted⟩

/-- The places in its codewords of the page bytes at which an event fails (R223). -/
def State.places (s : State) (x : Slot) (e : FailEvent) : List Place :=
  (x.pageBits e).filterMap fun b =>
    codewordOf x.layout (s.mapGet (ARC_DT2_PAGE_BYTES x.die)) (s.mapGet (ARC_DT3_CW_DATA x.die)) (s.mapGet (ARC_DT3_CW_SPARE x.die)) b

/-- Without the column map an event in PAGE mode counts in codewords; a fail bit beside them all sets CTRL. -/
theorem accountPage_unmapped {x : Slot} (unmapped : x.word.testBit 2 = false) (v : Nat) (e : FailEvent) (s : State) :
    ∃ pos cw, accountPage v e .good x s =
      (⟨countBits (s.places x e) x, decide ((s.places x e).length < (setBits 22 e.mask).length), pos, cw⟩, s) := by
  simp only [accountPage, unmapped, Bool.false_and, Bool.false_eq_true, if_false, List.foldl_nil]
  exact ⟨_, _, rfl⟩

theorem accountTo_page {x : Slot} (page : x.mode = 1) (unmapped : x.word.testBit 2 = false) (full : bitsAt x.word 5 5 ≤ x.logged) (v : Nat)
    (e : FailEvent) (s : State) :
    accountTo v e .good x s =
      let z := countBits (s.places x e) (x.noted e)
      ({ z with ctrl := z.ctrl || decide ((s.places x e).length < (setBits 22 e.mask).length) }, s.countSat LAT_EVENTS_COUNT 1) := by
  obtain ⟨pos, cw, answer⟩ := accountPage_unmapped (x := x.noted e) unmapped v e (s.countSat LAT_EVENTS_COUNT 1)
  obtain ⟨counts, fold, counted⟩ := countBits_eq (s.places x e) (x.noted e)
  have taken : accountTo v e .good x s = logTaken v e (accountPage v e .good (x.noted e) (s.countSat LAT_EVENTS_COUNT 1)) := by
    unfold accountTo
    simp only [reduceCtorEq, if_false, page, if_true]
    rfl
  have same : (s.countSat LAT_EVENTS_COUNT 1).places (x.noted e) e = s.places x e := rfl
  rw [taken, answer, same, logTaken_full]
  rw [counted]
  exact full

end Sys2Proof.Machine
end

section
/-!
SUPPORT. The end of an operation in Lattice and in Arc (R193, R208, R218, R224, R237): the verdict of a close, the SUMMARY record, and the
result record.
-/

namespace Sys2Proof.Machine
open Sys2Proof.Reg

/-! ## The verdict (R224) -/

section
variable {s : State} {v : Nat} {x : Slot} (slot : s.slot v = some x)
include slot

/-- Nothing closes before Arc's close, nor while an end marker is awaited. -/
theorem closeSlot_waits (waits : x.closing = none ∨ x.waiting ≠ []) (ecc : LatEcc) : closeSlot v ecc s = s := by
  unfold closeSlot
  rw [slot]
  dsimp only
  split
  next status closing _ =>
    have awaited : x.waiting ≠ [] := waits.resolve_left (by simp [closing])
    simp [awaited]
  · rfl

omit slot in
theorem writeCounts_none (unasked : x.word.testBit 14 = false) : writeCounts v x s = s := if_neg (by simp [unasked])

omit slot in
theorem badBlockCause_none (failed : x.word.testBit 4 = false) (marked : x.word.testBit 3 = false) (verdict status : Nat) :
    badBlockCause x verdict status = 0 := by
  simp [badBlockCause, failed, marked]

omit slot in
theorem restoreCollectors_none (mode : x.mode ≠ 2) : restoreCollectors v x s = s := if_neg mode

/-- A close that asks for no count records and no bad block, of a slot without collectors, forms the verdict and no more. -/
theorem closeSlot_plain {status : Nat} (closing : x.closing = some status) (open_ : x.verdict = none) (heard : x.waiting = [])
    (runs : s.latticeStopped = false) (merged : s.lat.merging = []) (mode : x.mode ≠ 2) (counts : x.word.testBit 14 = false)
    (failed : x.word.testBit 4 = false) (marked : x.word.testBit 3 = false) :
    closeSlot v .good s = modLat (fun l => { l with taken := l.taken.filter fun k => k.1 ≠ v })
      (setSlot v (some { x with verdict := some (s.verdictOf x status).1, dup := false }) s) := by
  unfold closeSlot
  rw [slot]
  simp only [closing, open_, heard, runs, ne_eq, not_true_eq_false, decide_false, Bool.or_self, Bool.false_eq_true, if_false,
    endWindows_none merged, reduceCtorEq, slot, writeCounts_none counts, badBlockCause_none failed marked, ite_self, if_true, mode, and_false,
    restoreCollectors_none mode, modSlot_some slot]

/-! ## SUMMARY (R237) -/

/-- The close is not complete before its verdict is formed. -/
theorem completeClose_early (early : x.closing = none ∨ x.verdict = none) : completeClose v s = s := by
  have unformed : finishClose v s = (none, s) := by
    unfold finishClose
    rw [slot]
    dsimp only
    split
    next closing verdict => simp [closing, verdict] at early
    · rfl
  simp [completeClose, unformed]

end

/-- The SUMMARY record of a slot that is not OFF is handed over; source 290 pends for an INCOMPLETE one. -/
def summarize (v : Nat) (x : Slot) (verdict status : Nat) (s : State) : State :=
  if x.mode = 0 then s
  else pendIf (verdict = verdictIncomplete) 290
    (slotRecord v recSummary (128 * bit01 x.dup + 256 * bit01 x.split) x (summaryBody x verdict status s) s)

theorem delivers_summarize {v : Nat} (hv : v < 4096) (x : Slot) (verdict status : Nat) (s : State) :
    Delivers s (summarize v x verdict status s) :=
  delivers_ite (.refl s) (delivers_ite (delivers_pend (delivers_failRecord (.refl s) hv)) (delivers_failRecord (.refl s) hv))

/-- A formed close hands its SUMMARY over; the slot closes, and Arc has the verdict. -/
theorem completeClose_formed {s : State} {v status verdict : Nat} {x : Slot} (slot : s.slot v = some x) (closing : x.closing = some status)
    (formed : x.verdict = some verdict) (runs : s.latticeStopped = false) (free : s.reactionOn 16 = false) :
    completeClose v s = writeResult v verdict (setSlot v none (summarize v x verdict status s)) := by
  have finished : finishClose v s = (some verdict, setSlot v none (summarize v x verdict status s)) := by
    unfold finishClose
    rw [slot]
    simp only [closing, formed]
    rfl
  simp [completeClose, runs, free, finished]

/-! ## The result record (R208) -/

/-- What Arc books of an operation of vertex `v` whose record has been handed over (R193, R195). -/
def bookOver (v : Nat) (o : ArcOp) (s : State) : State :=
  let s := setOp v none s
  let s := if o.admitted.isSome then s.set ARC_STAT_INFLIGHT (s.get ARC_STAT_INFLIGHT - 1) else s
  let polled := o.flags.testBit 8 && o.doneAt == o.readyAt && s.ringCount (4 * v) != 0
  modArc (fun a => { a with pollDone := Store.put (fun _ => none) a.pollDone v (if polled then some o.doneAt else none) }) s

theorem keeps_bookOver (v : Nat) (o : ArcOp) (s : State) : Keeps [ARC_STAT] s (bookOver v o s) :=
  ((keeps_setOp _ v none s).trans ((keeps_set _ _ (by simp)).ite (Keeps.refl _ _))).trans (keeps_modArc _ _ _)

theorem bookOver_eq (v : Nat) (o : ArcOp) (s : State) : ∃ regs arc, bookOver v o s = { s with regs := regs, arc := arc } := by
  unfold bookOver
  split_ifs
  all_goals exact ⟨_, _, rfl⟩

theorem slot_bookOver (v : Nat) (o : ArcOp) (s : State) (w : Nat) : (bookOver v o s).slot w = s.slot w := by
  obtain ⟨_, _, booked⟩ := bookOver_eq v o s
  rw [booked]
  rfl

theorem op_bookOver (v : Nat) (o : ArcOp) (s : State) : (bookOver v o s).op v = none := by
  unfold bookOver
  split_ifs
  all_goals exact op_setOp v none s

theorem writeResult_some {s : State} {v : Nat} {o : ArcOp} (op : s.op v = some o) (verdict : Nat) :
    writeResult v verdict s =
      let u := bookOver v o (handover (4 * v + 1) (s.resultRecord v verdict o) (s.count (ARC_RSEQ_RSEQ v) 1)).2
      enterV v (if u.vhold v then vsHeld else vsIdle) u := by
  rw [writeResult, op]
  rfl

theorem vhold_of_get {s t : State} {v : Nat} (h : t.get (ARC_VHOLD_HOLD (v / 32)) = s.get (ARC_VHOLD_HOLD (v / 32))) :
    t.vhold v = s.vhold v := by
  rw [State.vhold, State.bitOf, h, State.vhold, State.bitOf]

theorem Delivers.vhold {s t : State} (h : Delivers s t) {v : Nat} (hv : v < 4096) : t.vhold v = s.vhold v :=
  vhold_of_get (h.get (by simp only [ARC_VHOLD]; omega) (by simp only [ARC_VHOLD]; omega))

theorem Delivers.rseq {s t : State} (h : Delivers s t) {v : Nat} (hv : v < 4096) : t.get (ARC_RSEQ_RSEQ v) = s.get (ARC_RSEQ_RSEQ v) :=
  h.get (by simp only [ARC_RSEQ]; omega) (by simp only [ARC_RSEQ]; omega)

/-- Once its record is handed over an operation is over, and its vertex IDLE, or HELD; RSEQ has counted (R193, R201, R208). -/
theorem writeResult_ends {s : State} {v : Nat} {o : ArcOp} (hv : v < 4096) (op : s.op v = some o) (verdict : Nat) :
    let t := writeResult v verdict s
    t.slot v = s.slot v ∧ t.op v = none ∧ t.vstate v = (if s.vhold v then vsHeld else vsIdle) ∧
      t.get (ARC_RSEQ_RSEQ v) = (s.get (ARC_RSEQ_RSEQ v) + 1) % 2 ^ 32 := by
  have handed : Delivers (s.count (ARC_RSEQ_RSEQ v) 1)
      (handover (4 * v + 1) (s.resultRecord v verdict o) (s.count (ARC_RSEQ_RSEQ v) 1)).2 :=
    delivers_handover (by omega) (.refl _) rfl
  rw [writeResult_some op]
  generalize (handover (4 * v + 1) (s.resultRecord v verdict o) (s.count (ARC_RSEQ_RSEQ v) 1)).2 = u at handed
  have kept := keeps_bookOver v o u
  have vhold : (bookOver v o u).vhold v = s.vhold v := by
    rw [vhold_of_get (kept.get (by simp only [List.mem_singleton, ARC_VHOLD, ARC_STAT]; omega)), handed.vhold hv, State.count,
      vhold_of_get (State.get_set_ne s _ _ _ (by simp only [ARC_VHOLD, ARC_RSEQ]; omega))]
  have number : (bookOver v o u).get (ARC_RSEQ_RSEQ v) = (s.get (ARC_RSEQ_RSEQ v) + 1) % 2 ^ 32 := by
    rw [kept.get (by simp only [List.mem_singleton, ARC_RSEQ, ARC_STAT]; omega), handed.rseq hv, State.count,
      State.get_set_self _ _ _ (by simp)]
  have state : (if s.vhold v then vsHeld else vsIdle) < 8 := by split_ifs <;> decide
  dsimp only
  rw [vhold]
  refine ⟨(slot_bookOver v o u v).trans (handed.slot v), op_bookOver v o u, vstate_enterV state v _, ?_⟩
  rw [(keeps_enterV v _ _).get (by simp [ARC_VSTAT, ARC_SINCE, ARC_RSEQ]), number]

end Sys2Proof.Machine
end

section
/-!
PROOFS. The statement about fail events, end markers and closes (R216 to R218, R223, R224, R237).
-/

namespace Sys2Proof.Machine
open Sys2Proof.Reg

/-- What an action leaves alone from the instant at which a command acts, the command leaves alone. -/
theorem Keeps.fromTick {as : List Nat} {s t : State} {dt : Nat} (h : Keeps as (s.tick dt) t) : Keeps as s t := (keeps_tick as s dt).trans h

/-! ## FAIL_EVENT with an event in front of the queue -/

/-- The state in which the event in front of facet `f`'s queue reaches the hub. -/
def State.taken (s : State) (dt f : Nat) (q : List HubItem) : State := takeItem f q (s.tick dt)

theorem queue_taken (s : State) (dt f : Nat) (q : List HubItem) : ((s.taken dt f q).fct f).queue = q := by
  rw [State.taken, takeItem, fct_modFct]

theorem keeps_taken (as : List Nat) (s : State) (dt f : Nat) (q : List HubItem) : Keeps as s (s.taken dt f q) :=
  (keeps_modFct as f _ (s.tick dt)).fromTick

theorem keeps_taken_count {c : Fld} {as : List Nat} (h : c.addr ∈ as) (s : State) (dt f : Nat) (q : List HubItem) :
    Keeps as s ((s.taken dt f q).countSat c 1) := (keeps_taken as s dt f q).trans (keeps_set _ _ h)

section
variable {s t : State} {dt f : Nat} {e : FailEvent} {q : List HubItem} (runs : s.latticeStopped = false)
  (queue : (s.fct f).queue = .event e :: q)
include runs queue

theorem gives_failEvent {ecc : LatEcc} (h : ingest e ecc (s.taken dt f q) = t) : Gives (.failEvent dt f ecc) s t :=
  gives_of_act rfl ((failArrives_event (s := s.tick dt) runs queue ecc).trans h)

theorem gives_failEvent_alone {ecc : LatEcc} (alone : (s.chordRays (s.chordOf e.vertex)).length ≤ 1)
    (h : accountEvent e ecc (s.taken dt f q) = t) : Gives (.failEvent dt f ecc) s t :=
  gives_failEvent runs queue ((ingest_alone (s := s.taken dt f q) alone ecc).trans h)

end

/-- The state in which an event whose merge window has ended is accounted. -/
def State.merged (s : State) (dt : Nat) (e : FailEvent) : State :=
  modLat (fun l => { l with merging := [], taken := l.taken ++ [e.key] }) (s.tick dt)

/-- Settles O37: each command is its action on Lattice's own state after the clock has advanced. -/
theorem failEventsAreAccounted : Obligations.FailEventsAreAccounted := by
  unfold Obligations.FailEventsAreAccounted
  refine ⟨?stopped, ?event, ?window, ?marker, ?verdict, ?complete⟩
  case stopped =>
    intro s dt f ecc stopped
    exact ⟨gives_of_act rfl (failArrives_stopped (s := s.tick dt) stopped ecc), gives_of_act rfl (markerArrives_stopped (s := s.tick dt) stopped)⟩
  case event =>
    intro s dt f e q runs queue
    refine ⟨gives_of_act rfl (markerArrives_event (s := s.tick dt) queue), fun alone => ⟨?ignored, ?accounted⟩, ?first⟩
    case ignored =>
      intro ecc closed
      exact ⟨_, gives_failEvent_alone runs queue alone (accountEvent_ignored (s := s.taken dt f q) closed ecc), queue_taken s dt f q,
        State.get_countSat (s.taken dt f q) LAT_IGNORED_COUNT 1 (by decide), keeps_taken_count (by simp) s dt f q⟩
    case accounted =>
      intro x slot kind now full
      have counted := keeps_taken_count (c := LAT_EVENTS_COUNT) (as := [LAT_EVENTS]) (by simp) s dt f q
      have account (on : x.mode ≠ 0) := accountEvent_open (s := s.taken dt f q) slot kind on now .good
      refine ⟨fun log => ?_, fun page unmapped => ?_⟩
      · have account := account (by omega)
        rw [accountTo_log log full] at account
        exact ⟨_, gives_failEvent_alone runs queue alone account, slot_setSlot .., queue_taken s dt f q,
          State.get_countSat (s.taken dt f q) LAT_EVENTS_COUNT 1 (by decide), counted.trans (keeps_setSlot _ _ _ _)⟩
      · have account := account (by omega)
        rw [accountTo_page page unmapped full] at account
        exact ⟨_, gives_failEvent_alone runs queue alone account, queue_taken s dt f q, slot_setSlot .., counted.trans (keeps_setSlot _ _ _ _)⟩
    case first =>
      intro spans unmerged first
      obtain ⟨-, memories⟩ := keeps_taken [] s dt f q
      exact ⟨_, gives_failEvent runs queue (ingest_first (s := s.taken dt f q) spans unmerged first .good), queue_taken s dt f q, rfl, rfl,
        memories⟩
  case window =>
    intro s dt at_ e ecc window
    refine ⟨fun ended closed => ?_, fun early => gives_of_act rfl (endWindows_open (s := s.tick dt) ?_ ecc)⟩
    · have ignored : endWindows none ecc (s.tick dt) = (s.merged dt e).countSat LAT_IGNORED_COUNT 1 :=
        (endWindows_ended (s := s.tick dt) window ended ecc).trans (accountEvent_ignored (s := s.merged dt e) closed ecc)
      refine ⟨_, gives_of_act rfl ignored, rfl, rfl, State.get_countSat (s.merged dt e) LAT_IGNORED_COUNT 1 (by decide), ?_⟩
      exact ((keeps_modLat _ _ _).trans (keeps_set _ _ (by simp))).fromTick
    · intro y hy
      have only : y ∈ [(e, at_)] := window ▸ hy
      obtain rfl := List.mem_singleton.1 only
      exact ⟨early, nofun⟩
  case marker =>
    intro s dt f g serial v n q runs queue
    have arrives := markerArrives_one (s := s.tick dt) runs queue
    refine ⟨fun ecc => gives_of_act rfl (failArrives_marker (s := s.tick dt) queue ecc), fun x slot last now => ⟨?whole, ?lossy⟩⟩
    case whole =>
      rintro rfl
      have heard : x.heard f serial = { x with waiting := x.waiting.filter fun g => g ≠ f } := if_pos last
      have arrives := arrives.trans ((congrArg _ (countLost_zero v serial _)).trans (modSlot_some (s := s.taken dt f q) slot _))
      obtain ⟨-, memories⟩ := keeps_taken [] s dt f q
      exact ⟨_, gives_of_act rfl arrives, queue_taken s dt f q, (slot_setSlot ..).trans (congrArg some heard), rfl, memories⟩
    case lossy =>
      intro lossy
      have lost := countLost_some (s := s.taken dt f q) slot lossy now
      have arrives := arrives.trans ((congrArg _ lost).trans (modSlot_some (slot_setSlot ..) _))
      refine ⟨_, gives_of_act rfl arrives, ?queue, (slot_setSlot ..).trans (congrArg some (if_pos last)), get_pendLost n (s.taken dt f q), ?keeps⟩
      case queue =>
        rw [fct_setSlot, fct_setSlot, fct_pendLost]
        exact queue_taken s dt f q
      case keeps =>
        exact (((keeps_taken _ s dt f q).trans (keeps_pendLost n _)).trans (keeps_setSlot _ _ _ _)).trans (keeps_setSlot _ _ _ _)
  case verdict =>
    intro s dt v x slot
    refine ⟨fun waits => gives_of_act rfl (closeSlot_waits (s := s.tick dt) slot waits .good), ?_⟩
    intro status closing open_ heard runs merged mode counts failed marked
    have plain := closeSlot_plain (s := s.tick dt) slot closing open_ heard runs merged mode counts failed marked
    obtain ⟨-, memories⟩ : Keeps [] s (closeSlot v .good (s.tick dt)) := by
      rw [plain]
      exact ((keeps_setSlot _ _ _ _).trans (keeps_modLat _ _ _)).fromTick
    rw [plain] at memories
    exact ⟨_, gives_of_act rfl plain, (slot_modLat (by rfl) v).trans (slot_setSlot ..), rfl, memories⟩
  case complete =>
    intro s dt v x slot
    refine ⟨fun early => gives_of_act rfl (completeClose_early (s := s.tick dt) slot early), ?_⟩
    intro status verdict o closing formed runs free op hv
    have summed := delivers_summarize hv x verdict status (s.tick dt)
    have held : (setSlot v none (summarize v x verdict status (s.tick dt))).op v = some o := (summed.op v).trans op
    obtain ⟨closed, ended, state, number⟩ := writeResult_ends hv held verdict
    have hold : (setSlot v none (summarize v x verdict status (s.tick dt))).vhold v = s.vhold v := summed.vhold hv
    have rseq : (setSlot v none (summarize v x verdict status (s.tick dt))).get (ARC_RSEQ_RSEQ v) = s.get (ARC_RSEQ_RSEQ v) := summed.rseq hv
    rw [hold] at state
    rw [rseq] at number
    exact ⟨_, gives_of_act rfl (completeClose_formed (s := s.tick dt) slot closing formed runs free), closed.trans (slot_setSlot ..), ended,
      state, number⟩

end Sys2Proof.Machine
end

section
/-!
SUPPORT. The clears of Lattice's memories and its windows (R227, R229, R230): where the writes of LAT's registers go, and what each leaves.
-/

namespace Sys2Proof.Machine
open Sys2Proof.Reg

/-! ## The registers of LAT (R239 to R241) -/

theorem blockOf_lat {a : Nat} (lo : 0x400000 ≤ a) (hi : a < 0x600000) : blockOf a = some .lat := by
  rw [blockOf]
  repeat rw [if_neg (by omega)]
  rw [if_pos hi]

theorem writeReg_lat {a : Nat} (lo : 0x400000 ≤ a) (hi : a < 0x600000) (p : Path) (g : Bool) (data : Nat) (s : State) :
    writeReg p g a data s = writeLat p g a data s := by
  rw [writeReg, blockOf_lat lo hi]

/-- A request leaves what Lattice holds. -/
@[simp] theorem lat_request (s : State) (dt : Nat) (p : Path) : (s.request dt p).lat = s.lat := by rw [request_eq]; rfl

/-- The row of the bad-block counts (R241). -/
def badBlockRow : RegRow :=
  ⟨"BB", 0x10000, false, [(4096, 0x40), (8, 0x4)], [⟨"COUNT0", 0, 16, .cts, 0⟩, ⟨"COUNT1", 16, 16, .cts, 0⟩]⟩

theorem rowAt_badBlock {v i : Nat} (hv : v < 4096) (hi : i < 8) : rowAt (LAT_BB v i) = some (badBlockRow, false) := by
  have below : ∀ x ∈ rowsLat.take 25, x.endsBy 0x10000 = true := by decide
  have offset : blockOffset .lat (LAT_BB v i) = 0x10000 + v * 0x40 + i * 0x4 := by
    show LAT_BB v i - 0x400000 = _
    simp only [LAT_BB]
    omega
  have hit : badBlockRow.hit (0x10000 + v * 0x40 + i * 0x4) = some false := by
    have outer : (v * 0x40 + i * 0x4) / 0x40 = v ∧ (v * 0x40 + i * 0x4) % 0x40 = i * 0x4 := by omega
    have rest : 0x10000 + v * 0x40 + i * 0x4 - 0x10000 = v * 0x40 + i * 0x4 := by omega
    simp [RegRow.hit, badBlockRow, dimsHit, rest, outer, hv, hi]
    omega
  rw [rowAt, blockOf_lat (by simp only [LAT_BB]; omega) (by simp only [LAT_BB]; omega)]
  show findRow rowsLat (blockOffset .lat (LAT_BB v i)) = _
  rw [offset]
  exact findRow_of_hit (pre := rowsLat.take 25) (post := rowsLat.drop 26) (fun x hx => RegRow.hit_of_endsBy (below x hx) (by omega)) hit

theorem rstWord_badBlock {v i : Nat} (hv : v < 4096) (hi : i < 8) : rstWord (LAT_BB v i) = 0 := by
  rw [rstWord, if_neg (by simp only [LAT_BB]; omega), if_neg (by simp only [LAT_BB]; omega), if_neg (by simp only [LAT_BB]; omega),
    if_neg (by simp only [LAT_BB]; omega), rowAt_badBlock hv hi]
  rfl

/-- A register that is cleared reads its reset value. -/
theorem State.reg_clearRegs (s : State) {p : Nat → Bool} {a : Nat} (h : p a = true) : (s.clearRegs p).reg a = rstWord a :=
  Store.find_filter_dropped (keep := fun a => !p a) rstWord s.regs (by simp [h])

/-! ## LAT_CLEAR (R227, R229) -/

/-- The registers of vertex `v`'s bad-block list. -/
def badBlockReg (v a : Nat) : Bool := 0x410000 + v * 0x40 ≤ a && decide (a < 0x410000 + v * 0x40 + 0x24)

theorem clearColumns_foldl (vs : List Nat) (s : State) :
    vs.foldl (fun s v => clearColumns v s) s = { s with cmap := s.cmap.filter fun c => c.1 / 4096 ∉ vs } := by
  induction vs generalizing s with
  | nil => simp
  | cons v vs ih =>
    rw [List.foldl_cons, ih]
    simp [clearColumns, List.filter_filter, Bool.and_comm]

theorem clearBadBlocks_foldl (vs : List Nat) (s : State) :
    vs.foldl (fun s v => clearBadBlocks v s) s = s.clearRegs fun a => vs.any fun v => badBlockReg v a := by
  induction vs generalizing s with
  | nil => simp [State.clearRegs]
  | cons v vs ih =>
    rw [List.foldl_cons, ih]
    simp [clearBadBlocks, State.clearRegs, List.filter_filter, badBlockReg, Bool.and_comm]

/-- What a clear of the vertices `vs` has cleared. -/
def clearedOf (columns blocks : Bool) (vs : List Nat) (s : State) : State :=
  let s := if columns then { s with cmap := s.cmap.filter fun c => c.1 / 4096 ∉ vs } else s
  if blocks then s.clearRegs fun a => vs.any fun v => badBlockReg v a else s

theorem startClear_idle {s : State} (idle : s.on LAT_CLEAR_START = false) (mode : modeBoot < s.mode) (range : s.clearRange ≠ []) :
    startClear s = (clearedOf (s.on LAT_CLEAR_CMAP) (s.on LAT_CLEAR_BB) s.clearRange s).raise LAT_CLEAR_START := by
  unfold startClear
  rw [if_neg (by simp [idle]; omega)]
  dsimp only
  rw [if_neg range, clearColumns_foldl]
  rw [clearBadBlocks_foldl]
  cases s.on LAT_CLEAR_CMAP <;> rfl

/-- LAT_CLEAR with its choices as written. -/
def State.clearChosen (s : State) (columns blocks : Bool) : State := (s.set LAT_CLEAR_CMAP (bit01 columns)).set LAT_CLEAR_BB (bit01 blocks)

theorem plainWrite_latClear (p : Path) (g columns blocks : Bool) (s : State) :
    plainWrite p g LAT_CLEAR (1 + 2 * bit01 columns + 4 * bit01 blocks) s = s.clearChosen columns blocks := by
  have row : rowAt LAT_CLEAR =
      some (⟨"CLEAR", 0x20, false, [], [⟨"START", 0, 1, .hc, 0⟩, ⟨"CMAP", 1, 1, .rw, 0⟩, ⟨"BB", 2, 1, .rw, 0⟩]⟩, false) := by decide
  rw [plainWrite_fields row rfl rfl]
  cases columns <;> cases blocks <;> rfl

theorem write32_latClear {s : State} {p : Path} (h : s.takes p LAT_CLEAR = true) (dt : Nat) (columns blocks : Bool) :
    write32 p LAT_CLEAR (1 + 2 * bit01 columns + 4 * bit01 blocks) (s.tick dt) = startClear ((s.request dt p).clearChosen columns blocks) := by
  have word : (1 + 2 * bit01 columns + 4 * bit01 blocks) % 2 ^ 32 = 1 + 2 * bit01 columns + 4 * bit01 blocks := by
    cases columns <;> cases blocks <;> rfl
  have start : (1 + 2 * bit01 columns + 4 * bit01 blocks).testBit 0 = true := by cases columns <;> cases blocks <;> rfl
  rw [write32_takes s dt p _ _ h, word, writeReg_lat (by decide) (by decide), writeLat, plainWrite_latClear]
  simp only [LAT_CLEAR, LAT_RA_CMD, Nat.reduceEqDiff, if_false, if_true, start, actIf_true]

theorem keeps_clearChosen (s : State) (columns blocks : Bool) : Keeps [LAT_CLEAR] s (s.clearChosen columns blocks) :=
  (keeps_set s _ (by simp)).trans (keeps_set _ _ (by simp))

theorem clearRange_congr {s t : State} (members : t.vertices = s.vertices) (range : t.reg LAT_CLEAR_RANGE = s.reg LAT_CLEAR_RANGE) :
    t.clearRange = s.clearRange := by
  have first : t.get LAT_CLEAR_RANGE_VFIRST = s.get LAT_CLEAR_RANGE_VFIRST := State.get_of_reg range
  have last : t.get LAT_CLEAR_RANGE_VLAST = s.get LAT_CLEAR_RANGE_VLAST := State.get_of_reg range
  rw [State.clearRange, members, first, last, State.clearRange]

theorem lt_vertices_of_clearRange {s : State} {v : Nat} (h : v ∈ s.clearRange) : v < s.vertices :=
  List.mem_range.1 (List.mem_filter.1 h).1

section
variable (columns blocks : Bool) (vs : List Nat) (s : State)

theorem cmapEntry_clearedOf {v e : Nat} (hv : v ∈ vs) (he : e < 16384) : (clearedOf true blocks vs s).cmapEntry v e = 0 := by
  have cmap : (clearedOf true blocks vs s).cmap = s.cmap.filter fun c => c.1 / 4096 ∉ vs := by cases blocks <;> rfl
  have vertex : (v * 4096 + e / 4) / 4096 = v := by omega
  have byte : Memory.byte (clearedOf true blocks vs s).cmap (v * 4096 + e / 4) = zeroByte (v * 4096 + e / 4) := by
    rw [cmap]
    exact Store.find_filter_dropped (keep := fun a => decide (a / 4096 ∉ vs)) _ _ (by simp [vertex, hv])
  rw [State.cmapEntry, byte]
  simp [bitsAt, zeroByte]

theorem cmap_clearedOf_false : (clearedOf false blocks vs s).cmap = s.cmap := by cases blocks <;> rfl

theorem reg_clearedOf {v i : Nat} (hv : v ∈ vs) (small : v < 4096) (hi : i < 8) : (clearedOf columns true vs s).reg (LAT_BB v i) = 0 := by
  have chosen : (vs.any fun v' => badBlockReg v' (LAT_BB v i)) = true := by
    refine List.any_eq_true.2 ⟨v, hv, ?_⟩
    simp only [badBlockReg, LAT_BB, Bool.and_eq_true, decide_eq_true_eq]
    omega
  exact (State.reg_clearRegs (p := fun a => vs.any fun v => badBlockReg v a) _ chosen).trans (rstWord_badBlock small hi)

theorem regs_clearedOf_false : (clearedOf columns false vs s).regs = s.regs := by cases columns <;> rfl

end

theorem endClear_idle {s : State} (h : s.on LAT_CLEAR_START = false) : endClear s = s := if_neg (by simp [h])

theorem endClear_runs {s : State} (h : s.on LAT_CLEAR_START = true) : endClear s = pend 292 (s.set LAT_CLEAR_START 0) := if_pos h

/-! ## Collectors (R230) -/

theorem write32_collClear {s : State} {p : Path} {c : Nat} (hc : c < 128) (h : s.takes p (LAT_COLL_CLEAR c) = true) (dt : Nat) :
    write32 p (LAT_COLL_CLEAR c) 1 (s.tick dt) = clearCollector c (s.request dt p) := by
  have coll : indexIn (LAT_COLL 0) 0x20 128 (LAT_COLL_CLEAR c) = none := if_neg (by simp only [LAT_COLL, LAT_COLL_CLEAR]; omega)
  have clear : indexIn (LAT_COLL_CLEAR 0) 0x20 128 (LAT_COLL_CLEAR c) = some c := indexIn_elem (base := LAT_COLL_CLEAR 0) (by decide) hc
  have below : LAT_COLL_CLEAR c < LAT_CMAPWIN 0 := by simp only [LAT_COLL_CLEAR, LAT_CMAPWIN]; omega
  have above : LAT_CLEAR < LAT_COLL_CLEAR c := by simp only [LAT_COLL_CLEAR, LAT_CLEAR]; omega
  have command : LAT_RA_CMD < LAT_CLEAR := by decide
  rw [write32_takes s dt p _ _ h, writeReg_lat (by simp only [LAT_COLL_CLEAR]; omega) (by simp only [LAT_COLL_CLEAR]; omega), writeLat,
    if_neg (by omega), if_neg (by omega), if_neg (by omega), coll, clear]
  rfl

theorem keeps_setCollector (c : Nat) (x : Collector) (s : State) : Keeps [LAT_COLL_STAT c] s (setCollector c x s) :=
  (((((keeps_modLat _ _ s).trans (keeps_set _ _ (by simp))).trans (keeps_set _ _ (by simp))).trans (keeps_set _ _ (by simp))).trans
    (keeps_set _ _ (by simp))).trans (keeps_set _ _ (by simp))

@[simp] theorem collector_setCollector (c : Nat) (x : Collector) (s : State) : (setCollector c x s).collector c = x := Store.find_put_self ..

theorem stored_setCollector (c : Nat) (x : Collector) (s : State) :
    (setCollector c x s).get (LAT_COLL_STAT_STORED c) = x.committed.cells.length % 2 ^ 10 := by
  unfold setCollector
  dsimp only
  rw [State.get_set_apart _ _ _ _ (by simp) (by simp), State.get_set_apart _ _ _ _ (by simp) (by simp),
    State.get_set_apart _ _ _ _ (by simp) (by simp), State.get_set_apart _ _ _ _ (by simp) (by simp), State.get_set_self _ _ _ (by simp)]

theorem early_setCollector (c : Nat) (x : Collector) (s : State) :
    (setCollector c x s).on (LAT_COLL_STAT_EARLY c) = x.committed.early := by
  unfold setCollector
  dsimp only
  rw [State.on_set_apart _ _ _ _ (by simp) (by simp), State.on_set_bit01 _ rfl (by simp)]

theorem pending_setCollector (c : Nat) (x : Collector) (s : State) :
    (setCollector c x s).on (LAT_COLL_STAT_PENDING c) = (x.working != x.committed) := State.on_set_bit01 _ rfl (by simp) _

/-! ## The column map's window (R227) -/

theorem write32_cmapWindow {s : State} {p : Path} {word : Nat} (hw : word < 262144) (h : s.takes p (LAT_CMAPWIN word) = true) (dt d : Nat) :
    write32 p (LAT_CMAPWIN word) d (s.tick dt) = writeWindow (4 * word) (d % 2 ^ 32) (s.request dt p) := by
  have above : LAT_CMAPWIN 0 ≤ LAT_CMAPWIN word := by simp only [LAT_CMAPWIN]; omega
  have command : LAT_RA_CMD < LAT_CMAPWIN 0 := by decide
  have clear : LAT_CLEAR < LAT_CMAPWIN 0 := by decide
  have place : LAT_CMAPWIN word - LAT_CMAPWIN 0 = 4 * word := by simp only [LAT_CMAPWIN]; omega
  rw [write32_takes s dt p _ _ h, writeReg_lat (by simp only [LAT_CMAPWIN]; omega) (by simp only [LAT_CMAPWIN]; omega), writeLat,
    if_neg (by omega), if_neg (by omega), if_pos above, place]

theorem windowPlace_request (s : State) (dt : Nat) (p : Path) (off : Nat) : (s.request dt p).windowPlace off = s.windowPlace off := by
  rw [State.windowPlace, get_request s dt p (by decide), vertices_request, State.windowPlace]

theorem writeWindow_some {s : State} {off a : Nat} (h : s.windowPlace off = some a) (d : Nat) :
    writeWindow off d s = { s with cmap := Memory.putWord s.cmap a 4 d } := by
  rw [writeWindow, h]

theorem writeWindow_none {s : State} {off : Nat} (h : s.windowPlace off = none) (d : Nat) : writeWindow off d s = s := by
  rw [writeWindow, h]

end Sys2Proof.Machine
end

section
/-!
SUPPORT. The repair analysis (R231, R232): its command, what starting, stopping and each step of a run leave, and the analysis of a vertex
without failing columns.
-/

namespace Sys2Proof.Machine
open Sys2Proof.Reg

/-- What a signal leaves of Lattice. -/
theorem Signals.lat {s t : State} (h : Signals s t) : t.lat = s.lat := by
  obtain ⟨_, _, _, rfl⟩ := h
  rfl

theorem Keeps.mode {as : List Nat} {s t : State} (h : Keeps as s t) (apart : GLB_MODE ∉ as) : t.mode = s.mode := h.get apart

theorem Keeps.vertices {as : List Nat} {s t : State} (h : Keeps as s t) (apart : GLB_IDENT ∉ as) : t.vertices = s.vertices := by
  have member : t.member = s.member := h.get apart
  rw [State.vertices, State.facets, member, State.vertices, State.facets]

/-! ## LAT_RA_CMD (R231) -/

/-- What a command of LAT_RA_CMD writes: START and ABORT in `b`, and the fields. -/
def raCommand (b kind plane tag : Nat) : Nat := b + 4 * (kind % 2) + 16 * (plane % 16) + 2 ^ 16 * (tag % 2 ^ 16)

/-- LAT_RA_CMD with its fields as written. -/
def State.raAsked (s : State) (kind plane tag : Nat) : State :=
  ((s.set LAT_RA_CMD_KIND kind).set LAT_RA_CMD_PLANE plane).set LAT_RA_CMD_TAG tag

section
variable {b : Nat} (hb : b < 4) (kind plane tag : Nat)
include hb

theorem plainWrite_raCmd (p : Path) (g : Bool) (s : State) :
    plainWrite p g LAT_RA_CMD (raCommand b kind plane tag) s = s.raAsked kind plane tag := by
  have row : rowAt LAT_RA_CMD = some
      (⟨"RA_CMD", 0x10, false, [], [⟨"START", 0, 1, .hc, 0⟩, ⟨"ABORT", 1, 1, .wo, 0⟩, ⟨"KIND", 2, 1, .rw, 0⟩,
      ⟨"PLANE", 4, 4, .rw, 0⟩, ⟨"TAG", 16, 16, .rw, 0⟩]⟩, false) := by decide
  have kindBits : bitsAt (raCommand b kind plane tag) 2 1 = kind % 2 ^ 1 := by
    simp only [bitsAt, raCommand, Nat.shiftRight_eq_div_pow]
    omega
  have planeBits : bitsAt (raCommand b kind plane tag) 4 4 = plane % 2 ^ 4 := by
    simp only [bitsAt, raCommand, Nat.shiftRight_eq_div_pow]
    omega
  have tagBits : bitsAt (raCommand b kind plane tag) 16 16 = tag % 2 ^ 16 := by
    simp only [bitsAt, raCommand, Nat.shiftRight_eq_div_pow]
    omega
  rw [plainWrite_fields row rfl rfl]
  show ((s.set LAT_RA_CMD_KIND (bitsAt _ 2 1)).set LAT_RA_CMD_PLANE (bitsAt _ 4 4)).set LAT_RA_CMD_TAG (bitsAt _ 16 16) = _
  rw [kindBits, planeBits, tagBits]
  have kindSet := State.set_mod s LAT_RA_CMD_KIND kind
  have planeSet := State.set_mod (s.set LAT_RA_CMD_KIND kind) LAT_RA_CMD_PLANE plane
  have tagSet := State.set_mod ((s.set LAT_RA_CMD_KIND kind).set LAT_RA_CMD_PLANE plane) LAT_RA_CMD_TAG tag
  rw [kindSet, planeSet, tagSet, State.raAsked]

theorem write32_raCmd {s : State} {p : Path} (h : s.takes p LAT_RA_CMD = true) (dt : Nat) :
    write32 p LAT_RA_CMD (raCommand b kind plane tag) (s.tick dt) =
      actIf (b.testBit 1) abortAnalysis (actIf (b.testBit 0) startAnalysis ((s.request dt p).raAsked kind plane tag)) := by
  have word : raCommand b kind plane tag % 2 ^ 32 = raCommand b kind plane tag := by simp only [raCommand]; omega
  have start : (raCommand b kind plane tag).testBit 0 = b.testBit 0 := by
    have low : raCommand b kind plane tag % 2 = b % 2 := by simp only [raCommand]; omega
    simp only [Nat.testBit_zero, low]
  have abort : (raCommand b kind plane tag).testBit 1 = b.testBit 1 := by
    have half : raCommand b kind plane tag / 2 % 2 = b / 2 % 2 := by simp only [raCommand]; omega
    simp only [Nat.testBit_succ, Nat.testBit_zero, half]
  rw [write32_takes s dt p _ _ h, word, writeReg_lat (by decide) (by decide), writeLat, plainWrite_raCmd hb, start, abort]
  rfl

end

section
variable (s : State) (kind plane tag : Nat)

theorem keeps_raAsked : Keeps [LAT_RA_CMD] s (s.raAsked kind plane tag) :=
  ((keeps_set s _ (by simp)).trans (keeps_set _ _ (by simp))).trans (keeps_set _ _ (by simp))

theorem on_set_kind : (s.set LAT_RA_CMD_KIND kind).on LAT_RA_CMD_KIND = decide (kind % 2 = 1) := by
  have value : (s.set LAT_RA_CMD_KIND kind).get LAT_RA_CMD_KIND = kind % 2 := State.get_set_self s _ _
  rw [State.on, value]
  obtain even | odd := Nat.mod_two_eq_zero_or_one kind
  · simp [even]
  · simp [odd]

theorem kind_raAsked : (s.raAsked kind plane tag).on LAT_RA_CMD_KIND = decide (kind % 2 = 1) := by
  rw [State.raAsked, State.on_set_apart _ _ _ _ (by decide) (by decide), State.on_set_apart _ _ _ _ (by decide) (by decide), on_set_kind]

theorem plane_raAsked : (s.raAsked kind plane tag).get LAT_RA_CMD_PLANE = plane % 16 := by
  rw [State.raAsked, State.get_set_apart _ _ _ _ (by decide) (by decide), State.get_set_self _ _ _ (by decide)]
  rfl

theorem tag_raAsked : (s.raAsked kind plane tag).get LAT_RA_CMD_TAG = tag % 2 ^ 16 := State.get_set_self _ _ _

end

/-! ## The start and the end of a run (R231) -/

/-- May a repair analysis run over the range of LAT_RA_RANGE now? -/
def State.raFits (s : State) : Bool :=
  decide (s.mode ∈ [modeIdle, modeHost, modeAuto, modeCal]) && decide (s.get LAT_RA_RANGE_VFIRST ≤ s.get LAT_RA_RANGE_VLAST) &&
    decide (s.get LAT_RA_RANGE_VLAST < s.vertices)

theorem raUnfit_eq (s : State) :
    (!(s.mode ∈ [modeIdle, modeHost, modeAuto, modeCal]) || decide (s.get LAT_RA_RANGE_VLAST < s.get LAT_RA_RANGE_VFIRST) ||
      decide (s.vertices ≤ s.get LAT_RA_RANGE_VLAST)) = !s.raFits := by
  simp only [State.raFits, Bool.not_and, ← decide_not, Nat.not_le, Nat.not_lt]

theorem Keeps.raFits {as : List Nat} {s t : State} (h : Keeps as s t) (apart : GLB_MODE ∉ as ∧ GLB_IDENT ∉ as ∧ LAT_RA_RANGE ∉ as) :
    t.raFits = s.raFits := by
  obtain ⟨mode, ident, range⟩ := apart
  have first : t.get LAT_RA_RANGE_VFIRST = s.get LAT_RA_RANGE_VFIRST := h.get range
  have last : t.get LAT_RA_RANGE_VLAST = s.get LAT_RA_RANGE_VLAST := h.get range
  rw [State.raFits, h.mode mode, h.vertices ident, first, last, State.raFits]

/-- What a run analyses depends on its kind, the map, and the registers from LAT_RA_RANGE up. -/
theorem raTargets_congr {s t : State} (map : t.map = s.map) (kind : t.on LAT_RA_CMD_KIND = s.on LAT_RA_CMD_KIND)
    (regs : ∀ a, LAT_RA_RANGE ≤ a → t.reg a = s.reg a) : t.raTargets = s.raTargets := by
  have get {f : Fld} (h : LAT_RA_RANGE ≤ f.addr) : t.get f = s.get f := State.get_of_reg (regs _ h)
  have first : t.get LAT_RA_RANGE_VFIRST = s.get LAT_RA_RANGE_VFIRST := get (by decide)
  have last : t.get LAT_RA_RANGE_VLAST = s.get LAT_RA_RANGE_VLAST := get (by decide)
  have vertex (c : Nat) : t.get (LAT_COLL_VERTEX c) = s.get (LAT_COLL_VERTEX c) := get (by simp only [LAT_COLL, LAT_RA_RANGE]; omega)
  have enabled (c : Nat) : t.on (LAT_COLL_EN c) = s.on (LAT_COLL_EN c) := State.on_of_get (get (by simp only [LAT_COLL, LAT_RA_RANGE]; omega))
  have state (v : Nat) : t.vertexState v = s.vertexState v := congrArg (fun m => State.vertexState { s with map := m } v) map
  have bus : t.busVertices = s.busVertices := congrArg (fun m => State.busVertices { s with map := m }) map
  simp only [State.raTargets, kind, first, last, vertex, enabled, state, bus]

section
variable {s : State}

theorem startAnalysis_busy (h : s.lat.ra.isSome = true) : startAnalysis s = s := if_pos h

theorem startAnalysis_refused (idle : s.lat.ra = none) (h : s.raFits = false) : startAnalysis s = pend 288 (s.set LAT_RA_STAT_RESULT 3) := by
  unfold startAnalysis
  rw [if_neg (by simp [idle]), raUnfit_eq, h]
  rfl

/-- The counts of the last run are cleared as a new one starts. -/
def State.raCleared (s : State) : State :=
  (((s.set LAT_RA_STAT_REPAIRED 0).set LAT_RA_STAT_UNREPAIRABLE 0).set LAT_RA_STAT2_UNDECIDED 0).raise LAT_RA_CMD_START

theorem keeps_raCleared (s : State) : Keeps [LAT_RA_CMD, LAT_RA_STAT, LAT_RA_STAT2] s s.raCleared :=
  (((keeps_set s _ (by simp)).trans (keeps_set _ _ (by simp))).trans (keeps_set _ _ (by simp))).trans (keeps_set _ _ (by simp))

theorem startAnalysis_starts (idle : s.lat.ra = none) (h : s.raFits = true) (targets : s.raTargets ≠ []) :
    startAnalysis s = modLat (fun l => { l with
      ra := some ⟨s.raTargets, s.on LAT_RA_CMD_KIND, s.get LAT_RA_CMD_PLANE, s.get LAT_RA_CMD_TAG, false⟩ }) s.raCleared := by
  have keeps : Keeps [LAT_RA_STAT, LAT_RA_STAT2] s (((s.set LAT_RA_STAT_REPAIRED 0).set LAT_RA_STAT_UNREPAIRABLE 0).set LAT_RA_STAT2_UNDECIDED 0) :=
    ((keeps_set s _ (by simp)).trans (keeps_set _ _ (by simp))).trans (keeps_set _ _ (by simp))
  unfold startAnalysis
  rw [if_neg (by simp [idle]), raUnfit_eq, h, if_neg (by decide)]
  dsimp only
  rw [if_neg targets, State.on_of_get (keeps.get (f := LAT_RA_CMD_KIND) (by decide)), keeps.get (f := LAT_RA_CMD_PLANE) (by decide),
    keeps.get (f := LAT_RA_CMD_TAG) (by decide)]
  rfl

/-- A run has ended: nothing is analysed, START is clear and RESULT says how. -/
theorem endAnalysis_ends (result : Nat) (s : State) :
    (endAnalysis result s).lat.ra = none ∧ (endAnalysis result s).on LAT_RA_CMD_START = false ∧
      (endAnalysis result s).get LAT_RA_STAT_RESULT = result % 4 := by
  unfold endAnalysis
  dsimp only
  have signals := keeps_pend 288 (((modLat (fun l => { l with ra := none }) s).set LAT_RA_CMD_START 0).set LAT_RA_STAT_RESULT result)
  refine ⟨by rw [(signals_pend 288 _).lat]; rfl, ?_, ?_⟩
  · rw [State.on_of_get (signals.get (by decide)), State.on_of_get (State.get_set_ne _ _ _ _ (by decide)), State.on_set_zero _ rfl (by decide)]
  · rw [signals.get (by decide), State.get_set_self _ _ _ (by decide)]
    rfl

end

/-! ## A step of a run (R231, R232) -/

/-- The analysis of a run's current vertex or collector. -/
def analysed (x : RaRun) (v : Nat) (s : State) : State := if x.twoD then analyse2d v x.tag s else analyseNand v x.plane x.tag s

section
variable {s : State}

theorem analysisDone_none (h : s.latticeStopped = true ∨ s.lat.ra = none) : analysisDone s = s := by
  unfold analysisDone
  obtain stopped | idle := h
  · rw [if_pos stopped]
  · rw [idle, ite_self]

variable {x : RaRun} {v : Nat} {vs : List Nat} (runs : s.latticeStopped = false) (ra : s.lat.ra = some x) (todo : x.todo = v :: vs)
include runs ra todo

theorem analysisDone_ends (last : x.abort = true ∨ vs = []) : analysisDone s = endAnalysis (if x.abort then 2 else 1) (analysed x v s) := by
  unfold analysisDone
  rw [if_neg (by simp [runs]), ra]
  dsimp only
  rw [todo]
  cases abort : x.abort
  case true => rfl
  case false =>
    obtain rfl : vs = [] := last.resolve_left (by simp [abort])
    rfl

theorem analysisDone_continues (abort : x.abort = false) (more : vs ≠ []) :
    analysisDone s = modLat (fun l => { l with ra := some { x with todo := vs } }) (analysed x v s) := by
  unfold analysisDone
  rw [if_neg (by simp [runs]), ra]
  dsimp only
  rw [todo]
  dsimp only
  rw [if_neg (by simp [abort]), if_neg more]
  rfl

end

/-- With no column failing nothing is taken and the vertex counts as repaired. -/
theorem nandSolve_nil (p m q : Nat) : nandSolve p m q [] = ([], raRepaired) := by simp [nandSolve]

/-- A vertex whose column map is empty has one record, and counts in REPAIRED. -/
theorem analyseNand_empty {s : State} {v : Nat} (empty : s.columnCounts v = []) (plane tag : Nat) :
    ∃ integrity body, analyseNand v plane tag s =
      (raRecord v tag recRepairResult integrity body (modLat (fun l => { l with mapBad := Store.erase v l.mapBad }) s)).count
        LAT_RA_STAT_REPAIRED 1 := by
  unfold analyseNand
  rw [empty]
  dsimp only
  rw [nandSolve_nil]
  exact ⟨_, _, rfl⟩

theorem repaired_analyseNand {s : State} {v : Nat} (hv : v < 4096) (empty : s.columnCounts v = []) (plane tag : Nat) :
    (analyseNand v plane tag s).get LAT_RA_STAT_REPAIRED = (s.get LAT_RA_STAT_REPAIRED + 1) % 2 ^ 13 := by
  obtain ⟨integrity, body, step⟩ := analyseNand_empty empty plane tag
  have handed : Delivers (modLat (fun l => { l with mapBad := Store.erase v l.mapBad }) s)
      (raRecord v tag recRepairResult integrity body (modLat (fun l => { l with mapBad := Store.erase v l.mapBad }) s)) :=
    delivers_failRecord (.refl _) hv
  rw [step, State.get_count _ _ _ (by decide), handed.get (by decide) (by decide)]
  rfl

end Sys2Proof.Machine
end

section
/-!
PROOFS. The statement about the clears of Lattice's memories and the repair analysis (R226, R227, R229 to R232).
-/

namespace Sys2Proof.Machine
open Sys2Proof.Reg

/-! ## LAT_CLEAR -/

/-- The state in which a clear with these choices starts. -/
def State.clearAsked (s : State) (dt : Nat) (p : Path) (columns blocks : Bool) : State := (s.request dt p).clearChosen columns blocks

section
variable (s : State) (dt : Nat) (p : Path) (columns blocks : Bool)

theorem keeps_clearAsked : Keeps [LAT_CLEAR, GLB_GUARD_STAT] s (s.clearAsked dt p columns blocks) :=
  ((keeps_request s dt p).mono (by simp)).trans ((keeps_clearChosen _ columns blocks).mono (by simp))

theorem start_clearAsked : (s.clearAsked dt p columns blocks).on LAT_CLEAR_START = s.on LAT_CLEAR_START := by
  rw [State.clearAsked, State.clearChosen, State.on_set_apart _ _ _ _ (by decide) (by decide),
    State.on_set_apart _ _ _ _ (by decide) (by decide), State.on_of_get (get_request s dt p (by decide))]

theorem columns_clearAsked : (s.clearAsked dt p columns blocks).on LAT_CLEAR_CMAP = columns := by
  rw [State.clearAsked, State.clearChosen, State.on_set_apart _ _ _ _ (by decide) (by decide), State.on_set_bit01 _ rfl (by decide)]

theorem blocks_clearAsked : (s.clearAsked dt p columns blocks).on LAT_CLEAR_BB = blocks := State.on_set_bit01 _ rfl (by decide) blocks

theorem clearRange_clearAsked : (s.clearAsked dt p columns blocks).clearRange = s.clearRange :=
  clearRange_congr ((keeps_clearAsked s dt p columns blocks).vertices (by decide)) ((keeps_clearAsked s dt p columns blocks).reg (by decide))

end

/-- A clear that starts has cleared what it was asked to, and START is set. -/
theorem gives_latClear {s : State} {p : Path} (h : s.takes p LAT_CLEAR = true) (idle : s.on LAT_CLEAR_START = false)
    (mode : modeBoot < s.mode) (range : s.clearRange ≠ []) (dt : Nat) (columns blocks : Bool) :
    Gives (.latClear dt p columns blocks) s
      ((clearedOf columns blocks s.clearRange (s.clearAsked dt p columns blocks)).raise LAT_CLEAR_START) := by
  have starts := startClear_idle (s := s.clearAsked dt p columns blocks) ((start_clearAsked s dt p columns blocks).trans idle)
    (by rwa [(keeps_clearAsked s dt p columns blocks).mode (by decide)]) (by rwa [clearRange_clearAsked])
  rw [columns_clearAsked, blocks_clearAsked, clearRange_clearAsked] at starts
  exact gives_of_act rfl ((write32_latClear h dt columns blocks).trans starts)

/-! ## LAT_RA_CMD -/

/-- The state in which a command of the repair analysis acts. -/
def State.raCommanded (s : State) (dt : Nat) (p : Path) (kind plane tag : Nat) : State := (s.request dt p).raAsked kind plane tag

section
variable (s : State) (dt kind plane tag : Nat) (p : Path)

theorem keeps_raCommanded : Keeps [LAT_RA_CMD, GLB_GUARD_STAT] s (s.raCommanded dt p kind plane tag) :=
  ((keeps_request s dt p).mono (by simp)).trans ((keeps_raAsked _ kind plane tag).mono (by simp))

theorem lat_raCommanded : (s.raCommanded dt p kind plane tag).lat = s.lat := lat_request s dt p

theorem raTargets_raCommanded : (s.raCommanded dt p kind plane tag).raTargets = (s.set LAT_RA_CMD_KIND kind).raTargets := by
  have map : (s.request dt p).map = s.map := by rw [request_eq]; rfl
  have kinds : (s.raCommanded dt p kind plane tag).on LAT_RA_CMD_KIND = (s.set LAT_RA_CMD_KIND kind).on LAT_RA_CMD_KIND := by
    rw [State.raCommanded, kind_raAsked, on_set_kind]
  refine raTargets_congr map kinds fun a ha => ?_
  have command : LAT_RA_CMD < LAT_RA_RANGE := by decide
  have guard : GLB_GUARD_STAT < LAT_RA_RANGE := by decide
  rw [(keeps_raCommanded s dt kind plane tag p).reg (by simp only [List.mem_cons, List.not_mem_nil, or_false]; omega),
    State.reg_set_ne s LAT_RA_CMD_KIND kind (show a ≠ LAT_RA_CMD by omega)]

end

/-- START is an action on the state in which the command's fields stand. -/
theorem gives_repairAnalysis {s t : State} {p : Path} {dt kind plane tag : Nat} (h : s.takes p LAT_RA_CMD = true)
    (ht : startAnalysis (s.raCommanded dt p kind plane tag) = t) : Gives (.repairAnalysis dt p kind plane tag) s t :=
  gives_of_act rfl ((write32_raCmd (b := 1) (by decide) kind plane tag h dt).trans ht)

theorem gives_repairAnalysisAbort {s : State} {p : Path} (h : s.takes p LAT_RA_CMD = true) (dt kind plane tag : Nat) :
    Gives (.repairAnalysisAbort dt p kind plane tag) s (abortAnalysis (s.raCommanded dt p kind plane tag)) :=
  gives_of_act rfl (write32_raCmd (b := 2) (by decide) kind plane tag h dt)

/-- Settles O38: each command is its action on the state in which it acts. -/
theorem clearsAndAnalyses : Obligations.ClearsAndAnalyses := by
  unfold Obligations.ClearsAndAnalyses
  refine ⟨?clear, ?clearEnd, ?command, ?step, ?collector, ?window⟩
  case clear =>
    intro s dt p columns blocks takes idle mode range
    have small {v : Nat} (hv : v ∈ s.clearRange) : v < 4096 := lt_of_lt_of_le (lt_vertices_of_clearRange hv) s.vertices_le
    have asked := keeps_clearAsked s dt p columns blocks
    refine ⟨_, gives_latClear takes idle mode range dt columns blocks, State.on_raise _ rfl (by decide), ?_, ?_, ?_, ?_⟩
    · rintro rfl v hv e he
      exact cmapEntry_clearedOf blocks s.clearRange (s.clearAsked dt p true blocks) hv he
    · rintro rfl
      obtain ⟨-, -, -, -, cmap, -⟩ := asked
      exact (cmap_clearedOf_false blocks s.clearRange _).trans cmap
    · rintro rfl v hv i hi
      rw [State.raise, State.reg_set_ne _ _ _ (by simp only [LAT_BB, LAT_CLEAR]; omega), reg_clearedOf columns _ _ hv (small hv) hi]
    · rintro rfl a ha
      have apart : a ≠ LAT_CLEAR := fun h => ha (h ▸ List.mem_cons_self)
      rw [State.raise, State.reg_set_ne _ _ _ apart, State.reg, regs_clearedOf_false]
      exact asked.reg ha
  case clearEnd =>
    intro s dt
    refine ⟨fun idle => gives_of_act rfl (endClear_idle (s := s.tick dt) idle), fun runs => ?_⟩
    refine ⟨_, gives_of_act rfl (endClear_runs (s := s.tick dt) runs), ?_, ?_⟩
    · rw [State.on_of_get ((keeps_pend 292 _).get (by decide)), State.on_set_zero _ rfl (by decide)]
    · exact ((keeps_set _ _ (by simp)).trans ((keeps_pend 292 _).mono (by simp))).fromTick
  case command =>
    intro s dt kind plane tag p takes
    have kept := keeps_raCommanded s dt kind plane tag p
    have lat := lat_raCommanded s dt kind plane tag p
    have fits : (s.raCommanded dt p kind plane tag).raFits = s.raFits := kept.raFits (by decide)
    refine ⟨fun idle unfit => ?refused, fun idle fit targets => ?starts, fun busy => ?busy, ?abort⟩
    case refused =>
      refine ⟨_, gives_repairAnalysis takes (startAnalysis_refused (by rw [lat, idle]) (fits.trans unfit)), ?_, ?_, ?_⟩
      · rw [(keeps_pend 288 _).get (by decide), State.get_set_self _ _ _ (by decide)]
        rfl
      · rw [(signals_pend 288 _).lat, State.set_lat, lat]
      · exact ((kept.mono (by simp)).trans (keeps_set _ _ (by simp))).trans ((keeps_pend 288 _).mono (by simp))
    case starts =>
      have starts := startAnalysis_starts (by rw [lat, idle]) (fits.trans fit) (by rwa [raTargets_raCommanded])
      refine ⟨_, gives_repairAnalysis takes starts, ?_, ?_, ?_⟩
      · rw [State.on_of_get ((keeps_modLat [] _ _).get (by decide)), State.raCleared, State.on_raise _ rfl (by decide)]
      · rw [modLat_lat, raTargets_raCommanded, State.raCommanded, kind_raAsked, plane_raAsked, tag_raAsked]
      · exact ((kept.mono (by simp)).trans ((keeps_raCleared _).mono (by simp))).trans (keeps_modLat _ _ _)
    case busy =>
      exact ⟨_, gives_repairAnalysis takes (startAnalysis_busy (by rwa [lat])), lat, kept⟩
    case abort =>
      refine ⟨_, gives_repairAnalysisAbort takes dt kind plane tag, ?_, kept.trans (keeps_modLat _ _ _)⟩
      rw [abortAnalysis, modLat_lat, lat]
  case step =>
    intro s dt
    refine ⟨fun h => gives_of_act rfl (analysisDone_none (s := s.tick dt) h), fun x v vs runs ra todo => ?_⟩
    refine ⟨fun last => ?ends, fun abort more => ?goesOn⟩
    case ends =>
      obtain ⟨none, start, result⟩ := endAnalysis_ends (if x.abort then 2 else 1) (analysed x v (s.tick dt))
      refine ⟨_, gives_of_act rfl (analysisDone_ends (s := s.tick dt) runs ra todo last), none, start, result.trans ?_⟩
      split_ifs <;> rfl
    case goesOn =>
      refine ⟨_, gives_of_act rfl (analysisDone_continues (s := s.tick dt) runs ra todo abort more), rfl, fun hv nand empty => ?_⟩
      have nandStep : analysed x v (s.tick dt) = analyseNand v x.plane x.tag (s.tick dt) := if_neg (by simp [nand])
      rw [nandStep]
      exact ((keeps_modLat [] _ _).get (by decide)).trans (repaired_analyseNand (s := s.tick dt) hv empty x.plane x.tag)
  case collector =>
    intro s dt c p hc takes
    have cleared : ((setCollector c { (s.request dt p).collector c with working := CollSide.init, committed := CollSide.init }
        (s.request dt p)).collector c) = { (s.request dt p).collector c with working := CollSide.init, committed := CollSide.init } :=
      collector_setCollector ..
    refine ⟨_, gives_of_act rfl (write32_collClear hc takes dt), congrArg Collector.working cleared, congrArg Collector.committed cleared,
      stored_setCollector .., early_setCollector .., ?_, ?_⟩
    · exact (pending_setCollector ..).trans (bne_self_eq_false _)
    · exact ((keeps_request s dt p).mono (by simp)).trans ((keeps_setCollector c _ _).mono (by simp))
  case window =>
    intro s dt word d p hw takes
    have writes := write32_cmapWindow hw takes dt d
    have place := windowPlace_request s dt p (4 * word)
    refine ⟨fun a ha => ?inside, fun outside => gives_of_act rfl (writes.trans (writeWindow_none (place.trans outside) _))⟩
    obtain ⟨regs, pool, ucode, stream, cmap, flash⟩ := keeps_request s dt p
    refine ⟨_, gives_of_act rfl (writes.trans (writeWindow_some (place.trans ha) _)), ?_, fun b hb => ?_, pool, ucode, stream, flash, regs⟩
    · exact (Memory.word_putWord _ _ 4 _).trans (Nat.mod_mod _ _)
    · exact (Memory.byte_putWord_outside _ _ hb).trans (by rw [cmap])

end Sys2Proof.Machine
end

section
/-!
SUPPORT. An offered shot of a fine TDC unit at the acquisition units (R248, R266 to R273): it leaves the registers of the facets' windows
alone.
-/

namespace Sys2Proof.Machine
open Sys2Proof.Reg

/-! ## The registers of the facets' windows (R25) -/

/-- What the registers from the first facet's window up hold. -/
def State.windows (s : State) : Nat → Word64 := fun o => s.reg (0x1000000 + o)

section
variable {s t u : State}

theorem get_of_windows (h : t.windows = s.windows) {f : Fld} (hf : 0x1000000 ≤ f.addr) : t.get f = s.get f := by
  have same : t.reg (0x1000000 + (f.addr - 0x1000000)) = s.reg (0x1000000 + (f.addr - 0x1000000)) := congrFun h _
  rw [Nat.add_sub_of_le hf] at same
  exact State.get_of_reg same

theorem Keeps.windows {as : List Nat} (h : Keeps as s t) (below : ∀ a ∈ as, a < 0x1000000) : t.windows = s.windows :=
  funext fun o => h.reg fun mem => by have := below _ mem; omega

theorem windows_ite {c : Prop} [Decidable c] (ht : t.windows = s.windows) (hu : u.windows = s.windows) :
    (if c then t else u).windows = s.windows := by
  split
  · exact ht
  · exact hu

theorem windows_foldl_mem {α : Type} {g : State → α → State} {xs : List α} (h : ∀ s, ∀ x ∈ xs, (g s x).windows = s.windows) (s : State) :
    (xs.foldl g s).windows = s.windows := by
  induction xs generalizing s with
  | nil => rfl
  | cons x xs ih =>
    exact (ih (fun s y mem => h s y (List.mem_cons_of_mem x mem)) (g s x)).trans (h s x List.mem_cons_self)

theorem windows_foldl {α : Type} {g : State → α → State} (h : ∀ s x, (g s x).windows = s.windows) (xs : List α) (s : State) :
    (xs.foldl g s).windows = s.windows := foldl_same State.windows h xs s

theorem windows_set (s : State) {f : Fld} (v : Nat) (below : f.addr < 0x1000000 := by decide) : (s.set f v).windows = s.windows :=
  (keeps_set (as := [f.addr]) s v List.mem_cons_self).windows (by simpa using below)

theorem windows_signalSet (m : Nat) (s : State) : (signalSet m s).windows = s.windows := (keeps_signalSet m s).windows (by decide)

theorem windows_pend (n : Nat) (s : State) : (pend n s).windows = s.windows := by
  unfold pend
  split
  case isTrue events =>
    have source : n < 512 := edgeSource_lt (by simp_all)
    exact (windows_signalSet _ _).trans (windows_set s _ (by simp only [ICL_PEND]; omega))
  case isFalse => rfl

/-! ## Pages and translations -/

theorem windows_setFree (n : Nat) (s : State) : (setFree n s).windows = s.windows := by
  have emptied := windows_set s (f := DMA_POOL_FREE_FREE) n
  unfold setFree withGroup
  dsimp only
  rw [windows_signalSet, windows_set]
  exact windows_ite ((windows_set _ 1).trans emptied) (windows_ite ((windows_set _ 0).trans emptied) emptied)

theorem windows_freePages (p k : Nat) (s : State) : (freePages p k s).windows = s.windows := windows_setFree _ (markPages false p k s)

theorem windows_modSpillPage (p : Nat) (v : SpillPage) (s : State) : (modSpillPage p v s).windows = s.windows := rfl

theorem windows_takePages {k p : Nat} (h : takePages k s = some (p, t)) : t.windows = s.windows := by
  simp only [takePages, Option.ite_none_left_eq_some, Option.some.injEq, Prod.mk.injEq] at h
  obtain ⟨-, -, rfl⟩ := h
  exact windows_setFree _ _

theorem windows_countSpillPages (s : State) : (countSpillPages s).windows = s.windows := windows_set s _

theorem windows_sendTranslations (s : State) : (sendTranslations s).windows = s.windows := by
  unfold sendTranslations
  refine windows_ite rfl (windows_foldl (fun s w => ?_) _ _)
  split <;> rfl

theorem windows_translate (who : Requester) (addr : Nat) (write : Bool) (s : State) : (translate who addr write s).2.windows = s.windows := by
  have looked : (cacheLookup (pageOf addr) write s).2.windows = s.windows := by
    unfold cacheLookup
    split <;> rfl
  unfold translate
  split
  · rfl
  · generalize cacheLookup (pageOf addr) write s = found at looked
    obtain ⟨hit, t⟩ := found
    cases hit
    · dsimp only
      split
      · exact looked
      · exact (windows_sendTranslations _).trans looked
    · exact looked

end

/-! ## Blocks of an acquisition unit (R267 to R273, R301) -/

section
variable {w : Nat}

theorem windows_modAcq (w : Nat) (g : AcqUnit → AcqUnit) (s : State) : (modAcq w g s).windows = s.windows := rfl

theorem windows_spillBlocks (s : State) : (spillBlocks w s).windows = s.windows := by
  refine windows_foldl (fun s i => ?_) _ s
  dsimp only
  split
  · refine windows_ite rfl ?_
    split
    · rfl
    next taken =>
      rw [windows_modAcq, windows_countSpillPages, windows_modSpillPage, windows_takePages taken]
  · rfl

theorem windows_startBlock (s : State) : (startBlock w s).windows = s.windows := by
  refine windows_ite rfl (windows_ite (windows_spillBlocks s) (windows_ite rfl (windows_ite rfl (windows_ite rfl ?_))))
  have asked := windows_translate (.acq w) (s.destSlot w) true s
  generalize translate (.acq w) (s.destSlot w) true s = answer at asked
  obtain ⟨go, t⟩ := answer
  cases go <;> exact asked

theorem windows_queueBlock (b : AcqBlock) (s : State) : (queueBlock w b s).windows = s.windows := windows_startBlock _

theorem windows_queueCapture (items : List AcqItem) (trig : Option Nat) (ended : Bool) (s : State) :
    (queueCapture w items trig ended s).windows = s.windows := windows_foldl (fun s b => windows_queueBlock b s) _ s

theorem windows_closeStreamBlock (last ended : Bool) (s : State) : (closeStreamBlock w last ended s).windows = s.windows :=
  windows_ite rfl (windows_queueBlock _ _)

end

/-! ## The registers of an acquisition unit -/

section
variable {w : Nat} (hw : w < 16)
include hw

/-- The registers of an acquisition unit stand below the facets' windows. -/
theorem windows_setUnit (s : State) {f : Fld} (v : Nat)
    (h : f.addr ∈ [ACQ_U_STAT w, ACQ_U_CTRL w, ACQ_U_LAST_TRIG_AT w, ACQ_U_CAPTURES w, ACQ_U_LOST w, ACQ_U_IGN_FILL w,
      ACQ_U_IGN_REARM w] := by simp) :
    (s.set f v).windows = s.windows := by
  refine windows_set s v ?_
  simp only [ACQ_U_STAT, ACQ_U_CTRL, ACQ_U_LAST_TRIG_AT, ACQ_U_CAPTURES, ACQ_U_LOST, ACQ_U_IGN_FILL, ACQ_U_IGN_REARM, List.mem_cons,
    List.not_mem_nil, or_false] at h
  omega

theorem windows_setAq (st : Nat) (s : State) : (setAq w st s).windows = s.windows := windows_setUnit hw s st

theorem windows_raiseAq {f : Fld} (h : f.addr = ACQ_U_STAT w) (s : State) : (raiseAq w f s).windows = s.windows :=
  windows_ite rfl ((windows_pend _ _).trans (windows_setUnit hw s 1 (by simp [h])))

theorem windows_releaseUnit (s : State) : (releaseUnit w s).windows = s.windows := by
  have freed : ((s.acqUnit w).pages.foldl (fun s p => freePages p 1 s) s).windows = s.windows :=
    windows_foldl (fun s p => windows_freePages p 1 s) _ s
  unfold releaseUnit
  dsimp only
  rw [windows_setAq hw, windows_setUnit hw]
  exact windows_ite freed freed

theorem windows_deliverDone (s : State) : (deliverDone w s).windows = s.windows := windows_ite (windows_releaseUnit hw s) rfl

theorem windows_endCapture (ended : Bool) (s : State) : (endCapture w ended s).windows = s.windows := by
  refine (windows_deliverDone hw _).trans ((windows_queueCapture _ _ ended _).trans ((windows_setAq hw _ _).trans ?_))
  exact windows_ite (windows_raiseAq hw rfl s) rfl

/-! ## Items, samples and triggers (R266, R269 to R272) -/

theorem windows_storeItem (i : AcqItem) (s : State) : (storeItem w i s).windows = s.windows := by
  refine windows_ite ?stream (windows_ite ?capture rfl)
  case stream =>
    refine (windows_ite (windows_closeStreamBlock false false _) rfl).trans ?_
    exact windows_ite (windows_closeStreamBlock false false s) rfl
  case capture =>
    refine (windows_ite (windows_setAq hw aqReady _) ?_).trans (windows_ite (windows_setUnit hw _ _) rfl)
    split
    · exact windows_ite (windows_endCapture hw false _) rfl
    · rfl

theorem windows_storeSample (e : AcqEntry) (s : State) : (storeSample w e s).windows = s.windows := by
  refine windows_ite (windows_setUnit hw _ _) ?_
  have noted (c : Bool) : (if c then raiseAq w (ACQ_U_STAT_GAP w) (aqAlarm w s) else s).windows = s.windows :=
    windows_ite ((windows_raiseAq hw rfl _).trans (windows_pend _ s)) rfl
  refine windows_ite (windows_ite ?_ ?_) ?_
  · exact (windows_storeItem hw _ _).trans (noted _)
  · exact noted _
  · exact (windows_storeItem hw _ _).trans (noted _)

theorem windows_ignoreTrigger (fill : Bool) (s : State) : (ignoreTrigger w fill s).windows = s.windows :=
  windows_ite (windows_setUnit hw _ _) (windows_setUnit hw _ _)

theorem windows_triggerUnit (t : Nat) (s : State) : (triggerUnit w t s).2.windows = s.windows := by
  have counted (g : AcqUnit → AcqUnit) : (setAq w aqPost ((modAcq w g s).count (ACQ_U_CAPTURES_COUNT w) 1)).windows = s.windows :=
    (windows_setAq hw _ _).trans (windows_setUnit hw _ _)
  have placed (g : AcqUnit → AcqUnit) (v : Nat) : ((setAq w aqPost ((modAcq w g s).count (ACQ_U_CAPTURES_COUNT w) 1)).set
      (ACQ_U_LAST_TRIG_AT_AT w) v).windows = s.windows := (windows_setUnit hw _ v).trans (counted g)
  unfold triggerUnit
  dsimp only
  split
  · rfl
  · split
    · exact windows_ignoreTrigger hw true s
    · split
      · split
        · rfl
        · exact windows_ignoreTrigger hw false s
      · split
        · exact windows_ignoreTrigger hw true s
        · split
          · exact windows_ite ((windows_endCapture hw false _).trans (placed _ _)) (placed _ _)
          · exact counted _

end

theorem windows_triggerChain (n t : Nat) {w : Nat} (hw : w < 16) (s : State) : (triggerChain n w t s).windows = s.windows := by
  induction n generalizing w s with
  | zero => rfl
  | succ n ih =>
    have triggered := windows_triggerUnit hw t s
    unfold triggerChain
    generalize triggerUnit w t s = answer at triggered
    obtain ⟨accepted, u⟩ := answer
    cases accepted
    · exact triggered
    · exact (windows_foldl_mem (fun s v mem => ih (by simp_all) s) _).trans triggered

theorem windows_inputSample {w : Nat} (hw : w < 16) (e : AcqEntry) (s : State) : (inputSample w e s).windows = s.windows := by
  have triggered (c : Bool) : (if c then trigger w e.at_ s else s).windows = s.windows :=
    windows_ite (windows_triggerChain 16 e.at_ hw s) rfl
  refine windows_ite rfl ((windows_storeSample hw e _).trans (windows_ite ?_ ?_))
  · exact triggered _
  · exact triggered _

theorem windows_offerShot (f u t x : Nat) (suspect stale : Bool) (s : State) : (offerShot f u t x suspect stale s).windows = s.windows :=
  windows_foldl_mem (fun s w mem => windows_inputSample (by simp_all [State.aqUnits]) _ s) s

end Sys2Proof.Machine
end

section
/-!
SUPPORT. Fine TDC units (R244 to R251): what a run holds, how it starts and ends, and the write of TDC_CTRL.
-/

namespace Sys2Proof.Machine
open Sys2Proof.Reg

/-! ## A unit's run is no register -/

@[simp] theorem tdcRun_setTdc (f u : Nat) (r : Option TdcRun) (s : State) : (setTdc f u r s).tdcRun f u = r := Store.find_put_self ..

@[simp] theorem get_setTdc (f u : Nat) (r : Option TdcRun) (s : State) (fld : Fld) : (setTdc f u r s).get fld = s.get fld := rfl

@[simp] theorem on_setTdc (f u : Nat) (r : Option TdcRun) (s : State) (fld : Fld) : (setTdc f u r s).on fld = s.on fld := rfl

theorem tdcRun_congr {s t : State} (h : t.tdc = s.tdc) (f u : Nat) : t.tdcRun f u = s.tdcRun f u := by rw [State.tdcRun, h, State.tdcRun]

@[simp] theorem tdcRun_set (s : State) (fld : Fld) (v f u : Nat) : (s.set fld v).tdcRun f u = s.tdcRun f u := tdcRun_congr rfl f u

theorem Signals.tdc {s t : State} (h : Signals s t) : t.tdc = s.tdc := by
  obtain ⟨_, _, _, rfl⟩ := h
  rfl

theorem tdcRun_request (s : State) (dt : Nat) (p : Path) (f u : Nat) : (s.request dt p).tdcRun f u = s.tdcRun f u :=
  tdcRun_congr (by rw [request_eq]; rfl) f u

theorem keeps_setTdc (as : List Nat) (f u : Nat) (r : Option TdcRun) (s : State) : Keeps as s (setTdc f u r s) :=
  ⟨fun _ _ => rfl, rfl, rfl, rfl, rfl, rfl⟩

/-! ## The end of a run (R249, R250) -/

/-- MEAN over `n` shots whose durations add up to `sum`, in units of 2^-16 of a stamp unit, rounded to the nearest (R250). -/
def shotMean (n sum : Nat) : Nat := if n = 0 then 0 else (2 ^ 17 * sum + n) / (2 * n)

/-- The statistics of a run that has counted `n` shots are written (R250). -/
def showStatistics (f u n : Nat) (r : TdcRun) (s : State) : State :=
  (((s.set (FCT_TDC_MEAN_MEAN f u) (shotMean n r.sum)).set (FCT_TDC_STDEV_STDEV f u)
      (if n ≤ 1 then 0 else rootDiv (2 ^ 32 * (n * r.sumSq - r.sum * r.sum)) (n * (n - 1)))).set
      (FCT_TDC_MIN_MIN f u) (if n = 0 then 0 else r.least)).set (FCT_TDC_MAX_MAX f u) (if n = 0 then 0 else r.most)

/-- A unit shows that its run is over: BUSY and START clear, END says how, and DONE sets and is signalled (R249). -/
def showOver (f u code : Nat) (s : State) : State :=
  withLevel (16 * f) (fun s => s.setBit (FCT_TMU_DONE_DONE f) u true)
    (((s.set (FCT_TDC_STAT_BUSY f u) 0).set (FCT_TDC_CTRL_START f u) 0).set (FCT_TDC_STAT_END f u) code)

theorem endTdc_none {s : State} {f u : Nat} (h : s.tdcRun f u = none) (code : Nat) : endTdc f u code s = s := by rw [endTdc, h]

theorem endTdc_some {s : State} {f u : Nat} {r : TdcRun} (h : s.tdcRun f u = some r) (code : Nat) :
    endTdc f u code s = showOver f u code (showStatistics f u (s.get (FCT_TDC_COUNT_COUNT f u)) r (setTdc f u none s)) := by
  rw [endTdc, h]
  rfl

/-- The registers in which the end of a run shows. -/
def tdcEndRegs (f u : Nat) : List Nat :=
  [FCT_TDC_MEAN f u, FCT_TDC_STDEV f u, FCT_TDC_MIN f u, FCT_TDC_MAX f u, FCT_TDC_STAT f u, FCT_TDC_CTRL f u, FCT_TMU_DONE f, DMA_MSIX_PBA 0]

theorem keeps_showStatistics (f u n : Nat) (r : TdcRun) (s : State) : Keeps (tdcEndRegs f u) s (showStatistics f u n r s) :=
  (((keeps_set s _ (by simp [tdcEndRegs])).trans (keeps_set _ _ (by simp [tdcEndRegs]))).trans (keeps_set _ _ (by simp [tdcEndRegs]))).trans
    (keeps_set _ _ (by simp [tdcEndRegs]))

theorem keeps_showOver (f u code : Nat) (s : State) : Keeps [FCT_TDC_STAT f u, FCT_TDC_CTRL f u, FCT_TMU_DONE f, DMA_MSIX_PBA 0] s
    (showOver f u code s) :=
  (((keeps_set s _ (by simp)).trans (keeps_set _ _ (by simp))).trans (keeps_set _ _ (by simp))).trans
    (Keeps.withGroup (keeps_set _ _ (by simp)) (by simp))

theorem keeps_endTdc (f u code : Nat) (s : State) : Keeps (tdcEndRegs f u) s (endTdc f u code s) := by
  cases run : s.tdcRun f u with
  | none =>
    rw [endTdc_none run]
    exact Keeps.refl _ s
  | some r =>
    rw [endTdc_some run]
    exact ((keeps_setTdc _ f u none s).trans (keeps_showStatistics f u _ r _)).trans ((keeps_showOver f u code _).mono (by simp [tdcEndRegs]))

theorem tdcRun_endTdc (f u code : Nat) (s : State) : (endTdc f u code s).tdcRun f u = none := by
  cases run : s.tdcRun f u with
  | none => rwa [endTdc_none run]
  | some r =>
    rw [endTdc_some run, showOver, withLevel, tdcRun_congr (signals_withGroup _ _ _).tdc]
    simp [State.setBit, showStatistics]

/-- Of a unit's own registers the end of its run writes what stands before DONE. -/
theorem get_showOver {f u : Nat} (code : Nat) (s : State) {fld : Fld} (h : fld.addr ∈ [FCT_TDC_STAT f u, FCT_TDC_CTRL f u]) :
    (showOver f u code s).get fld =
      (((s.set (FCT_TDC_STAT_BUSY f u) 0).set (FCT_TDC_CTRL_START f u) 0).set (FCT_TDC_STAT_END f u) code).get fld := by
  simp only [FCT_TDC_STAT, FCT_TDC_CTRL, List.mem_cons, List.not_mem_nil, or_false] at h
  rw [showOver, get_withLevel _ _ _ (by simp only [DMA_MSIX_PBA]; omega), State.setBit,
    State.get_set_ne _ _ _ _ (by simp only [FCT_TMU_DONE]; omega)]

/-- A run has ended: END says how, BUSY and START are clear, and the unit's DONE bit is set. -/
theorem endTdc_shows {s : State} {f u : Nat} {r : TdcRun} (hu : u < 32) (h : s.tdcRun f u = some r) (code : Nat) :
    (endTdc f u code s).get (FCT_TDC_STAT_END f u) = code % 4 ∧ (endTdc f u code s).on (FCT_TDC_STAT_BUSY f u) = false ∧
      (endTdc f u code s).on (FCT_TDC_CTRL_START f u) = false ∧ (endTdc f u code s).bitOf (FCT_TMU_DONE_DONE f) u = true := by
  rw [endTdc_some h]
  refine ⟨?end_, ?busy, ?start, ?done⟩
  case end_ => exact (get_showOver code _ (by simp)).trans (State.get_set_self _ (FCT_TDC_STAT_END f u) code (by simp))
  case busy =>
    rw [State.on_of_get (get_showOver code _ (by simp)), State.on_set_apart _ _ _ _ (by simp) (.inl (by simp)),
      State.on_of_get (State.get_set_ne _ _ _ _ (by simp)), State.on_set_zero _ rfl (by simp)]
  case start =>
    rw [State.on_of_get (get_showOver code _ (by simp)), State.on_of_get (State.get_set_ne _ _ _ _ (by simp)),
      State.on_set_zero _ rfl (by simp)]
  case done =>
    rw [State.bitOf, showOver, get_withLevel _ _ _ (by simp only [FCT_TMU_DONE, DMA_MSIX_PBA]; omega)]
    exact bitOf_setBit _ hu (by simp; omega) true

theorem get_endTdc_mean {s : State} {f u : Nat} {r : TdcRun} (h : s.tdcRun f u = some r) (code : Nat) :
    (endTdc f u code s).get (FCT_TDC_MEAN_MEAN f u) = shotMean (s.get (FCT_TDC_COUNT_COUNT f u)) r.sum % 2 ^ 64 := by
  have apart : FCT_TDC_MEAN f u ∉ [FCT_TDC_STAT f u, FCT_TDC_CTRL f u, FCT_TMU_DONE f, DMA_MSIX_PBA 0] := by
    simp only [FCT_TDC_MEAN, FCT_TDC_STAT, FCT_TDC_CTRL, FCT_TMU_DONE, DMA_MSIX_PBA, List.mem_cons, List.not_mem_nil, or_false]
    omega
  rw [endTdc_some h, (keeps_showOver f u code _).get apart, showStatistics, State.get_set_ne _ _ _ _ (by simp),
    State.get_set_ne _ _ _ _ (by simp), State.get_set_ne _ _ _ _ (by simp), State.get_set_self _ _ _ (by simp)]

/-! ## The start of a run (R244, R249) -/

/-- A run that has counted nothing. -/
def newRun : TdcRun := ⟨0, none, none, none, 0, 0, 2 ^ 64 - 1, 0⟩

/-- A unit with a new run: COUNT and STALE clear, START and BUSY set. -/
def beginRun (f u : Nat) (s : State) : State :=
  setTdc f u (some newRun)
    ((((s.set (FCT_TDC_COUNT_COUNT f u) 0).set (FCT_TDC_STAT_STALE f u) 0).raise (FCT_TDC_CTRL_START f u)).set (FCT_TDC_STAT_BUSY f u) 1)

theorem keeps_beginRun (f u : Nat) (s : State) : Keeps [FCT_TDC_CTRL f u, FCT_TDC_COUNT f u, FCT_TDC_STAT f u] s (beginRun f u s) :=
  ((((keeps_set s _ (by simp)).trans (keeps_set _ _ (by simp))).trans (keeps_set _ _ (by simp))).trans (keeps_set _ _ (by simp))).trans
    (keeps_setTdc _ f u _ _)

theorem get_beginRun_count (f u : Nat) (s : State) : (beginRun f u s).get (FCT_TDC_COUNT_COUNT f u) = 0 := by
  rw [beginRun, get_setTdc, State.raise, State.get_set_ne _ _ _ _ (by simp), State.get_set_ne _ _ _ _ (by simp),
    State.get_set_ne _ _ _ _ (by simp), State.get_set_self _ _ _ (by simp), Nat.zero_mod]

theorem on_beginRun_busy (f u : Nat) (s : State) : (beginRun f u s).on (FCT_TDC_STAT_BUSY f u) = true := by
  rw [beginRun, on_setTdc]
  exact State.on_raise _ rfl (by simp)

/-- N - 1 stands beside START. -/
theorem get_beginRun_shots (f u : Nat) (s : State) : (beginRun f u s).get (FCT_TDC_CTRL_N_M1 f u) = s.get (FCT_TDC_CTRL_N_M1 f u) := by
  rw [beginRun, get_setTdc, State.raise, State.get_set_ne _ _ _ _ (by simp), State.get_set_apart _ _ _ _ (by simp) (.inl (by simp)),
    State.get_set_ne _ _ _ _ (by simp), State.get_set_ne _ _ _ _ (by simp)]

theorem running_of_keeps {as : List Nat} {s t : State} (h : Keeps as s t) (apart : GLB_MODE ∉ as) : t.running = s.running := by
  rw [State.running, h.mode apart, State.running]

/-- A unit without an AXIS start waits for an event (R248). -/
theorem awaitStart_event {s : State} {f u : Nat} (h : s.get (FCT_TDC_START_SEL_KIND f u) ≠ 2) (r : TdcRun) :
    awaitStart f u r s = setTdc f u (some { r with start := none }) s := by
  have kind : s.tdcKind f u false ≠ 2 := h
  rw [awaitStart, if_neg (by simp [kind])]

theorem tdcRun_beginRun (f u : Nat) (s : State) : (beginRun f u s).tdcRun f u = some newRun := tdcRun_setTdc ..

theorem startTdc_idle {s : State} {f u : Nat} (h : s.tdcRun f u = none) :
    startTdc f u s = if s.running then awaitStart f u newRun (beginRun f u s) else endTdc f u 2 (beginRun f u s) := by
  have mode : (beginRun f u s).running = s.running := running_of_keeps (keeps_beginRun f u s) (by
    simp only [GLB_MODE, FCT_TDC_CTRL, FCT_TDC_COUNT, FCT_TDC_STAT, List.mem_cons, List.not_mem_nil, or_false]
    omega)
  rw [startTdc, if_neg (by simp [h]), ← mode]
  rfl

/-- In HOST and AUTO a unit without an AXIS start waits for the first shot. -/
theorem startTdc_waits {s : State} {f u : Nat} (h : s.tdcRun f u = none) (running : s.running = true)
    (event : s.get (FCT_TDC_START_SEL_KIND f u) ≠ 2) : startTdc f u s = setTdc f u (some newRun) (beginRun f u s) := by
  have kind : (beginRun f u s).get (FCT_TDC_START_SEL_KIND f u) ≠ 2 := by rwa [(keeps_beginRun f u s).get (by simp)]
  rw [startTdc_idle h, if_pos running, awaitStart_event kind]
  rfl

/-- In another mode the run ends at once. -/
theorem startTdc_refused {s : State} {f u : Nat} (h : s.tdcRun f u = none) (stopped : s.running = false) :
    startTdc f u s = endTdc f u 2 (beginRun f u s) := by rw [startTdc_idle h, if_neg (by simp [stopped])]

/-! ## TDC_CTRL (R251) -/

theorem write32_tdcCtrl {s : State} {p : Path} {f u : Nat} (hf : f < 16) (hu : u < 32) (h : s.takes p (FCT_TDC_CTRL f u) = true) (dt d : Nat) :
    write32 p (FCT_TDC_CTRL f u) d (s.tick dt) = writeTdcCtrl f u (d % 2 ^ 32) (s.request dt p) := by
  have place : FCT_TDC_CTRL f u = 0x1000000 + f * 0x80000 + (0x70018 + u * 0x80) := by unfold FCT_TDC_CTRL; omega
  have unit : (0x70018 + u * 0x80 - 0x70000) / 0x80 = u := by omega
  have control : (0x70018 + u * 0x80) % 0x80 = 0x18 := by omega
  rw [write32_takes s dt p _ _ h, writeReg_fct hf (by omega) place, writeFct]
  iterate 9 rw [if_neg (by omega)]
  rw [if_pos (by omega), unit, control, writeTdc, if_pos rfl]

section
variable {s : State} {f u : Nat}

/-- While a run is in progress START and N - 1 are not taken. -/
theorem writeTdcCtrl_busy (h : (s.tdcRun f u).isSome = true) (d : Nat) :
    writeTdcCtrl f u d s = if d.testBit 25 then endTdc f u 2 s else s := by rw [writeTdcCtrl, if_pos h, abortTdc]

theorem writeTdcCtrl_idle (h : s.tdcRun f u = none) (d : Nat) :
    writeTdcCtrl f u d s = actIf (d.testBit 25) (endTdc f u 2) (actIf (d.testBit 24) (startTdc f u) (s.set (FCT_TDC_CTRL_N_M1 f u) d)) := by
  rw [writeTdcCtrl, if_neg (by simp [h])]
  rfl

end

/-- N - 1 takes the low 24 bits of what is written. -/
theorem set_shots_congr {d e : Nat} (h : d % 2 ^ 24 = e % 2 ^ 24) (s : State) (f u : Nat) :
    s.set (FCT_TDC_CTRL_N_M1 f u) d = s.set (FCT_TDC_CTRL_N_M1 f u) e := by
  rw [← State.set_mod s (FCT_TDC_CTRL_N_M1 f u) d, ← State.set_mod s (FCT_TDC_CTRL_N_M1 f u) e]
  exact congrArg (s.set (FCT_TDC_CTRL_N_M1 f u)) h

/-- The word that TDC_START writes: START, and N - 1. -/
def startWord (n1 : Nat) : Nat := (n1 % 2 ^ 24 + 2 ^ 24) % 2 ^ 32

theorem startWord_start (n1 : Nat) : (startWord n1).testBit 24 = true := by
  rw [Nat.testBit_eq_decide_div_mod_eq, decide_eq_true_eq, startWord]
  omega

theorem startWord_abort (n1 : Nat) : (startWord n1).testBit 25 = false := by
  rw [Nat.testBit_eq_decide_div_mod_eq, decide_eq_false_iff_not, startWord]
  omega

theorem startWord_shots (n1 : Nat) : startWord n1 % 2 ^ 24 = n1 % 2 ^ 24 := by
  rw [startWord]
  omega

end Sys2Proof.Machine
end

section
/-!
SUPPORT. The shots of a fine TDC unit (R245, R248): how one is discarded, started and counted.
-/

namespace Sys2Proof.Machine
open Sys2Proof.Reg

/-! ## A shot without a stop (R248) -/

section
variable {s : State} {f u t b : Nat} {r : TdcRun}

/-- An event of source 16f + 2 shows in the group of facet `f` (R256). -/
theorem keeps_pendTmu (f : Nat) (s : State) : Keeps [ICL_PEND f, DMA_MSIX_PBA 0] s (pend (16 * f + 2) s) := by
  have group : (16 * f + 2) / 16 = f := by omega
  have signalled := keeps_pend (16 * f + 2) s
  rwa [group] at signalled

theorem keeps_raiseTmu (f : Nat) (flag : Fld) (s : State) : Keeps [flag.addr, ICL_PEND f, DMA_MSIX_PBA 0] s (raiseTmu f flag s) := by
  unfold raiseTmu
  split
  · exact Keeps.refl _ s
  · exact (keeps_set s 1 (by simp)).trans ((keeps_pendTmu f _).mono (by simp))

/-- The shot is counted in TIMEOUTS, and source 16f + 2 pends. -/
def noteTimeoutShot (f u : Nat) (s : State) : State := pend (16 * f + 2) (s.countSat (FCT_TDC_TIMEOUTS_COUNT f u) 1)

theorem keeps_noteTimeoutShot (f u : Nat) (s : State) : Keeps [FCT_TDC_TIMEOUTS f u, ICL_PEND f, DMA_MSIX_PBA 0] s (noteTimeoutShot f u s) :=
  (keeps_set s _ (by simp)).trans ((keeps_pendTmu f _).mono (by simp))

theorem get_noteTimeoutShot (hf : f < 16) (u : Nat) (s : State) :
    (noteTimeoutShot f u s).get (FCT_TDC_TIMEOUTS_COUNT f u) = min (2 ^ 32 - 1) (s.get (FCT_TDC_TIMEOUTS_COUNT f u) + 1) := by
  have apart : FCT_TDC_TIMEOUTS f u ∉ [ICL_PEND f, DMA_MSIX_PBA 0] := by
    simp only [FCT_TDC_TIMEOUTS, ICL_PEND, DMA_MSIX_PBA, List.mem_cons, List.not_mem_nil, or_false]
    omega
  rw [noteTimeoutShot, (keeps_pendTmu f _).get apart]
  exact State.get_countSat s _ 1 (by simp)

/-- A shot that has timed out is counted as such, and the next waits for its start. -/
theorem discardShot_timeout (hf : f < 16) (h : s.get (FCT_TDC_START_SEL_KIND f u) ≠ 2) :
    discardShot f u r false s = setTdc f u (some { r with start := none, shot := r.shot + 1 }) (noteTimeoutShot f u s) := by
  have apart : FCT_TDC_START_SEL f u ∉ [FCT_TDC_TIMEOUTS f u, ICL_PEND f, DMA_MSIX_PBA 0] := by
    simp only [FCT_TDC_START_SEL, FCT_TDC_TIMEOUTS, ICL_PEND, DMA_MSIX_PBA, List.mem_cons, List.not_mem_nil, or_false]
    omega
  have kind : (noteTimeoutShot f u s).get (FCT_TDC_START_SEL_KIND f u) ≠ 2 := by rwa [(keeps_noteTimeoutShot f u s).get apart]
  simp only [discardShot, Bool.false_eq_true, if_false]
  rw [← noteTimeoutShot]
  exact awaitStart_event kind _

theorem shotExpired_late (start : r.start = some b) (some_ : ticksOf (s.get (FCT_TDC_TIMEOUT_TICKS f u)) ≠ 0)
    (late : (ticksOf (s.get (FCT_TDC_TIMEOUT_TICKS f u)) : Int) < stampDiff t b) :
    shotExpired f u r t s = some (discardShot f u r false s) := by
  rw [shotExpired, start]
  exact if_pos ⟨some_, late⟩

theorem shotExpired_running (start : r.start = some b)
    (young : ticksOf (s.get (FCT_TDC_TIMEOUT_TICKS f u)) = 0 ∨ stampDiff t b ≤ (ticksOf (s.get (FCT_TDC_TIMEOUT_TICKS f u)) : Int))
    (fits : stampDiff t b < (2 ^ 40 : Int)) : shotExpired f u r t s = none := by
  rw [shotExpired, start]
  dsimp only
  rw [if_neg (by omega), if_neg (by omega)]

theorem timeoutShot_none (h : s.tdcRun f u = none) : timeoutShot f u s = s := by rw [timeoutShot, h]

theorem timeoutShot_some (h : s.tdcRun f u = some r) : timeoutShot f u s = (shotExpired f u r s.now s).getD s := by rw [timeoutShot, h]

/-! ## AXIS events (R245) -/

theorem tdcAxis_none (h : s.tdcRun f u = none) (stop : Bool) : tdcAxis f u stop s = s := by rw [tdcAxis, h]

theorem tdcAxis_idle {stop : Bool} (h : s.tdcRun f u = some r) (idle : s.tdcKind f u stop ≠ 2 ∨ s.past (s.axisEvent f u stop r.shot) = false) :
    tdcAxis f u stop s = s := by
  rw [tdcAxis, h]
  exact if_neg (by simpa [or_iff_not_imp_left] using idle)

/-- An event that is no comparator edge passes the conditioning (R247). -/
theorem tdcAxis_due {stop : Bool} (h : s.tdcRun f u = some r) (kind : s.tdcKind f u stop = 2)
    (due : s.past (s.axisEvent f u stop r.shot) = true) :
    tdcAxis f u stop s = takeEvent f u stop false (s.axisEvent f u stop r.shot) r s := by
  rw [tdcAxis, h]
  dsimp only
  rw [if_pos (by simp [kind, due]), tdcEvent, h]
  rfl

/-- A stamp that is time-suspect is noted (R111). -/
def noteSuspect (f u : Nat) (s : State) : State := s.raiseIf (FCT_TDC_STAT_TIME_SUSPECT f u) (s.suspect f)

theorem keeps_noteSuspect (f u : Nat) (s : State) : Keeps [FCT_TDC_STAT f u] s (noteSuspect f u s) := by
  unfold noteSuspect State.raiseIf
  split
  · exact keeps_set s 1 (by simp)
  · exact Keeps.refl _ s

theorem tdcRun_noteSuspect (f u : Nat) (s : State) : (noteSuspect f u s).tdcRun f u = s.tdcRun f u := by
  unfold noteSuspect State.raiseIf
  split
  · exact tdcRun_set ..
  · rfl

theorem takeEvent_start (waits : r.start = none) (t : Nat) (s : State) :
    takeEvent f u false false t r s = noteSuspect f u (setTdc f u (some { r with start := some t }) s) := by
  unfold takeEvent
  rw [waits]
  rfl

/-- The stop of a shot in time counts it; the bound of R248 on two edges of one channel does not concern an AXIS stop. -/
theorem takeEvent_stop (start : r.start = some b) (runs : shotExpired f u r t s = none) (kind : s.tdcKind f u true = 2)
    (after : 0 ≤ stampDiff t b) :
    takeEvent f u true false t r s = countShot f u r b (stampDiff t b).toNat (noteSuspect f u s) := by
  obtain ⟨shot, _, edgeA, edgeB, sum, sumSq, least, most⟩ := r
  obtain rfl : _ = some b := start
  unfold takeEvent
  dsimp only
  rw [runs]
  exact if_neg (by simp [kind, after])

/-! ## A shot that is counted (R248) -/

/-- COUNT, LAST and LAST_AT after a shot from `b` that took `x`. -/
def noteShot (f u b x : Nat) (s : State) : State :=
  ((s.count (FCT_TDC_COUNT_COUNT f u) 1).set (FCT_TDC_LAST_LAST f u) x).set (FCT_TDC_LAST_AT_AT f u) b

/-- A run with one more shot. -/
def TdcRun.counted (r : TdcRun) (x : Nat) : TdcRun :=
  { r with shot := r.shot + 1, sum := r.sum + x, sumSq := r.sumSq + x * x, least := min r.least x, most := max r.most x }

/-- A shot has been counted and offered to the acquisition units that take the unit's stream. -/
def offeredShot (f u : Nat) (r : TdcRun) (b x : Nat) (s : State) : State :=
  let s := setTdc f u (some (r.counted x)) (noteShot f u b x s)
  offerShot f u b x (s.on (FCT_TDC_STAT_TIME_SUSPECT f u)) (s.on (FCT_TDC_STAT_STALE f u)) s

/-- With the last shot of N the run is COMPLETE; otherwise the next waits for its start. -/
theorem countShot_eq (f u : Nat) (r : TdcRun) (b x : Nat) (s : State) :
    countShot f u r b x s =
      let t := offeredShot f u r b x s
      if t.get (FCT_TDC_COUNT_COUNT f u) = t.get (FCT_TDC_CTRL_N_M1 f u) + 1 then endTdc f u 1 t else awaitStart f u (r.counted x) t := rfl

theorem keeps_awaitStart (f u : Nat) (r : TdcRun) (s : State) :
    Keeps [FCT_TDC_STAT f u, ICL_PEND f, DMA_MSIX_PBA 0] s (awaitStart f u r s) := by
  unfold awaitStart
  dsimp only
  split
  · exact (keeps_setTdc _ f u _ s).trans (keeps_raiseTmu f (FCT_TDC_STAT_MISSED f u) _)
  · exact keeps_setTdc _ f u _ s

/-- What follows a counted shot leaves its count and its stamps alone. -/
theorem get_countShot (hf : f < 16) (hu : u < 32) (r : TdcRun) (b x : Nat) (s : State) {fld : Fld}
    (h : fld.addr ∈ [FCT_TDC_COUNT f u, FCT_TDC_LAST f u, FCT_TDC_LAST_AT f u]) :
    (countShot f u r b x s).get fld = (noteShot f u b x s).get fld := by
  obtain ⟨high, own, unended⟩ : 0x1000000 ≤ fld.addr ∧ fld.addr ≠ FCT_TDC_STAT f u ∧ fld.addr ∉ tdcEndRegs f u := by
    simp only [tdcEndRegs, FCT_TDC_COUNT, FCT_TDC_LAST, FCT_TDC_LAST_AT, FCT_TDC_MEAN, FCT_TDC_STDEV, FCT_TDC_MIN, FCT_TDC_MAX, FCT_TDC_STAT,
      FCT_TDC_CTRL, FCT_TMU_DONE, DMA_MSIX_PBA, List.mem_cons, List.not_mem_nil, or_false] at h ⊢
    omega
  have waiting : fld.addr ∉ [FCT_TDC_STAT f u, ICL_PEND f, DMA_MSIX_PBA 0] := by
    clear h unended
    simp only [own, false_or, ICL_PEND, DMA_MSIX_PBA, List.mem_cons, List.not_mem_nil, or_false]
    omega
  have offered : (offeredShot f u r b x s).get fld = (noteShot f u b x s).get fld :=
    get_of_windows ((windows_offerShot ..).trans ((keeps_setTdc [] f u _ _).windows (by simp))) high
  rw [countShot_eq]
  dsimp only
  split
  · exact ((keeps_endTdc f u 1 _).get unended).trans offered
  · exact ((keeps_awaitStart f u _ _).get waiting).trans offered

/-- A shot has been counted: LAST holds its duration, LAST_AT its start, and COUNT is one more. -/
theorem countShot_shows (hf : f < 16) (hu : u < 32) (r : TdcRun) (b x : Nat) (s : State) :
    (countShot f u r b x s).get (FCT_TDC_LAST_LAST f u) = x % 2 ^ 64 ∧ (countShot f u r b x s).get (FCT_TDC_LAST_AT_AT f u) = b % 2 ^ 64 ∧
      (countShot f u r b x s).get (FCT_TDC_COUNT_COUNT f u) = (s.get (FCT_TDC_COUNT_COUNT f u) + 1) % 2 ^ 25 := by
  refine ⟨?last, ?at_, ?count⟩
  all_goals rw [get_countShot hf hu r b x s (by simp), noteShot]
  case last => rw [State.get_set_ne _ _ _ _ (by simp), State.get_set_self _ _ _ (by simp)]
  case at_ => rw [State.get_set_self _ _ _ (by simp)]
  case count => rw [State.get_set_ne _ _ _ _ (by simp), State.get_set_ne _ _ _ _ (by simp), State.get_count _ _ _ (by simp)]

end

end Sys2Proof.Machine
end

section
/-!
PROOFS. The statement about fine TDC units (R244, R245, R248, R249, R251).
-/

namespace Sys2Proof.Machine
open Sys2Proof.Reg

/-! ## TDC_START and TDC_ABORT -/

/-- N - 1 has been taken with TDC_START. -/
def State.shotsAsked (s : State) (dt : Nat) (p : Path) (f u n1 : Nat) : State := (s.request dt p).set (FCT_TDC_CTRL_N_M1 f u) n1

theorem keeps_shotsAsked (s : State) (dt : Nat) (p : Path) (f u n1 : Nat) :
    Keeps [FCT_TDC_CTRL f u, GLB_GUARD_STAT] s (s.shotsAsked dt p f u n1) :=
  ((keeps_request s dt p).mono (by simp)).trans (keeps_set _ _ (by simp))

theorem running_shotsAsked (s : State) (dt : Nat) (p : Path) (f u n1 : Nat) : (s.shotsAsked dt p f u n1).running = s.running :=
  running_of_keeps (keeps_shotsAsked s dt p f u n1) (by
    simp only [GLB_MODE, FCT_TDC_CTRL, GLB_GUARD_STAT, List.mem_cons, List.not_mem_nil, or_false]
    omega)

theorem tdcRun_shotsAsked {s : State} {f u : Nat} (idle : s.tdcRun f u = none) (dt : Nat) (p : Path) (n1 : Nat) :
    (s.shotsAsked dt p f u n1).tdcRun f u = none := by rwa [State.shotsAsked, tdcRun_set, tdcRun_request]

section
variable {s : State} {p : Path} {f u : Nat} (hf : f < 16) (hu : u < 32) (takes : s.takes p (FCT_TDC_CTRL f u) = true) (dt n1 : Nat)
include hf hu takes

theorem gives_tdcStart_busy (busy : (s.tdcRun f u).isSome = true) : Gives (.tdcStart dt p f u n1) s (s.request dt p) := by
  refine gives_of_act rfl ((write32_tdcCtrl hf hu takes dt _).trans ?_)
  rw [writeTdcCtrl_busy (by rwa [tdcRun_request]), ← startWord, startWord_abort, if_neg Bool.false_ne_true]

/-- A unit without a run takes N - 1 and starts. -/
theorem gives_tdcStart_idle (idle : s.tdcRun f u = none) :
    Gives (.tdcStart dt p f u n1) s (startTdc f u (s.shotsAsked dt p f u n1)) := by
  refine gives_of_act rfl ((write32_tdcCtrl hf hu takes dt _).trans ?_)
  rw [writeTdcCtrl_idle (by rwa [tdcRun_request]), ← startWord, startWord_start, startWord_abort, set_shots_congr (startWord_shots n1),
    actIf_true, actIf_false, State.shotsAsked]

theorem gives_tdcAbort_idle (idle : s.tdcRun f u = none) :
    Gives (.tdcAbort dt p f u) s (s.shotsAsked dt p f u 0) := by
  refine gives_of_act rfl ((write32_tdcCtrl hf hu takes dt _).trans ?_)
  rw [writeTdcCtrl_idle (by rwa [tdcRun_request]), set_shots_congr (e := 0) (by decide)]
  exact endTdc_none (tdcRun_shotsAsked idle dt p 0) 2

theorem gives_tdcAbort_busy (busy : (s.tdcRun f u).isSome = true) : Gives (.tdcAbort dt p f u) s (endTdc f u 2 (s.request dt p)) := by
  refine gives_of_act rfl ((write32_tdcCtrl hf hu takes dt _).trans ?_)
  rw [writeTdcCtrl_busy (by rwa [tdcRun_request])]
  rfl

end

/-- Settles O39, command by command: each gives what its effect is on the advanced clock, and of that the unit's registers are read. A shot that
is counted is offered to the acquisition units, which leaves the registers of the facets' windows alone. -/
theorem tdcUnits : Obligations.TdcUnits := by
  unfold Obligations.TdcUnits
  refine ⟨?control, ?none_, ?timeout, ?axis⟩
  case control =>
    intro s dt f u n1 p hf hu takes
    have asked := keeps_shotsAsked s dt p f u n1
    refine ⟨fun idle running kind => ?starts, fun idle stopped => ?refused, fun busy => gives_tdcStart_busy hf hu takes dt n1 busy,
      fun idle => gives_tdcAbort_idle hf hu takes dt idle, fun r run => ?aborts⟩
    case starts =>
      have event : (s.shotsAsked dt p f u n1).get (FCT_TDC_START_SEL_KIND f u) ≠ 2 := by
        rwa [asked.get (by simp [GLB_GUARD_STAT, FCT_TDC_START_SEL]; omega)]
      have started := startTdc_waits (tdcRun_shotsAsked idle dt p n1) ((running_shotsAsked s dt p f u n1).trans running) event
      refine ⟨_, started ▸ gives_tdcStart_idle hf hu takes dt n1 idle, tdcRun_setTdc .., ?_, ?_, ?_, ?_⟩
      · rw [get_setTdc, get_beginRun_shots]
        exact State.get_set_self _ _ _ (by simp)
      · rw [get_setTdc, get_beginRun_count]
      · rw [on_setTdc, on_beginRun_busy]
      · exact ((asked.mono (by simp)).trans ((keeps_beginRun f u _).mono (by simp))).trans (keeps_setTdc _ f u _ _)
    case refused =>
      have ended := startTdc_refused (tdcRun_shotsAsked idle dt p n1) ((running_shotsAsked s dt p f u n1).trans stopped)
      obtain ⟨end_, busy, -, done⟩ := endTdc_shows hu (tdcRun_beginRun f u (s.shotsAsked dt p f u n1)) 2
      exact ⟨_, ended ▸ gives_tdcStart_idle hf hu takes dt n1 idle, tdcRun_endTdc .., end_, busy, done⟩
    case aborts =>
      have runs : (s.request dt p).tdcRun f u = some r := by rwa [tdcRun_request]
      have count : (s.request dt p).get (FCT_TDC_COUNT_COUNT f u) = s.get (FCT_TDC_COUNT_COUNT f u) :=
        get_request s dt p (by simp only [FCT_TDC_COUNT, GLB_GUARD_STAT]; omega)
      obtain ⟨end_, busy, start, done⟩ := endTdc_shows hu runs 2
      refine ⟨_, gives_tdcAbort_busy hf hu takes dt (by simp [run]), tdcRun_endTdc .., end_, busy, start, done, ?_, ?_⟩
      · rw [get_endTdc_mean runs, count]
        rfl
      · exact (((keeps_request s dt p).mono (List.subset_append_left _ (tdcEndRegs f u))).trans
          ((keeps_endTdc f u 2 _).mono (List.subset_append_right _ _))).2
  case none_ =>
    exact fun s dt f u idle => ⟨gives_of_act rfl (timeoutShot_none (s := s.tick dt) idle),
      fun stop => gives_of_act rfl (tdcAxis_none (s := s.tick dt) idle stop)⟩
  case timeout =>
    intro s dt f u b r hf hu run start
    have answers : timeoutShot f u (s.tick dt) = (shotExpired f u r (s.tick dt).now (s.tick dt)).getD (s.tick dt) :=
      timeoutShot_some (s := s.tick dt) run
    refine ⟨fun some_ late kind => ?late, fun young fits => ?young⟩
    case late =>
      rw [shotExpired_late (s := s.tick dt) start some_ late, Option.getD_some, discardShot_timeout (s := s.tick dt) hf kind] at answers
      obtain ⟨regs, memories⟩ := ((keeps_noteTimeoutShot f u (s.tick dt)).trans (keeps_setTdc _ f u _ _)).fromTick
      exact ⟨_, gives_of_act rfl answers, tdcRun_setTdc .., get_noteTimeoutShot hf u (s.tick dt), regs, memories⟩
    case young =>
      rw [shotExpired_running (s := s.tick dt) start young fits] at answers
      exact gives_of_act rfl answers
  case axis =>
    intro s dt f u r hf hu run
    refine ⟨fun stop idle => gives_of_act rfl (tdcAxis_idle (s := s.tick dt) run idle), fun kind waits due => ?start,
      fun b kind start due untimed after fits => ?stop⟩
    case start =>
      obtain ⟨regs, memories⟩ := ((keeps_setTdc _ f u (some { r with start := some (s.axisEvent f u false r.shot) }) (s.tick dt)).trans
        (keeps_noteSuspect f u _)).fromTick
      refine ⟨_, gives_of_act rfl ((tdcAxis_due (s := s.tick dt) run kind due).trans (takeEvent_start waits _ _)), ?_, regs, memories⟩
      exact (tdcRun_noteSuspect ..).trans (tdcRun_setTdc ..)
    case stop =>
      have runs := shotExpired_running (s := s.tick dt) start (.inl untimed) fits
      obtain ⟨last, at_, count⟩ := countShot_shows hf hu r b (stampDiff (s.axisEvent f u true r.shot) b).toNat (noteSuspect f u (s.tick dt))
      refine ⟨_, gives_of_act rfl ((tdcAxis_due (s := s.tick dt) run kind due).trans (takeEvent_stop start runs kind after)), ?_, at_, ?_⟩
      · exact last.trans (Nat.mod_eq_of_lt (by omega))
      · exact count.trans (by rw [(keeps_noteSuspect f u (s.tick dt)).get (by simp), State.get_tick])

end Sys2Proof.Machine
end

section
/-!
SUPPORT. Acquisition units (R264 to R279): what a unit holds and shows, the pages of its buffer, and where the writes of its registers go.
-/

namespace Sys2Proof.Machine
open Sys2Proof.Reg

/-! ## What a unit holds is no register -/

@[simp] theorem acqUnit_modAcq (u : Nat) (g : AcqUnit → AcqUnit) (s : State) : (modAcq u g s).acqUnit u = g (s.acqUnit u) :=
  Store.find_put_self ..

@[simp] theorem get_modAcq (u : Nat) (g : AcqUnit → AcqUnit) (s : State) (f : Fld) : (modAcq u g s).get f = s.get f := rfl

theorem keeps_modAcq (as : List Nat) (u : Nat) (g : AcqUnit → AcqUnit) (s : State) : Keeps as s (modAcq u g s) :=
  ⟨fun _ _ => rfl, rfl, rfl, rfl, rfl, rfl⟩

theorem acqUnit_congr {s t : State} (h : t.acq = s.acq) (u : Nat) : t.acqUnit u = s.acqUnit u := by rw [State.acqUnit, h, State.acqUnit]

@[simp] theorem acqUnit_set (s : State) (f : Fld) (v u : Nat) : (s.set f v).acqUnit u = s.acqUnit u := rfl

theorem Signals.acq {s t : State} (h : Signals s t) : t.acq = s.acq := by
  obtain ⟨_, _, _, rfl⟩ := h
  rfl

@[simp] theorem acqUnit_pend (n : Nat) (s : State) (u : Nat) : (pend n s).acqUnit u = s.acqUnit u := acqUnit_congr (signals_pend n s).acq u

@[simp] theorem acqUnit_raiseAq (w : Nat) (f : Fld) (s : State) (u : Nat) : (raiseAq w f s).acqUnit u = s.acqUnit u := by
  unfold raiseAq
  split
  · rfl
  · exact (acqUnit_pend _ _ u).trans (acqUnit_set s f 1 u)

@[simp] theorem acqUnit_request (s : State) (dt : Nat) (p : Path) (u : Nat) : (s.request dt p).acqUnit u = s.acqUnit u :=
  acqUnit_congr (by rw [request_eq]; rfl) u

/-! ## The state of a unit (R267) -/

theorem keeps_setAq (u st : Nat) (s : State) : Keeps [ACQ_U_STAT u] s (setAq u st s) := keeps_set s st (by simp)

@[simp] theorem acqUnit_setAq (w st : Nat) (s : State) (u : Nat) : (setAq w st s).acqUnit u = s.acqUnit u := rfl

theorem aqState_setAq {st : Nat} (h : st < 8) (u : Nat) (s : State) : (setAq u st s).aqState u = st := by
  rw [setAq, State.aqState, State.get_set_self _ _ _ (by simp)]
  exact Nat.mod_eq_of_lt h

/-- The other fields of ACQ_U_STAT stand beside STATE. -/
theorem get_setAq {u st : Nat} {s : State} {f : Fld} (fits : f.lo + f.w ≤ 64) (apart : 3 ≤ f.lo) : (setAq u st s).get f = s.get f :=
  State.get_set_apart s _ f st fits (.inr apart)

theorem keeps_raiseAq {u : Nat} {f : Fld} (s : State) : Keeps [f.addr, ICL_PEND ((400 + u) / 16), DMA_MSIX_PBA 0] s (raiseAq u f s) :=
  (Keeps.refl _ s).ite ((keeps_set s 1 List.mem_cons_self).trans ((keeps_pend (400 + u) _).mono (by simp)))

/-- A flag that is raised stands: the event of its source shows elsewhere. -/
theorem on_raiseAq {u : Nat} {f : Fld} (one : f.w = 1) (fits : f.lo < 64) (above : 0x700000 ≤ f.addr) (hu : u < 16) (s : State) :
    (raiseAq u f s).on f = true := by
  unfold raiseAq
  split
  next stands => exact stands
  · rw [aqAlarm, State.on_of_get ((keeps_pend (400 + u) _).get (by simp [ICL_PEND, DMA_MSIX_PBA]; omega)), State.on_raise s one fits]

/-! ## The pages of a buffer (R298) -/

/-- The registers that show the page pool and the spill, and those that an event of the pool's group signals in. -/
def poolRegs : List Nat := [DMA_POOL_FREE, DMA_POOL_STAT, DMA_SPILL_PAGES, DMA_MSIX_PBA 0]

/-- The registers of acquisition stand above those of the pool. -/
theorem not_mem_poolRegs {a : Nat} (h : 0x700000 ≤ a) : a ∉ poolRegs := by
  simp only [poolRegs, DMA_POOL_FREE, DMA_POOL_STAT, DMA_SPILL_PAGES, DMA_MSIX_PBA, List.mem_cons, List.not_mem_nil, or_false]
  omega

theorem keeps_setFree (n : Nat) (s : State) : Keeps poolRegs s (setFree n s) := by
  have free := keeps_set (as := poolRegs) s (f := DMA_POOL_FREE_FREE) n (by decide)
  refine Keeps.withGroup (Keeps.trans ?_ (keeps_set _ _ (by decide))) (by decide)
  exact (free.trans (keeps_set _ 1 (by decide))).ite ((free.trans (keeps_set _ 0 (by decide))).ite free)

theorem keeps_markPages (as : List Nat) (b : Bool) (p k : Nat) (s : State) : Keeps as s (markPages b p k s) :=
  ⟨fun _ _ => rfl, rfl, rfl, rfl, rfl, rfl⟩

theorem keeps_freePages (p k : Nat) (s : State) : Keeps poolRegs s (freePages p k s) :=
  (keeps_markPages poolRegs false p k s).trans (keeps_setFree _ _)

theorem keeps_takePages {k p : Nat} {s t : State} (h : takePages k s = some (p, t)) : Keeps poolRegs s t := by
  simp only [takePages, Option.ite_none_left_eq_some, Option.some.injEq, Prod.mk.injEq] at h
  obtain ⟨-, -, rfl⟩ := h
  have counted : Keeps poolRegs s { s with free := s.free + 1 } := ⟨fun _ _ => rfl, rfl, rfl, rfl, rfl, rfl⟩
  exact (counted.trans (keeps_markPages poolRegs true _ k _)).trans (keeps_setFree _ _)

theorem keeps_leaveSpillPage (p : Nat) (s : State) : Keeps poolRegs s (leaveSpillPage p s) := by
  have emptied : Keeps poolRegs s (if (modSpillPage p ⟨0, 0⟩ s).dma.spillPage = some p then
      { modSpillPage p ⟨0, 0⟩ s with dma := { (modSpillPage p ⟨0, 0⟩ s).dma with spillPage := none } } else modSpillPage p ⟨0, 0⟩ s) := by
    split <;> exact ⟨fun _ _ => rfl, rfl, rfl, rfl, rfl, rfl⟩
  exact ((emptied.trans (keeps_freePages p 1 _)).trans (keeps_set _ _ (by decide))).ite ⟨fun _ _ => rfl, rfl, rfl, rfl, rfl, rfl⟩

theorem Delivers.acq {s t : State} (h : Delivers s t) : t.acq = s.acq := by rw [h.rest]

theorem Delivers.now {s t : State} (h : Delivers s t) : t.now = s.now := by rw [h.rest]

theorem delivers_freePages {r s : State} (h : Delivers r s) {p k : Nat} : Delivers r (freePages p k s) :=
  delivers_setFree (delivers_with_dma h)

/-- The equation of `takeBuffer`, stated over any way to take a page: what `takePages` computes must not be looked into here. -/
theorem takeBuffer_succ (k : Nat) (s : State) : takeBuffer (k + 1) s = match takePages 1 s with
    | none => ([], s)
    | some (p, t) => (p :: (takeBuffer k t).1, (takeBuffer k t).2) := by
  delta takeBuffer takeBuffer._f
  generalize takePages = take
  rfl

/-- The pages of a buffer are taken one by one: nothing but the pool changes. -/
theorem takeBuffer_takes (k : Nat) (s : State) : Delivers s (takeBuffer k s).2 ∧ Keeps poolRegs s (takeBuffer k s).2 := by
  induction k generalizing s with
  | zero => exact ⟨Delivers.refl s, Keeps.refl _ s⟩
  | succ k ih =>
    rw [takeBuffer_succ]
    split
    · exact ⟨Delivers.refl s, Keeps.refl _ s⟩
    next p t taken =>
      obtain ⟨rest, regs⟩ := ih t
      exact ⟨(delivers_takePages (Delivers.refl s) taken).trans rest, (keeps_takePages taken).trans regs⟩

/-! ## A unit is released (R265, R267) -/

/-- The pages of unit `u` have gone back to the pool. -/
def pagesReturned (u : Nat) (s : State) : State := (s.acqUnit u).pages.foldl (fun s p => freePages p 1 s) s

theorem keeps_pagesReturned (u : Nat) (s : State) : Keeps poolRegs s (pagesReturned u s) := keeps_foldl (fun s p => keeps_freePages p 1 s) _ s

theorem acqUnit_pagesReturned (u : Nat) (s : State) (w : Nat) : (pagesReturned u s).acqUnit w = s.acqUnit w :=
  acqUnit_congr (delivers_foldl (Delivers.refl s) (fun _ h => delivers_freePages h) _).acq w

/-- A unit that is released holds no pages and no items: beside registers and its pages only its ADC is concerned. -/
theorem releaseUnit_eq (u : Nat) (s : State) : ∃ t : State, releaseUnit u s = setAq u aqIdle (t.set (ACQ_U_CTRL_ARM u) 0) ∧
    Keeps poolRegs s t ∧ t.acqUnit u = { s.acqUnit u with pages := [], part := none, items := [] } := by
  have unit : (modAcq u (fun x => { x with pages := [], part := none, items := [] }) (pagesReturned u s)).acqUnit u =
      { s.acqUnit u with pages := [], part := none, items := [] } := by rw [acqUnit_modAcq, acqUnit_pagesReturned]
  have kept := (keeps_pagesReturned u s).trans
    (keeps_modAcq poolRegs u (fun x => { x with pages := [], part := none, items := [] }) (pagesReturned u s))
  refine ⟨_, rfl, kept.trans ((keeps_modAdc _ _ _ _).ite (Keeps.refl _ _)), ?_⟩
  split <;> exact unit

/-- The registers in which the arming and the release of unit `u` show: its state, its control and the page pool. -/
def unitRegs (u : Nat) : List Nat := ACQ_U_STAT u :: ACQ_U_CTRL u :: poolRegs

/-- The other registers of acquisition stand apart from them. -/
theorem not_mem_unitRegs {u a : Nat} (ha : 0x700000 ≤ a) (apart : a ≠ ACQ_U_STAT u ∧ a ≠ ACQ_U_CTRL u) : a ∉ unitRegs u := by
  simp only [unitRegs, List.mem_cons, not_or]
  exact ⟨apart.1, apart.2, not_mem_poolRegs ha⟩

theorem keeps_releaseUnit (u : Nat) (s : State) : Keeps (unitRegs u) s (releaseUnit u s) := by
  obtain ⟨t, released, kept, -⟩ := releaseUnit_eq u s
  rw [released]
  exact ((kept.mono (by simp [unitRegs])).trans (keeps_set t 0 (by simp [unitRegs]))).trans
    ((keeps_setAq u aqIdle _).mono (by simp [unitRegs]))

theorem acqUnit_releaseUnit (u : Nat) (s : State) :
    (releaseUnit u s).acqUnit u = { s.acqUnit u with pages := [], part := none, items := [] } := by
  obtain ⟨t, released, -, unit⟩ := releaseUnit_eq u s
  rw [released, acqUnit_setAq, acqUnit_set, unit]

theorem aqState_releaseUnit (u : Nat) (s : State) : (releaseUnit u s).aqState u = aqIdle := aqState_setAq (by decide) u _

theorem on_releaseUnit_arm (u : Nat) (s : State) : (releaseUnit u s).on (ACQ_U_CTRL_ARM u) = false := by
  obtain ⟨t, released, -⟩ := releaseUnit_eq u s
  rw [released, State.on_of_get ((keeps_setAq u aqIdle _).get (by simp)), State.on_set_zero _ rfl (by simp)]

/-- The flags of ACQ_U_STAT outlast a release. -/
theorem get_releaseUnit_stat {u : Nat} {f : Fld} (stat : f.addr = ACQ_U_STAT u) (fits : f.lo + f.w ≤ 64) (apart : 3 ≤ f.lo) (s : State) :
    (releaseUnit u s).get f = s.get f := by
  obtain ⟨t, released, kept, -⟩ := releaseUnit_eq u s
  rw [released, get_setAq fits apart, State.get_set_ne _ _ _ _ (by simp [stat]), kept.get (not_mem_poolRegs (by rw [stat]; unfold ACQ_U_STAT; omega))]

theorem deliverDone_empty {u : Nat} {s : State} (state : s.aqState u = aqDeliver) (blocks : (s.acqUnit u).blocks = []) :
    deliverDone u s = releaseUnit u s := if_pos ⟨state, blocks⟩

theorem startBlock_empty {u : Nat} {s : State} (blocks : (s.acqUnit u).blocks = []) : startBlock u s = s := if_pos (.inl blocks)

/-! ## A fill starts (R267) -/

theorem keeps_startFill (u : Nat) (s : State) : Keeps [ACQ_U_STAT u] s (startFill u s) := (keeps_modAcq _ u _ s).trans (keeps_setAq u _ _)

theorem get_startFill {u : Nat} {s : State} {f : Fld} (fits : f.lo + f.w ≤ 64) (apart : 3 ≤ f.lo) : (startFill u s).get f = s.get f := by
  unfold startFill
  dsimp only
  rw [get_setAq fits apart, get_modAcq]

theorem acqUnit_startFill (u : Nat) (s : State) : (startFill u s).acqUnit u = { s.acqUnit u with toAcqFill := AcqFill.init } :=
  acqUnit_modAcq u (fun x => { x with toAcqFill := AcqFill.init }) s

theorem aqState_startFill (u : Nat) (s : State) :
    (startFill u s).aqState u = if s.get (ACQ_U_PRE_PRE u) = 0 then aqReady else aqFill := by
  refine aqState_setAq ?_ u _
  split <;> decide

/-! ## The registers of ACQ (R277) -/

theorem blockOf_acq {a : Nat} (lo : 0x700000 ≤ a) (hi : a < 0x800000) : blockOf a = some .acq := by
  rw [blockOf]
  repeat rw [if_neg (by omega)]
  rw [if_pos hi]

theorem writeReg_acq {a : Nat} (lo : 0x700000 ≤ a) (hi : a < 0x800000) (p : Path) (g : Bool) (data : Nat) (s : State) :
    writeReg p g a data s = writeAcq p g a data s := by
  rw [writeReg, blockOf_acq lo hi]

/-- A register of a unit that stays open while the unit is not IDLE. -/
theorem writeAcq_open {u o : Nat} (hu : u < 16) (ho : o < 0x80) (opens : unitClosed o = false) (p : Path) (g : Bool) (data : Nat) (s : State) :
    writeAcq p g (ACQ_U_CFG u + o) data s =
      if o = 0x2C then writeAcqCtrl u data s
      else if o = 0x3C then startBlock u (plainWrite p g (ACQ_U_CFG u + o) data s)
      else plainWrite p g (ACQ_U_CFG u + o) data s := by
  have unit : (ACQ_U_CFG u + o - ACQ_U_CFG 0) / 0x80 = u := by simp only [ACQ_U_CFG]; omega
  have offset : (ACQ_U_CFG u + o) % 0x80 = o := by simp only [ACQ_U_CFG]; omega
  have ctrl : ACQ_U_CFG u + o = ACQ_U_CTRL u ↔ o = 0x2C := by simp only [ACQ_U_CFG, ACQ_U_CTRL]; omega
  have cons : ACQ_U_CFG u + o = ACQ_U_DEST_CONS u ↔ o = 0x3C := by simp only [ACQ_U_CFG, ACQ_U_DEST_CONS]; omega
  rw [writeAcq, if_neg (by simp only [ACQ_U_CFG, ACQ_PMI_CFG]; omega), if_pos (by simp only [ACQ_U_CFG]; omega), unit, offset, opens]
  simp only [ctrl, cons, destFreed]
  rfl

theorem write32_acqCtrl {s : State} {p : Path} {u : Nat} (hu : u < 16) (h : s.takes p (ACQ_U_CTRL u) = true) (dt d : Nat) :
    write32 p (ACQ_U_CTRL u) d (s.tick dt) = writeAcqCtrl u (d % 2 ^ 32) (s.request dt p) := by
  have place : ACQ_U_CTRL u = ACQ_U_CFG u + 0x2C := by simp only [ACQ_U_CFG, ACQ_U_CTRL]; omega
  rw [write32_takes s dt p _ _ h, writeReg_acq (by unfold ACQ_U_CTRL; omega) (by unfold ACQ_U_CTRL; omega), place,
    writeAcq_open hu (by decide) (by decide), if_pos rfl]

/-- The row of ACQ_U_DEST_CONS (R277). -/
def destConsRow : RegRow := ⟨"U_DEST_CONS", 0x103c, false, [(16, 0x80)], [⟨"CONS", 0, 32, .rw, 0⟩]⟩

theorem rowAt_destCons {u : Nat} (hu : u < 16) : rowAt (ACQ_U_DEST_CONS u) = some (destConsRow, false) := by
  have missed : ∀ x ∈ rowsAcq.take 16, x.misses 0x103c 0x80 = true := by decide
  have offset : blockOffset .acq (ACQ_U_DEST_CONS u) = 0x103c + u * 0x80 := by
    show ACQ_U_DEST_CONS u - 0x700000 = _
    simp only [ACQ_U_DEST_CONS]
    omega
  rw [rowAt, blockOf_acq (by simp only [ACQ_U_DEST_CONS]; omega) (by simp only [ACQ_U_DEST_CONS]; omega)]
  show findRow rowsAcq (blockOffset .acq (ACQ_U_DEST_CONS u)) = _
  rw [offset]
  exact findRow_of_hit (pre := rowsAcq.take 16) (post := rowsAcq.drop 17) (fun x hx => RegRow.hit_of_misses (missed x hx) u)
    (RegRow.hit_elem (r := destConsRow) rfl (by decide) hu)

theorem write32_destCons {s : State} {p : Path} {u : Nat} (hu : u < 16) (h : s.takes p (ACQ_U_DEST_CONS u) = true) (dt d : Nat) :
    write32 p (ACQ_U_DEST_CONS u) d (s.tick dt) = startBlock u ((s.request dt p).set (ACQ_U_DEST_CONS_CONS u) (d % 2 ^ 32)) := by
  have place : ACQ_U_CFG u + 0x3C = ACQ_U_DEST_CONS u := by simp only [ACQ_U_CFG, ACQ_U_DEST_CONS]; omega
  have stores (g : Bool) (data : Nat) (t : State) : plainWrite p g (ACQ_U_DEST_CONS u) data t = t.set (ACQ_U_DEST_CONS_CONS u) data :=
    (plainWrite_fields (rowAt_destCons hu) rfl rfl p g data t).trans (State.set_mod t (ACQ_U_DEST_CONS_CONS u) data)
  have written := writeAcq_open hu (o := 0x3C) (by decide) (by decide) p (s.guardOpen p) (d % 2 ^ 32) (s.request dt p)
  rw [if_neg (by decide), if_pos rfl, place, stores] at written
  rw [write32_takes s dt p _ _ h, writeReg_acq (by simp only [ACQ_U_DEST_CONS]; omega) (by simp only [ACQ_U_DEST_CONS]; omega), written]

/-! ## The commands that write ACQ_U_CTRL -/

section
variable {s : State} {p : Path} {u : Nat} (hu : u < 16) (takes : s.takes p (ACQ_U_CTRL u) = true) (dt : Nat)
include hu takes

theorem gives_acqArm : Gives (.acqArm dt p u) s (armUnit u (s.request dt p)) := gives_of_act rfl (write32_acqCtrl hu takes dt 1)

theorem gives_acqStop : Gives (.acqStop dt p u) s (stopUnit u (s.request dt p)) := gives_of_act rfl (write32_acqCtrl hu takes dt 2)

theorem gives_acqSoftwareTrigger : Gives (.acqSoftwareTrigger dt p u) s (trigger u (s.request dt p).now (s.request dt p)) :=
  gives_of_act rfl (write32_acqCtrl hu takes dt 4)

end

/-! ## A request leaves the units alone -/

theorem get_request_high (s : State) (dt : Nat) (p : Path) {f : Fld} (h : 0x100 ≤ f.addr) : (s.request dt p).get f = s.get f :=
  get_request s dt p (by simp only [GLB_GUARD_STAT]; omega)

@[simp] theorem aqState_request (s : State) (dt : Nat) (p : Path) (u : Nat) : (s.request dt p).aqState u = s.aqState u :=
  get_request_high s dt p (by simp only [ACQ_U_STAT]; omega)

theorem armError_request (s : State) (dt : Nat) (p : Path) (u : Nat) : (s.request dt p).armError u = s.armError u := by
  have same (f : Fld) (h : 0x100 ≤ f.addr) : (s.request dt p).get f = s.get f := get_request_high s dt p h
  simp (disch := grind) only [State.armError, State.aqModeOk, State.aqSlot, State.aqIpb, State.aqReduces, State.aqKind, State.aqSource,
    State.running, State.on, aqState_request, mode_request, facets_request, vertices_request, same]
  rfl

theorem armError_le (s : State) (u : Nat) : s.armError u ≤ 7 := by
  unfold State.armError
  dsimp only
  repeat' split
  all_goals decide

end Sys2Proof.Machine
end

section
/-!
SUPPORT. Samples at the acquisition units, their arming and their triggers (R261 to R270).
-/

namespace Sys2Proof.Machine
open Sys2Proof.Reg

/-! ## PMI samples (R261) -/

theorem limitCode_fst (v : Int) : (limitCode v).1 = clampInt (-(2 ^ 23 - 1)) (2 ^ 23 - 1) v := rfl

/-- A code saturates where it lies outside the range. -/
theorem limitCode_snd (v : Int) : (limitCode v).2 = decide (v < -(2 ^ 23 - 1) ∨ 2 ^ 23 - 1 < v) := by
  rw [Bool.eq_iff_iff]
  simp only [limitCode, clampInt, bne_iff_ne, decide_eq_true_eq]
  split_ifs <;> omega

/-- The state that shows a sample of PMI `n` in ACQ_PMI_LAST. -/
def shownSample (n t : Nat) (code : Int) (stale : Bool) (s : State) : State :=
  ((({ s with pmiAt := Store.put (fun _ => none) s.pmiAt n (some t) } : State).set (ACQ_PMI_LAST_CODE n) (unsigned 24 (limitCode code).1)).set
    (ACQ_PMI_LAST_OVR n) (bit01 (limitCode code).2)).set (ACQ_PMI_LAST_STALE n) (bit01 stale)

theorem keeps_shownSample (n t : Nat) (code : Int) (stale : Bool) (s : State) : Keeps [ACQ_PMI_LAST n] s (shownSample n t code stale s) := by
  have dated : Keeps [ACQ_PMI_LAST n] s { s with pmiAt := Store.put (fun _ => none) s.pmiAt n (some t) } :=
    ⟨fun _ _ => rfl, rfl, rfl, rfl, rfl, rfl⟩
  exact ((dated.trans (keeps_set _ _ (by simp))).trans (keeps_set _ _ (by simp))).trans (keeps_set _ _ (by simp))

theorem shownSample_shows (n t : Nat) (code : Int) (stale : Bool) (s : State) :
    (shownSample n t code stale s).get (ACQ_PMI_LAST_CODE n) = unsigned 24 (limitCode code).1 ∧
      (shownSample n t code stale s).on (ACQ_PMI_LAST_OVR n) = (limitCode code).2 ∧
      (shownSample n t code stale s).on (ACQ_PMI_LAST_STALE n) = stale := by
  refine ⟨?_, ?_, State.on_set_bit01 _ rfl (by simp) stale⟩
  · rw [shownSample, State.get_set_apart _ _ _ _ (by simp) (.inl (by simp)), State.get_set_apart _ _ _ _ (by simp) (.inl (by simp)),
      State.get_set_self _ _ _ (by simp)]
    exact Nat.mod_eq_of_lt (unsigned_lt 24 _)
  · rw [shownSample, State.on_set_apart _ _ _ _ (by simp) (.inl (by simp)), State.on_set_bit01 _ rfl (by simp)]

/-- The registers that select the units of a source stand apart from ACQ_PMI_LAST. -/
theorem aqUnits_shownSample {n : Nat} (hn : n < 64) (t : Nat) (code : Int) (stale : Bool) (s : State) (kind index : Nat) :
    (shownSample n t code stale s).aqUnits kind index = s.aqUnits kind index := by
  have same {f : Fld} (h : 0x701000 ≤ f.addr) : (shownSample n t code stale s).get f = s.get f :=
    (keeps_shownSample n t code stale s).get (by simp only [ACQ_PMI_LAST, List.mem_singleton]; omega)
  refine List.filter_congr fun u _ => ?_
  rw [State.aqState, State.aqKind, State.aqSource, same (by simp only [ACQ_U_STAT]; omega), same (by simp only [ACQ_U_CFG]; omega),
    same (by simp only [ACQ_U_CFG]; omega), State.aqState, State.aqKind, State.aqSource]

/-- A sample that no unit takes is shown, and nothing more. -/
theorem pmiSample_untaken {n : Nat} (hn : n < 64) {s : State} (none_ : s.aqUnits 0 n = []) (t : Nat) (code : Int) (stale : Bool) :
    pmiSample n t code stale s = shownSample n t code stale s := by
  have untaken := (aqUnits_shownSample hn t code stale s 0 n).trans none_
  have offers : pmiSample n t code stale s = ((shownSample n t code stale s).aqUnits 0 n).foldl (fun s' u => inputSample u
      ⟨t, (limitCode code).1, (limitCode code).2, stale, (shownSample n t code stale s).suspect 16, false, 0⟩ s')
      (shownSample n t code stale s) := rfl
  rw [offers, untaken, List.foldl_nil]

@[simp] theorem pmiRuns_tick (s : State) (dt n : Nat) : (s.tick dt).pmiRuns n = s.pmiRuns n := rfl

@[simp] theorem aqUnits_tick (s : State) (dt kind index : Nat) : (s.tick dt).aqUnits kind index = s.aqUnits kind index := rfl

/-- The averages that a sample feeds (R263) are no register. -/
@[simp] theorem get_feedMeans (n t : Nat) (code : Int) (ovr stale : Bool) (s : State) (f : Fld) : (feedMeans n t code ovr stale s).get f = s.get f :=
  rfl

@[simp] theorem on_feedMeans (n t : Nat) (code : Int) (ovr stale : Bool) (s : State) (f : Fld) : (feedMeans n t code ovr stale s).on f = s.on f :=
  rfl

theorem keeps_feedMeans (as : List Nat) (n t : Nat) (code : Int) (ovr stale : Bool) (s : State) : Keeps as s (feedMeans n t code ovr stale s) :=
  keeps_modArc as _ s

theorem takePmiSample_off {n : Nat} {s : State} (off : s.pmiRuns n = false) (code : Int) : takePmiSample n code s = s := by
  rw [takePmiSample, off]

/-- A sample that is due and that no unit takes is shown, and goes to the averages. -/
theorem takePmiSample_untaken {n t : Nat} (hn : n < 64) {s : State} (runs : s.pmiRuns n = true) (due : s.pmiStamp n = some t)
    (none_ : s.aqUnits 0 n = []) (code : Int) : takePmiSample n code s =
      feedMeans n t (limitCode code).1 (limitCode code).2 (s.pmiStale n t) (shownSample n t code (s.pmiStale n t) s) := by
  rw [takePmiSample, runs, due, ← pmiSample_untaken hn none_]

/-! ## ADC conversions (R265) -/

theorem adcConversion_other {u : Nat} {s : State} (other : s.aqKind u ≠ 1) (value : Int) (clamped : Bool) :
    adcConversion u value clamped s = s := if_pos (by simp [other])

/-- The stamp of the conversion that the ADC held by unit `u` makes next, and its channel (R265). -/
def State.convStamp (s : State) (u : Nat) : Nat := (s.acqUnit u).convAt + (s.acqUnit u).conv * 1600 * 256

@[inherit_doc State.convStamp] def State.convChannel (s : State) (u : Nat) : Nat :=
  (setBits 16 (s.get (ACQ_U_CHMASK_CHMASK u))).getD ((s.acqUnit u).conv % (setBits 16 (s.get (ACQ_U_CHMASK_CHMASK u))).length) 0

theorem adcConversion_early {u : Nat} {s : State} (early : s.past (s.convStamp u + 1600 * 256) = false) (value : Int) (clamped : Bool) :
    adcConversion u value clamped s = s := by
  unfold State.convStamp at early
  exact if_pos (by simp [early])

/-- The entry that a conversion gives (R265): the value of its channel, or NOPMU. -/
def State.convEntry (s : State) (u : Nat) (value : Int) (clamped : Bool) : AcqEntry :=
  if s.channelState (16 * s.aqSource u + s.convChannel u) = chPmu then
    ⟨s.convStamp u, value, clamped, false, s.suspect ((16 * s.aqSource u + s.convChannel u) / 128), false, s.convChannel u⟩
  else ⟨s.convStamp u, 0, false, false, s.suspect ((16 * s.aqSource u + s.convChannel u) / 128), true, s.convChannel u⟩

theorem adcConversion_due {u : Nat} {s : State} (adc : s.aqKind u = 1) (samples : s.aqState u ∈ [aqFill, aqReady, aqPost, aqRearm, aqStream])
    (due : s.past (s.convStamp u + 1600 * 256) = true) (value : Int) (clamped : Bool) :
    adcConversion u value clamped s =
      inputSample u (s.convEntry u value clamped) (modAcq u (fun x => { x with conv := x.conv + 1 }) s) := by
  have acts : ¬(decide (s.aqKind u ≠ 1) || !decide (s.aqState u ∈ [aqFill, aqReady, aqPost, aqRearm, aqStream]) ||
      !s.past (s.convStamp u + 1600 * 256)) = true := by simp [adc, samples, due]
  have entry : s.convEntry u value clamped =
      let ok : Bool := s.channelState (16 * s.aqSource u + s.convChannel u) = chPmu
      ⟨s.convStamp u, if ok then value else 0, ok && clamped, false, s.suspect ((16 * s.aqSource u + s.convChannel u) / 128), !ok,
        s.convChannel u⟩ := by
    rw [State.convEntry]
    split
    next ok => simp [ok]
    next off => simp [off]
  rw [entry]
  exact if_neg acts

/-! ## A sample of a STREAM block (R272) -/

/-- With a block begun and room in it a sample is stored as the block's next item. -/
theorem storeSample_stream {u : Nat} {s : State} (stream : s.aqState u = aqStream) (plain : s.aqReduces u = false) (other : s.aqKind u ≠ 1)
    (begun : (s.acqUnit u).items ≠ []) (room : (s.acqUnit u).items.length + 1 < s.aqIpb u) (e : AcqEntry) :
    storeSample u e s = modAcq u (fun x => { x with items := x.items ++ [⟨e.at_, [e]⟩] }) s := by
  have stores : storeItem u ⟨e.at_, [e]⟩ s = modAcq u (fun x => { x with items := x.items ++ [⟨e.at_, [e]⟩] }) s := by
    have full : ¬ s.aqIpb u ≤ ((s.acqUnit u).items ++ [(⟨e.at_, [e]⟩ : AcqItem)]).length := by simp; omega
    rw [storeItem, if_pos stream]
    simp only [other, decide_false, Bool.false_and, Bool.false_eq_true, if_false, acqUnit_modAcq]
    exact if_neg full
  simp [storeSample, begun, plain, stores]

/-- Beside the block the unit notes the sample's value. -/
theorem inputSample_stream {u : Nat} {s : State} {e : AcqEntry} (stream : s.aqState u = aqStream)
    (armed : 0 ≤ stampDiff e.at_ (s.acqUnit u).armedAt) (plain : s.aqReduces u = false) (other : s.aqKind u ≠ 1)
    (begun : (s.acqUnit u).items ≠ []) (room : (s.acqUnit u).items.length + 1 < s.aqIpb u) :
    inputSample u e s = modAcq u (fun x => { x with items := x.items ++ [⟨e.at_, [e]⟩] })
      (modAcq u (fun x => { x with prev := some e.value }) s) := by
  have noted := acqUnit_modAcq u (fun x => { x with prev := some e.value }) s
  have sampled : inputSample u e s = storeSample u e (modAcq u (fun x => { x with prev := some e.value }) s) := by
    rw [inputSample, if_neg (by simp [stream, armed])]
    simp [stream, other]
  rw [sampled]
  exact storeSample_stream (s := modAcq u _ s) stream plain other (by rwa [noted]) (by rw [noted]; exact room) e

/-! ## Arming (R268) -/

theorem armUnit_busy {u : Nat} {s : State} (busy : s.aqState u ≠ aqIdle) : armUnit u s = s := if_pos busy

theorem armUnit_refused {u : Nat} {s : State} (idle : s.aqState u = aqIdle) (wrong : s.armError u ≠ 0) :
    armUnit u s = aqAlarm u (s.set (ACQ_U_STAT_ERR u) (s.armError u)) := (if_neg (by simp [idle])).trans (if_pos wrong)

/-- The registers in which a refusal shows. -/
def refusalRegs (u : Nat) : List Nat := [ACQ_U_STAT u, ICL_PEND 25, DMA_MSIX_PBA 0]

/-- A refusal shows its reason, and leaves the unit IDLE. -/
theorem armUnit_refused_shows {u : Nat} (hu : u < 16) {s : State} (idle : s.aqState u = aqIdle) (wrong : s.armError u ≠ 0) :
    (armUnit u s).get (ACQ_U_STAT_ERR u) = s.armError u ∧ (armUnit u s).aqState u = aqIdle ∧ Keeps (refusalRegs u) s (armUnit u s) := by
  have alarm (t : State) : Keeps [ICL_PEND 25, DMA_MSIX_PBA 0] t (aqAlarm u t) := by
    have group : (400 + u) / 16 = 25 := by omega
    exact group ▸ keeps_pend (400 + u) t
  have apart : ACQ_U_STAT u ∉ [ICL_PEND 25, DMA_MSIX_PBA 0] := by
    simp only [ACQ_U_STAT, ICL_PEND, DMA_MSIX_PBA, List.mem_cons, List.not_mem_nil, or_false]
    omega
  have small : s.armError u < 2 ^ 4 := by have := armError_le s u; omega
  rw [armUnit_refused idle wrong]
  refine ⟨?_, ?_, (keeps_set s _ (by simp [refusalRegs])).trans ((alarm _).mono (by simp [refusalRegs]))⟩
  · rw [(alarm _).get apart, State.get_set_self _ _ _ (by simp)]
    exact Nat.mod_eq_of_lt small
  · rw [State.aqState, (alarm _).get apart, State.get_set_apart _ _ _ _ (by simp) (.inl (by simp))]
    exact idle

/-- Unit `u` with what an ARM makes it hold: ERR clears and ARM sets. -/
def unitArmed (u : Nat) (x : AcqUnit) (s : State) : State := ((modAcq u (fun _ => x) s).set (ACQ_U_STAT_ERR u) 0).raise (ACQ_U_CTRL_ARM u)

theorem keeps_unitArmed (u : Nat) (x : AcqUnit) (s : State) : Keeps [ACQ_U_STAT u, ACQ_U_CTRL u] s (unitArmed u x s) :=
  ((keeps_modAcq _ u _ s).trans (keeps_set _ 0 (by simp))).trans (keeps_set _ 1 (by simp))

theorem get_unitArmed_err (u : Nat) (x : AcqUnit) (s : State) : (unitArmed u x s).get (ACQ_U_STAT_ERR u) = 0 := by
  rw [unitArmed, State.raise, State.get_set_ne _ _ _ _ (by simp), State.get_set_self _ _ _ (by simp), Nat.zero_mod]

theorem on_unitArmed_arm (u : Nat) (x : AcqUnit) (s : State) : (unitArmed u x s).on (ACQ_U_CTRL_ARM u) = true :=
  State.on_raise _ rfl (by simp)

theorem acqUnit_unitArmed (u : Nat) (x : AcqUnit) (s : State) : (unitArmed u x s).acqUnit u = x := acqUnit_modAcq u (fun _ => x) s

/-- An accepted ARM takes the buffer's pages and notes the instant; then the unit enters its first state. -/
theorem armUnit_accepted {u : Nat} {s : State} (idle : s.aqState u = aqIdle) (fine : s.armError u = 0) :
    ∃ (x : AcqUnit) (v : State), x.armedAt = s.now ∧ Keeps poolRegs s v ∧ armUnit u s =
      if (unitArmed u x v).get (ACQ_U_CFG_MODE u) = 2 then setAq u aqStream (unitArmed u x v) else startFill u (unitArmed u x v) := by
  obtain ⟨alike, kept⟩ := takeBuffer_takes (s.get (ACQ_U_PAGES_PAGES u)) s
  generalize buffer : takeBuffer (s.get (ACQ_U_PAGES_PAGES u)) s = taken at alike kept
  obtain ⟨pages, v⟩ := taken
  rw [armUnit, if_neg (by simp [idle])]
  simp only [fine, ne_eq, not_true, if_false, buffer]
  exact ⟨_, v, alike.now, kept, rfl⟩

/-- After an accepted ARM the unit streams, fills, or with nothing to store before the trigger is READY. -/
theorem armUnit_accepted_shows {u : Nat} {s : State} (idle : s.aqState u = aqIdle) (fine : s.armError u = 0) :
    (armUnit u s).get (ACQ_U_STAT_ERR u) = 0 ∧ (armUnit u s).on (ACQ_U_CTRL_ARM u) = true ∧ ((armUnit u s).acqUnit u).armedAt = s.now ∧
      (armUnit u s).aqState u =
        (if s.get (ACQ_U_CFG_MODE u) = 2 then aqStream else if s.get (ACQ_U_PRE_PRE u) = 0 then aqReady else aqFill) ∧
      Keeps (unitRegs u) s (armUnit u s) := by
  obtain ⟨x, v, armed, taken, arms⟩ := armUnit_accepted idle fine
  have kept : Keeps (unitRegs u) s (unitArmed u x v) :=
    (taken.mono (by simp [unitRegs])).trans ((keeps_unitArmed u x v).mono (by simp [unitRegs]))
  have mode : (unitArmed u x v).get (ACQ_U_CFG_MODE u) = s.get (ACQ_U_CFG_MODE u) :=
    kept.get (not_mem_unitRegs (by simp only [ACQ_U_CFG]; omega) (by simp))
  have pre : (unitArmed u x v).get (ACQ_U_PRE_PRE u) = s.get (ACQ_U_PRE_PRE u) :=
    kept.get (not_mem_unitRegs (by simp only [ACQ_U_PRE]; omega) (by simp))
  have err := get_unitArmed_err u x v
  have arm := on_unitArmed_arm u x v
  have unit := acqUnit_unitArmed u x v
  generalize unitArmed u x v = t at *
  rw [arms, mode]
  split
  case isTrue stream =>
    refine ⟨(get_setAq (by simp) (by simp)).trans err, (State.on_of_get ((keeps_setAq u _ t).get (by simp))).trans arm, ?_,
      aqState_setAq (by decide) u t, kept.trans ((keeps_setAq u _ t).mono (by simp [unitRegs]))⟩
    rw [acqUnit_setAq, unit]
    exact armed
  case isFalse capture =>
    refine ⟨(get_startFill (by simp) (by simp)).trans err, (State.on_of_get ((keeps_startFill u t).get (by simp))).trans arm, ?_,
      (aqState_startFill u t).trans (by rw [pre]), kept.trans ((keeps_startFill u t).mono (by simp [unitRegs]))⟩
    rw [acqUnit_startFill, unit]
    exact armed

/-! ## Triggers (R269, R270) -/

/-- A trigger that is not accepted goes on to no other unit. -/
theorem trigger_unaccepted {u t : Nat} {s v : State} (h : triggerUnit u t s = (false, v)) : trigger u t s = v := by
  rw [trigger, triggerChain, h]

/-- An accepted trigger ends with the unit where no unit takes its triggers. -/
theorem trigger_accepted {u t : Nat} {s v : State} (h : triggerUnit u t s = (true, v))
    (alone : ∀ w < 16, v.get (ACQ_U_TRIG_CFG_KIND w) = 4 → v.get (ACQ_U_TRIG_CFG_UNIT w) ≠ u) : trigger u t s = v := by
  have followers : ((List.range 16).filter fun w => v.get (ACQ_U_TRIG_CFG_KIND w) = 4 ∧ v.get (ACQ_U_TRIG_CFG_UNIT w) = u) = [] := by
    rw [List.filter_eq_nil_iff]
    intro w hw
    simp only [decide_eq_true_eq, not_and]
    exact alone w (List.mem_range.1 hw)
  rw [trigger, triggerChain, h]
  dsimp only
  rw [followers, List.foldl_nil]

theorem triggerUnit_deaf {u : Nat} {s : State} (deaf : s.aqState u = aqIdle ∨ s.aqState u = aqStream) (t : Nat) :
    triggerUnit u t s = (false, s) := if_pos deaf

theorem triggerUnit_fill {u : Nat} {s : State} (fill : s.aqState u = aqFill) (t : Nat) : triggerUnit u t s = (false, ignoreTrigger u true s) := by
  rw [triggerUnit]
  exact (if_neg (by simp [fill, aqIdle, aqFill, aqStream])).trans (if_pos fill)

theorem keeps_ignoreTrigger_fill (u : Nat) (s : State) : Keeps [ACQ_U_IGN_FILL u] s (ignoreTrigger u true s) :=
  (keeps_modAcq _ u _ s).trans (keeps_set _ _ (by simp))

theorem get_ignoreTrigger_fill (u : Nat) (s : State) :
    (ignoreTrigger u true s).get (ACQ_U_IGN_FILL_COUNT u) = min (2 ^ 32 - 1) (s.get (ACQ_U_IGN_FILL_COUNT u) + 1) :=
  State.get_countSat _ _ 1 (by simp)

/-- A capture of unit `u` is triggered at stamp `t`, with its trigger item still to come. -/
def captureBegun (u t : Nat) (s : State) : State :=
  setAq u aqPost ((modAcq u (fun x => { x with trig := some t, at_ := none }) s).count (ACQ_U_CAPTURES_COUNT u) 1)

/-- A READY unit with nothing stored, and nothing to store before the trigger, takes it. -/
theorem triggerUnit_ready {u : Nat} {s : State} (ready : s.aqState u = aqReady) (none_ : s.get (ACQ_U_PRE_PRE u) = 0)
    (empty : (s.acqUnit u).items = []) (t : Nat) : triggerUnit u t s = (true, captureBegun u t s) := by
  rw [triggerUnit, if_neg (by simp [ready, aqIdle, aqReady, aqStream]), if_neg (by simp [ready, aqReady, aqFill]), if_neg (by simp [ready])]
  simp [none_, empty, captureBegun]

theorem keeps_captureBegun (u t : Nat) (s : State) : Keeps [ACQ_U_STAT u, ACQ_U_CAPTURES u] s (captureBegun u t s) :=
  ((keeps_modAcq _ u _ s).trans (keeps_set _ _ (by simp))).trans ((keeps_setAq u _ _).mono (by simp))

theorem captureBegun_shows (u t : Nat) (s : State) :
    (captureBegun u t s).aqState u = aqPost ∧ ((captureBegun u t s).acqUnit u).trig = some t ∧
      (captureBegun u t s).get (ACQ_U_CAPTURES_COUNT u) = (s.get (ACQ_U_CAPTURES_COUNT u) + 1) % 2 ^ 32 := by
  have unit := acqUnit_modAcq u (fun x => { x with trig := some t, at_ := none }) s
  refine ⟨aqState_setAq (by decide) u _, congrArg (fun x : AcqUnit => x.trig) unit, ?_⟩
  exact ((keeps_setAq u aqPost _).get (by simp)).trans (State.get_count _ _ 1 (by simp))

/-! ## The AXIS trigger (R269, R270) -/

theorem axisTrigger_none {u : Nat} {s : State} (h : s.get (ACQ_U_TRIG_CFG_KIND u) ≠ 1 ∨ (s.acqUnit u).axisDone = true) : axisTrigger u s = s :=
  if_neg (by obtain h | h := h <;> simp [h])

theorem axisTrigger_due {u : Nat} {s : State} (kind : s.get (ACQ_U_TRIG_CFG_KIND u) = 1) (waits : (s.acqUnit u).axisDone = false)
    (armed : s.aqState u ≠ aqIdle) (due : s.past (s.get (ACQ_U_TRIG_AT_AT u)) = true) :
    axisTrigger u s = trigger u (s.get (ACQ_U_TRIG_AT_AT u)) (modAcq u (fun x => { x with axisDone := true }) s) :=
  if_pos (by simp [kind, waits, armed, due])

end Sys2Proof.Machine
end

section
/-!
PROOFS. The statement about samples, arming and triggers of acquisition units (R261, R265, R266, R268 to R270).
-/

namespace Sys2Proof.Machine
open Sys2Proof.Reg

/-- Settles O41, command by command. What a write of ACQ_U_CTRL does, it does from the state of the request, which leaves the units alone. -/
theorem unitsAreArmedAndTriggered : Obligations.UnitsAreArmedAndTriggered := by
  unfold Obligations.UnitsAreArmedAndTriggered
  refine ⟨?pmi, ?adc, ?stream, ?control, ?axis⟩
  case pmi =>
    intro s dt n code hn
    refine ⟨fun off => gives_of_act rfl (takePmiSample_off ((pmiRuns_tick s dt n).trans off) code), fun at_ runs due untaken => ?_⟩
    have shown := takePmiSample_untaken hn ((pmiRuns_tick s dt n).trans runs) due ((aqUnits_tick s dt 0 n).trans untaken) code
    obtain ⟨last, ovr, stale⟩ := shownSample_shows n at_ code ((s.tick dt).pmiStale n at_) (s.tick dt)
    obtain ⟨regs, memories⟩ := ((keeps_shownSample n at_ code ((s.tick dt).pmiStale n at_) (s.tick dt)).trans
      (keeps_feedMeans _ n at_ (limitCode code).1 (limitCode code).2 ((s.tick dt).pmiStale n at_) _)).fromTick
    refine ⟨_, gives_of_act rfl shown, ?_, ?_, ?_, regs, memories⟩
    · rw [get_feedMeans, last, limitCode_fst]
    · rw [on_feedMeans, ovr, limitCode_snd]
    · rw [on_feedMeans, stale]
  case adc =>
    intro s dt u value clamped
    refine ⟨fun other => gives_of_act rfl (adcConversion_other (s := s.tick dt) other value clamped), fun adc samples => ?_⟩
    exact ⟨fun early => gives_of_act rfl (adcConversion_early (s := s.tick dt) early value clamped),
      fun due => gives_of_act rfl (adcConversion_due (s := s.tick dt) adc samples due value clamped)⟩
  case stream =>
    intro s u e stream armed plain other begun room
    rw [inputSample_stream stream armed plain other begun room]
    exact ⟨by simp only [acqUnit_modAcq], rfl⟩
  case control =>
    intro s dt u p hu takes
    have asked := keeps_request s dt p
    have now : (s.request dt p).now = (s.tick dt).now := by rw [request_eq]
    have arm := gives_acqArm hu takes dt
    have trig := gives_acqSoftwareTrigger hu takes dt
    refine ⟨fun busy => ?busy, fun idle wrong => ?refused, fun idle fine => ?accepted, fun deaf => ?deaf, fun fill => ?fill,
      fun ready pre empty alone => ?ready⟩
    case busy => exact armUnit_busy (s := s.request dt p) (by rwa [aqState_request]) ▸ arm
    case refused =>
      obtain ⟨err, state, kept⟩ := armUnit_refused_shows hu (s := s.request dt p) (by rwa [aqState_request]) (by rwa [armError_request])
      obtain ⟨regs, memories⟩ := (asked.mono (bs := refusalRegs u ++ [GLB_GUARD_STAT]) (by simp)).trans (kept.mono (by simp))
      exact ⟨_, arm, err.trans (armError_request s dt p u), state, regs, memories⟩
    case accepted =>
      obtain ⟨err, on, armed, state, kept⟩ := armUnit_accepted_shows (u := u) (s := s.request dt p) (by rwa [aqState_request])
        (by rwa [armError_request])
      rw [get_request_high s dt p (by simp only [ACQ_U_CFG]; omega), get_request_high s dt p (by simp only [ACQ_U_PRE]; omega)] at state
      exact ⟨_, arm, err, on, armed.trans now, state,
        ((asked.mono (bs := unitRegs u ++ [GLB_GUARD_STAT]) (by simp)).trans (kept.mono (by simp))).2⟩
    case deaf =>
      exact trigger_unaccepted (triggerUnit_deaf (s := s.request dt p) (by rwa [aqState_request]) _) ▸ trig
    case fill =>
      rw [trigger_unaccepted (triggerUnit_fill (s := s.request dt p) (by rwa [aqState_request]) _)] at trig
      obtain ⟨regs, memories⟩ := (asked.mono (bs := [ACQ_U_IGN_FILL u, GLB_GUARD_STAT]) (by simp)).trans
        ((keeps_ignoreTrigger_fill u _).mono (by simp))
      refine ⟨_, trig, (get_ignoreTrigger_fill u _).trans ?_, regs, memories⟩
      rw [get_request_high s dt p (by simp only [ACQ_U_IGN_FILL]; omega)]
    case ready =>
      have begun := keeps_captureBegun u (s.request dt p).now (s.request dt p)
      have source (w : Nat) (hw : w < 16) {f : Fld} (hf : f.addr = ACQ_U_TRIG_CFG w) :
          (captureBegun u (s.request dt p).now (s.request dt p)).get f = s.get f := by
        rw [begun.get (by simp only [hf, ACQ_U_TRIG_CFG, ACQ_U_STAT, ACQ_U_CAPTURES, List.mem_cons, List.not_mem_nil, or_false]; omega),
          get_request_high s dt p (by rw [hf]; unfold ACQ_U_TRIG_CFG; omega)]
      have accepted := triggerUnit_ready (u := u) (s := s.request dt p) (by rwa [aqState_request])
        (by rwa [get_request_high s dt p (by simp only [ACQ_U_PRE]; omega)]) (by rwa [acqUnit_request]) (s.request dt p).now
      rw [trigger_accepted accepted fun w hw => by rw [source w hw rfl, source w hw rfl]; exact alone w hw] at trig
      obtain ⟨state, at_, count⟩ := captureBegun_shows u (s.request dt p).now (s.request dt p)
      obtain ⟨regs, memories⟩ := (asked.mono (bs := [ACQ_U_STAT u, ACQ_U_CAPTURES u, GLB_GUARD_STAT]) (by simp)).trans (begun.mono (by simp))
      refine ⟨_, trig, state, at_.trans (congrArg some now), count.trans ?_, regs, memories⟩
      rw [get_request_high s dt p (by simp only [ACQ_U_CAPTURES]; omega)]
  case axis =>
    intro s dt u
    exact ⟨fun h => gives_of_act rfl (axisTrigger_none (s := s.tick dt) h),
      fun kind waits armed due => gives_of_act rfl (axisTrigger_due (s := s.tick dt) kind waits armed due)⟩

end Sys2Proof.Machine
end

section
/-!
SUPPORT. The end of an acquisition unit's captures, its streams and the delivery of its blocks (R267, R271 to R273).
-/

namespace Sys2Proof.Machine
open Sys2Proof.Reg

/-! ## The registers of a unit that stops -/

/-- The registers in which a stop with nothing to deliver shows: the unit's, the pool's, and those of the events that it causes. -/
def stopRegs (u : Nat) : List Nat := ICL_PEND ((400 + u) / 16) :: ICL_PEND ((384 + u) / 16) :: unitRegs u

/-! ## STOP (R271) -/

theorem stopUnit_idle {u : Nat} {s : State} (idle : s.aqState u = aqIdle) : stopUnit u s = s := by
  simp [stopUnit, idle, aqIdle, aqFill, aqReady, aqRearm, aqPost, aqStream]

/-- The unit has dropped what it had begun to fill, and is about to deliver its blocks. -/
def fillDropped (u : Nat) (s : State) : State := setAq u aqDeliver (modAcq u (fun x => { x with toAcqFill := AcqFill.init }) s)

theorem stopUnit_fill {u : Nat} {s : State} (fill : s.aqState u ∈ [aqFill, aqReady, aqRearm]) :
    stopUnit u s = deliverDone u (fillDropped u s) := by
  simp only [List.mem_cons, List.not_mem_nil, or_false] at fill
  exact if_pos fill

theorem acqUnit_fillDropped (u : Nat) (s : State) : (fillDropped u s).acqUnit u = { s.acqUnit u with toAcqFill := AcqFill.init } := by
  rw [fillDropped, acqUnit_setAq, acqUnit_modAcq]

/-- With no blocks to deliver a unit that fills, is READY or waits in REARM is released by its stop. -/
theorem stopUnit_fill_releases {u : Nat} {s : State} (fill : s.aqState u ∈ [aqFill, aqReady, aqRearm]) (blocks : (s.acqUnit u).blocks = []) :
    stopUnit u s = releaseUnit u (fillDropped u s) := by
  rw [stopUnit_fill fill]
  exact deliverDone_empty (aqState_setAq (by decide) u _) (by rw [acqUnit_fillDropped]; exact blocks)

theorem keeps_fillDropped (u : Nat) (s : State) : Keeps [ACQ_U_STAT u] s (fillDropped u s) := (keeps_modAcq _ u _ s).trans (keeps_setAq u _ _)

/-- The stream of unit `u` has ended with nothing in its block: ENDED stands, and the end is signalled. -/
def streamEnded (u : Nat) (s : State) : State := pend (384 + u) (setAq u aqDeliver (raiseAq u (ACQ_U_STAT_ENDED u) s))

theorem acqUnit_streamEnded (u : Nat) (s : State) : (streamEnded u s).acqUnit u = s.acqUnit u := by
  rw [streamEnded, acqUnit_pend, acqUnit_setAq, acqUnit_raiseAq]

/-- The events of acquisition do not show in the unit's registers. -/
theorem get_streamEnded {u : Nat} (hu : u < 16) {f : Fld} (stat : f.addr = ACQ_U_STAT u) (s : State) :
    (streamEnded u s).get f = (setAq u aqDeliver (raiseAq u (ACQ_U_STAT_ENDED u) s)).get f := by
  refine (keeps_pend (384 + u) _).get ?_
  simp only [stat, ACQ_U_STAT, ICL_PEND, DMA_MSIX_PBA, List.mem_cons, List.not_mem_nil, or_false]
  omega

theorem streamEnded_shows {u : Nat} (hu : u < 16) (s : State) :
    (streamEnded u s).aqState u = aqDeliver ∧ (streamEnded u s).on (ACQ_U_STAT_ENDED u) = true := by
  have raised := on_raiseAq (u := u) (f := ACQ_U_STAT_ENDED u) rfl (by simp) (by simp only [ACQ_U_STAT]; omega) hu s
  refine ⟨(get_streamEnded hu rfl s).trans (aqState_setAq (by decide) u _), ?_⟩
  rw [State.on_of_get (get_streamEnded hu rfl s), State.on_of_get (get_setAq (by simp) (by simp)), raised]

theorem keeps_streamEnded (u : Nat) (s : State) : Keeps (stopRegs u) s (streamEnded u s) :=
  (((keeps_raiseAq s).mono (by simp [stopRegs, unitRegs, poolRegs])).trans ((keeps_setAq u _ _).mono (by simp [stopRegs, unitRegs]))).trans
    ((keeps_pend (384 + u) _).mono (by simp [stopRegs, unitRegs, poolRegs]))

/-- A stream with nothing stored and no blocks to deliver ends, and its unit is released. -/
theorem stopUnit_stream_releases {u : Nat} (hu : u < 16) {s : State} (stream : s.aqState u = aqStream) (items : (s.acqUnit u).items = [])
    (part : (s.acqUnit u).part = none) (blocks : (s.acqUnit u).blocks = []) : stopUnit u s = releaseUnit u (streamEnded u s) := by
  have unit : (setAq u aqDeliver (raiseAq u (ACQ_U_STAT_ENDED u) s)).acqUnit u = s.acqUnit u := by rw [acqUnit_setAq, acqUnit_raiseAq]
  have ends : stopUnit u s = deliverDone u (streamEnded u s) := by
    rw [stopUnit, if_neg (by simp [stream, aqFill, aqReady, aqRearm, aqStream]), if_neg (by simp [stream, aqPost, aqStream]), if_pos stream]
    simp only [part, unit, items, blocks, if_true, List.getLast?_nil]
    rfl
  rw [ends, deliverDone_empty (streamEnded_shows hu s).1 (by rw [acqUnit_streamEnded, blocks])]

/-! ## The end of REARM (R267) -/

theorem rearmUnit_other {u : Nat} {s : State} (other : s.aqState u ≠ aqRearm) : rearmUnit u s = s := if_neg (by simp [other])

theorem rearmUnit_early {u : Nat} {s : State} (early : s.past (stampAdd (s.acqUnit u).endAt (ticksOf (s.get (ACQ_U_HOLD_HOLD u)))) = false) :
    rearmUnit u s = s := if_neg (by simp [early])

theorem rearmUnit_due {u : Nat} {s : State} (rearm : s.aqState u = aqRearm)
    (due : s.past (stampAdd (s.acqUnit u).endAt (ticksOf (s.get (ACQ_U_HOLD_HOLD u)))) = true) (fits : (s.acqUnit u).overflow = false)
    (slot : s.slotsHeld u < s.get (ACQ_U_PAGES_PAGES u) / s.aqSlot u) : rearmUnit u s = startFill u s :=
  if_pos (by simp [rearm, due, fits, slot])

/-! ## STREAM blocks (R272) -/

theorem flushStream_empty {u : Nat} {s : State} (empty : (s.acqUnit u).items = []) : flushStream u s = s := by
  rw [flushStream]
  simp only [empty]

theorem flushStream_begun {u : Nat} {s : State} {i : AcqItem} {l : List AcqItem} (begun : (s.acqUnit u).items = i :: l)
    (stream : s.aqState u = aqStream) (hold : s.get (ACQ_U_HOLD_HOLD u) ≠ 0) :
    flushStream u s =
      if s.past (stampAdd i.at_ (ticksOf (s.get (ACQ_U_HOLD_HOLD u)))) then closeStreamBlock u false false s else s := by
  rw [flushStream]
  simp [begun, stream, hold]

/-! ## A block is delivered (R273) -/

theorem blockWritten_none {u : Nat} {s : State} (h : (s.acqUnit u).blocks = [] ∨ (s.acqUnit u).xfer ≠ .issued) (ecc : Ecc) :
    blockWritten u ecc s = s := by
  rw [blockWritten]
  obtain h | h := h
  · simp only [h]
  · split
    · rfl
    · exact if_pos h

/-- The bytes of a block of unit `u` stand in the page pool, at the slot of the unit's LOCAL destination. -/
def bytesPooled (u : Nat) (b : AcqBlock) (s : State) : State :=
  { s with pool := Memory.putBytes s.pool (s.destSlot u % poolBytes) (blockData u b (b.flags (s.acqUnit u).overflow false) s) }

/-- A block that stands in the pool leaves the spill, if it was there. -/
def blockPooled (u : Nat) (b : AcqBlock) (s : State) : State :=
  match b.page with
  | some p => leaveSpillPage p (bytesPooled u b s)
  | none => bytesPooled u b s

theorem keeps_blockPooled (u : Nat) (b : AcqBlock) (s : State) : Keeps poolRegs (bytesPooled u b s) (blockPooled u b s) := by
  unfold blockPooled
  split
  next p _ => exact keeps_leaveSpillPage p _
  · exact Keeps.refl _ _

/-- The unit's oldest block is delivered: PROD counts it, and a CAPTURE_OVERFLOW that it ends shows. -/
def blockCounted (u : Nat) (overflow : Bool) (bs : List AcqBlock) (r : AcqReport) (s : State) : State :=
  let t := (modAcq u (fun x => { x with blocks := bs, xfer := .idle, overflow := false, report := r }) s).count (ACQ_U_DEST_PROD_PROD u) 1
  if overflow then raiseAq u (ACQ_U_STAT_OVERFLOW u) t else t

/-- The registers in which the delivery of a block that ends nothing shows. -/
def deliveryRegs (u : Nat) : List Nat := ACQ_U_DEST_PROD u :: ICL_PEND ((400 + u) / 16) :: unitRegs u

theorem acqUnit_blockCounted (u : Nat) (overflow : Bool) (bs : List AcqBlock) (r : AcqReport) (s : State) :
    (blockCounted u overflow bs r s).acqUnit u = { s.acqUnit u with blocks := bs, xfer := .idle, overflow := false, report := r } := by
  have counted := acqUnit_modAcq u (fun x => { x with blocks := bs, xfer := .idle, overflow := false, report := r }) s
  unfold blockCounted
  dsimp only
  split
  · exact (acqUnit_raiseAq u _ _ u).trans counted
  · exact counted

theorem keeps_blockCounted (u : Nat) (overflow : Bool) (bs : List AcqBlock) (r : AcqReport) (s : State) :
    Keeps (deliveryRegs u) s (blockCounted u overflow bs r s) := by
  have counted : Keeps (deliveryRegs u) s ((modAcq u (fun x => { x with blocks := bs, xfer := .idle, overflow := false, report := r }) s).count
      (ACQ_U_DEST_PROD_PROD u) 1) := (keeps_modAcq _ u _ s).trans (keeps_set _ _ (by simp [deliveryRegs]))
  exact (counted.trans ((keeps_raiseAq _).mono (by simp [deliveryRegs, unitRegs, poolRegs]))).ite counted

/-- Neither the flag nor its event stands in DEST_PROD. -/
theorem get_blockCounted_prod {u : Nat} (hu : u < 16) (overflow : Bool) (bs : List AcqBlock) (r : AcqReport) (s : State) :
    (blockCounted u overflow bs r s).get (ACQ_U_DEST_PROD_PROD u) = (s.get (ACQ_U_DEST_PROD_PROD u) + 1) % 2 ^ 32 := by
  have counted : ((modAcq u (fun x => { x with blocks := bs, xfer := .idle, overflow := false, report := r }) s).count
      (ACQ_U_DEST_PROD_PROD u) 1).get (ACQ_U_DEST_PROD_PROD u) = (s.get (ACQ_U_DEST_PROD_PROD u) + 1) % 2 ^ 32 := State.get_count _ _ 1 (by simp)
  unfold blockCounted
  dsimp only
  split
  · refine ((keeps_raiseAq _).get ?_).trans counted
    simp only [ACQ_U_DEST_PROD, ACQ_U_STAT, ICL_PEND, DMA_MSIX_PBA, List.mem_cons, List.not_mem_nil, or_false]
    omega
  · exact counted

/-- A block in the pool that ends neither its capture nor a group of a stream is counted; then the unit goes on to the next. -/
theorem blockWritten_pooled {u : Nat} {s : State} {b : AcqBlock} {bs : List AcqBlock} (blocks : (s.acqUnit u).blocks = b :: bs)
    (issued : (s.acqUnit u).xfer = .issued) (here : s.on (ACQ_U_DEST_LOCAL u) = true) (inner : b.last = false)
    (capture : s.get (ACQ_U_CFG_MODE u) ≠ 2) :
    ∃ r : AcqReport, blockWritten u .good s =
      startBlock u (deliverDone u (blockCounted u (s.acqUnit u).overflow bs r (blockPooled u b s))) := by
  rw [blockWritten]
  simp only [blocks, issued, here, inner, capture, ne_eq, not_true, if_false, if_true, decide_false, reduceCtorEq, Bool.false_and,
    Bool.or_false, Bool.false_eq_true]
  exact ⟨_, rfl⟩

/-- The last block of a unit is delivered: with nothing left to deliver a unit in DELIVER is released. -/
theorem blockWritten_last {u : Nat} (hu : u < 16) {s : State} {b : AcqBlock} (blocks : (s.acqUnit u).blocks = [b])
    (issued : (s.acqUnit u).xfer = .issued) (here : s.on (ACQ_U_DEST_LOCAL u) = true) (inner : b.last = false)
    (capture : s.get (ACQ_U_CFG_MODE u) ≠ 2) :
    ((blockWritten u .good s).acqUnit u).blocks = [] ∧
      (blockWritten u .good s).get (ACQ_U_DEST_PROD_PROD u) = (s.get (ACQ_U_DEST_PROD_PROD u) + 1) % 2 ^ 32 ∧
      SameMemories (bytesPooled u b s) (blockWritten u .good s) := by
  obtain ⟨r, written⟩ := blockWritten_pooled blocks issued here inner capture
  have pooled := keeps_blockPooled u b s
  have unit := acqUnit_blockCounted u (s.acqUnit u).overflow [] r (blockPooled u b s)
  have prod := get_blockCounted_prod hu (s.acqUnit u).overflow [] r (blockPooled u b s)
  have kept := (pooled.mono (bs := deliveryRegs u) fun a ha => by simp [deliveryRegs, unitRegs, ha]).trans
    (keeps_blockCounted u (s.acqUnit u).overflow [] r (blockPooled u b s))
  rw [pooled.get (not_mem_poolRegs (by simp only [ACQ_U_DEST_PROD]; omega))] at prod
  generalize blockCounted u (s.acqUnit u).overflow [] r (blockPooled u b s) = t at written unit prod kept
  have delivered : ((deliverDone u t).acqUnit u).blocks = [] ∧
      (deliverDone u t).get (ACQ_U_DEST_PROD_PROD u) = t.get (ACQ_U_DEST_PROD_PROD u) ∧ Keeps (deliveryRegs u) t (deliverDone u t) := by
    unfold deliverDone
    split
    · refine ⟨by rw [acqUnit_releaseUnit, unit], (keeps_releaseUnit u t).get ?_, (keeps_releaseUnit u t).mono (by simp [deliveryRegs])⟩
      exact not_mem_unitRegs (by simp only [ACQ_U_DEST_PROD]; omega) (by simp)
    · exact ⟨by rw [unit], rfl, Keeps.refl _ t⟩
  obtain ⟨empty, same, rest⟩ := delivered
  rw [written, startBlock_empty empty]
  exact ⟨empty, same.trans prod, (kept.trans rest).2⟩

end Sys2Proof.Machine
end

section
/-!
PROOFS. The statement about the stop of acquisition units and the delivery of their blocks (R267, R271 to R273).
-/

namespace Sys2Proof.Machine
open Sys2Proof.Reg

/-- Settles O42, command by command: a unit with nothing left to deliver is released, and a block that is delivered leaves the pool's bytes and
PROD as the delivery made them. -/
theorem unitsStopAndDeliver : Obligations.UnitsStopAndDeliver := by
  unfold Obligations.UnitsStopAndDeliver
  refine ⟨?stops, ?rearm, ?flush, ?nothing, ?delivered, ?cons⟩
  case stops =>
    intro s dt u p hu takes
    have stopped := gives_acqStop hu takes dt
    have asked := keeps_request s dt p
    refine ⟨fun idle => ?idle, fun fill blocks => ?fill, fun stream items part blocks => ?stream⟩
    case idle => exact stopUnit_idle (s := s.request dt p) (by rwa [aqState_request]) ▸ stopped
    case fill =>
      rw [stopUnit_fill_releases (s := s.request dt p) (by rwa [aqState_request]) (by rwa [acqUnit_request])] at stopped
      refine ⟨_, stopped, aqState_releaseUnit u _, on_releaseUnit_arm u _, by rw [acqUnit_releaseUnit], ?_⟩
      exact ((asked.mono (bs := unitRegs u ++ [GLB_GUARD_STAT]) (by simp)).trans
        (((keeps_fillDropped u _).mono (by simp [unitRegs])).trans ((keeps_releaseUnit u _).mono (by simp)))).2
    case stream =>
      rw [stopUnit_stream_releases hu (s := s.request dt p) (by rwa [aqState_request]) (by rwa [acqUnit_request]) (by rwa [acqUnit_request])
        (by rwa [acqUnit_request])] at stopped
      refine ⟨_, stopped, aqState_releaseUnit u _, ?_, ?_⟩
      · rw [State.on_of_get (get_releaseUnit_stat rfl (by simp) (by simp) _), (streamEnded_shows hu _).2]
      · exact ((asked.mono (bs := stopRegs u ++ [GLB_GUARD_STAT]) (by simp)).trans
          (((keeps_streamEnded u _).mono (by simp)).trans ((keeps_releaseUnit u _).mono fun a ha => by simp [stopRegs, ha]))).2
  case rearm =>
    intro s dt u hu
    refine ⟨fun other => gives_of_act rfl (rearmUnit_other (s := s.tick dt) other),
      fun _ early => gives_of_act rfl (rearmUnit_early (s := s.tick dt) early), fun rearm due fits slot => ?_⟩
    obtain ⟨regs, memories⟩ := (keeps_startFill u (s.tick dt)).fromTick
    refine ⟨_, gives_of_act rfl (rearmUnit_due (s := s.tick dt) rearm due fits slot), aqState_startFill u _, ?_, regs, memories⟩
    rw [acqUnit_startFill]
    rfl
  case flush =>
    intro s dt u
    refine ⟨fun empty => gives_of_act rfl (flushStream_empty (s := s.tick dt) empty), fun i l begun stream hold => ?_⟩
    have flushed := flushStream_begun (s := s.tick dt) begun stream hold
    exact ⟨fun due => gives_of_act rfl (flushed.trans (if_pos due)),
      fun early => gives_of_act rfl (flushed.trans (if_neg (by simpa using early)))⟩
  case nothing => exact fun s dt u ecc h => gives_of_act rfl (blockWritten_none (s := s.tick dt) h ecc)
  case delivered =>
    intro s dt u b hu blocks issued here inner capture
    obtain ⟨empty, prod, pool, ucode, stream, cmap, -⟩ := blockWritten_last hu (s := s.tick dt) blocks issued here inner capture
    exact ⟨_, gives_of_act rfl rfl, pool, empty, prod, cmap, ucode, stream⟩
  case cons => exact fun s dt u cons p hu takes => gives_of_act rfl (write32_destCons hu takes dt cons)

end Sys2Proof.Machine
end
